-- ==== Sys2Proof/Word.lean ====
section
/-!
DEFINITION. The plain word types of the TPN-6463 model (R4, R10): registers are 32 bits wide, 64-bit
registers occupy two words, bytes are the unit of every memory the part addresses.
-/
namespace Sys2Proof

/-- One 32-bit register word (R10). -/
abbrev Word := BitVec 32

/-- A 64-bit register or time value (R7, R12). -/
abbrev DWord := BitVec 64

/-- One byte of a memory. -/
abbrev Byte := BitVec 8

/-- An address and the byte it holds: one cell of a memory in canonical form. -/
abbrev Cell := Nat × Byte

end Sys2Proof
end

