-- ==== Sys2Proof/Syntax.lean ====
section
/-!
DEFINITION. The commands of the TPN-6463: one constructor of `Instr` for every row of opcode_table.json, with
the operands that come with it from outside the part. The table gives the rows no bits, so the operands are
the model's (log entry 2): what the host wrote, what a wire carried, what a read of host memory returned.
-/
namespace Sys2Proof

/-- The power domains PD0 to PD7 (R29), by number. -/
abbrev Domain := Fin 8

/-- The five PLLs whose loss of lock R35 and R36 describe. -/
inductive Pll where
  | dot | buffer | management | control | bus
deriving DecidableEq, Repr

/-- What a failed PCIe read belonged to (R86). -/
inductive FaultTarget where
  /-- the read of a submit descriptor of a context -/
  | submitDesc (ctx : Fin 64)
  /-- the read of a management descriptor -/
  | mgmtDesc
  /-- data of the tile in fetch of a context -/
  | tileData (ctx : Fin 64)
  /-- data of the oldest table copy of a context -/
  | tableData (ctx : Fin 64)
  /-- a host-memory access of the operation running on the operation port -/
  | operation
  /-- anything else (firmware staging, program loads report it in their own rows) -/
  | other
deriving DecidableEq, Repr

/-- The four error kinds of HOST_PCIE_ERROR, numbered as the bits of HOST_ERR (R115, R117). -/
inductive PcieErr where
  | unsupported | completerAbort | timeout | poisoned
deriving DecidableEq, Repr

/-- The 304 bits of a buffer word's codeword: 38 symbols of 8 bits, of which the first 32 hold the word's data (R22, R146). -/
abbrev Code304 := BitVec 304

/-- A buffer word that a step reads and that is not, or may no longer be, a codeword as stored: its word index, and the bits of it that have
flipped since it was last written or read. -/
structure EccHit where
  word : Nat
  flip : Code304
deriving DecidableEq, Repr

/-- A block of a head link or of a fabric port: 64 bits, and whether it is a control block (R230, R275). -/
abbrev Block := Bool × DWord

/-- A 5-bit code-group of Station Bus, leftmost bit first in time (R389). -/
abbrev CodeGroup := BitVec 5

/-- A Station Bus frame, header fields and payload (R390). -/
structure SbFrame where
  slot   : BitVec 8
  dyn    : Bool
  null   : Bool
  sync   : Bool
  beacon : Bool
  force  : Bool
  active : Bool
  ctrl   : Bool
  unit   : Bool
  node   : BitVec 6
  epoch  : Word
  cycle  : BitVec 16
  payload : List Byte
deriving DecidableEq, Repr

/-- A CAN frame as received or sent (R421, R427). -/
structure CanFrame where
  /-- identifier laid out as in R421: a base identifier lies in [28:18] -/
  id   : BitVec 29
  ide  : Bool
  rtr  : Bool
  dlc  : BitVec 4
  fdf  : Bool
  brs  : Bool
  esi  : Bool
  payload : List Byte
deriving DecidableEq, Repr

/-- The six error kinds of CAN_ERR_LAST (R436). -/
inductive CanErr where
  | stuff | form | ack | bit1 | bit0 | crc
deriving DecidableEq, Repr

/-- The timestamp mode firmware gives a departing Ethernet frame (R442, R443). -/
inductive TxStampMode where
  | none
  | twoStep (tag : BitVec 16)
  /-- one-step ORIGIN: the byte offset of originTimestamp in the frame -/
  | oneStepOrigin (tag : BitVec 16) (offset : Nat)
  /-- one-step CORRECTION: the byte offset of correctionField and the reference time -/
  | oneStepCorrection (tag : BitVec 16) (offset : Nat) (tref : DWord)
deriving DecidableEq, Repr

/-- One channel's sample of the safety inputs at a strobe (R456, R459). -/
structure SafeSample where
  inA : BitVec 16
  inB : BitVec 16
  rst : Bool
deriving DecidableEq, Repr

/-- What the logic phase of a control program did (R340, R344, R350): Slarov Workbench's code is not
described by the manual, so its results come with the row that ends the phase (log entry 9). -/
structure LogicResult where
  /-- output-image bytes written, by byte address (area in bits [28:21], offset below) -/
  outs   : List Cell
  /-- calls of timer instances in their order: index in the timer table, IN and PT in µs (R350) -/
  calls  : List (Nat × Bool × Word)
  /-- the variable section after the phase -/
  vars   : List Byte
  /-- logic time in µs -/
  execUs : Word
deriving DecidableEq, Repr

/-- The host's commands to the part and the events on its pins, wires and clocks. -/
inductive Instr where
  /-- REG64_LOW_READ (R12) -/
  | reg64LowRead (pf1 : Bool) (off : Nat)
  /-- REG64_LOW_WRITE (R12) -/
  | reg64LowWrite (pf1 : Bool) (off : Nat) (value : Word)
  /-- REG64_HIGH_WRITE (R12) -/
  | reg64HighWrite (pf1 : Bool) (off : Nat) (value : Word)
  /-- REGISTER_WRITE (R11, R13): the access is `width` bytes wide -/
  | registerWrite (pf1 : Bool) (off width : Nat) (value : Word)
  /-- W1C_WRITE (R13); `hwSets`: the bits the hardware sets in the same clock -/
  | w1cWrite (pf1 : Bool) (off : Nat) (value hwSets : Word)
  /-- RC_READ (R11, R13), of `width` bytes; `arrive`: what the hardware sets or counts in the same clock -/
  | rcRead (pf1 : Bool) (off width : Nat) (arrive : Word)
  | clkRefLost
  | clkRefRestored
  | pllUnlock (pll : Pll)
  | pllRelock (pll : Pll)
  /-- SYSREF_EDGE (R33): sixths of a ns from the tick of REFCLK in progress to the rising edge -/
  | sysrefEdge (sub : Fin 6)
  /-- ENC_AB_EDGE (R41, R42): the levels at the balls, for how many consecutive dot-clock samples they have stood so, and how many sixths
  of a ns into the tick in progress the last of these samples was taken -/
  | encAbEdge (enc : Fin 8) (a b : Bool) (run : Nat) (sub : Fin 6)
  /-- ENC_Z_EDGE (R41, R43): the level of Z and its samples, as for A and B -/
  | encZEdge (enc : Fin 8) (z : Bool) (run : Nat) (sub : Fin 6)
  | prefEnable (n : Fin 4) (value : Word)
  | prefResync (n : Fin 4) (value : Word)
  | prefStop (n : Fin 4)
  | prefInvalid (n : Fin 4)
  | prefSampleLoss (n : Fin 4)
  | prefSrcSwitch (n : Fin 4)
  /-- FRAME_BOUNDARY (R53); the buffer words read in the step that were not clean -/
  | frameBoundary (ecc : List EccHit)
  | tbIncrWrite (value : DWord)
  | tbOffsetWrite (value : DWord)
  | timeSlewEnd
  | tbArmWrite (value : Word)
  | tbArmExpire
  | schedWriteEntry
  | schedReadEntry
  | schedClearEn
  | schedEntryDue (e : Fin 2048)
  | gpioPulseEnd (pin : Fin 16)
  /-- CAP_EDGE (R71): a change to a level on a source, coded as in CAP_CTRL.SRC, with its samples as for A and B (R41) -/
  | capEdge (u : Fin 16) (src : Fin 32) (rising : Bool) (run : Nat) (sub : Fin 6)
  | capTimeLoRead (pf1 : Bool) (u : Fin 16)
  | inhibitAssert
  | inhibitRelease
  | piResume (value : Word)
  /-- HOST_LINK_UP (R81, R115): speed Gen1-Gen5, lanes offered, 10-bit tags, and the codes of Max_Payload_Size (128, 256, 512 bytes) and
  Max_Read_Request_Size (128 to 4,096 bytes) -/
  | hostLinkUp (speed : BitVec 3) (width : BitVec 5) (tag10 : Bool) (mps : Fin 3) (mrrs : Fin 6)
  | hostLinkDown
  | hostBmeOff (pf1 : Bool)
  | hostPcieError (kind : PcieErr) (addr : DWord) (target : FaultTarget)
  | completionTimeout (addr : DWord) (target : FaultTarget)
  | mgmtDoorbell (value : Word)
  | evtDoorbell (value : Word)
  | ctxSqDoorbell (ctx : Fin 64) (value : Word)
  | ctxCqDoorbell (ctx : Fin 64) (value : Word)
  /-- DESC_*: the 16 words of the submit descriptor that the device read -/
  | descNop (ctx : Fin 64) (d : List Word)
  | descPage (ctx : Fin 64) (d : List Word)
  | descTile (ctx : Fin 64) (d : List Word)
  | descBlank (ctx : Fin 64) (d : List Word)
  | descTableLoad (ctx : Fin 64) (d : List Word)
  | descMark (ctx : Fin 64) (d : List Word)
  | descInvalidOp (ctx : Fin 64) (d : List Word)
  /-- TABLE_LOAD_COPY_DONE (R136): the bytes read from host memory -/
  | tableLoadCopyDone (ctx : Fin 64) (data : List Byte)
  | cqModTimer (ctx : Fin 64)
  | evtModTimer
  /-- management descriptors: the 16 words the device read -/
  | mgmtNop (d : List Word)
  | mgmtInvalidOp (d : List Word)
  | ctxArm (d : List Word)
  | ctxStart (d : List Word)
  | ctxDrain (d : List Word)
  | ctxHalt (d : List Word)
  | ctxReset (d : List Word)
  | mgmtSchedWrite (d : List Word)
  | forceSet (d : List Word)
  | forceClear (d : List Word)
  | flrPf0
  | flrPf1
  | pf1D3ToD0
  /-- OP_*: the value written to OP_CMD -/
  | opNvCommit (value : Word)
  | opFabricRediscover (value : Word)
  | opNozVerify (value : Word)
  | opFactoryRestore (value : Word)
  | opCaskExport (value : Word)
  | opBadOp (value : Word)
  /-- OP_END (R108): bytes of the image read from host memory (NV_COMMIT), an error completion of one of its
  accesses, whether the read-back of what it wrote compared equal -/
  | opEnd (image : List Byte) (hostFault readbackOk : Bool)
  | ctxDrainDone (ctx : Fin 64)
  | ctxHaltTake (ctx : Fin 64)
  /-- BUF_SCRUB (R147): the bits of the word's codeword that have flipped, as in `EccHit` -/
  | bufScrub (word : Fin 2097152) (flip : Code304)
  | tileFetch (ctx : Fin 64)
  | lineScreen (ch : Fin 64) (ecc : List EccHit)
  | lineCompensate (ch : Fin 64) (ecc : List EccHit)
  | nozSwitchRequest (ch : Fin 64) (value : Word)
  | nozSwitchCancel (ch : Fin 64) (value : Word)
  | nozPendingReady (ch : Fin 64) (ecc : List EccHit)
  | nozArmLoadDone (ctx : Fin 64) (ecc : List EccHit)
  | hlEnable (ch : Fin 64) (value : Word)
  | hlDisable (ch : Fin 64) (value : Word)
  | hlTrainGo (ch : Fin 64)
  | hlTrainCancel (ch : Fin 64)
  | hlBlockLock (ch : Fin 64)
  /-- HL_CAP_RX (R253): the payloads of the head's CAP blocks 0 to 3 -/
  | hlCapRx (ch : Fin 64) (cap0 cap1 cap2 cap3 : DWord)
  /-- HL_CAL_RX (R254): the answer's SEQ, round trip R and hold time HT in 1/16 ns -/
  | hlCalRx (ch : Fin 64) (seq : Byte) (r ht : Word)
  | hlTrainTimeout (ch : Fin 64)
  | hlLoadDone (ch : Fin 64)
  | hlLockLost (ch : Fin 64)
  | hlNoReturn (ch : Fin 64)
  | hlRetrainTimer (ch : Fin 64)
  /-- HL_RETURN_FRAME (R250, R251): the blocks of the return frame as they came in, its place in the frame being kept by the link -/
  | hlReturnFrame (ch : Fin 64) (blocks : List Block)
  /-- HL_LAT_CHECK (R256): the background exchange's R and HT in 1/16 ns -/
  | hlLatCheck (ch : Fin 64) (r ht : Word)
  | hlWdataWrite (ch : Fin 64) (value : Word)
  | hlWaveArm (ch : Fin 64) (value : Word)
  | hlWaveCancel (ch : Fin 64) (value : Word)
  | hlWaveClear (ch : Fin 64) (value : Word)
  | fabBlockLock (port : Fin 8)
  /-- FAB_PORT_UP (R275, R276): the LINK pair that was received 8 times in a row -/
  | fabPortUp (port : Fin 8) (link0 link1 : Block)
  | fabPortDown (port : Fin 8)
  | fabHelloRx (port : Fin 8) (blocks : List Block)
  | fabBeaconRx (port : Fin 8) (blocks : List Block)
  | fabDiscReqRx (port : Fin 8) (blocks : List Block)
  | fabRouteRx (port : Fin 8) (blocks : List Block)
  | fabRouteAckRx (port : Fin 8) (blocks : List Block)
  | fabDoneRx (port : Fin 8) (blocks : List Block)
  | fabTopoChangeRx (port : Fin 8) (blocks : List Block)
  | fabSampleRx (port : Fin 8) (blocks : List Block)
  | fabZedgeRx (port : Fin 8) (blocks : List Block)
  | fabSnapRx (port : Fin 8) (blocks : List Block)
  | fabImageRx (port : Fin 8) (blocks : List Block)
  | fabHelloTimer
  | fabCoordElect
  | fabRouteRepeat
  | fabRouteSwitch
  | fabDiscTimeout
  | fabBeaconTimer
  | fabCoordLost
  | fabHoldExpire
  | fabSnapSend (value : Word)
  | fabSnapRelease (value : Word)
  | fabSnapLatch
  | fabZrxTimeRead (pf1 : Bool)
  | twinHbSend
  | twinHeartbeatRx (port : Fin 8) (blocks : List Block)
  | twinCkptRx (port : Fin 8) (blocks : List Block)
  | twinCkptEndRx (port : Fin 8) (blocks : List Block)
  | twinSampleRx (port : Fin 8) (blocks : List Block)
  | twinSeqRx (port : Fin 8) (blocks : List Block)
  | twinCtxRx (port : Fin 8) (blocks : List Block)
  | twinEpochReplyRx (port : Fin 8) (blocks : List Block)
  | twinSwapRx (port : Fin 8) (blocks : List Block)
  | twinHbLost
  | twinHbDecide2
  | twinTakeover
  /-- TWIN_POST_RESUME (R323): for each context, the PHASE bits read from its completion ring in order -/
  | twinPostResume (phases : List (Fin 64 × List Bool))
  | twinStartWaitExpire
  | twinSwapTimer
  | twinSwapNow
  | twinSwapCancel
  | twinSwapDeferred
  | cycLoad
  /-- CYC_LOAD_DONE (R336): the 64 header words and the rest of the image, with the error completions -/
  | cycLoadDone (headerFault : Bool) (header : List Word) (restFault : Bool) (rest : List Byte)
  | cycStartCold
  | cycStartWarm
  | cycStop
  | cycChange
  | cycDiscard
  /-- CYC_PERIOD_START (R338, R344): native core 0-3, or the cyclic task of compatibility mode -/
  | cycPeriodStart (task : Fin 24)
  | cycLogicEnd (task : Fin 24) (r : LogicResult)
  | cycOutputWrite (core : Fin 4)
  | cycWatchdog (core : Fin 4)
  | cycTrap (core : Fin 4)
  | cycEventTrigger (task : Fin 24)
  | cycRetCopyDone
  | kilnCmdWrite
  | kilnCmdRead
  | kilnManual
  | kilnAuto
  | kilnOff
  | kilnTuneStart
  | kilnTuneCancel
  | kilnEnable
  | kilnGroupStart (g : Fin 8)
  | kilnOutputWrite (g : Fin 8)
  | kilnTuneTimeout
  | sbChEnable (ch : Fin 2) (value : Word)
  | sbListenEnd (ch : Fin 2)
  | sbCycleStart (ch : Fin 2)
  | sbSlotTx (ch : Fin 2) (slot : Fin 256)
  /-- SB_FRAME_RX (R389, R397): the slot it arrived in, the code-groups received, the arrival of its J less the launch point, in ns -/
  | sbFrameRx (ch : Fin 2) (slot : Fin 256) (groups : List CodeGroup) (arrival : Int)
  /-- SB_EVENT_FRAME_RX (R389, R399): the node whose dynamic turn it arrived in, code-groups and arrival -/
  | sbEventFrameRx (ch : Fin 2) (turn : Fin 64) (groups : List CodeGroup) (arrival : Int)
  | sbEvtSend (ch : Fin 2) (value : Word)
  | sbEvtRxPop (pf1 : Bool) (ch : Fin 2)
  | sbCorrection (ch : Fin 2)
  | sbBranchViolation (ch : Fin 2) (branch : Fin 8) (kind : BitVec 2)
  | sbStarReopen (ch : Fin 2) (value : Word)
  /-- SB_START_COLLISION (R407): the colliding branches, bit 8 for the own node -/
  | sbStartCollision (ch : Fin 2) (mask : BitVec 9)
  | canTxbWrite (n : Fin 4) (buf : Fin 64)
  | canTxbRead (n : Fin 4) (buf : Fin 64)
  | canTxbRequest (n : Fin 4) (buf : Fin 64)
  | canTxbCancel (n : Fin 4) (buf : Fin 64)
  | canFltWrite (n : Fin 4)
  | canFltRead (n : Fin 4)
  | canRxqHeadRead (pf1 : Bool) (n : Fin 4) (q : Fin 2)
  | canRxqPop (n : Fin 4) (q : Fin 2)
  | canModeWrite (n : Fin 4) (value : Word)
  | canIntegrated (n : Fin 4)
  /-- CAN_FRAME_RX (R426): the frame and the corrected time of its start of frame -/
  | canFrameRx (n : Fin 4) (f : CanFrame) (sof : DWord)
  /-- CAN_TX_SUCCESS (R423): the corrected time of the start of frame, the measured loop delay of a frame with BRS -/
  | canTxSuccess (n : Fin 4) (sof : DWord) (tdcv : Nat)
  | canArbLost (n : Fin 4)
  /-- CAN_ERROR (R430): kind, data phase, own transmission, and the error counters ISO 11898-1 gives -/
  | canError (n : Fin 4) (kind : CanErr) (dataPhase transmitting : Bool) (tec : BitVec 9) (rec : BitVec 8)
  | canRecover (n : Fin 4)
  | canBusOffRecovered (n : Fin 4)
  | canProtocolException (n : Fin 4) (id : BitVec 29)
  /-- ETH_LINK_UP (R453): the speed and the remote fault that the partner tells in auto-negotiation -/
  | ethLinkUp (m : Fin 2) (speed : BitVec 2) (remote : Bool)
  | ethLinkDown (m : Fin 2)
  /-- ETH_FRAME_RX (R440): the frame's bytes, FCS included, whether its coding is violated, corrected time at the balls -/
  | ethFrameRx (m : Fin 2) (frame : List Byte) (code : Bool) (t : DWord)
  /-- ETH_FRAME_TX (R442): the frame firmware gives, its mode and the corrected time at the balls -/
  | ethFrameTx (m : Fin 2) (frame : List Byte) (mode : TxStampMode) (t : DWord)
  | ethTxtsPop (m : Fin 2)
  /-- PTP_SYNC_RX (R446): the measured offset and mean path delay, in ns -/
  | ptpSyncRx (theta : Int) (delay : Word)
  | ptpHoldover
  | ptpHoldExpire
  | ptpMasterChange (id : DWord)
  | ppsRise
  | ppsFall
  | safeStrobe (ch1 ch2 : SafeSample)
  | safeDiscrepancyTimeout (pair : Fin 16)
  /-- SAFE_EVAL (R465, R470): the read-back of both output halves, whether the clocks check -/
  | safeEval (readA readB : Byte) (clockOk : Bool)
  | safeEncEval
  | safeResetPulse
  | safeSs1Expire (g : Fin 4)
  /-- SAFE_TEST_PULSE (R470): output pair, half B, read-back low during the pulse -/
  | safeTestPulse (pair : Fin 8) (halfB readLow : Bool)
  | safeBgTest (pass : Bool)
  | pd2PowerOn
  | safeSelftestDone (testsPass : Bool)
  | safeMbxLoadBegin
  | safeMbxLoadWrite
  | safeMbxLoadEnd
  | safeMbxConfirm
  | safeCommitDone (readbackOk : Bool)
  | safeMbxReadActive
  | safeMbxDiscard
  | safeMbxBadCmd (value : Word)
  | loopConvStart (n : Fin 8)
  /-- LOOP_CONV_DONE (R492): measured current in 0.5 µA, headroom in mV -/
  | loopConvDone (n : Fin 8) (current headroom : BitVec 16)
  /-- LOOP_TRIM_PRESS (R496): the TRIM_SEL pins, which buttons are down -/
  | loopTrimPress (sel : Fin 8) (up dn : Bool)
  | loopTrimRepeat
  | loopTrimRelease
  | loopPgateFall (n : Fin 8)
  | caskFlush
  | caskFlushTimer
  | caskCmdFlush
  | caskCmdNonce
  | caskNonceExpire
  | caskCmdClear
  | caskClearDone
  | caskCmdRead
  | caskTokenGain (bucket : Fin 256)
  | caskSuppressed
  | caskBktWrite (bucket : Fin 256) (value : Word)
  | caskFreezeWrite (value : Word)
  | caskFreezeInForce
  | caskFreezeTimeout
  | secFwStage
  /-- FW_STAGE_DONE (R534): the image read from host memory, an error completion, the read-back compare -/
  | fwStageDone (image : List Byte) (hostFault readbackOk : Bool)
  | secSvnCommit
  | secNonce
  | secNonceExpire
  | secEnrol
  | secQuote
  | pd0PowerOn
  | resetPin
  | pwrgdLow
  | pwrgdRise
  | perstAssert
  | globalResetCmd (value : Word)
  | mgmtWatchdog
  | globalPdCtrlWrite (value : Word)
  | pdOn (d : Domain)
  | pdOff (d : Domain)
  | pfailAssert
  | pfailDeassert
  /-- START_S1 (R550): the TWIN_SEL strap, the level of PRINT_INHIBIT# -/
  | startS1 (twinSel inhibitLow : Bool)
  | startS2
  | startS3
  | startS4
  | startS5
  | startS6
  | startS7
  | tjUpdate (t : BitVec 16)
  /-- TILE_COPY_DONE (R95, R168): the bytes of the tile whose last data arrived -/
  | tileCopyDone (ctx : Fin 64) (data : List Byte)
  | printInhibitRise
  | markSourceEdge (pin : Fin 16)
  | loopPgateRise (n : Fin 8)
  | sbAbortRx (ch : Fin 2)
  | safeSupplyLoss
  /-- POWER_LOSS (R549): whether the MRAM write in progress is torn -/
  | powerLoss (torn : Bool)
  /-- SAFE_ENC_TRANSITION (R463): the new levels; a pulse shorter than 40 ns -/
  | safeEncTransition (enc : Fin 8) (a b short : Bool)
  /-- FAB_CREDIT_RX (R275, R280): the block received -/
  | fabCreditRx (port : Fin 8) (block : Block)
deriving DecidableEq, Repr

end Sys2Proof
end

