-- ==== Sys2Proof/Decode.lean ====
section
/-!
DEFINITION. The command that a word spells by the table's bits. The table of commands gives no row any bits, so no word spells one (log
entry 2).
-/
namespace Sys2Proof

/-- The command that a word of the table's bits spells: none, since the table gives no bits. -/
def decodeTableWord (_nbits _w : Nat) : Option Instr := none

end Sys2Proof
end

