-- ==== Sys2Proof/Config.lean ====
section
/-!
DEFINITION. What the manual leaves open or leaves to a standard that it does not carry: free values and uninterpreted
functions. None has a body, so a claim holds whatever they are.
-/
namespace Sys2Proof

/-- The free value with a number: what an open value of the manual turned out to be (log entry 4). -/
opaque Config.freeValue : Nat → BitVec 64

/-- SHA-512, which R515, R521 and R535 to R537 use and the manual does not define (log entry 5). -/
opaque Config.sha512 : List Byte → BitVec 512

/-- Ed25519 verification, pure form of RFC 8032: key, message, signature (log entry 5). -/
opaque Config.ed25519Verify : List Byte → List Byte → List Byte → Bool

/-- The Ed25519 signature of a message with the part's identity key (R537; log entry 5). -/
opaque Config.identitySign : List Byte → BitVec 512

/-- SERIAL: the device serial in the fuses, different in every part (R532; log entry 5). -/
opaque Config.serial : BitVec 64

/-- VENDOR_HASH: SHA-512 of the Deroth firmware key, in the fuses (R535; log entry 5). -/
opaque Config.vendorHash : BitVec 512

/-- The identity public key (R535; log entry 5). -/
opaque Config.identityPub : BitVec 256

/-- Bytes of CERT, at most 1,024 (R535; log entry 5). -/
opaque Config.certLen : Fin 1025

/-- The words of CERT (R535; log entry 5). -/
opaque Config.certWord : Nat → BitVec 32

/-- The fuses name the AI variant (R552; log entry 5). -/
opaque Config.variantAI : Bool

/-- The clockIdentity of the part's own clock, which the manual does not give (R448; log entry 75). -/
opaque Config.clockId : BitVec 64

/-- The variable section with its initial values, from the code and data sections of a program image, whose layout belongs to
Slarov Workbench (R335, R352; log entry 9). -/
opaque Config.initVars : List Byte → List Byte

/-- The timer instances of a program: key and type, in table order (R349; log entry 9). -/
opaque Config.timerKeys : List Byte → List (Word × BitVec 2)

/-- The variable section that an on-line change passes on by instance key: old sections, new sections, old variables (R358; log
entry 9). -/
opaque Config.passVars : List Byte → List Byte → List Byte → List Byte

/-- The 6 check bytes that the RS(38,32) encoder forms over the 32 data bytes of a buffer word (R22, R146): the manual gives no generator
(log entry 17). -/
opaque Config.rsCheck : BitVec 256 → BitVec 48

/-- The codeword other than 0 that lies within 3 symbols of an error pattern, if one does (R146; log entry 17). -/
opaque Config.rsNear : BitVec 304 → Option (BitVec 304)

/-- An open page of a context (its number and that of its descriptor) has a tile of a Mash plane that has not been read yet (R158; log
entry 113). -/
opaque Config.laterTile : Nat → Nat → Nat → Bool

end Sys2Proof
end

