-- ==== Sys2Proof/Machine/Bits.lean ====
section
/-!
DEFINITION. Bit fields, byte order, saturating counts and the cyclic redundancy checks that several chapters
share: little-endian words (R10, R93), CRC-32C (R168), the 16-bit CRC of the wires, rounding divisions (R45, R53).
-/
namespace Sys2Proof.Machine

/-- Field [hi:lo] of a word, as a number (R4). -/
def bits (w : Word) (hi lo : Nat) : Nat := (w.toNat >>> lo) % 2 ^ (hi + 1 - lo)

/-- Bit `i` of a word. -/
def bit (w : Word) (i : Nat) : Bool := w.getLsbD i

/-- The word with field [hi:lo] replaced by the low bits of `v`. -/
def setBits (w : Word) (hi lo v : Nat) : Word :=
  let m := BitVec.ofNat 32 ((2 ^ (hi + 1 - lo) - 1) <<< lo)
  (w &&& ~~~m) ||| (BitVec.ofNat 32 (v <<< lo) &&& m)

/-- The word with bit `i` set to `b`. -/
def setBit (w : Word) (i : Nat) (b : Bool) : Word := setBits w i i b.toNat

/-- 1 for true, 0 for false, as a word. -/
def bw (b : Bool) : Word := if b then 1 else 0

/-- A number as a word (modulo 2^32). -/
def wd (n : Nat) : Word := BitVec.ofNat 32 n

/-- A signed number as a two's-complement word. -/
def wi (n : Int) : Word := BitVec.ofInt 32 n

/-- The low word of a 64-bit value. -/
def lo32 (d : DWord) : Word := BitVec.ofNat 32 d.toNat

/-- The high word of a 64-bit value. -/
def hi32 (d : DWord) : Word := BitVec.ofNat 32 (d.toNat >>> 32)

/-- A 64-bit value from its two words (R12). -/
def dw (lo hi : Word) : DWord := BitVec.ofNat 64 (hi.toNat * 2 ^ 32 + lo.toNat)

/-- One more, saturating at the largest word (R97). -/
def satInc (w : Word) : Word := if w = BitVec.allOnes 32 then w else w + 1

/-- Sum saturating at the largest word (R97). -/
def satAdd (w : Word) (n : Nat) : Word := if w.toNat + n < 2 ^ 32 then wd (w.toNat + n) else BitVec.allOnes 32

/-- Saturating increment of a field of `k` bits. -/
def satFld (n k : Nat) : Nat := if n + 1 < 2 ^ k then n + 1 else 2 ^ k - 1

/-- The signed value of the low `k` bits of `n`. -/
def sx (k n : Nat) : Int := if n % 2 ^ k < 2 ^ (k - 1) then (n % 2 ^ k : Nat) else ((n % 2 ^ k : Nat) : Int) - 2 ^ k

/-- A number clamped to a closed range. -/
def clampI (x lo hi : Int) : Int := if x < lo then lo else if hi < x then hi else x

/-- A number clamped to a closed range. -/
def clampN (x lo hi : Nat) : Nat := if x < lo then lo else if hi < x then hi else x

/-- Quotient rounded to nearest, half up (R53); the divisor is positive. -/
def divHalfUp (a b : Int) : Int := (2 * a + b).fdiv (2 * b)

/-- Arithmetic shift right of a signed value (R47). -/
def asr (x : Int) (k : Nat) : Int := x.fdiv (2 ^ k)

/-- The four bytes of a word, little-endian (R10). -/
def wordBytes (w : Word) : List Byte :=
  [BitVec.ofNat 8 w.toNat, BitVec.ofNat 8 (w.toNat >>> 8), BitVec.ofNat 8 (w.toNat >>> 16), BitVec.ofNat 8 (w.toNat >>> 24)]

/-- The `k` low bytes of a number, little-endian. -/
def natBytes : Nat → Nat → List Byte
  | 0, _ => []
  | k + 1, n => BitVec.ofNat 8 n :: natBytes k (n >>> 8)

/-- The number that bytes spell, little-endian. -/
def bytesNat : List Byte → Nat
  | [] => 0
  | b :: bs => b.toNat + 256 * bytesNat bs

/-- The number at byte offset `o`, `k` bytes long, little-endian; bytes beyond the end read 0. -/
def leAt (b : List Byte) (o k : Nat) : Nat := bytesNat ((b.drop o).take k)

/-- Word `k` of a byte string, little-endian. -/
def wordAt (b : List Byte) (k : Nat) : Word := wd (leAt b (4 * k) 4)

/-- The bytes as little-endian words. -/
def bytesWords : List Byte → List Word
  | a :: b :: c :: d :: r => wd (bytesNat [a, b, c, d]) :: bytesWords r
  | _ => []

/-- The words as bytes, little-endian. -/
def wordsBytes (ws : List Word) : List Byte := ws.flatMap wordBytes

/-- Word `k` of a list, 0 beyond its end. -/
def nthW (ws : List Word) (k : Nat) : Word := ws.getD k 0

/-- A list padded with zeros, or cut, to `n` elements. -/
def padTo {α : Type} (n : Nat) (z : α) (l : List α) : List α := (l ++ List.replicate n z).take n

/-- One step of a reflected CRC register of 32 bits over one byte. -/
def crc32cBits : Nat → Nat → Nat
  | 0, c => c
  | k + 1, c => crc32cBits k (if c % 2 = 1 then (c / 2) ^^^ 0x82F63B78 else c / 2)

/-- CRC-32C over bytes: reflected, start and final inversion (R168). -/
def crc32c (bs : List Byte) : Word :=
  wd ((bs.foldl (fun c b => crc32cBits 8 (c ^^^ b.toNat)) 0xFFFFFFFF) ^^^ 0xFFFFFFFF)

/-- One step of the frame check of IEEE 802.3 over one byte. -/
def fcsBits : Nat → Nat → Nat
  | 0, c => c
  | k + 1, c => fcsBits k (if c % 2 = 1 then (c / 2) ^^^ 0xEDB88320 else c / 2)

/-- The frame check sequence of IEEE 802.3 over bytes, as it stands behind them. -/
def fcsOf (bs : List Byte) : List Byte :=
  natBytes 4 ((bs.foldl (fun c b => fcsBits 8 (c ^^^ b.toNat)) 0xFFFFFFFF) ^^^ 0xFFFFFFFF)

/-- The fixed-point and sign tests of a position of 48 bits (R6): the wrapped difference `a − b` as a signed number. -/
def posDiff (a b : BitVec 48) : Int := (a - b).toInt

end Sys2Proof.Machine
end

