-- ==== Sys2Proof/Machine/RegTable.lean ====
section
/-!
DEFINITION. The register maps of the twenty regions of BAR0 (R38), row for row as the chapters' tables give them:
offset, access masks and reset value of every register, and a name for every offset.
-/
namespace Sys2Proof.Machine

/-- One row of a register map: instance `n` of it lies at `base + n × stride`, for `first ≤ n ≤ last`. The masks are
the bits of the access codes of R13; a bit in none of them is read-only or reserved. -/
structure RegDesc where
  base   : Nat
  words  : Nat := 1
  pair   : Bool := false
  stride : Nat := 0
  first  : Nat := 0
  last   : Nat := 0
  rw     : Word := 0
  w1c    : Word := 0
  rc     : Word := 0
  wo     : Word := 0
  mw     : List Word := []
  reset  : List Word := []
deriving DecidableEq, Repr

/-- The regions of BAR0 (R38). -/
inductive Region where
  | global | host | ctx | timePos | buf | mash | noz | hlink | fabric | twin | cycle | kiln | sbus | can | eth
  | safe | loop | cask | sec | op
deriving DecidableEq, Repr

/-- The region of an offset (R38). -/
def regionOf (off : Nat) : Region :=
  if off < 0x1000 then .global
  else if off < 0x4000 then .host
  else if off < 0x8000 then .ctx
  else if off < 0x9000 then .timePos
  else if off < 0xa000 then .buf
  else if off < 0xc000 then .mash
  else if off < 0x10000 then .noz
  else if off < 0x14000 then .hlink
  else if off < 0x15000 then .fabric
  else if off < 0x16000 then .twin
  else if off < 0x17000 then .cycle
  else if off < 0x18000 then .kiln
  else if off < 0x19000 then .sbus
  else if off < 0x1a000 then .can
  else if off < 0x1b000 then .eth
  else if off < 0x1c000 then .safe
  else if off < 0x1d000 then .loop
  else if off < 0x1e000 then .cask
  else if off < 0x1f000 then .sec
  else .op

abbrev Reg.TB_COUNT : Nat := 0x8000
abbrev Reg.TB_TIME : Nat := 0x8008
abbrev Reg.TB_INCR : Nat := 0x8010
abbrev Reg.TB_OFFSET : Nat := 0x8018
abbrev Reg.TB_JUMP_LIMIT : Nat := 0x8020
abbrev Reg.TB_ARM : Nat := 0x8024
abbrev Reg.TB_SLEW : Nat := 0x8028
abbrev Reg.TB_SLEW_REMAIN : Nat := 0x802c
abbrev Reg.TB_STATUS : Nat := 0x8030
abbrev Reg.TB_REFUSED_CNT : Nat := 0x8034
abbrev Reg.PREF_CTRL (n : Nat) : Nat := 0x8100 + n * 0x40
abbrev Reg.PREF_N (n : Nat) : Nat := 0x8104 + n * 0x40
abbrev Reg.PREF_M (n : Nat) : Nat := 0x8108 + n * 0x40
abbrev Reg.PREF_STOP_NS (n : Nat) : Nat := 0x810c + n * 0x40
abbrev Reg.PREF_COAST (n : Nat) : Nat := 0x8110 + n * 0x40
abbrev Reg.PREF_FAB (n : Nat) : Nat := 0x8114 + n * 0x40
abbrev Reg.PREF_PRESET (n : Nat) : Nat := 0x8118 + n * 0x40
abbrev Reg.PREF_POS (n : Nat) : Nat := 0x8120 + n * 0x40
abbrev Reg.PREF_VEL (n : Nat) : Nat := 0x8128 + n * 0x40
abbrev Reg.PREF_STATUS (n : Nat) : Nat := 0x812c + n * 0x40
abbrev Reg.PREF_FAULTS (n : Nat) : Nat := 0x8130 + n * 0x40
abbrev Reg.PREF_REV_CNT (n : Nat) : Nat := 0x8134 + n * 0x40
abbrev Reg.ENC_CTRL (n : Nat) : Nat := 0x8200 + n * 0x20
abbrev Reg.ENC_COUNT (n : Nat) : Nat := 0x8204 + n * 0x20
abbrev Reg.ENC_ZCOUNT (n : Nat) : Nat := 0x8208 + n * 0x20
abbrev Reg.ENC_ZPOS (n : Nat) : Nat := 0x820c + n * 0x20
abbrev Reg.ENC_ERR (n : Nat) : Nat := 0x8210 + n * 0x20
abbrev Reg.CAP_CTRL (n : Nat) : Nat := 0x8400 + n * 0x20
abbrev Reg.CAP_STATUS (n : Nat) : Nat := 0x8404 + n * 0x20
abbrev Reg.CAP_TIME (n : Nat) : Nat := 0x8408 + n * 0x20
abbrev Reg.CAP_POS (n : Nat) : Nat := 0x8410 + n * 0x20
abbrev Reg.SCHED_INDEX : Nat := 0x8800
abbrev Reg.SCHED_W (k : Nat) : Nat := 0x8804 + 4 * k
abbrev Reg.SCHED_CMD : Nat := 0x8814
abbrev Reg.SCHED_ESTAT : Nat := 0x8818
abbrev Reg.SCHED_LATE_CNT : Nat := 0x881c
abbrev Reg.SCHED_IGNORED : Nat := 0x8820
abbrev Reg.PI_CTRL : Nat := 0x8900
abbrev Reg.PI_STATUS : Nat := 0x8904
abbrev Reg.PI_COUNT : Nat := 0x8908
abbrev Reg.HOST_LINK : Nat := 0x1000
abbrev Reg.HOST_RD_CTRL : Nat := 0x1004
abbrev Reg.HOST_ERR : Nat := 0x1008
abbrev Reg.HOST_DB_IGNORED : Nat := 0x100c
abbrev Reg.HOST_MGMT_BASE : Nat := 0x1020
abbrev Reg.HOST_MGMT_CTRL : Nat := 0x1028
abbrev Reg.HOST_MGMT_IDX : Nat := 0x102c
abbrev Reg.HOST_EVT_BASE : Nat := 0x1030
abbrev Reg.HOST_EVT_CTRL : Nat := 0x1038
abbrev Reg.HOST_EVT_IDX : Nat := 0x103c
abbrev Reg.HOST_EVT_LOST : Nat := 0x1040
abbrev Reg.HOST_EVT_MASK (k : Nat) : Nat := 0x1060 + 4 * k
abbrev Reg.HOST_SQ_BASE (n : Nat) : Nat := 0x2000 + n * 0x40
abbrev Reg.HOST_CQ_BASE (n : Nat) : Nat := 0x2008 + n * 0x40
abbrev Reg.HOST_RING_CTRL (n : Nat) : Nat := 0x2010 + n * 0x40
abbrev Reg.HOST_RING_MOD (n : Nat) : Nat := 0x2014 + n * 0x40
abbrev Reg.HOST_SQ_IDX (n : Nat) : Nat := 0x2018 + n * 0x40
abbrev Reg.HOST_CQ_IDX (n : Nat) : Nat := 0x201c + n * 0x40
abbrev Reg.HOST_CQ_LOST (n : Nat) : Nat := 0x2020 + n * 0x40
abbrev Reg.HOST_CQ_PENDING (n : Nat) : Nat := 0x2024 + n * 0x40
abbrev Reg.OP_STATUS : Nat := 0x1f000
abbrev Reg.OP_CMD : Nat := 0x1f004
abbrev Reg.OP_ARG (k : Nat) : Nat := 0x1f008 + 4 * k
abbrev Reg.OP_RESULT0 : Nat := 0x1f018
abbrev Reg.OP_RESULT1 : Nat := 0x1f01c
abbrev Reg.OP_DROPPED : Nat := 0x1f020
abbrev Reg.OP_ELAPSED : Nat := 0x1f024
abbrev Reg.CTX_STATE (n : Nat) : Nat := 0x4000 + n * 0x100
abbrev Reg.CTX_CFG (n : Nat) : Nat := 0x4004 + n * 0x100
abbrev Reg.CTX_CHMAP (n : Nat) : Nat := 0x4008 + n * 0x100
abbrev Reg.CTX_SLACK (n : Nat) : Nat := 0x4010 + n * 0x100
abbrev Reg.CTX_SLACK_THR (n : Nat) : Nat := 0x4014 + n * 0x100
abbrev Reg.CTX_SLACK_HYST (n : Nat) : Nat := 0x4018 + n * 0x100
abbrev Reg.CTX_SLACK_MIN (n : Nat) : Nat := 0x401c + n * 0x100
abbrev Reg.CTX_LAST_LINE (n : Nat) : Nat := 0x4020 + n * 0x100
abbrev Reg.CTX_PAGE_ID (n : Nat) : Nat := 0x4024 + n * 0x100
abbrev Reg.CTX_PAGES (n : Nat) : Nat := 0x4028 + n * 0x100
abbrev Reg.CTX_LATE_LINES (n : Nat) : Nat := 0x402c + n * 0x100
abbrev Reg.CTX_INHIBITED (n : Nat) : Nat := 0x4030 + n * 0x100
abbrev Reg.CTX_ECC_CORR (n : Nat) : Nat := 0x4034 + n * 0x100
abbrev Reg.CTX_ECC_BLANK (n : Nat) : Nat := 0x4038 + n * 0x100
abbrev Reg.CTX_FAULTS (n : Nat) : Nat := 0x403c + n * 0x100
abbrev Reg.CTX_SEQ_FLAGS (n : Nat) : Nat := 0x4040 + n * 0x100
abbrev Reg.CTX_SEQ_COUNT (n : Nat) : Nat := 0x4044 + n * 0x100
abbrev Reg.CTX_TSET (n : Nat) : Nat := 0x4048 + n * 0x100
abbrev Reg.CTX_SEQ_DROPPED (n : Nat) : Nat := 0x404c + n * 0x100
abbrev Reg.BUF_STATUS : Nat := 0x9000
abbrev Reg.BUF_SCRUB_CTRL : Nat := 0x9004
abbrev Reg.BUF_SCRUB_PASS : Nat := 0x9008
abbrev Reg.BUF_CORR_CNT : Nat := 0x900c
abbrev Reg.BUF_UNCORR_CNT : Nat := 0x9010
abbrev Reg.BUF_UNCORR_ADDR : Nat := 0x9014
abbrev Reg.BUF_LOAD : Nat := 0x9018
abbrev Reg.BUF_FAULTS : Nat := 0x901c
abbrev Reg.BUF_CTX_TBL (n : Nat) : Nat := 0x9100 + n * 0x8
abbrev Reg.BUF_CTX_ING (n : Nat) : Nat := 0x9104 + n * 0x8
abbrev Reg.BUF_CH_DLY (n : Nat) : Nat := 0x9300 + n * 0x4
abbrev Reg.MASH_STATUS : Nat := 0xa000
abbrev Reg.MASH_BEHIND_CNT : Nat := 0xa004
abbrev Reg.MASH_FAULTS : Nat := 0xa008
abbrev Reg.MASH_CH_CFG (n : Nat) : Nat := 0xa400 + n * 0x20
abbrev Reg.MASH_CH_X0 (n : Nat) : Nat := 0xa404 + n * 0x20
abbrev Reg.MASH_CH_SX (n : Nat) : Nat := 0xa408 + n * 0x20
abbrev Reg.MASH_CH_SN (n : Nat) : Nat := 0xa40c + n * 0x20
abbrev Reg.MASH_CH_SEAM (n : Nat) : Nat := 0xa410 + n * 0x20
abbrev Reg.MASH_CH_CLAMP (n : Nat) : Nat := 0xa414 + n * 0x20
abbrev Reg.MASH_CH_LINES (n : Nat) : Nat := 0xa418 + n * 0x20
abbrev Reg.NOZ_STATUS : Nat := 0xc000
abbrev Reg.NOZ_FAULTS : Nat := 0xc004
abbrev Reg.NOZ_CH_CFG (n : Nat) : Nat := 0xc400 + n * 0x40
abbrev Reg.NOZ_CH_SWLINE (n : Nat) : Nat := 0xc404 + n * 0x40
abbrev Reg.NOZ_CH_SWCTL (n : Nat) : Nat := 0xc408 + n * 0x40
abbrev Reg.NOZ_CH_STATUS (n : Nat) : Nat := 0xc40c + n * 0x40
abbrev Reg.NOZ_CH_RDLY (n : Nat) (k : Nat) : Nat := 0xc410 + n * 0x40 + 4 * k
abbrev Reg.NOZ_CH_SWDONE (n : Nat) : Nat := 0xc430 + n * 0x40
abbrev Reg.NOZ_CH_CLIPPED (n : Nat) : Nat := 0xc434 + n * 0x40
abbrev Reg.NOZ_CH_TAKEOVER (n : Nat) : Nat := 0xc438 + n * 0x40
abbrev Reg.NOZ_CH_SWDROP (n : Nat) : Nat := 0xc43c + n * 0x40
abbrev Reg.HL_CTRL (n : Nat) : Nat := 0x10000 + n * 0x100
abbrev Reg.HL_TRAIN (n : Nat) : Nat := 0x10004 + n * 0x100
abbrev Reg.HL_STATE (n : Nat) : Nat := 0x10008 + n * 0x100
abbrev Reg.HL_LAT (n : Nat) : Nat := 0x1000c + n * 0x100
abbrev Reg.HL_CAP0 (n : Nat) : Nat := 0x10010 + n * 0x100
abbrev Reg.HL_CAP1 (n : Nat) : Nat := 0x10014 + n * 0x100
abbrev Reg.HL_HEAD_SN (n : Nat) : Nat := 0x10018 + n * 0x100
abbrev Reg.HL_TEMP01 (n : Nat) : Nat := 0x10020 + n * 0x100
abbrev Reg.HL_TEMP23 (n : Nat) : Nat := 0x10024 + n * 0x100
abbrev Reg.HL_SUPPLY (n : Nat) : Nat := 0x10028 + n * 0x100
abbrev Reg.HL_PORT (n : Nat) : Nat := 0x1002c + n * 0x100
abbrev Reg.HL_KEY (n : Nat) : Nat := 0x10030 + n * 0x100
abbrev Reg.HL_ERR (n : Nat) : Nat := 0x10034 + n * 0x100
abbrev Reg.HL_RX_BAD (n : Nat) : Nat := 0x10038 + n * 0x100
abbrev Reg.HL_DATA_LATE (n : Nat) : Nat := 0x1003c + n * 0x100
abbrev Reg.HL_MISMATCH (n : Nat) : Nat := 0x10040 + n * 0x100
abbrev Reg.HL_DMISS (n : Nat) : Nat := 0x10044 + n * 0x100
abbrev Reg.HL_KILLS (n : Nat) : Nat := 0x10048 + n * 0x100
abbrev Reg.HL_RETRAINS (n : Nat) : Nat := 0x1004c + n * 0x100
abbrev Reg.HL_WADDR (n : Nat) : Nat := 0x10050 + n * 0x100
abbrev Reg.HL_WDATA (n : Nat) : Nat := 0x10054 + n * 0x100
abbrev Reg.HL_WCTL (n : Nat) : Nat := 0x10058 + n * 0x100
abbrev Reg.HL_WSWLINE (n : Nat) : Nat := 0x1005c + n * 0x100
abbrev Reg.HL_WDONE (n : Nat) : Nat := 0x10060 + n * 0x100
abbrev Reg.HL_HEALTH (n : Nat) : Nat := 0x10064 + n * 0x100
abbrev Reg.HL_HEALTH_LOST (n : Nat) : Nat := 0x10068 + n * 0x100
abbrev Reg.HL_FRAMES (n : Nat) : Nat := 0x1006c + n * 0x100
abbrev Reg.HL_WRD (n : Nat) : Nat := 0x10070 + n * 0x100
abbrev Reg.FAB_STATUS : Nat := 0x14000
abbrev Reg.FAB_CFG : Nat := 0x14004
abbrev Reg.FAB_SERIAL : Nat := 0x14008
abbrev Reg.FAB_GEN : Nat := 0x14010
abbrev Reg.FAB_PORT_CTRL : Nat := 0x14014
abbrev Reg.FAB_PORT_STATE : Nat := 0x14018
abbrev Reg.FAB_NBR (k : Nat) : Nat := 0x14020 + 4 * k
abbrev Reg.FAB_ROUTE_SEL : Nat := 0x14040
abbrev Reg.FAB_ROUTE : Nat := 0x14044
abbrev Reg.FAB_PREF_TX : Nat := 0x14048
abbrev Reg.FAB_ZSRC : Nat := 0x1404c
abbrev Reg.FAB_ZRX_TIME : Nat := 0x14050
abbrev Reg.FAB_ZRX_COUNT : Nat := 0x14058
abbrev Reg.FAB_ZRX_STATUS : Nat := 0x1405c
abbrev Reg.FAB_SNAP_TIME : Nat := 0x14060
abbrev Reg.FAB_SNAP_CMD : Nat := 0x14068
abbrev Reg.FAB_SNAP_STATUS : Nat := 0x1406c
abbrev Reg.FAB_SNAP_SEL : Nat := 0x14070
abbrev Reg.FAB_SNAP_DATA : Nat := 0x14074
abbrev Reg.FAB_RX_CRC : Nat := 0x14078
abbrev Reg.FAB_TC0_DROP : Nat := 0x1407c
abbrev Reg.FAB_TC0_WAIT : Nat := 0x14080
abbrev Reg.FAB_DROP : Nat := 0x14084
abbrev Reg.FAB_FWD_REJECT : Nat := 0x14088
abbrev Reg.FAB_FAULTS : Nat := 0x1408c
abbrev Reg.FAB_FWD_TX (n : Nat) : Nat := 0x14100 + n * 0x4
abbrev Reg.FAB_FWD_RX (n : Nat) : Nat := 0x14200 + n * 0x4
abbrev Reg.TWIN_CFG : Nat := 0x15000
abbrev Reg.TWIN_STATUS : Nat := 0x15004
abbrev Reg.TWIN_EPOCH : Nat := 0x15008
abbrev Reg.TWIN_PARTNER_ADDR : Nat := 0x1500c
abbrev Reg.TWIN_PARTNER_SN : Nat := 0x15010
abbrev Reg.TWIN_CKPT_SIZE : Nat := 0x15018
abbrev Reg.TWIN_CKPT_CYCLE : Nat := 0x1501c
abbrev Reg.TWIN_CKPT_TIME : Nat := 0x15020
abbrev Reg.TWIN_CKPT_LATE : Nat := 0x15024
abbrev Reg.TWIN_STALE : Nat := 0x15028
abbrev Reg.TWIN_HB_LOST : Nat := 0x1502c
abbrev Reg.TWIN_ROLE_CHG : Nat := 0x15030
abbrev Reg.TWIN_MISMATCH : Nat := 0x15034
abbrev Reg.TWIN_DIV : Nat := 0x15038
abbrev Reg.TWIN_LAST_CHG : Nat := 0x15040
abbrev Reg.TWIN_FRAME_OFS : Nat := 0x15048
abbrev Reg.TWIN_SWAP_CMD : Nat := 0x1504c
abbrev Reg.TWIN_FAULTS : Nat := 0x15050
abbrev Reg.CYC_STATUS : Nat := 0x16000
abbrev Reg.CYC_CFG : Nat := 0x16004
abbrev Reg.CYC_PHASE : Nat := 0x16008
abbrev Reg.CYC_CMD : Nat := 0x1600c
abbrev Reg.CYC_PRG_ADDR : Nat := 0x16010
abbrev Reg.CYC_PRG_LEN : Nat := 0x16018
abbrev Reg.CYC_RESULT : Nat := 0x1601c
abbrev Reg.CYC_PRG_ID : Nat := 0x16020
abbrev Reg.CYC_PEND_ID : Nat := 0x16028
abbrev Reg.CYC_PERIOD : Nat := 0x16030
abbrev Reg.CYC_FORCES : Nat := 0x16034
abbrev Reg.CYC_TIMERS : Nat := 0x16038
abbrev Reg.CYC_FAULTS : Nat := 0x1603c
abbrev Reg.CYC_RET_CYCLE : Nat := 0x16040
abbrev Reg.CYC_RET_SKIP : Nat := 0x16044
abbrev Reg.CYC_EVT_LOST : Nat := 0x16048
abbrev Reg.CYC_CHANGE_CYCLE : Nat := 0x1604c
abbrev Reg.CYC_CORE_CFG (n : Nat) : Nat := 0x16100 + n * 0x20
abbrev Reg.CYC_CORE_OUT (n : Nat) : Nat := 0x16104 + n * 0x20
abbrev Reg.CYC_COUNT (n : Nat) : Nat := 0x16108 + n * 0x20
abbrev Reg.CYC_OVR (n : Nat) : Nat := 0x1610c + n * 0x20
abbrev Reg.CYC_SKIP (n : Nat) : Nat := 0x16110 + n * 0x20
abbrev Reg.CYC_EXEC_LAST (n : Nat) : Nat := 0x16114 + n * 0x20
abbrev Reg.CYC_EXEC_MAX (n : Nat) : Nat := 0x16118 + n * 0x20
abbrev Reg.KILN_CTRL : Nat := 0x17000
abbrev Reg.KILN_STATUS : Nat := 0x17004
abbrev Reg.KILN_FAULTS : Nat := 0x17008
abbrev Reg.KILN_CMD : Nat := 0x1700c
abbrev Reg.KILN_INDEX : Nat := 0x17010
abbrev Reg.KILN_RESULT : Nat := 0x17014
abbrev Reg.KILN_W (k : Nat) : Nat := 0x17040 + 4 * k
abbrev Reg.KILN_ST0 : Nat := 0x17080
abbrev Reg.KILN_ST1 : Nat := 0x17084
abbrev Reg.KILN_ST2 : Nat := 0x17088
abbrev Reg.KILN_ST3 : Nat := 0x1708c
abbrev Reg.KILN_ST4 : Nat := 0x17090
abbrev Reg.KILN_ST6 : Nat := 0x17098
abbrev Reg.KILN_ST7 : Nat := 0x1709c
abbrev Reg.KILN_GRP_CFG (n : Nat) : Nat := 0x17100 + n * 0x10
abbrev Reg.KILN_GRP_PHASE (n : Nat) : Nat := 0x17104 + n * 0x10
abbrev Reg.KILN_GRP_COUNT (n : Nat) : Nat := 0x17108 + n * 0x10
abbrev Reg.KILN_GRP_LOST (n : Nat) : Nat := 0x1710c + n * 0x10
abbrev Reg.KILN_TUNE_CFG : Nat := 0x17200
abbrev Reg.KILN_TUNE_D : Nat := 0x17204
abbrev Reg.KILN_TUNE_H : Nat := 0x17208
abbrev Reg.KILN_TUNE_LO : Nat := 0x1720c
abbrev Reg.KILN_TUNE_HI : Nat := 0x17210
abbrev Reg.KILN_TUNE_LIMIT : Nat := 0x17214
abbrev Reg.KILN_TUNE_STATUS : Nat := 0x17218
abbrev Reg.KILN_TUNE_PU : Nat := 0x1721c
abbrev Reg.KILN_TUNE_A : Nat := 0x17220
abbrev Reg.KILN_TUNE_KU : Nat := 0x17224
abbrev Reg.KILN_TUNE_KP : Nat := 0x17228
abbrev Reg.KILN_TUNE_KI : Nat := 0x1722c
abbrev Reg.KILN_TUNE_KD : Nat := 0x17230
abbrev Reg.KILN_TUNE_UCP : Nat := 0x17234
abbrev Reg.KILN_TUNE_UCI : Nat := 0x17238
abbrev Reg.KILN_TUNE_UCD : Nat := 0x1723c
abbrev Reg.SB_FAULTS : Nat := 0x18000
abbrev Reg.SB_EVT_RX_LOST : Nat := 0x18004
abbrev Reg.SB_CH_CFG (n : Nat) : Nat := 0x18100 + n * 0x100
abbrev Reg.SB_CYCLE (n : Nat) : Nat := 0x18104 + n * 0x100
abbrev Reg.SB_TIMING (n : Nat) : Nat := 0x18108 + n * 0x100
abbrev Reg.SB_DYN (n : Nat) : Nat := 0x1810c + n * 0x100
abbrev Reg.SB_SYNC (n : Nat) : Nat := 0x18110 + n * 0x100
abbrev Reg.SB_DELAY (n : Nat) : Nat := 0x18114 + n * 0x100
abbrev Reg.SB_STAR_CFG (n : Nat) : Nat := 0x18118 + n * 0x100
abbrev Reg.SB_SLOT_SEL (n : Nat) : Nat := 0x1811c + n * 0x100
abbrev Reg.SB_SLOT_DATA (n : Nat) : Nat := 0x18120 + n * 0x100
abbrev Reg.SB_CH_STATUS (n : Nat) : Nat := 0x18124 + n * 0x100
abbrev Reg.SB_OFS (n : Nat) : Nat := 0x18128 + n * 0x100
abbrev Reg.SB_RATE (n : Nat) : Nat := 0x1812c + n * 0x100
abbrev Reg.SB_CYCLE_CNT (n : Nat) : Nat := 0x18130 + n * 0x100
abbrev Reg.SB_RX_BAD (n : Nat) : Nat := 0x18134 + n * 0x100
abbrev Reg.SB_EMPTY_MS (n : Nat) : Nat := 0x18138 + n * 0x100
abbrev Reg.SB_STALE (n : Nat) : Nat := 0x1813c + n * 0x100
abbrev Reg.SB_EPOCH_SEEN (n : Nat) : Nat := 0x18140 + n * 0x100
abbrev Reg.SB_EPOCH_NODE (n : Nat) : Nat := 0x18144 + n * 0x100
abbrev Reg.SB_ABANDONED (n : Nat) : Nat := 0x18148 + n * 0x100
abbrev Reg.SB_BR_VIOL (n : Nat) (k : Nat) : Nat := 0x18150 + n * 0x100 + 4 * k
abbrev Reg.SB_STAR_COLLIDE (n : Nat) : Nat := 0x18170 + n * 0x100
abbrev Reg.SB_STAR_CMD (n : Nat) : Nat := 0x18174 + n * 0x100
abbrev Reg.SB_EVT_TXCTL (n : Nat) : Nat := 0x18178 + n * 0x100
abbrev Reg.SB_EVT_RXCTL (n : Nat) : Nat := 0x1817c + n * 0x100
abbrev Reg.SB_EVT_TXBUF (n : Nat) (k : Nat) : Nat := 0x18180 + n * 0x100 + 4 * k
abbrev Reg.SB_EVT_RXBUF (n : Nat) (k : Nat) : Nat := 0x181c0 + n * 0x100 + 4 * k
abbrev Reg.CAN_CTRL (n : Nat) : Nat := 0x19000 + n * 0x400
abbrev Reg.CAN_STATUS (n : Nat) : Nat := 0x19004 + n * 0x400
abbrev Reg.CAN_NBT (n : Nat) : Nat := 0x19008 + n * 0x400
abbrev Reg.CAN_DBT (n : Nat) : Nat := 0x1900c + n * 0x400
abbrev Reg.CAN_TDC (n : Nat) : Nat := 0x19010 + n * 0x400
abbrev Reg.CAN_ERRCNT (n : Nat) : Nat := 0x19014 + n * 0x400
abbrev Reg.CAN_ERR_LAST (n : Nat) : Nat := 0x19018 + n * 0x400
abbrev Reg.CAN_BUSOFF_CNT (n : Nat) : Nat := 0x1901c + n * 0x400
abbrev Reg.CAN_RXQ_LOST0 (n : Nat) : Nat := 0x19020 + n * 0x400
abbrev Reg.CAN_RXQ_LOST1 (n : Nat) : Nat := 0x19024 + n * 0x400
abbrev Reg.CAN_TX_OVERWRITE (n : Nat) : Nat := 0x19028 + n * 0x400
abbrev Reg.CAN_PROTO_EXC (n : Nat) : Nat := 0x1902c + n * 0x400
abbrev Reg.CAN_FAULTS (n : Nat) : Nat := 0x19030 + n * 0x400
abbrev Reg.CAN_RESULT (n : Nat) : Nat := 0x19034 + n * 0x400
abbrev Reg.CAN_TX_REQ (n : Nat) : Nat := 0x19038 + n * 0x400
abbrev Reg.CAN_TX_DONE (n : Nat) : Nat := 0x19040 + n * 0x400
abbrev Reg.CAN_RXQ_STATUS (n : Nat) : Nat := 0x19048 + n * 0x400
abbrev Reg.CAN_RX_NOMATCH (n : Nat) : Nat := 0x1904c + n * 0x400
abbrev Reg.CAN_TXB_CMD (n : Nat) : Nat := 0x19100 + n * 0x400
abbrev Reg.CAN_TXB (n : Nat) (k : Nat) : Nat := 0x19104 + n * 0x400 + 4 * k
abbrev Reg.CAN_RXQ0 (n : Nat) (k : Nat) : Nat := 0x19200 + n * 0x400 + 4 * k
abbrev Reg.CAN_RXQ0_POP (n : Nat) : Nat := 0x19250 + n * 0x400
abbrev Reg.CAN_RXQ1 (n : Nat) (k : Nat) : Nat := 0x19280 + n * 0x400 + 4 * k
abbrev Reg.CAN_RXQ1_POP (n : Nat) : Nat := 0x192d0 + n * 0x400
abbrev Reg.CAN_FLT_SEL (n : Nat) : Nat := 0x19300 + n * 0x400
abbrev Reg.CAN_FLT_W (n : Nat) (k : Nat) : Nat := 0x19304 + n * 0x400 + 4 * k
abbrev Reg.CAN_FLT_CMD (n : Nat) : Nat := 0x19310 + n * 0x400
abbrev Reg.PTP_CFG : Nat := 0x1a000
abbrev Reg.PTP_STATUS : Nat := 0x1a004
abbrev Reg.PTP_MASTER_ID : Nat := 0x1a008
abbrev Reg.PTP_OFFSET : Nat := 0x1a010
abbrev Reg.PTP_DELAY : Nat := 0x1a014
abbrev Reg.PTP_SLEW_PPM : Nat := 0x1a018
abbrev Reg.PTP_STEP_NS : Nat := 0x1a01c
abbrev Reg.PTP_LOCK_NS : Nat := 0x1a020
abbrev Reg.PTP_HOLD_MS : Nat := 0x1a024
abbrev Reg.PPS_CTRL : Nat := 0x1a028
abbrev Reg.PPS_WIDTH : Nat := 0x1a02c
abbrev Reg.PPS_PHASE : Nat := 0x1a030
abbrev Reg.PPS_SKIP : Nat := 0x1a034
abbrev Reg.PTP_FAULTS : Nat := 0x1a038
abbrev Reg.ETH_CTRL (n : Nat) : Nat := 0x1a100 + n * 0x80
abbrev Reg.ETH_STATUS (n : Nat) : Nat := 0x1a104 + n * 0x80
abbrev Reg.ETH_TS_EGR_ADJ (n : Nat) : Nat := 0x1a108 + n * 0x80
abbrev Reg.ETH_TS_ING_ADJ (n : Nat) : Nat := 0x1a10c + n * 0x80
abbrev Reg.ETH_TXTS_STATUS (n : Nat) : Nat := 0x1a110 + n * 0x80
abbrev Reg.ETH_TXTS_TAG (n : Nat) : Nat := 0x1a114 + n * 0x80
abbrev Reg.ETH_TXTS_TIME (n : Nat) : Nat := 0x1a118 + n * 0x80
abbrev Reg.ETH_TXTS_POP (n : Nat) : Nat := 0x1a120 + n * 0x80
abbrev Reg.ETH_TXTS_LOST (n : Nat) : Nat := 0x1a124 + n * 0x80
abbrev Reg.ETH_ONESTEP_OVF (n : Nat) : Nat := 0x1a128 + n * 0x80
abbrev Reg.ETH_RX_BAD (n : Nat) : Nat := 0x1a12c + n * 0x80
abbrev Reg.ETH_RX_FRAMES (n : Nat) : Nat := 0x1a130 + n * 0x80
abbrev Reg.ETH_TX_FRAMES (n : Nat) : Nat := 0x1a134 + n * 0x80
abbrev Reg.SAFE_VIEW (k : Nat) : Nat := 0x1b000 + 4 * k
abbrev Reg.SAFE_ACTIVE_GEN : Nat := 0x1b100
abbrev Reg.SAFE_CAND_CHECK : Nat := 0x1b104
abbrev Reg.SAFE_RESET_IGN : Nat := 0x1b108
abbrev Reg.SAFE_DISC_LAST : Nat := 0x1b10c
abbrev Reg.SAFE_MBX_CMD : Nat := 0x1b800
abbrev Reg.SAFE_MBX_ARG : Nat := 0x1b804
abbrev Reg.SAFE_MBX_STATUS : Nat := 0x1b808
abbrev Reg.SAFE_MBX_DATA (k : Nat) : Nat := 0x1b820 + 4 * k
abbrev Reg.LOOP_CTRL : Nat := 0x1c000
abbrev Reg.LOOP_STATUS : Nat := 0x1c004
abbrev Reg.LOOP_FAULTS : Nat := 0x1c008
abbrev Reg.LOOP_CH_CFG (n : Nat) : Nat := 0x1c100 + n * 0x20
abbrev Reg.LOOP_CH_TRIM (n : Nat) : Nat := 0x1c104 + n * 0x20
abbrev Reg.LOOP_CH_PRESET (n : Nat) : Nat := 0x1c108 + n * 0x20
abbrev Reg.LOOP_CH_HRMIN (n : Nat) : Nat := 0x1c10c + n * 0x20
abbrev Reg.LOOP_CH_STATUS (n : Nat) : Nat := 0x1c110 + n * 0x20
abbrev Reg.LOOP_CH_MEAS (n : Nat) : Nat := 0x1c114 + n * 0x20
abbrev Reg.LOOP_CH_TARGET (n : Nat) : Nat := 0x1c118 + n * 0x20
abbrev Reg.LOOP_CH_CLAMP (n : Nat) : Nat := 0x1c11c + n * 0x20
abbrev Reg.CASK_STATUS : Nat := 0x1d000
abbrev Reg.CASK_FREEZE : Nat := 0x1d004
abbrev Reg.CASK_CMD : Nat := 0x1d008
abbrev Reg.CASK_RESULT : Nat := 0x1d00c
abbrev Reg.CASK_FIRST_CNT : Nat := 0x1d010
abbrev Reg.CASK_CIRC_CNT : Nat := 0x1d014
abbrev Reg.CASK_SEQ : Nat := 0x1d018
abbrev Reg.CASK_CLEAR_CNT : Nat := 0x1d020
abbrev Reg.CASK_BOOT : Nat := 0x1d024
abbrev Reg.CASK_OVERFLOW : Nat := 0x1d028
abbrev Reg.CASK_SUPPR : Nat := 0x1d02c
abbrev Reg.CASK_MISSED : Nat := 0x1d030
abbrev Reg.CASK_RD_SEQ : Nat := 0x1d034
abbrev Reg.CASK_RD_DATA (k : Nat) : Nat := 0x1d040 + 4 * k
abbrev Reg.CASK_NONCE (k : Nat) : Nat := 0x1d080 + 4 * k
abbrev Reg.CASK_TOKEN (k : Nat) : Nat := 0x1d100 + 4 * k
abbrev Reg.CASK_MAP (k : Nat) : Nat := 0x1d200 + 4 * k
abbrev Reg.CASK_BKT (k : Nat) : Nat := 0x1d400 + 4 * k
abbrev Reg.SEC_STATUS : Nat := 0x1e000
abbrev Reg.SEC_CMD : Nat := 0x1e004
abbrev Reg.SEC_RESULT : Nat := 0x1e008
abbrev Reg.SEC_FUSE : Nat := 0x1e00c
abbrev Reg.NV_ACTIVE : Nat := 0x1e010
abbrev Reg.NV_GEN : Nat := 0x1e014
abbrev Reg.NV_SLOT_A : Nat := 0x1e018
abbrev Reg.NV_SLOT_B : Nat := 0x1e01c
abbrev Reg.NV_TAG : Nat := 0x1e020
abbrev Reg.FW_BANK : Nat := 0x1e028
abbrev Reg.FW_VERSION : Nat := 0x1e02c
abbrev Reg.SEC_FW_ADDR : Nat := 0x1e030
abbrev Reg.SEC_FW_LEN : Nat := 0x1e038
abbrev Reg.SEC_SERIAL : Nat := 0x1e040
abbrev Reg.SEC_CLRKEY_SEL : Nat := 0x1e048
abbrev Reg.SEC_CLRKEY_DATA : Nat := 0x1e04c
abbrev Reg.SEC_CERT_LEN : Nat := 0x1e050
abbrev Reg.SEC_CERT_SEL : Nat := 0x1e054
abbrev Reg.SEC_CERT_DATA : Nat := 0x1e058
abbrev Reg.SEC_ID_PUB (k : Nat) : Nat := 0x1e100 + 4 * k
abbrev Reg.SEC_QNONCE (k : Nat) : Nat := 0x1e200 + 4 * k
abbrev Reg.SEC_NONCE (k : Nat) : Nat := 0x1e280 + 4 * k
abbrev Reg.SEC_QUOTE (k : Nat) : Nat := 0x1e300 + 4 * k
abbrev Reg.SEC_TOKEN (k : Nat) : Nat := 0x1e600 + 4 * k
abbrev Reg.GLOBAL_ID : Nat := 0x0
abbrev Reg.GLOBAL_VERSION : Nat := 0x4
abbrev Reg.GLOBAL_STATUS : Nat := 0x8
abbrev Reg.GLOBAL_CFG : Nat := 0xc
abbrev Reg.GLOBAL_PD_CTRL : Nat := 0x10
abbrev Reg.GLOBAL_PD_STATUS : Nat := 0x14
abbrev Reg.GLOBAL_RESET_CAUSE : Nat := 0x18
abbrev Reg.GLOBAL_RESET_CMD : Nat := 0x1c
abbrev Reg.GLOBAL_FAULTS : Nat := 0x20
abbrev Reg.GLOBAL_EARLY_WR : Nat := 0x24
abbrev Reg.GLOBAL_TJ : Nat := 0x28
abbrev Reg.GLOBAL_PHASE_END (k : Nat) : Nat := 0x40 + 4 * k

/-- The register map of the global region. -/
def globalRegs : List RegDesc := [
  { base := 0x0, reset := [0x1b06463] },
  { base := 0x4, reset := [0x10000] },
  { base := 0x8 },
  { base := 0xc, rw := 0x1 },
  { base := 0x10, rw := 0xff, reset := [0x7] },
  { base := 0x14, reset := [0x7] },
  { base := 0x18, reset := [0x1] },
  { base := 0x1c, wo := 0xffffffff },
  { base := 0x20, w1c := 0x7 },
  { base := 0x24, rc := 0xffffffff },
  { base := 0x28 },
  { base := 0x40, words := 8 } ]

/-- The register map of the host region. -/
def hostRegs : List RegDesc := [
  { base := 0x1000 },
  { base := 0x1004, rw := 0x7ff, reset := [0x500] },
  { base := 0x1008, w1c := 0x10f },
  { base := 0x100c, rc := 0xffffffff },
  { base := 0x1020, words := 2, pair := true, mw := [0xfffff000, 0xffffffff] },
  { base := 0x1028, rw := 0x3f3f, reset := [0xc] },
  { base := 0x102c },
  { base := 0x1030, words := 2, pair := true, mw := [0xfffff000, 0xffffffff] },
  { base := 0x1038, rw := 0xffff3f3f, reset := [0xc] },
  { base := 0x103c },
  { base := 0x1040, rc := 0xffffffff },
  { base := 0x1060, words := 8, rw := 0xffffffff, reset := [0xffffffff] },
  { base := 0x2000, words := 2, pair := true, stride := 0x40, first := 1, last := 63, mw := [0xfffff000, 0xffffffff] },
  { base := 0x2008, words := 2, pair := true, stride := 0x40, first := 1, last := 63, mw := [0xfffff000, 0xffffffff] },
  { base := 0x2010, stride := 0x40, first := 1, last := 63, rw := 0x1ffffff, reset := [0x18c] },
  { base := 0x2014, stride := 0x40, first := 1, last := 63, rw := 0xffff },
  { base := 0x2018, stride := 0x40, first := 1, last := 63 },
  { base := 0x201c, stride := 0x40, first := 1, last := 63 },
  { base := 0x2020, stride := 0x40, first := 1, last := 63, rc := 0xffffffff },
  { base := 0x2024, stride := 0x40, first := 1, last := 63 } ]

/-- The register map of the ctx region. -/
def ctxRegs : List RegDesc := [
  { base := 0x4000, stride := 0x100, first := 1, last := 63 },
  { base := 0x4004, stride := 0x100, first := 1, last := 63, rw := 0x1f3f13 },
  { base := 0x4008, words := 2, pair := true, stride := 0x100, first := 1, last := 63, rw := 0xffffffff },
  { base := 0x4010, stride := 0x100, first := 1, last := 63 },
  { base := 0x4014, stride := 0x100, first := 1, last := 63, rw := 0xffffffff, reset := [0x200100] },
  { base := 0x4018, stride := 0x100, first := 1, last := 63, rw := 0xffff, reset := [0x40] },
  { base := 0x401c, stride := 0x100, first := 1, last := 63, rc := 0xffffffff, reset := [0x7fffffff] },
  { base := 0x4020, stride := 0x100, first := 1, last := 63 },
  { base := 0x4024, stride := 0x100, first := 1, last := 63 },
  { base := 0x4028, stride := 0x100, first := 1, last := 63, rc := 0xffffffff },
  { base := 0x402c, stride := 0x100, first := 1, last := 63, rc := 0xffffffff },
  { base := 0x4030, stride := 0x100, first := 1, last := 63, rc := 0xffffffff },
  { base := 0x4034, stride := 0x100, first := 1, last := 63, rc := 0xffffffff },
  { base := 0x4038, stride := 0x100, first := 1, last := 63, rc := 0xffffffff },
  { base := 0x403c, stride := 0x100, first := 1, last := 63, w1c := 0xf },
  { base := 0x4040, stride := 0x100, first := 1, last := 63 },
  { base := 0x4044, stride := 0x100, first := 1, last := 63 },
  { base := 0x4048, stride := 0x100, first := 1, last := 63 },
  { base := 0x404c, stride := 0x100, first := 1, last := 63, rc := 0xffffffff } ]

/-- The register map of the timePos region. -/
def timePosRegs : List RegDesc := [
  { base := 0x8000, words := 2, pair := true },
  { base := 0x8008, words := 2, pair := true },
  { base := 0x8010, words := 2, pair := true, mw := [0xffffffff, 0xffff], reset := [0x0, 0x100] },
  { base := 0x8018, words := 2, pair := true, rw := 0xffffffff },
  { base := 0x8020, rw := 0xffffffff, reset := [0x3e8] },
  { base := 0x8024, wo := 0xffffffff },
  { base := 0x8028, rw := 0x1ff, reset := [0x1f4] },
  { base := 0x802c },
  { base := 0x8030, w1c := 0x300 },
  { base := 0x8034, rc := 0xffffffff },
  { base := 0x8100, stride := 0x40, first := 0, last := 3, rw := 0x7ff, wo := 0x800, reset := [0x360] },
  { base := 0x8104, stride := 0x40, first := 0, last := 3, rw := 0xffffff, reset := [0x1] },
  { base := 0x8108, stride := 0x40, first := 0, last := 3, rw := 0xffffff, reset := [0x1] },
  { base := 0x810c, stride := 0x40, first := 0, last := 3, rw := 0xffffffff, reset := [0x186a0] },
  { base := 0x8110, stride := 0x40, first := 0, last := 3, rw := 0xff },
  { base := 0x8114, stride := 0x40, first := 0, last := 3, rw := 0x3ff },
  { base := 0x8118, words := 2, pair := true, stride := 0x40, first := 0, last := 3, mw := [0xffffffff, 0xffff] },
  { base := 0x8120, words := 2, pair := true, stride := 0x40, first := 0, last := 3 },
  { base := 0x8128, stride := 0x40, first := 0, last := 3 },
  { base := 0x812c, stride := 0x40, first := 0, last := 3 },
  { base := 0x8130, stride := 0x40, first := 0, last := 3, w1c := 0x7 },
  { base := 0x8134, stride := 0x40, first := 0, last := 3, rc := 0xffffffff },
  { base := 0x8200, stride := 0x20, first := 0, last := 7, rw := 0x7f, reset := [0x2] },
  { base := 0x8204, stride := 0x20, first := 0, last := 7 },
  { base := 0x8208, stride := 0x20, first := 0, last := 7, rw := 0xffffff },
  { base := 0x820c, stride := 0x20, first := 0, last := 7 },
  { base := 0x8210, stride := 0x20, first := 0, last := 7, rc := 0xffffffff },
  { base := 0x8400, stride := 0x20, first := 0, last := 15, rw := 0x3ff },
  { base := 0x8404, stride := 0x20, first := 0, last := 15, w1c := 0x2 },
  { base := 0x8408, words := 2, pair := true, stride := 0x20, first := 0, last := 15 },
  { base := 0x8410, words := 2, pair := true, stride := 0x20, first := 0, last := 15 },
  { base := 0x8800, rw := 0x7ff },
  { base := 0x8804, words := 4, mw := [0xffffffff, 0xffffffff, 0xffffffff, 0xff00ffff] },
  { base := 0x8814, wo := 0x3 },
  { base := 0x8818, w1c := 0x80000000 },
  { base := 0x881c, rc := 0xffffffff },
  { base := 0x8820, rc := 0xffffffff },
  { base := 0x8900, rw := 0x1, wo := 0x2, reset := [0x1] },
  { base := 0x8904 },
  { base := 0x8908, rc := 0xffffffff } ]

/-- The register map of the buf region. -/
def bufRegs : List RegDesc := [
  { base := 0x9000 },
  { base := 0x9004, rw := 0x1, reset := [0x1] },
  { base := 0x9008 },
  { base := 0x900c, rc := 0xffffffff },
  { base := 0x9010, rc := 0xffffffff },
  { base := 0x9014 },
  { base := 0x9018 },
  { base := 0x901c, w1c := 0x1 },
  { base := 0x9100, stride := 0x8, first := 1, last := 63, rw := 0x7fff3fff },
  { base := 0x9104, stride := 0x8, first := 1, last := 63, rw := 0x7fff3fff },
  { base := 0x9300, stride := 0x4, first := 0, last := 63, rw := 0x7fff3fff } ]

/-- The register map of the mash region. -/
def mashRegs : List RegDesc := [
  { base := 0xa000 },
  { base := 0xa004, rc := 0xffffffff },
  { base := 0xa008, w1c := 0x1 },
  { base := 0xa400, stride := 0x20, first := 0, last := 63, rw := 0x3fff000f },
  { base := 0xa404, stride := 0x20, first := 0, last := 63, rw := 0xffffffff },
  { base := 0xa408, stride := 0x20, first := 0, last := 63, rw := 0xffffff },
  { base := 0xa40c, stride := 0x20, first := 0, last := 63, rw := 0x3fff },
  { base := 0xa410, stride := 0x20, first := 0, last := 63, rw := 0xbfbf },
  { base := 0xa414, stride := 0x20, first := 0, last := 63, rc := 0xffffffff },
  { base := 0xa418, stride := 0x20, first := 0, last := 63 } ]

/-- The register map of the noz region. -/
def nozRegs : List RegDesc := [
  { base := 0xc000 },
  { base := 0xc004, w1c := 0x1 },
  { base := 0xc400, stride := 0x40, first := 0, last := 63, rw := 0x1f, reset := [0x1] },
  { base := 0xc404, stride := 0x40, first := 0, last := 63, rw := 0xffffffff },
  { base := 0xc408, stride := 0x40, first := 0, last := 63, rw := 0xf1 },
  { base := 0xc40c, stride := 0x40, first := 0, last := 63, w1c := 0x300 },
  { base := 0xc410, words := 8, stride := 0x40, first := 0, last := 63, rw := 0xfff0fff },
  { base := 0xc430, stride := 0x40, first := 0, last := 63 },
  { base := 0xc434, stride := 0x40, first := 0, last := 63, rc := 0xffffffff },
  { base := 0xc438, stride := 0x40, first := 0, last := 63, rc := 0xffffffff },
  { base := 0xc43c, stride := 0x40, first := 0, last := 63, rc := 0xffffffff } ]

/-- The register map of the hlink region. -/
def hlinkRegs : List RegDesc := [
  { base := 0x10000, stride := 0x100, first := 0, last := 63, rw := 0x1ff, reset := [0x152] },
  { base := 0x10004, stride := 0x100, first := 0, last := 63, wo := 0x3 },
  { base := 0x10008, stride := 0x100, first := 0, last := 63 },
  { base := 0x1000c, stride := 0x100, first := 0, last := 63 },
  { base := 0x10010, stride := 0x100, first := 0, last := 63 },
  { base := 0x10014, stride := 0x100, first := 0, last := 63 },
  { base := 0x10018, words := 2, pair := true, stride := 0x100, first := 0, last := 63 },
  { base := 0x10020, stride := 0x100, first := 0, last := 63 },
  { base := 0x10024, stride := 0x100, first := 0, last := 63 },
  { base := 0x10028, stride := 0x100, first := 0, last := 63 },
  { base := 0x1002c, stride := 0x100, first := 0, last := 63 },
  { base := 0x10030, stride := 0x100, first := 0, last := 63 },
  { base := 0x10034, stride := 0x100, first := 0, last := 63, w1c := 0xfff },
  { base := 0x10038, stride := 0x100, first := 0, last := 63, rc := 0xffffffff },
  { base := 0x1003c, stride := 0x100, first := 0, last := 63, rc := 0xffffffff },
  { base := 0x10040, stride := 0x100, first := 0, last := 63, rc := 0xffffffff },
  { base := 0x10044, stride := 0x100, first := 0, last := 63, rc := 0xffffffff },
  { base := 0x10048, stride := 0x100, first := 0, last := 63, rc := 0xffffffff },
  { base := 0x1004c, stride := 0x100, first := 0, last := 63, rc := 0xffffffff },
  { base := 0x10050, stride := 0x100, first := 0, last := 63, rw := 0x7f },
  { base := 0x10054, stride := 0x100, first := 0, last := 63, wo := 0xffffffff },
  { base := 0x10058, stride := 0x100, first := 0, last := 63, rw := 0x1, w1c := 0x10000, wo := 0x2 },
  { base := 0x1005c, stride := 0x100, first := 0, last := 63, rw := 0xffffffff },
  { base := 0x10060, stride := 0x100, first := 0, last := 63 },
  { base := 0x10064, stride := 0x100, first := 0, last := 63, rc := 0xffffffff },
  { base := 0x10068, stride := 0x100, first := 0, last := 63, rc := 0xffffffff },
  { base := 0x1006c, stride := 0x100, first := 0, last := 63 },
  { base := 0x10070, stride := 0x100, first := 0, last := 63 } ]

/-- The register map of the fabric region. -/
def fabricRegs : List RegDesc := [
  { base := 0x14000 },
  { base := 0x14004, rw := 0xffff03, reset := [0xa0003] },
  { base := 0x14008, words := 2, pair := true },
  { base := 0x14010 },
  { base := 0x14014, rw := 0xfffffff, reset := [0xff] },
  { base := 0x14018 },
  { base := 0x14020, words := 8 },
  { base := 0x14040, rw := 0xff },
  { base := 0x14044 },
  { base := 0x14048, rw := 0xf },
  { base := 0x1404c, rw := 0x87ff },
  { base := 0x14050, words := 2, pair := true },
  { base := 0x14058 },
  { base := 0x1405c, w1c := 0x2 },
  { base := 0x14060, words := 2, pair := true, rw := 0xffffffff },
  { base := 0x14068, wo := 0x3ff },
  { base := 0x1406c, w1c := 0x18 },
  { base := 0x14070, rw := 0x1fff },
  { base := 0x14074 },
  { base := 0x14078, rc := 0xffffffff },
  { base := 0x1407c, rc := 0xffffffff },
  { base := 0x14080, rc := 0xffffffff },
  { base := 0x14084, rc := 0xffffffff },
  { base := 0x14088, rc := 0xffffffff },
  { base := 0x1408c, w1c := 0x1 },
  { base := 0x14100, stride := 0x4, first := 0, last := 63, rw := 0xbfff },
  { base := 0x14200, stride := 0x4, first := 0, last := 63, rw := 0xbfff } ]

/-- The register map of the twin region. -/
def twinRegs : List RegDesc := [
  { base := 0x15000, rw := 0x7ffff3f, reset := [0x3c140c] },
  { base := 0x15004 },
  { base := 0x15008 },
  { base := 0x1500c },
  { base := 0x15010, words := 2, pair := true, rw := 0xffffffff },
  { base := 0x15018 },
  { base := 0x1501c },
  { base := 0x15020 },
  { base := 0x15024, rc := 0xffffffff },
  { base := 0x15028, rc := 0xffffffff },
  { base := 0x1502c, rc := 0xffffffff },
  { base := 0x15030, rc := 0xffffffff },
  { base := 0x15034, rc := 0xffffffff },
  { base := 0x15038, words := 2, pair := true },
  { base := 0x15040, words := 2, pair := true },
  { base := 0x15048 },
  { base := 0x1504c, wo := 0x3 },
  { base := 0x15050, w1c := 0x1f } ]

/-- The register map of the cycle region. -/
def cycleRegs : List RegDesc := [
  { base := 0x16000 },
  { base := 0x16004, rw := 0xf03, reset := [0x802] },
  { base := 0x16008, rw := 0xffffff },
  { base := 0x1600c, wo := 0x7 },
  { base := 0x16010, words := 2, pair := true, mw := [0xffffffc0, 0xffffffff] },
  { base := 0x16018, rw := 0x1ffffff },
  { base := 0x1601c },
  { base := 0x16020, words := 2, pair := true },
  { base := 0x16028, words := 2, pair := true },
  { base := 0x16030 },
  { base := 0x16034 },
  { base := 0x16038 },
  { base := 0x1603c, w1c := 0xf },
  { base := 0x16040 },
  { base := 0x16044, rc := 0xffffffff },
  { base := 0x16048, rc := 0xffffffff },
  { base := 0x1604c },
  { base := 0x16100, stride := 0x20, first := 0, last := 3 },
  { base := 0x16104, stride := 0x20, first := 0, last := 3 },
  { base := 0x16108, stride := 0x20, first := 0, last := 3 },
  { base := 0x1610c, stride := 0x20, first := 0, last := 3, rc := 0xffffffff },
  { base := 0x16110, stride := 0x20, first := 0, last := 3, rc := 0xffffffff },
  { base := 0x16114, stride := 0x20, first := 0, last := 3 },
  { base := 0x16118, stride := 0x20, first := 0, last := 3, rc := 0xffffffff } ]

/-- The register map of the kiln region. -/
def kilnRegs : List RegDesc := [
  { base := 0x17000, rw := 0x1 },
  { base := 0x17004 },
  { base := 0x17008, w1c := 0xf },
  { base := 0x1700c, wo := 0x7 },
  { base := 0x17010, rw := 0x1ff },
  { base := 0x17014 },
  { base := 0x17040, words := 16, mw := [0x3f7ff, 0xffffffff, 0xffffffff, 0xffffffff, 0xffffffff, 0xffffffff, 0xffffffff, 0xffffff, 0xffffffff, 0xffffffff, 0xffffffff, 0xffffffff, 0xffffffff, 0x0, 0x0, 0x0] },
  { base := 0x17080 },
  { base := 0x17084 },
  { base := 0x17088 },
  { base := 0x1708c },
  { base := 0x17090, words := 2, pair := true },
  { base := 0x17098 },
  { base := 0x1709c },
  { base := 0x17100, stride := 0x10, first := 0, last := 7, rw := 0x3ffff, reset := [0x14] },
  { base := 0x17104, stride := 0x10, first := 0, last := 7, rw := 0xffffff },
  { base := 0x17108, stride := 0x10, first := 0, last := 7 },
  { base := 0x1710c, stride := 0x10, first := 0, last := 7, rc := 0xffffffff },
  { base := 0x17200, rw := 0x1ffff, reset := [0x800] },
  { base := 0x17204, rw := 0xffffffff },
  { base := 0x17208, rw := 0xffffffff },
  { base := 0x1720c, rw := 0xffffffff, reset := [0x80000000] },
  { base := 0x17210, rw := 0xffffffff, reset := [0x7fffffff] },
  { base := 0x17214, rw := 0xffff, reset := [0x258] },
  { base := 0x17218 },
  { base := 0x1721c },
  { base := 0x17220 },
  { base := 0x17224 },
  { base := 0x17228 },
  { base := 0x1722c },
  { base := 0x17230 },
  { base := 0x17234, rw := 0xffffffff },
  { base := 0x17238, rw := 0xffffffff },
  { base := 0x1723c, rw := 0xffffffff } ]

/-- The register map of the sbus region. -/
def sbusRegs : List RegDesc := [
  { base := 0x18000, w1c := 0x7 },
  { base := 0x18004, rc := 0xffffffff },
  { base := 0x18100, stride := 0x100, first := 0, last := 1, rw := 0x1ff3f03, reset := [0x10000] },
  { base := 0x18104, stride := 0x100, first := 0, last := 1, rw := 0xffffff, reset := [0xf4240] },
  { base := 0x18108, stride := 0x100, first := 0, last := 1, rw := 0xfff0fff, reset := [0x960420] },
  { base := 0x1810c, stride := 0x100, first := 0, last := 1, rw := 0x3ff03ff, reset := [0x12c0000] },
  { base := 0x18110, stride := 0x100, first := 0, last := 1, rw := 0xfff0fff, reset := [0x25803e8] },
  { base := 0x18114, stride := 0x100, first := 0, last := 1, rw := 0x3ff, reset := [0xc8] },
  { base := 0x18118, stride := 0x100, first := 0, last := 1, rw := 0xfff, reset := [0xff] },
  { base := 0x1811c, stride := 0x100, first := 0, last := 1, rw := 0xff },
  { base := 0x18120, stride := 0x100, first := 0, last := 1, rw := 0x3f1f, reset := [0xf] },
  { base := 0x18124, stride := 0x100, first := 0, last := 1 },
  { base := 0x18128, stride := 0x100, first := 0, last := 1 },
  { base := 0x1812c, stride := 0x100, first := 0, last := 1 },
  { base := 0x18130, stride := 0x100, first := 0, last := 1 },
  { base := 0x18134, stride := 0x100, first := 0, last := 1, rc := 0xffffffff },
  { base := 0x18138, stride := 0x100, first := 0, last := 1, rc := 0xffffffff },
  { base := 0x1813c, stride := 0x100, first := 0, last := 1, rc := 0xffffffff },
  { base := 0x18140, stride := 0x100, first := 0, last := 1 },
  { base := 0x18144, stride := 0x100, first := 0, last := 1 },
  { base := 0x18148, stride := 0x100, first := 0, last := 1, rc := 0xffffffff },
  { base := 0x18150, words := 8, stride := 0x100, first := 0, last := 1, rc := 0xffffffff },
  { base := 0x18170, stride := 0x100, first := 0, last := 1, rc := 0xffffffff },
  { base := 0x18174, stride := 0x100, first := 0, last := 1, wo := 0xff },
  { base := 0x18178, stride := 0x100, first := 0, last := 1, rw := 0x3f, wo := 0x100 },
  { base := 0x1817c, stride := 0x100, first := 0, last := 1, rc := 0xffffffff },
  { base := 0x18180, words := 15, stride := 0x100, first := 0, last := 1, rw := 0xffffffff },
  { base := 0x181c0, words := 15, stride := 0x100, first := 0, last := 1 } ]

/-- The register map of the can region. -/
def canRegs : List RegDesc := [
  { base := 0x19000, stride := 0x400, first := 0, last := 3, rw := 0xf0f, wo := 0x10, reset := [0x4] },
  { base := 0x19004, stride := 0x400, first := 0, last := 3 },
  { base := 0x19008, stride := 0x400, first := 0, last := 3, rw := 0x7fffffff, reset := [0xa271405] },
  { base := 0x1900c, stride := 0x400, first := 0, last := 3, rw := 0x1f3f1f3f, reset := [0x5130501] },
  { base := 0x19010, stride := 0x400, first := 0, last := 3, rw := 0x17f },
  { base := 0x19014, stride := 0x400, first := 0, last := 3 },
  { base := 0x19018, stride := 0x400, first := 0, last := 3 },
  { base := 0x1901c, stride := 0x400, first := 0, last := 3, rc := 0xffffffff },
  { base := 0x19020, stride := 0x400, first := 0, last := 3, rc := 0xffffffff },
  { base := 0x19024, stride := 0x400, first := 0, last := 3, rc := 0xffffffff },
  { base := 0x19028, stride := 0x400, first := 0, last := 3, rc := 0xffffffff },
  { base := 0x1902c, stride := 0x400, first := 0, last := 3, rc := 0xffffffff },
  { base := 0x19030, stride := 0x400, first := 0, last := 3, w1c := 0xf },
  { base := 0x19034, stride := 0x400, first := 0, last := 3 },
  { base := 0x19038, words := 2, pair := true, stride := 0x400, first := 0, last := 3 },
  { base := 0x19040, words := 2, pair := true, stride := 0x400, first := 0, last := 3, w1c := 0xffffffff },
  { base := 0x19048, stride := 0x400, first := 0, last := 3 },
  { base := 0x1904c, stride := 0x400, first := 0, last := 3, rc := 0xffffffff },
  { base := 0x19100, stride := 0x400, first := 0, last := 3, wo := 0x833f },
  { base := 0x19104, words := 20, stride := 0x400, first := 0, last := 3, mw := [0x7fffffff, 0x1ff, 0xffffffff, 0xffffffff, 0xffffffff, 0xffffffff, 0xffffffff, 0xffffffff, 0xffffffff, 0xffffffff, 0xffffffff, 0xffffffff, 0xffffffff, 0xffffffff, 0xffffffff, 0xffffffff, 0xffffffff, 0xffffffff, 0x0, 0x0] },
  { base := 0x19200, words := 20, stride := 0x400, first := 0, last := 3 },
  { base := 0x19250, stride := 0x400, first := 0, last := 3, wo := 0x1 },
  { base := 0x19280, words := 20, stride := 0x400, first := 0, last := 3 },
  { base := 0x192d0, stride := 0x400, first := 0, last := 3, wo := 0x1 },
  { base := 0x19300, stride := 0x400, first := 0, last := 3, rw := 0x7f },
  { base := 0x19304, words := 3, stride := 0x400, first := 0, last := 3, mw := [0xbfffffff, 0x1fffffff, 0x1ff] },
  { base := 0x19310, stride := 0x400, first := 0, last := 3, wo := 0x3 } ]

/-- The register map of the eth region. -/
def ethRegs : List RegDesc := [
  { base := 0x1a000, rw := 0xffffff, reset := [0x800048] },
  { base := 0x1a004 },
  { base := 0x1a008, words := 2, pair := true },
  { base := 0x1a010 },
  { base := 0x1a014 },
  { base := 0x1a018, rw := 0xffff, reset := [0x1f4] },
  { base := 0x1a01c, rw := 0xffffffff, reset := [0x2710] },
  { base := 0x1a020, rw := 0xffff, reset := [0x64] },
  { base := 0x1a024, rw := 0xffffffff, reset := [0xea60] },
  { base := 0x1a028, rw := 0x3, reset := [0x2] },
  { base := 0x1a02c, rw := 0xffffffff, reset := [0x5f5e100] },
  { base := 0x1a030, rw := 0xffffffff },
  { base := 0x1a034, rc := 0xffffffff },
  { base := 0x1a038, w1c := 0x3 },
  { base := 0x1a100, stride := 0x80, first := 0, last := 1, rw := 0x3fff, reset := [0xa28] },
  { base := 0x1a104, stride := 0x80, first := 0, last := 1 },
  { base := 0x1a108, stride := 0x80, first := 0, last := 1, rw := 0xffffffff },
  { base := 0x1a10c, stride := 0x80, first := 0, last := 1, rw := 0xffffffff },
  { base := 0x1a110, stride := 0x80, first := 0, last := 1 },
  { base := 0x1a114, stride := 0x80, first := 0, last := 1 },
  { base := 0x1a118, words := 2, pair := true, stride := 0x80, first := 0, last := 1 },
  { base := 0x1a120, stride := 0x80, first := 0, last := 1, wo := 0x1 },
  { base := 0x1a124, stride := 0x80, first := 0, last := 1, rc := 0xffffffff },
  { base := 0x1a128, stride := 0x80, first := 0, last := 1, rc := 0xffffffff },
  { base := 0x1a12c, stride := 0x80, first := 0, last := 1, rc := 0xffffffff },
  { base := 0x1a130, stride := 0x80, first := 0, last := 1 },
  { base := 0x1a134, stride := 0x80, first := 0, last := 1 } ]

/-- The register map of the safe region. -/
def safeRegs : List RegDesc := [
  { base := 0x1b000, words := 64 },
  { base := 0x1b100 },
  { base := 0x1b104 },
  { base := 0x1b108 },
  { base := 0x1b10c },
  { base := 0x1b800, wo := 0xf },
  { base := 0x1b804, rw := 0xffffffff },
  { base := 0x1b808 },
  { base := 0x1b820, words := 8, rw := 0xffffffff } ]

/-- The register map of the loop region. -/
def loopRegs : List RegDesc := [
  { base := 0x1c000, rw := 0x1 },
  { base := 0x1c004 },
  { base := 0x1c008, w1c := 0x1 },
  { base := 0x1c100, stride := 0x20, first := 0, last := 7, rw := 0xf },
  { base := 0x1c104, stride := 0x20, first := 0, last := 7, rw := 0xffffffff },
  { base := 0x1c108, stride := 0x20, first := 0, last := 7, rw := 0xffff, reset := [0x1f40] },
  { base := 0x1c10c, stride := 0x20, first := 0, last := 7, rw := 0xffff, reset := [0x3e8] },
  { base := 0x1c110, stride := 0x20, first := 0, last := 7, w1c := 0x300 },
  { base := 0x1c114, stride := 0x20, first := 0, last := 7 },
  { base := 0x1c118, stride := 0x20, first := 0, last := 7 },
  { base := 0x1c11c, stride := 0x20, first := 0, last := 7, rc := 0xffffffff } ]

/-- The register map of the cask region. -/
def caskRegs : List RegDesc := [
  { base := 0x1d000 },
  { base := 0x1d004, rw := 0x3f01, reset := [0xa00] },
  { base := 0x1d008, wo := 0x7 },
  { base := 0x1d00c },
  { base := 0x1d010 },
  { base := 0x1d014 },
  { base := 0x1d018, words := 2, pair := true },
  { base := 0x1d020 },
  { base := 0x1d024 },
  { base := 0x1d028, rc := 0xffffffff },
  { base := 0x1d02c, rc := 0xffffffff },
  { base := 0x1d030 },
  { base := 0x1d034, words := 2, pair := true, rw := 0xffffffff },
  { base := 0x1d040, words := 16 },
  { base := 0x1d080, words := 4 },
  { base := 0x1d100, words := 40, rw := 0xffffffff },
  { base := 0x1d200, words := 64, rw := 0x80ffffff },
  { base := 0x1d400, words := 256, rw := 0x87ffffff } ]

/-- The register map of the sec region. -/
def secRegs : List RegDesc := [
  { base := 0x1e000 },
  { base := 0x1e004, wo := 0x7 },
  { base := 0x1e008 },
  { base := 0x1e00c },
  { base := 0x1e010 },
  { base := 0x1e014 },
  { base := 0x1e018 },
  { base := 0x1e01c },
  { base := 0x1e020, words := 2, pair := true },
  { base := 0x1e028 },
  { base := 0x1e02c },
  { base := 0x1e030, words := 2, pair := true, mw := [0xffffffc0, 0xffffffff] },
  { base := 0x1e038, rw := 0x1fffff },
  { base := 0x1e040, words := 2, pair := true },
  { base := 0x1e048, rw := 0x37 },
  { base := 0x1e04c },
  { base := 0x1e050 },
  { base := 0x1e054, rw := 0xff },
  { base := 0x1e058 },
  { base := 0x1e100, words := 8 },
  { base := 0x1e200, words := 8, rw := 0xffffffff },
  { base := 0x1e280, words := 4 },
  { base := 0x1e300, words := 96 },
  { base := 0x1e600, words := 64, rw := 0xffffffff } ]

/-- The register map of the op region. -/
def opRegs : List RegDesc := [
  { base := 0x1f000, w1c := 0x2 },
  { base := 0x1f004, wo := 0xbf0f },
  { base := 0x1f008, words := 4, rw := 0xffffffff },
  { base := 0x1f018 },
  { base := 0x1f01c },
  { base := 0x1f020, rc := 0xffffffff },
  { base := 0x1f024 } ]

/-- The register map of a region. -/
def Region.regs : Region → List RegDesc
  | .global => globalRegs
  | .host => hostRegs
  | .ctx => ctxRegs
  | .timePos => timePosRegs
  | .buf => bufRegs
  | .mash => mashRegs
  | .noz => nozRegs
  | .hlink => hlinkRegs
  | .fabric => fabricRegs
  | .twin => twinRegs
  | .cycle => cycleRegs
  | .kiln => kilnRegs
  | .sbus => sbusRegs
  | .can => canRegs
  | .eth => ethRegs
  | .safe => safeRegs
  | .loop => loopRegs
  | .cask => caskRegs
  | .sec => secRegs
  | .op => opRegs

/-- The instance and word of a row that an offset names, if it names one. -/
def RegDesc.hit (d : RegDesc) (off : Nat) : Option (Nat × Nat) :=
  if off < d.base || off % 4 != 0 then none else
  let r := off - d.base
  let n := if d.stride = 0 then 0 else r / d.stride
  let k := (if d.stride = 0 then r else r % d.stride) / 4
  if d.first ≤ n && n ≤ d.last && k < d.words then some (n, k) else none

/-- The row, instance and word of an offset; an offset that no row names is reserved (R38). -/
def findReg : List RegDesc → Nat → Option (RegDesc × Nat × Nat)
  | [], _ => none
  | d :: r, off => match d.hit off with
    | some (n, k) => some (d, n, k)
    | none => findReg r off

/-- The row of an offset of BAR0. -/
def regAt (off : Nat) : Option (RegDesc × Nat × Nat) := findReg (regionOf off).regs off

/-- The writable bits of word `k` of a row. -/
def RegDesc.rwOf (d : RegDesc) (k : Nat) : Word := if d.mw = [] then d.rw else d.mw.getD k 0

/-- The reset value of word `k` of instance `n` of a row; CASK_BKT's exceptions are those of R519. -/
def RegDesc.resetOf (d : RegDesc) (k : Nat) : Word :=
  if d.base = Reg.CASK_BKT 0 then
    (if k = 0x01 || k = 0x0A || k = 0x10 || k = 0x14 then 0x81000064 else 0x01000064)
  else match d.reset with
    | [] => 0
    | [v] => v
    | l => l.getD k 0

/-- The reset value of the word at an offset (R14); a reserved offset reads 0 (R15). -/
def resetWord (off : Nat) : Word :=
  match regAt off with
  | some (d, _, k) => d.resetOf k
  | none => 0

end Sys2Proof.Machine
end

