-- ==== Sys2Proof/Machine/SMap.lean ====
section
/-!
DEFINITION. Sparse banks and memories as plain data: a list of keys and values in one canonical form, keys strictly
rising and no entry equal to what an unlisted key reads as.
-/
namespace Sys2Proof.Machine

/-- A sparse map: pairs of a key and a value. -/
abbrev SMap (α : Type) := List (Nat × α)

/-- The entry listed at a key, if one is. -/
def SMap.find {α : Type} : SMap α → Nat → Option α
  | [], _ => none
  | (k, v) :: r, i => if i = k then some v else SMap.find r i

/-- What a key reads as: its entry, or the default `d`. -/
def SMap.get {α : Type} (m : SMap α) (d : α) (i : Nat) : α := (m.find i).getD d

/-- The map without the entries at a key. -/
def SMap.erase {α : Type} : SMap α → Nat → SMap α
  | [], _ => []
  | (k, v) :: r, i => if i = k then SMap.erase r i else (k, v) :: SMap.erase r i

/-- The map with an entry at a key. -/
def SMap.insert {α : Type} : SMap α → Nat → α → SMap α
  | [], i, x => [(i, x)]
  | (k, v) :: r, i, x => if i = k then (i, x) :: r else if i < k then (i, x) :: (k, v) :: r else (k, v) :: SMap.insert r i x

/-- The map that reads `x` at key `i`; a value equal to the default removes the entry. -/
def SMap.set {α : Type} [DecidableEq α] (m : SMap α) (d : α) (i : Nat) (x : α) : SMap α :=
  if x = d then m.erase i else m.insert i x

/-- Every key listed is above `b`, keys rise, and no entry equals its default. -/
def SMap.wfFrom {α : Type} [DecidableEq α] (d : Nat → α) : Option Nat → SMap α → Bool
  | _, [] => true
  | b, (k, v) :: r => (match b with | none => true | some j => decide (j < k)) && decide (v ≠ d k) && SMap.wfFrom d (some k) r

/-- The canonical form of a map whose unlisted key `i` reads `d i`. -/
def SMap.wf {α : Type} [DecidableEq α] (d : Nat → α) (m : SMap α) : Bool := SMap.wfFrom d none m

/-- The map without the keys of [lo, hi). -/
def SMap.dropRange {α : Type} (m : SMap α) (lo hi : Nat) : SMap α := m.filter (fun e => !(decide (lo ≤ e.1) && decide (e.1 < hi)))

/-- A byte memory: what is listed, in canonical form; an unlisted byte reads 0 (log entry 3). -/
abbrev Mem := SMap Byte

/-- One byte of a memory. -/
def Mem.byte (m : Mem) (a : Nat) : Byte := SMap.get m 0 a

/-- Write one byte. -/
def Mem.setByte (m : Mem) (a : Nat) (b : Byte) : Mem := SMap.set m 0 a b

/-- Write a string of bytes from an address upwards. -/
def Mem.write : Mem → Nat → List Byte → Mem
  | m, _, [] => m
  | m, a, b :: r => Mem.write (Mem.setByte m a b) (a + 1) r

/-- Read `n` bytes from an address upwards. -/
def Mem.read (m : Mem) (a n : Nat) : List Byte := (List.range n).map (fun i => m.byte (a + i))

/-- The word at a byte address, little-endian (R10). -/
def Mem.word (m : Mem) (a : Nat) : Word :=
  (m.byte (a + 3)) ++ (m.byte (a + 2)) ++ (m.byte (a + 1)) ++ (m.byte a)

/-- The canonical form of a memory (keys rise, no listed zero). -/
def Mem.wf (m : Mem) : Bool := SMap.wf (fun _ => 0) m

end Sys2Proof.Machine
end

