-- ==== Sys2Proof/Machine/State.lean ====
section
/-!
DEFINITION. The state of the TPN-6463 as plain data: the registers, every memory, queue, counter and mode the chapters
give the blocks, the queue of waiting commands, and the model's log of what left the part. Every structure's default
values are its reset values, so that `State.reset` is the structure of all defaults.
-/
namespace Sys2Proof.Machine

/-- Why the machine stops: for no reason. The manual has no condition in which the part stops taking commands; a host error (R17)
leads to a state of which R18 and R19 say what holds (`State.hostError`). -/
inductive Fault where
deriving DecidableEq, Repr

/-- Why a command has no meaning. -/
inductive Refusal where
  /-- The command's meaning is not written. Raised by an arm of `exec` only; safe. -/
  | notModelled (mnemonic : String)
deriving DecidableEq, Repr

/-- A fabric packet (R277, R278): the fields of its START and its data blocks. -/
structure Packet where
  tc    : BitVec 2
  dest  : BitVec 8
  src   : BitVec 8
  typ   : BitVec 6
  alt   : Bool
  hops  : BitVec 5
  seq   : BitVec 16
  data  : List DWord
  /-- its END has BAD = 1, or its CRC does not match -/
  bad   : Bool := false
deriving DecidableEq, Repr, Inhabited

/-- What leaves the part, as the model records it: the newest first in `State.out`. -/
inductive Emit where
  /-- an MSI-X message of PF0 or PF1 -/
  | msix (pf1 : Bool) (vec : Nat)
  /-- a read request to host memory: address, bytes, and its Relaxed Ordering attribute (R81) -/
  | hostRead (addr : Nat) (len : Nat) (ro : Bool)
  /-- an error reported through Advanced Error Reporting -/
  | aer (kind : PcieErr)
  /-- blocks sent on a head link -/
  | hlBlocks (ch : Nat) (blocks : List Block)
  /-- blocks sent on a fabric port -/
  | fabBlocks (port : Nat) (blocks : List Block)
  /-- a GPIO driven to a level -/
  | gpio (pin : Nat) (level : Bool)
  /-- a current-loop channel's drive: none is off, else the target in 0.5 µA -/
  | loopDrive (ch : Nat) (target : Option Nat)
  /-- a Station Bus frame launched -/
  | sbFrame (ch : Nat) (branches : BitVec 8) (groups : List CodeGroup)
  /-- a frame of a branch forwarded by the star to every other enabled branch -/
  | sbForward (ch : Nat) (branches : BitVec 8) (groups : List CodeGroup)
  /-- H code-groups sent as an abort on the named branches -/
  | sbAbort (ch : Nat) (mask : Nat)
  /-- a CAN frame handed to the bus -/
  | canFrame (n : Nat) (f : CanFrame)
  /-- an Ethernet frame sent -/
  | ethFrame (m : Nat) (frame : List Byte)
  /-- an Ethernet frame passed to firmware with its stamp -/
  | ethToFirmware (m : Nat) (frame : List Byte) (stamp : Option DWord)
  /-- PPS_OUT driven to a level -/
  | pps (level : Bool)
  /-- the safe outputs driven: half A and half B of OUT0 to OUT7 -/
  | safeOut (a b : Byte)
  /-- the data that a read of BAR0 or, from offset 0x20000, of BAR2 returns -/
  | readData (pf1 : Bool) (off : Nat) (value : Word)
deriving DecidableEq, Repr

/-- The time base (R59 to R64): COUNT, INCR in 8.40, OFFSET in 2^-40 ns, and S in 10^-6 × 2^-40 ns. -/
structure TimeBase where
  count    : DWord := 0
  incr     : BitVec 48 := 0x10000000000
  offset   : Int := 0
  slew     : Nat := 0
  /-- time-base count at which the first arming key was written -/
  armKey   : Option DWord := none
  /-- time-base count at which arming took effect -/
  armed    : Option DWord := none
  /-- TB_STATUS.HOLDOVER -/
  holdover : Bool := false
deriving DecidableEq, Repr, Inhabited

/-- An encoder decoder (R41 to R43). -/
structure Enc where
  a      : Bool := false
  b      : Bool := false
  z      : Bool := false
  count  : Word := 0
  /-- count at the reference Z edge of the next check -/
  zref   : Option Word := none
  movedUp : Bool := false
  movedDn : Bool := false
deriving DecidableEq, Repr

/-- The states of a position reference (R49). -/
inductive PState where
  | off | acquire1 | acquire2 | tracking | stopped | coast | invalid
deriving DecidableEq, Repr

/-- A position sample received from the fabric or the twin partner (R55, R56). -/
structure PSample where
  /-- the source it came from: PREF_FAB [9:0] of a FABRIC source -/
  src   : Nat := 0
  p     : DWord := 0
  v     : DWord := 0
  /-- corrected time of the source's frame boundary (fabric) or its frame number (twin) -/
  stamp : DWord := 0
  state : PState := .off
deriving DecidableEq, Repr

/-- A position reference (R44 to R58): p, m in 2^-32 line and v in 2^-48 line per ns, all as int64 words. -/
structure Pref where
  state  : PState := .off
  pos    : BitVec 48 := 0
  acc    : Nat := 0
  p      : DWord := 0
  v      : DWord := 0
  tk     : DWord := 0
  mlast  : DWord := 0
  /-- direction of the last accepted edge, true for forward -/
  dir    : Option Bool := none
  /-- the encoder's count at the source fault (R52) -/
  fcount : Word := 0
  /-- the frame sample S_b (R53), and the number of the frame that begins at its boundary -/
  sp     : DWord := 0
  sv     : DWord := 0
  sf     : DWord := 0
  /-- the latest accepted sample of a FABRIC or TWIN source -/
  sample : Option PSample := none
  /-- a sample was accepted in the frame in progress, and whole frames since one was -/
  got    : Bool := false
  missed : Nat := 0
  /-- it coasts after PREF_SAMPLE_LOSS, and takes no further sample before a RESYNC (R52, R57) -/
  lossCoast : Bool := false
  /-- a TWIN source that runs on its own estimator -/
  own    : Bool := false
  /-- state, position, velocity and time-base count of the sample that a following PREF applies (R55, R56, R58) -/
  fstate : PState := .acquire1
  fp     : DWord := 0
  fv     : DWord := 0
  ftk    : DWord := 0
deriving DecidableEq, Repr

/-- A scheduler entry (R65) and its status (R76). -/
structure SchedEntry where
  w0      : Word := 0
  w1      : Word := 0
  w2      : Word := 0
  w3      : Word := 0
  late    : Bool := false
  /-- the trigger was already passed when it was set: the next firing is LATE (R69) -/
  passed  : Bool := false
  firings : BitVec 16 := 0
deriving DecidableEq, Repr

/-- A GPIO pulse that has not ended (R576): the level to return to and when (time-base count). -/
structure Pulse where
  back : Bool := false
  endAt : DWord := 0
deriving DecidableEq, Repr

/-- A capture unit (R71): the captured pair and the pair latched for reading. -/
structure Cap where
  valid   : Bool := false
  time    : DWord := 0
  pos     : BitVec 48 := 0
  /-- the position of the pair latched for reading, which CAP_POS shows -/
  rpos    : BitVec 48 := 0
deriving DecidableEq, Repr

/-- PRINT_INHIBIT# (R72, R73). -/
structure Inhibit where
  /-- the input is low -/
  low    : Bool := false
  latch  : Bool := false
  /-- time-base count at which the latch last set, and those between which it was set before, newest first -/
  setAt  : DWord := 0
  past   : List (DWord × DWord) := []
  /-- time-base count at which the input last returned high -/
  riseAt : DWord := 0
  /-- RESUME written since the input last returned high -/
  resumed : Bool := false
deriving DecidableEq, Repr, Inhabited

/-- The frame grid (R33): number of the current frame, count of the next boundary, SYSREF seen. -/
structure FrameGrid where
  number : DWord := 0
  next   : DWord := 0
  /-- phase of the dot-clock and time-base dividers: how far behind the tick of a boundary its SYSREF edge came, in sixths of a ns -/
  phase  : Nat := 0
  /-- a SYSREF edge has aligned the grid -/
  aligned : Bool := false
  /-- the grid is to be realigned at the next SYSREF edge -/
  realign : Bool := false
deriving DecidableEq, Repr, Inhabited

/-- Position, time and the scheduler. -/
structure PosTime where
  enc    : SMap Enc := []
  pref   : SMap Pref := []
  sched  : SMap SchedEntry := []
  gpio   : BitVec 16 := 0
  pulses : SMap (Option Pulse) := []
  cap    : SMap Cap := []
  pi     : Inhibit := {}
  frame  : FrameGrid := {}
  /-- loss of lock of the PLLs, by number 1 to 5 of R36 -/
  unlocked : List Pll := []
  /-- time-base count at which the dot clock stopped, and the estimators with it (R35) -/
  dotStop : DWord := 0
deriving DecidableEq, Repr, Inhabited

/-- A completion that is due (R97); SLACK, TIME and PHASE are those of posting. -/
structure Compl where
  op     : Nat := 0
  status : Nat := 0
  tag    : Nat := 0
  sqCi   : Nat := 0
  pageId : Word := 0
  late   : Word := 0
  ecc    : Word := 0
  blank  : Word := 0
  inhib  : Word := 0
  clip   : Word := 0
  irq    : Bool := false
deriving DecidableEq, Repr

/-- A context's submit and completion rings (R87 to R100). -/
structure CtxRing where
  sqPi   : Nat := 0
  sqCi   : Nat := 0
  cqPi   : Nat := 0
  cqCi   : Nat := 0
  phase  : Bool := true
  held   : List Compl := []
  /-- completions discarded in the full-ring episode in force (R99) -/
  lost   : Nat := 0
  posted : Nat := 0
  first  : Option DWord := none
deriving DecidableEq, Repr

/-- The event ring (R104, R105). -/
structure EvtRing where
  pi     : Nat := 0
  ci     : Nat := 0
  phase  : Bool := true
  seq    : Word := 0
  lost   : Nat := 0
  posted : Nat := 0
  first  : Option DWord := none
deriving DecidableEq, Repr, Inhabited

/-- The operation port beside its registers (R107 to R113): what the running operation still needs. -/
structure OpRun where
  /-- time-base count of the OP_CMD write -/
  start  : DWord := 0
  irq    : Bool := false
  vec    : Nat := 0
  /-- result of start checks that failed -/
  fail   : Option Nat := none
  /-- the operation still has host-memory transfers to make (R85) -/
  transfers : Bool := false
  /-- CASK_EXPORT put recording under a freeze of its own -/
  froze  : Bool := false
  /-- SEQ from which CASK_EXPORT stops (records held at its start) -/
  seqEnd : Nat := 0
deriving DecidableEq, Repr

/-- What a read of host memory fetches (R81): the data of a tile or a table of a context, by the number of its descriptor, or the data of
an operation, a program load or a FW_STAGE. -/
inductive RdOwner where
  | tile (ctx id : Nat)
  | table (ctx id : Nat)
  | op | program | firmware
deriving DecidableEq, Repr

/-- A read request (R81, R577) that has no answer yet, or has not been issued. -/
structure HostRd where
  owner : RdOwner := .op
  addr  : Nat := 0
  len   : Nat := 0
  ro    : Bool := false
  sent  : Bool := false
deriving DecidableEq, Repr

/-- The host interface. -/
structure HostIf where
  /-- Bus Master Enable of PF0 and of PF1 is clear (log entry 6) -/
  bmeOff0 : Bool := false
  bmeOff1 : Bool := false
  /-- MSI-X table words of each function, by vector × 4 + word, and the Pending Bit Arrays (log entry 7) -/
  msix0   : SMap Word := []
  msix1   : SMap Word := []
  pba0    : BitVec 64 := 0
  pba1    : BitVec 64 := 0
  mgmtPi  : Nat := 0
  mgmtCi  : Nat := 0
  evt     : EvtRing := {}
  ring    : SMap CtxRing := []
  op      : Option OpRun := none
  /-- read requests, oldest first -/
  reads   : List HostRd := []
deriving DecidableEq, Repr, Inhabited

/-- A Cask record (R501) without its CRC, which `CaskRec.bytes` forms. -/
structure CaskRec where
  seq   : Nat := 0
  time  : DWord := 0
  code  : Nat := 0
  ctx   : Nat := 0
  flags : Nat := 0
  boot  : Word := 0
  args  : List Word := []
  epoch : Word := 0
  addr  : Nat := 0
deriving DecidableEq, Repr

/-- A slot of the MRAM record areas (R502, R508). -/
inductive CaskSlot where
  | zero
  | held (r : CaskRec)
  | torn
deriving DecidableEq, Repr

/-- A token bucket (R510): tokens taken since it was full, and what it suppressed. -/
structure Bucket where
  used  : Nat := 0
  suppr : Nat := 0
  first : Nat := 0
  last  : Nat := 0
  /-- time-base count of the last gain -/
  gain  : Option DWord := none
deriving DecidableEq, Repr

/-- A freeze in force (R511). -/
structure Freeze where
  /-- time-base count at which it came into force -/
  since  : DWord := 0
  missed : Nat := 0
  first  : Nat := 0
  last   : Nat := 0
  /-- made by CASK_EXPORT (R513) -/
  byOp   : Bool := false
deriving DecidableEq, Repr

/-- The Cask recorder (R501 to R520). -/
structure Cask where
  /-- SEQ of the next record -/
  seq      : Nat := 0
  boot     : Word := 0
  clearCnt : Word := 0
  staging  : List CaskRec := []
  /-- how many of them, the last ones, were raised after step 3 of R507 -/
  late     : Nat := 0
  mram     : SMap CaskSlot := []
  /-- the committed write index: SEQ of the first record not flushed -/
  wIdx     : Nat := 0
  /-- lowest SEQ that the circulating area can hold: raised by a clear -/
  circFrom : Nat := 8192
  overflow : Nat := 0
  buckets  : SMap Bucket := []
  /-- a flush is in progress -/
  flushing : Bool := false
  /-- a CASK_CMD FLUSH waits for the flush to end -/
  flushCmd : Bool := false
  /-- a freeze is requested and not yet in force -/
  freezeReq : Bool := false
  freeze   : Option Freeze := none
  /-- the in-progress marker of a clear, with the fingerprint (R516) -/
  marker   : Option (List Word) := none
  /-- a clear is zeroing the circulating area -/
  clearing : Bool := false
  nonce    : Option (List Byte × DWord) := none
  /-- a summary fell due during the freeze (R517) -/
  deferred : Bool := false
deriving DecidableEq, Repr, Inhabited

/-- The states of a print context (R122), by code. -/
inductive CtxState where
  | idle | armed | running | draining | halted
deriving DecidableEq, Repr

/-- A sequencer input in its queue (R133). -/
structure SeqIn where
  stamp : DWord := 0
  code  : Nat := 0
deriving DecidableEq, Repr

/-- The pixels that a tile places on its page (R156, R171): a Mash plane, and columns and lines from a corner on. -/
structure Area where
  mplane : Nat := 0
  x0     : Nat := 0
  y0     : Nat := 0
  width  : Nat := 0
  lines  : Nat := 0
deriving DecidableEq, Repr

/-- A page or a BLANK range that a context has read (R129, R130). -/
structure Item where
  id      : Nat := 0
  page    : Bool := true
  /-- START_LINE of the PAGE descriptor -/
  start   : Word := 0
  /-- the first line, once known -/
  first   : Option Word := none
  count   : Nat := 0
  pageId  : Word := 0
  width   : Nat := 0
  tset    : Nat := 0
  anchored : Bool := false
  delay   : Nat := 0
  /-- Y0 of the last TILE descriptor read for this page (R157) -/
  lastY0  : Nat := 0
  /-- Mash planes that a tile of the page has used, and whether with the drop-code depth (R158) -/
  planes  : List (Nat × Bool) := []
  /-- what its tiles that have arrived place on it -/
  areas   : List Area := []
  /-- its TSET has been applied (R181) -/
  tsetOn  : Bool := false
  /-- a later descriptor that is no TILE of this page has been read (R157) -/
  closed  : Bool := false
  started : Bool := false
  ended   : Bool := false
deriving DecidableEq, Repr

/-- A descriptor that was read and whose completion has not been posted, in submit order (R91). -/
structure InFlight where
  id     : Nat := 0
  compl  : Bool := false
  /-- completed, with the STATUS -/
  status : Option Nat := none
  entry  : Compl := {}
deriving DecidableEq, Repr

/-- A table copy in progress (R136). -/
structure TableCopy where
  id   : Nat := 0
  kind : Nat := 0
  inst : Nat := 0
  tset : Nat := 0
  dest : Nat := 0
  len  : Nat := 0
  addr : DWord := 0
deriving DecidableEq, Repr

/-- A directory entry of a table region (R136). -/
structure DirEntry where
  kind : Nat := 0
  inst : Nat := 0
  tset : Nat := 0
  dest : Nat := 0
  len  : Nat := 0
deriving DecidableEq, Repr

/-- A completed load of a pair that waits for its apply frame (R311): its descriptor, entry and sequencer table. -/
structure TabWait where
  id  : Nat := 0
  e   : DirEntry := {}
  seq : Option (List (Word × Word)) := none
deriving DecidableEq, Repr

/-- How far a tile has come: queued, in fetch, or whole in the ingest area. -/
inductive TileState where
  | waiting | fetching | resident | failed
deriving DecidableEq, Repr

/-- A Grist tile in decode (R170): tile lines decoded, bit position of the stream, predictor in force, pixels left of the token in
progress and their width, and the previous tile line. -/
structure TileDec where
  line : Nat := 0
  pos  : Nat := 0
  mode : Nat := 0
  left : Nat := 0
  w    : Nat := 0
  prev : List Nat := []
deriving DecidableEq, Repr

/-- A tile from its descriptor to the decoding of its last line (R139, R160, R170). -/
structure Tile where
  /-- of its descriptor in flight, and of its page -/
  id     : Nat := 0
  item   : Nat := 0
  state  : TileState := .waiting
  addr   : DWord := 0
  len    : Nat := 0
  plane  : Nat := 0
  format : Nat := 0
  x0     : Nat := 0
  y0     : Nat := 0
  /-- place in the ingest area: offset and size in whole units of 64 bytes -/
  off    : Nat := 0
  size   : Nat := 0
  /-- the eight header words and the three used words of the format entry copied with the tile -/
  hdr    : List Word := []
  fmt    : List Word := []
  /-- Mash plane (R159) -/
  mplane : Nat := 0
  /-- how far it has been decoded -/
  dec    : TileDec := {}
  /-- tile line from which an uncorrectable word blanks the tile (R148) -/
  blank  : Option Nat := none
deriving DecidableEq, Repr

/-- A line between its deadline and its firing (R143, R181, R195). -/
structure LineWork where
  line  : Word := 0
  /-- the page that holds it, if one does -/
  item  : Option Nat := none
  /-- late: fires nothing (R143, R196) -/
  late  : Bool := false
  /-- late because its codes were not complete (R196) -/
  behind : Bool := false
  tset  : Nat := 0
  /-- the tables in force at the deadline (R181) -/
  tabs  : List DirEntry := []
  /-- the tile lines decoded for it, by the tile's number: delivered values (R161, R170) -/
  px    : List (Nat × List Nat) := []
  /-- channels whose lane has screened it, with their codes by screened index -/
  codes : List (Nat × List Nat) := []
  /-- channels that have compensated it -/
  comp  : List Nat := []
  /-- the channel whose lane finished last -/
  lastCh : Nat := 0
deriving DecidableEq, Repr

/-- A slot given to a frame (R53): its line, frame and fine offset. -/
structure FireSlot where
  line  : Word := 0
  frame : DWord := 0
  fine  : Nat := 0
  late  : Bool := false
  /-- late because its codes were not complete (R196) -/
  behind : Bool := false
deriving DecidableEq, Repr

/-- A halt that has been requested and has not taken effect (R126). -/
structure HaltReq where
  cause : Nat := 0
  /-- time-base count at which the cause arose -/
  since : DWord := 0
  /-- waits for the last line of this page -/
  pageEnd : Option Nat := none
deriving DecidableEq, Repr

/-- A print context (R120 to R154). -/
structure Ctx where
  state    : CtxState := .idle
  cause    : Nat := 0
  lastLine : Word := 0
  startPend : Bool := false
  /-- the frame at whose boundary a pending START takes effect, or a later one -/
  startAt  : DWord := 0
  /-- a DRAIN was given: producer index recorded (R125), and whether from ARMED -/
  drain    : Option Nat := none
  drainArmed : Bool := false
  /-- a DRAIN of a pair, and a sequencer table, that wait for the first line boundary at or after their apply frame (R311) -/
  drainPend : Option Nat := none
  seqLine  : Option (List (Word × Word)) := none
  halt     : Option HaltReq := none
  seqState : Nat := 0
  seqFlags : BitVec 16 := 0
  seqCount : Nat := 0
  seqQ     : List SeqIn := []
  /-- program flags as the last output write left them (R346) -/
  pflags   : BitVec 16 := 0
  /-- entries of the sequencer table in force, two words each -/
  seqTab   : List (Word × Word) := []
  seqPend  : Option (List (Word × Word)) := none
  items    : List Item := []
  nextId   : Nat := 0
  flight   : List InFlight := []
  copies   : List TableCopy := []
  tiles    : List Tile := []
  lines    : List LineWork := []
  slots    : List FireSlot := []
  /-- highest line whose deadline has passed, once START fixed the last line fired -/
  upto     : Option Word := none
  tset     : Nat := 0
  tsetPend : Option Nat := none
  /-- directory changes of completed loads that wait for the next line boundary -/
  dirPend  : List DirEntry := []
  tabWait  : List TabWait := []
  lowEp    : Bool := false
  critEp   : Bool := false
  lateRun  : Bool := false
  behindRun : Bool := false
  /-- the nozzle tables of ARM are being loaded (R208) -/
  nozLoad  : Bool := false
  nozRefs  : List DirEntry := []
  /-- NOZ_CH_SWCTL.TSET of its channels at ARM, by channel -/
  nozTsets : List (Nat × Nat) := []
  /-- the ARM load found a table missing -/
  nozFail  : Bool := false
  /-- the page in progress -/
  pageId   : Word := 0
deriving DecidableEq, Repr

/-- The buffer memory and its controller (R137 to R149). -/
structure Buffer where
  /-- the data that the words decode to, but for what `flips` makes uncorrectable -/
  mem    : Mem := []
  /-- by word: the bits in which the stored codeword differs from that of the word's data and check bytes (R22, R146) -/
  flips  : SMap Code304 := []
  /-- the directory of each context's table region (R136; log entry 34) -/
  dirs   : SMap (List DirEntry) := []
  /-- BUF_STATUS.READY -/
  ready  : Bool := false
  /-- next word of the scrub pass -/
  scrub  : Nat := 0
deriving DecidableEq, Repr, Inhabited

/-- A Mash lane: the errors of the last diffused lines, newest first (R188 to R191). -/
structure Lane where
  hist : List (Word × List Int) := []
  /-- the last line screened -/
  last : Option Word := none
  /-- the newest line in the row-delay line, and its place in that circular store -/
  rowLine : Option Word := none
  rowIdx  : Nat := 0
deriving DecidableEq, Repr

/-- One copy of a channel's nozzle tables (R208). -/
structure NozTabs where
  tset   : Nat := 0
  /-- the trim bank that holds its fractions (R246, R247) -/
  bank   : Bool := false
  map    : List Word := []
  cls    : List Word := []
  stitch : List Byte := []
deriving DecidableEq, Repr

/-- The nozzle tables of a channel (R208 to R211, R220). -/
structure NozCh where
  /-- the copies in force and before, newest first, each with the line from which it governs -/
  maps    : List (Option Word × NozTabs) := []
  pending : Option NozTabs := none
  /-- a fetch is in progress: the directory entries it reads, the context and the table set -/
  fetch   : Option (List DirEntry × Nat × Nat) := none
  ready   : Bool := false
  /-- the last line whose screening had started when PENDING_READY set (R210) -/
  after   : Option Word := none
  /-- the last slot whose image has been built since ARM -/
  built   : Option Word := none
deriving DecidableEq, Repr

/-- The states of a head link (R252), in code order. -/
inductive HlState where
  | off | train | cal | load | up | fault
deriving DecidableEq, Repr

/-- The image of one slot of a channel (R236, R237). -/
structure HlImage where
  line    : Word := 0
  /-- data blocks, then bank-map blocks -/
  blocks  : List DWord := []
  bankmap : Bool := false
  bank    : Bool := false
  /-- time-base count at which the image became ready -/
  readyAt : DWord := 0
  /-- next block to send -/
  next    : Nat := 0
  begun   : Bool := false
  sent    : Bool := false
  /-- the window in which its slot fires, once its token is placed -/
  window  : Option DWord := none
deriving DecidableEq, Repr

/-- A fire token that waits for its frame (R238): slot line, window W, fine offset, line period. -/
structure HlToken where
  line   : Word := 0
  window : DWord := 0
  fine   : Nat := 0
  period : Nat := 0
deriving DecidableEq, Repr

/-- A trim bank upload (R245, R246). -/
structure TrimUpload where
  bank   : Bool := false
  fracs  : List Nat := []
  next   : Nat := 0
  /-- of a pending copy: PENDING_READY waits for it -/
  forSwitch : Bool := false
  /-- the upload of ARM: slots fire from its end on -/
  arm    : Bool := false
deriving DecidableEq, Repr

/-- A downstream frame that has been formed and has not left wholly (R233, R239): its image area, service area and token as the scheduler
placed them. -/
structure TxFrame where
  number : DWord := 0
  phase  : Nat := 0
  img    : List Block := []
  svc    : List Block := []
  token  : Option HlToken := none
  /-- the link's state at the frame's boundary -/
  state  : HlState := .off
deriving DecidableEq, Repr

/-- A head link and its channel's stream (R228 to R273). -/
structure Hl where
  state   : HlState := .off
  lock    : Bool := false
  /-- time-base count at which the training step, UP or FAULT began -/
  since   : DWord := 0
  /-- HL_CTRL.EN was cleared: OFF at the next frame boundary -/
  leaving : Bool := false
  capOk   : Bool := false
  hfix    : Nat := 0
  calSeq  : Nat := 0
  /-- R − HT of the exchanges of the calibration, 1/16 ns -/
  cal     : List Int := []
  d       : Int := 0
  adv     : Int := 0
  /-- D of a calibration that waits for UP, with its ADV (R255) -/
  newLat  : Option (Int × Int) := none
  hstate  : Nat := 0
  loaded  : Bool := false
  images  : List HlImage := []
  tokens  : List HlToken := []
  /-- the line of the last slot whose token was taken into a frame since the channel's context was armed -/
  took    : Option Word := none
  lateRun : Bool := false
  /-- the first trim upload after ARM has completed (R238) -/
  trimReady : Bool := false
  uploads : List TrimUpload := []
  bank    : Bool := false
  /-- fractions uploaded to each bank since reset, none when the bank is not in use (R267) -/
  bank0   : Option (List Nat) := none
  bank1   : Option (List Nat) := none
  /-- the reload of R267: its TAG and the waveform addresses still to send in the LOAD state -/
  reload  : Option (Word × List Nat) := none
  wstage  : List (Nat × Word) := []
  wnext   : Nat := 0
  shadow  : SMap Word := []
  /-- HL_WDONE takes the slot of the next token sent after this frame -/
  wdone   : Option DWord := none
  /-- the armed set has been found late (R242) -/
  wlate   : Bool := false
  /-- frames formed, oldest first, and the time-base counts of the kill symbols that no block has carried yet -/
  txq     : List TxFrame := []
  kills   : List DWord := []
  health  : List (BitVec 16) := []
  badRun  : Nat := 0
  dmissRun : Bool := false
  wired   : Bool := false
  used    : Bool := false
  /-- round-trip values of the background exchanges, newest first (R256) -/
  lat     : List Int := []
  sinceCal : Nat := 0
  drift   : Bool := false
  /-- calibrated and waiting for the frame boundary at which the link enters UP (R255) -/
  upPend  : Bool := false
  /-- a background exchange is outstanding (R256) -/
  latOut  : Bool := false
  /-- a run of return frames with MISMATCH (R326) -/
  mmRun   : Bool := false
deriving DecidableEq, Repr

/-- A fabric port (R276, R280). -/
structure FabPort where
  /-- block lock is held -/
  lock    : Bool := false
  /-- the port is UP, or joined to the device itself (LOOP) -/
  up      : Bool := false
  loop    : Bool := false
  /-- serial in the LINK pairs of the neighbour -/
  nbr     : DWord := 0
  /-- blocks that the next device's input buffers of TC1, TC2 and TC3 can still take: 32 KiB each at UP -/
  credit1 : Nat := 4096
  credit2 : Nat := 4096
  credit3 : Nat := 4096
  /-- CREDIT blocks that wait for the end of a packet -/
  ctl     : List Block := []
  /-- TC0 packets that wait at the output, each with the earliest time at which it may leave (R281), and packets of TC1 to TC3 with the
  port on which they came; oldest first -/
  wait0   : List (Nat × Packet) := []
  wait    : List (Packet × Option Nat) := []
  /-- the blocks not yet sent of the packet of TC1 to TC3 in transmission -/
  cur     : List Block := []
  /-- packets of TC2 sent since the last of TC3 -/
  run2    : Nat := 0
  /-- when the block or the packet last given to the line has left, in 10 ps of time-base count -/
  line    : Nat := 0
  /-- blocks of TC1 to TC3 received for which no credit has been returned: fewer than 8 of each -/
  owed1   : Nat := 0
  owed2   : Nat := 0
  owed3   : Nat := 0
  /-- when the TC0 packets queued at the output will have left, in 10 ps of time-base count -/
  busy    : Nat := 0
  /-- TC0 packets in the input buffer: when each has left, and its blocks -/
  tc0     : List (Nat × Nat) := []
deriving DecidableEq, Repr

/-- A discovery in progress on the device (R285). -/
structure Disc where
  start   : DWord := 0
  /-- when a HELLO with a new serial last arrived -/
  newAt   : DWord := 0
  helloAt : DWord := 0
  /-- the HELLOs seen, by serial: their blocks -/
  hellos  : List (DWord × List DWord) := []
  coord   : Option DWord := none
  /-- the coordinator's ROUTE contents and the serials that have not acknowledged -/
  routes  : List (List DWord) := []
  unacked : List DWord := []
  routeAt : DWord := 0
  /-- addresses named by the ROUTEs seen, by serial -/
  addrs   : List (DWord × Nat) := []
  /-- the pending address and table -/
  mine    : Option (Nat × List (BitVec 16)) := none
  /-- DONE: generation and T_sw -/
  done    : Option (Word × DWord) := none
  conflict : Bool := false
deriving DecidableEq, Repr

/-- A fabric-wide snapshot that is armed (R293). -/
structure SnapArm where
  time   : DWord := 0
  tag    : Nat := 0
  origin : Nat := 0
deriving DecidableEq, Repr

/-- The fabric (R274 to R300). -/
structure Fabric where
  addr   : Nat := 0
  port   : SMap FabPort := []
  /-- active route entries by destination -/
  route  : SMap (BitVec 16) := []
  nodes  : Nat := 0
  /-- serial and address of the coordinator -/
  coord  : Option DWord := none
  coordAddr : Nat := 0
  disc   : Option Disc := none
  /-- addresses by serial, as the last discovery left them -/
  addrs  : List (DWord × Nat) := []
  /-- the devices whose HELLO reported unit B -/
  unitsB : List DWord := []
  /-- next SEQ of each class -/
  seq    : SMap (BitVec 16) := []
  /-- the last 64 SEQ values of each source and class: key 4 × source + class -/
  seen   : SMap (List (BitVec 16)) := []
  /-- the same for packets from address 0, told apart by serial (R288) -/
  seen0  : List (DWord × Nat × BitVec 16) := []
  beaconTx : DWord := 0
  beaconRx : DWord := 0
  lost   : Bool := false
  /-- when HOLD ends without a further TOPO_CHANGE -/
  hold   : Option DWord := none
  unreach : List Nat := []
  /-- a requested FABRIC_REDISCOVER has ended with its discovery -/
  opEnded : Bool := false
  arm    : Option SnapArm := none
  /-- the shadow registers of the snapshot (R294) -/
  shadow : SMap Word := []
  taken  : BitVec 16 := 0
deriving DecidableEq, Repr, Inhabited

/-- The twin roles (R302). -/
inductive Role where
  | off | standby | active
deriving DecidableEq, Repr, Inhabited

/-- What a CTX message names (R307, R311), with its apply frame in the active's numbering. -/
structure TwinAct where
  frame : Word := 0
  ctx   : Nat := 0
  kind  : Nat := 0
  cmd   : Nat := 0
  pi    : Nat := 0
  /-- descriptor in flight whose table takes effect, on this unit -/
  id    : Option Nat := none
  key   : Nat := 0
deriving DecidableEq, Repr

/-- Sequencer inputs that act at a frame boundary (R310). -/
structure TwinSeq where
  frame : Word := 0
  ctx   : Nat := 0
  codes : List Nat := []
deriving DecidableEq, Repr

/-- A planned swap (R329). -/
structure Swap where
  /-- time-base count of the request -/
  since : DWord := 0
  deferred : Bool := false
  refused : Bool := false
  /-- cycle number sent in the SWAP request -/
  sent  : Option Word := none
  accepted : Bool := false
deriving DecidableEq, Repr

/-- The twin path (R301 to R333). -/
structure Twin where
  role  : Role := .off
  /-- the role epoch, held in PD0 (R303) -/
  epoch : Word := 0
  /-- the greatest epoch received from the partner or reported by a head -/
  seen  : Word := 0
  partnerAddr : Nat := 0
  /-- the partner's heartbeat is present -/
  partner : Bool := false
  /-- time-base count at which the last HEARTBEAT was accepted, and sent -/
  hbRx  : DWord := 0
  hbTx  : DWord := 0
  /-- T_L while the heartbeat is lost and a second decision is pending -/
  lostAt : Option DWord := none
  /-- waiting for the partner in S5 since -/
  startWait : Option DWord := none
  /-- the role is taken at the next frame boundary, with the cause of TWIN_ROLE_ACTIVE -/
  taking : Option Nat := none
  /-- completions wait for step 5 of R321 -/
  postHold : Bool := false
  /-- corrected time of the decision to take the role -/
  tookAt : DWord := 0
  /-- the cores start from the loaded checkpoint at the next period boundary (R321) -/
  ctrlStart : Bool := false
  linkLost : Bool := false
  /-- a loss of the heartbeat has not been restored -/
  hbLost : Bool := false
  /-- contexts of the active that were not IDLE when the partner appeared, until their next ARM (R327) -/
  join   : DWord := 0
  /-- the partner's CTRL_READY -/
  partnerReady : Bool := false
  /-- contexts DIVERGED on the standby: own as standby, the partner's as active -/
  div    : DWord := 0
  /-- on the standby, contexts to which a DRAIN has been applied: the active's will come to IDLE (R312) -/
  drains : DWord := 0
  /-- the standby's copy index by context, as reported to the active (R309) -/
  copyIdx : SMap Nat := []
  /-- the active's completion producer index and phase by context, as reported to the standby -/
  prodIdx : SMap (Nat × Bool) := []
  frameOfs : Word := 0
  phaseOfs : Nat := 0
  /-- offsets have been learned since the unit became standby -/
  synced : Bool := false
  acts   : List TwinAct := []
  seqs   : List TwinSeq := []
  /-- contexts for which a halt note has arrived and not yet taken effect -/
  noted  : List Nat := []
  /-- checkpoint being received: cycle, and runs of blocks by offset in blocks -/
  stage  : Option (Word × List (Nat × List DWord)) := none
  /-- the loaded checkpoint: cycle, program identity and time-base count of the load -/
  loaded : Option (Word × DWord × DWord) := none
  /-- the last checkpoint sent was not complete at the standby by the next boundary -/
  ckptLate : Bool := false
  swap   : Option Swap := none
  /-- a SWAP that this standby accepted: cycle number -/
  swapIn : Option Word := none
  /-- time-base count of the last MISMATCH report -/
  mismatch : Option DWord := none
  /-- time-base count of the last change of role -/
  chgAt  : DWord := 0
deriving DecidableEq, Repr, Inhabited

/-- A task entry of a program image (R335). -/
structure Task where
  core  : Nat := 0
  en    : Bool := false
  event : Bool := false
  prio  : Nat := 0
  mult  : Nat := 0
  ext   : Bool := false
  trig  : Nat := 0
  out   : Nat := 0
deriving DecidableEq, Repr

/-- A program image in a slot of the program store (R335). -/
structure Program where
  compat  : Bool := false
  ident   : DWord := 0
  /-- P in units of 10 µs -/
  period  : Nat := 100
  codeLen : Nat := 0
  varLen  : Nat := 0
  retLen  : Nat := 0
  timers  : Nat := 0
  tasks   : List Task := []
  /-- the code and data sections -/
  body    : List Byte := []
deriving DecidableEq, Repr

/-- A logic phase that has not ended: a period of a native core, or an activation of a compatibility task. -/
structure Job where
  /-- corrected time of the period start, or of the task's start -/
  start  : DWord := 0
  /-- its private copy of the input image has been taken -/
  begun  : Bool := false
  order  : Nat := 0
  inputs : Mem := []
deriving DecidableEq, Repr

/-- A task of the running program. In native mode task `c` is core `c`. -/
structure TaskRun where
  job    : Option Job := none
  /-- number of the last boundary of R338 taken -/
  last   : Int := 0
  /-- a run of overruns is in progress (R341) -/
  ovrRun : Bool := false
  /-- the cycle in progress is late (R341) -/
  late   : Bool := false
  /-- output-image bytes that wait for the output write -/
  outs   : SMap Byte := []
  /-- corrected time of φ_out of the cycle in progress; none once written, or while a late cycle waits -/
  outAt  : Option DWord := none
  /-- the period in progress began at once after a forward step of time: marked LATE (R338) -/
  stepLate : Bool := false
deriving DecidableEq, Repr

/-- A timer instance (R349): the four words of its entry. -/
structure Timer where
  w0 : Word := 0
  w1 : Word := 0
  w2 : Word := 0
  w3 : Word := 0
deriving DecidableEq, Repr

/-- A retained copy in MRAM (R353). -/
structure RetCopy where
  cycle : Word := 0
  ident : DWord := 0
  data  : List Byte := []
deriving DecidableEq, Repr

/-- A force (R355): image address, width code and value. -/
structure Force where
  addr  : Nat := 0
  width : Nat := 0
  value : Word := 0
deriving DecidableEq, Repr

/-- The engine's states (R351), in code order. -/
inductive CycState where
  | stopped | running | halted | standby
deriving DecidableEq, Repr, Inhabited

/-- The cycle engine (R334 to R364). -/
structure Cyc where
  state   : CycState := .stopped
  cause   : Nat := 0
  prog    : Option Program := none
  pend    : Option Program := none
  loading : Bool := false
  /-- host address and length of the image that the LOAD in progress reads -/
  image   : Nat × Nat := (0, 0)
  /-- a START awaits its boundary: warm, and the earliest corrected time -/
  start   : Option (Bool × DWord) := none
  /-- STOP waits for the cores' current cycles -/
  stopReq : Bool := false
  /-- a CHANGE awaits its boundary: its corrected time, and the boundaries of core 0 since -/
  change  : Option (DWord × Nat) := none
  task    : SMap TaskRun := []
  /-- order of the next activation -/
  order   : Nat := 0
  /-- what the tasks of compatibility mode have written into the shared output image (R344) -/
  shared  : SMap Byte := []
  /-- corrected time from which every core has been idle -/
  idleAt  : DWord := 0
  vars    : List Byte := []
  timers  : SMap Timer := []
  /-- oldest first -/
  forces  : List Force := []
  /-- the output image as the completed output writes left it, by byte address: area × 2^21 + offset -/
  img     : Mem := []
  ret0    : Option RetCopy := none
  ret1    : Option RetCopy := none
  /-- the retained copy last completed is copy 1 -/
  retLast : Bool := true
  retBusy : Option RetCopy := none
deriving DecidableEq, Repr, Inhabited

/-- A Kiln loop (R367 to R376): numbers are signed, I, D and x in 2^-16 output units. -/
structure KLoop where
  /-- words 0 to 12 of the entry in force -/
  entry : List Word := []
  /-- an entry written that takes effect at the next sample -/
  pend  : Option (List Word) := none
  mode  : Nat := 0
  /-- mode commanded for the next sample -/
  req   : Option Nat := none
  /-- the next sample is a first sample -/
  first : Bool := false
  /-- output that the next sample in AUTO is to give (R368, R371, R378) -/
  uInit : Option Int := none
  i     : Int := 0
  d     : Int := 0
  x     : Int := 0
  u     : Int := 0
  sp    : Int := 0
  /-- a setpoint written by another loop, for the next sample (R374) -/
  spNew : Option Int := none
  pv    : Int := 0
  /-- corrected time of the last sample, and its Ts -/
  last  : DWord := 0
  ts    : Nat := 0
  count : Word := 0
  bad   : Bool := false
  forced : Bool := false
  wrote : Bool := false
  lastOut : Int := 0
  /-- its bytes of the Kiln section of a checkpoint, as of the last output write (R379) -/
  ck    : List Byte := []
  /-- output computed and not yet written -/
  out   : Option Int := none
deriving DecidableEq, Repr

/-- A rate group (R365). -/
structure KGroup where
  /-- number of the last start of R365 -/
  last  : Int := 0
  /-- corrected time of the output write that a start awaits -/
  outAt : Option DWord := none
  lost  : Bool := false
deriving DecidableEq, Repr

/-- A relay tune in progress (R375 to R378). -/
structure Tune where
  loop  : Nat := 0
  u0    : Int := 0
  prev  : Nat := 0
  start : DWord := 0
  /-- the relay stands at u0 + d; none before the first sample -/
  high  : Option Bool := none
  /-- corrected time of the switch that began the cycle in progress -/
  from_ : Option DWord := none
  maxPv : Int := 0
  minPv : Int := 0
  /-- cycles measured, and the sums of their lengths, highest and lowest values -/
  n     : Nat := 0
  sumT  : Nat := 0
  sumHi : Int := 0
  sumLo : Int := 0
deriving DecidableEq, Repr

/-- The Kiln engine (R365 to R384). -/
structure Kiln where
  loop  : SMap KLoop := []
  grp   : SMap KGroup := []
  tune  : Option Tune := none
deriving DecidableEq, Repr, Inhabited

/-- What a channel keeps of a slot that it receives (R397). -/
structure SbSlot where
  data   : List Byte := []
  valid  : Bool := false
  null   : Bool := false
  force  : Bool := false
  active : Bool := false
  age    : Nat := 0
  /-- what arrived in the cycle in progress: 1 a valid non-null frame, 2 a null frame -/
  got    : Nat := 0
deriving DecidableEq, Repr

/-- A Station Bus channel (R385 to R415). -/
structure Sb where
  /-- 0 OFF, 1 LISTEN, 2 RUN (R407) -/
  state  : Nat := 0
  /-- corrected time at which LISTEN ends -/
  listen : DWord := 0
  /-- LISTEN has ended: RUN begins at the next cycle start -/
  heard  : Bool := false
  /-- the cycle in progress: its number and the corrected time of its start; none before the first -/
  cyc    : Option (Int × DWord) := none
  /-- number of the last cycle start of R393 taken -/
  last   : Int := 0
  /-- cycles since RUN began, up to 8: those carry BEACON -/
  beacons : Nat := 0
  /-- slot table entries, by slot -/
  slot   : SMap Word := []
  rx     : SMap SbSlot := []
  /-- own slots that an output write has reached since the engine entered RUNNING -/
  wrote  : List Nat := []
  /-- output writes of a slot, newest first: corrected time, and the entry before it if a write had reached it (R396) -/
  outs   : SMap (List (DWord × Option (List Byte))) := []
  /-- own slots sent in the cycle in progress -/
  sent   : List Nat := []
  /-- an event frame is pending since this corrected time -/
  evtPend : Bool := false
  evtAt  : DWord := 0
  /-- event frames received: node and payload, oldest first -/
  evtRx  : List (Nat × List Byte) := []
  /-- deviations of the cycle in progress: node and ns -/
  devs   : List (Nat × Int) := []
  /-- deviations of the cycles before, by cycle number, newest first -/
  hist   : List (Int × List (Nat × Int)) := []
  /-- event frames of other nodes in the cycle in progress: place of their turn, and minislots -/
  turns  : List (Nat × Nat) := []
  few    : Nat := 0
  limitEp : Bool := false
  limited : Bool := false
  measured : Nat := 0
  ofs    : Int := 0
  rate   : Int := 0
  closed : BitVec 8 := 0
  /-- branches to reopen at the next cycle start -/
  reopen : BitVec 8 := 0
  /-- branches with a violation in the cycle in progress, and consecutive cycles with one, by branch -/
  viol   : BitVec 8 := 0
  violRun : SMap Nat := []
  /-- the correction terms of the cycle have been computed -/
  corrected : Bool := false
deriving DecidableEq, Repr

/-- A CAN transmit buffer (R421). -/
structure CanTx where
  w0     : Word := 0
  w1     : Word := 0
  data   : List Word := []
  req    : Bool := false
  held   : Bool := false
  done   : Bool := false
  cancelled : Bool := false
  failed : Bool := false
  ts     : Word := 0
  /-- payload at the last program request (R424) -/
  prev   : Option (List Byte) := none
deriving DecidableEq, Repr

/-- A received CAN frame in its queue (R427). -/
structure CanRx where
  f      : CanFrame
  filter : Nat := 0
  ts     : Word := 0
deriving DecidableEq, Repr

/-- A receive queue with its shadow (R427). -/
structure CanQ where
  q      : List CanRx := []
  shadow : Option CanRx := none
  locked : Bool := false
  /-- an overflow episode is in progress -/
  lossEp : Bool := false
deriving DecidableEq, Repr

/-- An image entry of area 0x04 (R429): payload, FDF and the time-base count of the frame's end. -/
structure CanImg where
  data : List Byte := []
  fdf  : Bool := false
  at_  : Option DWord := none
deriving DecidableEq, Repr

/-- A CAN controller (R416 to R437). -/
structure Can where
  /-- 0 INIT, 1 integrating, 2 running, 3 bus-off -/
  state  : Nat := 0
  /-- a write of INIT waits for the end of the frame in progress -/
  init   : Bool := false
  buf    : SMap CanTx := []
  flt    : SMap (Word × Word × Word) := []
  q0     : CanQ := {}
  q1     : CanQ := {}
  img    : SMap CanImg := []
  /-- the buffer whose frame is in transmission, and the frame -/
  cur    : Option (Nat × CanFrame) := none
  /-- arbitration was lost: the frame that won is being received -/
  rx     : Bool := false
  tec    : Nat := 0
  rec_   : Nat := 0
  passive : Bool := false
  /-- recovery runs: begun automatically or by the host -/
  recover : Option Bool := none
deriving DecidableEq, Repr

/-- The steering servo of management firmware (R446 to R448). -/
structure Servo where
  /-- the next θ is handled under R447 whatever its size -/
  first    : Bool := true
  /-- consecutive measurements below PTP_LOCK_NS, and above 4 × PTP_LOCK_NS -/
  good     : Nat := 0
  bad      : Nat := 0
  /-- a refused θ is being steered out through TB_INCR -/
  steering : Bool := false
  /-- the last 64 values written to TB_INCR, newest first -/
  incrs    : List (BitVec 48) := []
  /-- time-base count at which HOLDOVER was entered, and HOLD_EXPIRED -/
  holdAt   : DWord := 0
  expired  : Bool := false
deriving DecidableEq, Repr, Inhabited

/-- PPS_OUT (R450): its level, the corrected time at which it falls, the last rising instant handled. -/
structure Pps where
  high : Bool := false
  fall : DWord := 0
  last : Int := 0
deriving DecidableEq, Repr, Inhabited

/-- Ethernet and precision time (R438 to R455). -/
structure EthPtp where
  /-- PTP_STATUS.STATE (R446) -/
  ptp   : Nat := 0
  servo : Servo := {}
  pps   : Pps := {}
  /-- transmit-timestamp queue of each MAC: tag and stamp, oldest first -/
  txts  : SMap (List (BitVec 16 × DWord)) := []
  /-- time-base count until which a received PAUSE holds each MAC's transmitter -/
  pause : SMap Nat := []
deriving DecidableEq, Repr, Inhabited

/-- The filter of one safety input in one logic channel (R459): the accepted level and the run of strobes at the other. -/
structure SafeFilt where
  level : Bool := false
  run   : Nat := 0
deriving DecidableEq, Repr, Inhabited

/-- An input pair as one logic channel judges it (R460 to R462). -/
structure SafePair where
  a   : SafeFilt := {}
  b   : SafeFilt := {}
  /-- a discrepancy episode: its first edge was on contact B, and the strobe of that edge -/
  epi : Option (Bool × Nat) := none
  /-- start-up test: 0 not pending, 1 awaits an opening, 2 awaits a closing -/
  su  : Nat := 0
deriving DecidableEq, Repr

/-- A group (R465): state code, and the strobe at which STOPPING began. -/
structure SafeGroup where
  state : Nat := 0
  since : Nat := 0
deriving DecidableEq, Repr

/-- A safety encoder (R463): levels, ×4 count, counts of the last 8 evaluations (newest first), speed. -/
structure SafeEnc where
  a     : Bool := false
  b     : Bool := false
  count : Int := 0
  hist  : List Int := []
  v     : Int := 0
deriving DecidableEq, Repr

/-- A copy of the parameter block in MRAM with its trailer (R474). -/
structure SafeCopy where
  bytes  : List Byte := []
  gen    : Word := 0
  marker : Bool := false
deriving DecidableEq, Repr, Inhabited

/-- Island states (R458), in code order. -/
inductive SafeState where
  | selftest | lockout | operational
deriving DecidableEq, Repr, Inhabited

/-- The safety island (R456 to R487). -/
structure Safe where
  state : SafeState := .selftest
  cause : Nat := 0
  index : Nat := 0
  /-- strobe at which the fault of the lock-out was found -/
  faultAt : Option Nat := none
  /-- strobes since power-on, and those of the last evaluations of 100 µs and of 1 ms -/
  k      : Nat := 0
  evalAt : Nat := 0
  encAt  : Nat := 0
  /-- key 16 × logic channel (0 or 1) + pair -/
  pair   : SMap SafePair := []
  rst1   : SafeFilt := {}
  rst2   : SafeFilt := {}
  /-- strobe of the rising edge of SAFE_RESET, and the length of a pulse that has ended -/
  rise   : Option Nat := none
  pulse  : Option Nat := none
  grp    : SMap SafeGroup := []
  /-- output pairs commanded on -/
  out    : BitVec 8 := 0
  /-- consecutive readings that differ, key output pair + 8 for half B -/
  bad    : SMap Nat := []
  /-- strobe of the last test pulse, by the same key -/
  tested : SMap (Option Nat) := []
  /-- strobe from which an EDM pair has been unequal to the inverse of its output pair -/
  edm    : SMap (Option Nat) := []
  /-- consecutive evaluations in which the channels differed -/
  cross  : Nat := 0
  bgFail : Bool := false
  clockBad : Bool := false
  enc    : SMap SafeEnc := []
  /-- consecutive disagreements of each encoder pair -/
  mism   : SMap Nat := []
  /-- SLP is referenced: the counts of both channels -/
  ref    : Option (Int × Int) := none
  sls    : BitVec 4 := 0
  sdi    : BitVec 4 := 0
  slp    : Bool := false
  /-- the active block, its copy and its generation -/
  block  : Option (List Byte) := none
  active : Option Nat := none
  gen    : Word := 0
  copy0  : SafeCopy := {}
  copy1  : SafeCopy := {}
  /-- the candidate being loaded, and one that LOAD_END accepted -/
  loading : Option (List Byte) := none
  cand    : Option (List Byte) := none
  confirms : Nat := 0
  /-- a commit runs, into this copy -/
  commit  : Option Nat := none
  /-- lock-outs since manufacture -/
  lockouts : Word := 0
deriving DecidableEq, Repr, Inhabited

/-- A current-loop channel (R488 to R500). -/
structure Loop where
  /-- a conversion is in progress since this time-base count; one more is queued -/
  conv   : Option DWord := none
  queued : Bool := false
  /-- the 100 µs of corrected time in which a conversion last started -/
  grid   : Nat := 0
  count  : BitVec 16 := 0
  current : Nat := 0
  headroom : Nat := 0
  /-- time-base count of the last completed conversion since EN was set -/
  validAt : Option DWord := none
  lowRun : Nat := 0
  okRun  : Nat := 0
  low    : Bool := false
  /-- the last measured currents, newest first -/
  last3  : List Nat := []
  pgate  : Bool := false
  /-- the value held in backup hold, which lasts until the first output write after it -/
  held   : Option Nat := none
  holding : Bool := false
  /-- an output write has come since EN was set; Kiln has written since the engine stopped -/
  wrote  : Bool := false
  kilnWrote : Bool := false
  /-- the setpoint in force -/
  sp     : Nat := 8000
  /-- what is driven: none for off -/
  drive  : Option Nat := none
deriving DecidableEq, Repr

/-- The trim buttons (R496): the channel a press is for, its direction, and when it next repeats. -/
structure TrimBtn where
  ch   : Nat := 0
  up   : Bool := true
  next : DWord := 0
  /-- the other button was pressed too -/
  both : Bool := false
deriving DecidableEq, Repr

/-- An MRAM slot: an NV slot (R526) or a firmware bank (R532), as its image and its trailer. -/
structure Slot where
  image     : List Byte := []
  /-- MARKER: 0x4E56_5444 VALID, 0x4E56_5752 WRITING, any other BLANK -/
  marker    : Word := 0
  gen       : Word := 0
  length    : Nat := 0
  factory   : Bool := false
  intent    : Bool := false
  intentGen : Word := 0
  digest    : BitVec 512 := 0
  /-- step at which the commit to the slot was broken off (R530), for ARG2 of COMMIT_INTERRUPTED -/
  step      : Nat := 0
deriving DecidableEq, Repr, Inhabited

/-- An owner slot of the fuses (R535). -/
structure Owner where
  hash     : BitVec 512 := 0
  enrolled : Bool := false
  revoked  : Bool := false
deriving DecidableEq, Repr

/-- A commit that runs (R528, R531): its target slot, its generation and whether it is a restore. -/
structure Commit where
  slot    : Nat := 0
  gen     : Nat := 0
  restore : Bool := false
  len     : Nat := 0
deriving DecidableEq, Repr

/-- Slots, firmware banks, fuses and the security commands (R521 to R540). Slots, banks and owner slots are blank at manufacture. -/
structure Sec where
  slot0   : Slot := {}
  slot1   : Slot := {}
  bank0   : Slot := {}
  bank1   : Slot := {}
  owner   : SMap Owner := []
  reqFw   : Bool := false
  reqNv   : Bool := false
  /-- bits set in the thermometer SVN_MIN -/
  svnMin  : Nat := 0
  /-- the slot whose image or restore is in force (R527) -/
  active  : Option Nat := none
  gen     : Nat := 0
  factory : Bool := true
  fallback : Bool := false
  intentFound : Bool := false
  commit  : Option Commit := none
  /-- the running firmware bank -/
  bank    : Option Nat := none
  /-- bank and length of a FW_STAGE that runs -/
  staging : Option (Nat × Nat) := none
  nonce   : Option (List Byte × DWord) := none
deriving DecidableEq, Repr, Inhabited

/-- Power domains, reset and start-up (R541 to R556). -/
structure Power where
  /-- domains on, bit k for PDk -/
  on      : BitVec 8 := 0x07
  /-- domains switching on, and switching off -/
  goingOn  : BitVec 8 := 0
  goingOff : BitVec 8 := 0
  /-- contexts halted by the switch-off in progress, by domain -/
  halted  : SMap Nat := []
  /-- current phase, 1 to 7 (R553) -/
  phase   : Nat := 1
  /-- PWRGD is high and start-up runs -/
  started : Bool := false
  ready   : Bool := false
  recovery : Bool := false
  /-- latched TWIN_SEL: unit B -/
  unitB   : Bool := false
  /-- PFAIL# is low, and the time-base count at which that was recognised -/
  pfail   : Bool := false
  pfailAt : DWord := 0
  /-- time-base count from which start-up is timed (R550) -/
  startAt : DWord := 0
  /-- REFCLK is declared lost -/
  refLost : Bool := false
  /-- time-base count of the first reset key (R552) -/
  resetKey : Option DWord := none
  /-- TJ_HIGH was raised and GLOBAL_TJ has not yet fallen 5 °C below the maximum (R554) -/
  tjHigh  : Bool := false
  /-- the input image's view of the island is live (R553: SAFE_LOCKOUT reads 0 until S4 ends) -/
  s4Done  : Bool := false
  /-- the fabric part of S5 is over, and the twin role is being decided (R550) -/
  s5Done  : Bool := false
deriving DecidableEq, Repr, Inhabited

/-- The state of the part. -/
structure State where
  /-- commands that wait, first in, first out -/
  pending : List Instr := []
  /-- what left the part, newest first (the model's own log) -/
  out     : List Emit := []
  /-- registers, by offset in BAR0 of PF0; an offset not listed holds its reset value -/
  regs    : SMap Word := []
  /-- read latches of the 64-bit registers, by 2 × offset + function, and write holding words, by offset (R12; PF1 writes none, R39) -/
  latch   : SMap (Option DWord) := []
  hold    : SMap (Option Word) := []
  /-- what the device has written to host memory -/
  hostMem : Mem := []
  /-- the model's counter of free values (log entry 4) -/
  freeCtr : Nat := 0
  /-- the rule of a host error whose result is still unpredictable (R17, R20) -/
  upset   : Option Nat := none
  tb      : TimeBase := {}
  pos     : PosTime := {}
  power   : Power := {}
  host    : HostIf := {}
  cask    : Cask := {}
  sec     : Sec := {}
  ctx     : SMap Ctx := []
  buf     : Buffer := {}
  lane    : SMap Lane := []
  noz     : SMap NozCh := []
  hl      : SMap Hl := []
  fab     : Fabric := {}
  twin    : Twin := {}
  eth     : EthPtp := {}
  safe    : Safe := {}
  cyc     : Cyc := {}
  kiln    : Kiln := {}
  sb      : SMap Sb := []
  can     : SMap Can := []
  loop    : SMap Loop := []
  trim    : Option TrimBtn := none
deriving DecidableEq, Repr, Inhabited

/-- The part right after the PD0 power-on reset: every field at its reset value. -/
def State.reset : State := {}

end Sys2Proof.Machine
end

