-- ==== Sys2Proof/Machine/Ops.lean ====
section
/-!
DEFINITION. The operations that every block uses: reading and writing registers, corrected time, the accessors of the
banks, host memory, interrupts, the event ring (R104, R105) and the staging of Cask records (R505, R509 to R511).
-/
namespace Sys2Proof.Machine

/-- The word a register holds: what was last stored at its offset, else its reset value (R14). -/
def State.rd (s : State) (off : Nat) : Word := s.regs.get (resetWord off) off

/-- Store a word at a register's offset. -/
def State.wr (s : State) (off : Nat) (v : Word) : State := { s with regs := s.regs.set (resetWord off) off v }

/-- A 64-bit register: the words at its two offsets (R12). -/
def State.rd64 (s : State) (off : Nat) : DWord := dw (s.rd off) (s.rd (off + 4))

/-- Store both words of a 64-bit register. -/
def State.wr64 (s : State) (off : Nat) (v : DWord) : State := (s.wr off (lo32 v)).wr (off + 4) (hi32 v)

/-- Latch all 64 bits of a register in the read latch of a function (R12). -/
def State.latch64 (s : State) (pf1 : Bool) (off : Nat) (v : DWord) : State :=
  { s with latch := s.latch.set none (2 * off + pf1.toNat) (some v) }

/-- Replace a field of a register. -/
def State.setF (s : State) (off hi lo v : Nat) : State := s.wr off (setBits (s.rd off) hi lo v)

/-- Field [hi:lo] of a register. -/
def State.fld (s : State) (off hi lo : Nat) : Nat := bits (s.rd off) hi lo

/-- Bit `i` of a register. -/
def State.flag (s : State) (off i : Nat) : Bool := bit (s.rd off) i

/-- Set bits of a register. -/
def State.orW (s : State) (off : Nat) (m : Word) : State := s.wr off (s.rd off ||| m)

/-- Count one more in a counter register that saturates (log entry 8). -/
def State.bump (s : State) (off : Nat) : State := s.wr off (satInc (s.rd off))

/-- Add to a counter register that saturates. -/
def State.bumpBy (s : State) (off n : Nat) : State := s.wr off (satAdd (s.rd off) n)

/-- Count one more in a counter register that wraps. -/
def State.bumpWrap (s : State) (off : Nat) : State := s.wr off (s.rd off + 1)

/-- Give the registers of [lo, hi) their reset values. -/
def State.clearRegs (s : State) (lo hi : Nat) : State := { s with regs := s.regs.dropRange lo hi }

/-- Record what leaves the part. -/
def State.emit (s : State) (e : Emit) : State := { s with out := e :: s.out }

/-- A domain is on (R29). -/
def State.domOn (s : State) (k : Nat) : Bool := s.power.on.getLsbD k

/-- A PLL has lost lock: the blocks that it feeds stand still (R35). -/
def State.pllLost (s : State) (p : Pll) : Bool := s.pos.unlocked.contains p

/-- The blocks that the control clock feeds run: cycle engine, Kiln, current loops (R32). -/
def State.ctlRuns (s : State) : Bool := s.domOn 7 && !s.pllLost .control

/-- The blocks that the bus clock feeds run: Station Bus and CAN (R32). -/
def State.busRuns (s : State) : Bool := s.domOn 6 && !s.pllLost .bus

/-- The buffer and its clock run (R32). -/
def State.bufRuns (s : State) : Bool := s.domOn 5 && !s.pllLost .buffer

/-- The management processors and the ring engines run (R32). -/
def State.mgmtRuns (s : State) : Bool := !s.pllLost .management

/-- The domain of head channel `n`: PD3 for 0 to 31, PD4 above (R25). -/
def chDom (n : Nat) : Nat := if n < 32 then 3 else 4

/-- One ns in the unit of `TimeBase.slew`: 2^40 × 10^6. -/
def slewUnit : Nat := 2 ^ 40 * 1000000

/-- Corrected time of a time base (R60): floor(OFFSET + COUNT × INCR + S). -/
def TimeBase.now (t : TimeBase) : DWord :=
  BitVec.ofInt 64 (((t.offset + (t.count.toNat : Int) * (t.incr.toNat : Int)) * 1000000 + (t.slew : Int)).fdiv (slewUnit : Int))

/-- Corrected time (R60). -/
def State.now (s : State) : DWord := s.tb.now

/-- The time-base count. -/
def State.count (s : State) : DWord := s.tb.count

/-- The fresh free value and the state that has used it up (log entry 4). -/
def State.free (s : State) : BitVec 64 × State := (Config.freeValue s.freeCtr, { s with freeCtr := s.freeCtr + 1 })

/-! The banks, entry by entry. -/

/-- Context `n`. -/
def State.ctxOf (s : State) (n : Nat) : Ctx := s.ctx.get {} n
/-- Replace context `n`. -/
def State.setCtx (s : State) (n : Nat) (c : Ctx) : State := { s with ctx := s.ctx.set {} n c }
/-- Change context `n`. -/
def State.modCtx (s : State) (n : Nat) (f : Ctx → Ctx) : State := s.setCtx n (f (s.ctxOf n))
/-- The rings of context `n`. -/
def State.ringOf (s : State) (n : Nat) : CtxRing := s.host.ring.get {} n
/-- Replace the rings of context `n`. -/
def State.setRing (s : State) (n : Nat) (r : CtxRing) : State := { s with host := { s.host with ring := s.host.ring.set {} n r } }
/-- Head link `n`. -/
def State.hlOf (s : State) (n : Nat) : Hl := s.hl.get {} n
/-- Replace head link `n`. -/
def State.setHl (s : State) (n : Nat) (h : Hl) : State := { s with hl := s.hl.set {} n h }
/-- Change head link `n`. -/
def State.modHl (s : State) (n : Nat) (f : Hl → Hl) : State := s.setHl n (f (s.hlOf n))
/-- The nozzle tables of channel `n`. -/
def State.nozOf (s : State) (n : Nat) : NozCh := s.noz.get {} n
/-- Replace the nozzle tables of channel `n`. -/
def State.setNoz (s : State) (n : Nat) (c : NozCh) : State := { s with noz := s.noz.set {} n c }
/-- Mash lane `n`. -/
def State.laneOf (s : State) (n : Nat) : Lane := s.lane.get {} n
/-- Replace Mash lane `n`. -/
def State.setLane (s : State) (n : Nat) (l : Lane) : State := { s with lane := s.lane.set {} n l }
/-- Position reference `n`. -/
def State.prefOf (s : State) (n : Nat) : Pref := s.pos.pref.get {} n
/-- Replace position reference `n`. -/
def State.setPref (s : State) (n : Nat) (p : Pref) : State := { s with pos := { s.pos with pref := s.pos.pref.set {} n p } }
/-- Encoder `n`. -/
def State.encOf (s : State) (n : Nat) : Enc := s.pos.enc.get {} n
/-- Replace encoder `n`. -/
def State.setEnc (s : State) (n : Nat) (e : Enc) : State := { s with pos := { s.pos with enc := s.pos.enc.set {} n e } }

/-- Do `f` for each number of a list, in order. -/
def State.each (s : State) (l : List Nat) (f : State → Nat → State) : State := l.foldl f s

/-- The inhibit latch is set at a time in 10 ps of time-base count (R72, R73). -/
def State.inhibited (s : State) (t : Nat) : Bool :=
  let p := s.pos.pi
  (p.latch && decide (p.setAt.toNat * 100 ≤ t)) || p.past.any (fun e => decide (e.1.toNat * 100 ≤ t) && decide (t < e.2.toNat * 100))

/-! Host memory and interrupts. -/

/-- Write bytes to host memory. -/
def State.hostWrite (s : State) (addr : Nat) (b : List Byte) : State := { s with hostMem := s.hostMem.write addr b }

/-- The PCIe link is up (HOST_LINK [20]). -/
def State.linkUp (s : State) : Bool := s.flag Reg.HOST_LINK 20

/-- PF0 can read and write host memory (R85). -/
def State.pf0Can (s : State) : Bool := s.linkUp && !s.host.bmeOff0

/-- PF1 can read and write host memory (R85). -/
def State.pf1Can (s : State) : Bool := s.linkUp && !s.host.bmeOff1

/-- The reset value of word `k` of an MSI-X table entry: the vector's mask bit is set (log entry 7). -/
def msixReset (k : Nat) : Word := if k % 4 = 3 then 1 else 0

/-- Raise the interrupt of a vector: a message, or a pending bit while the vector is masked or cannot be sent. -/
def State.irq (s : State) (pf1 : Bool) (vec : Nat) : State :=
  let k := vec * 4 + 3
  let w := if pf1 then s.host.msix1.get (msixReset k) k else s.host.msix0.get (msixReset k) k
  if !bit w 0 && (if pf1 then s.pf1Can else s.pf0Can) then s.emit (.msix pf1 vec)
  else
    let b := BitVec.ofNat 64 (1 <<< vec)
    if pf1 then { s with host := { s.host with pba1 := s.host.pba1 ||| b } }
    else { s with host := { s.host with pba0 := s.host.pba0 ||| b } }

/-! Read requests. -/

/-- The largest read request: min(Max_Read_Request_Size, 512 bytes) (R81). -/
def State.readSize (s : State) : Nat := min 512 (128 * 2 ^ s.fld Reg.HOST_LINK 19 17)

/-- Requests that may be outstanding (R81): HOST_RD_CTRL.MAX_OUT, above 256 only with 10-bit tags. -/
def State.maxOut (s : State) : Nat :=
  let n := s.fld Reg.HOST_RD_CTRL 9 0
  if s.flag Reg.HOST_LINK 13 then n else min n 256

/-- Cut a read of `len` bytes into requests of at most `size` bytes; `fuel` bounds their number. -/
def readParts (o : RdOwner) (ro : Bool) (size : Nat) : Nat → Nat → Nat → List HostRd
  | 0, _, _ => []
  | fuel + 1, a, len =>
    if len = 0 then [] else
    let k := min len (max size 1)
    { owner := o, addr := a, len := k, ro := ro } :: readParts o ro size fuel (a + k) (len - k)

/-- Mark the first `n` requests that may be issued as issued; they are the second part, in order. -/
def issueReads (may : HostRd → Bool) : Nat → List HostRd → List HostRd × List HostRd
  | _, [] => ([], [])
  | 0, l => (l, [])
  | n + 1, r :: l =>
    if may r then let (a, b) := issueReads may n l; ({ r with sent := true } :: a, r :: b)
    else let (a, b) := issueReads may (n + 1) l; (r :: a, b)

/-- A request is on the data function PF1. -/
def RdOwner.data : RdOwner → Bool
  | .tile _ _ | .table _ _ => true
  | _ => false

/-- Record the issue of requests. -/
def State.emitReads (s : State) (l : List HostRd) : State := l.foldl (fun s r => s.emit (.hostRead r.addr r.len r.ro)) s

/-- A request may be issued: it has not been, and its function can read host memory (R85). -/
def State.mayRead (s : State) (r : HostRd) : Bool := !r.sent && (if r.owner.data then s.pf1Can else s.pf0Can)

/-- Issue requests in order, up to the number that may be outstanding (R577). -/
def State.pumpReads (s : State) : State :=
  let (l, go) := issueReads s.mayRead (s.maxOut - (s.host.reads.filter (fun r => r.sent)).length) s.host.reads
  { s with host := { s.host with reads := l } }.emitReads go

/-- Read `len` bytes of host memory (R81, R577): Relaxed Ordering is set on tile data alone, when HOST_RD_CTRL.RO is 1. -/
def State.request (s : State) (o : RdOwner) (addr len : Nat) : State :=
  let ro := (match o with | .tile _ _ => true | _ => false) && s.flag Reg.HOST_RD_CTRL 10
  { s with host := { s.host with reads := s.host.reads ++ readParts o ro s.readSize len addr len } }.pumpReads

/-- Give up the requests of some owners, and issue what waited behind them. -/
def State.dropReads (s : State) (p : RdOwner → Bool) : State :=
  { s with host := { s.host with reads := s.host.reads.filter (fun r => !p r.owner) } }.pumpReads

/-- Requests of an owner wait for the link, or for Bus Master Enable (R85). -/
def State.readsWait (s : State) (o : RdOwner) : Bool :=
  s.host.reads.any (fun r => r.owner == o && !r.sent) && !(if o.data then s.pf1Can else s.pf0Can)

/-- All data of an owner has arrived: those of its requests that were not yet recorded as issued were, and answered. -/
def State.readsDone (s : State) (o : RdOwner) : State :=
  (s.emitReads (s.host.reads.filter (fun r => r.owner == o && !r.sent))).dropReads (· == o)

/-! The event ring. -/

/-- A ring of 2^size entries is full: the producer is one below the consumer (R89). -/
def ringFull (pi ci size : Nat) : Bool := (pi + 1) % 2 ^ size == ci

/-- SIZE of the event ring. -/
def State.evtSize (s : State) : Nat := s.fld Reg.HOST_EVT_CTRL 5 1

/-- The event ring has space, PF0 can write (R105) and the ring engine runs (R32, R35; log entry 107). -/
def State.evtSpace (s : State) : Bool := !ringFull s.host.evt.pi s.host.evt.ci s.evtSize && s.pf0Can && s.mgmtRuns

/-- The 64 bytes of an event-ring entry (R104). -/
def evtEntry (code ctx : Nat) (phase : Bool) (time : DWord) (args : List Word) (seq : Word) : List Byte :=
  wordsBytes ([wd (code + ctx * 65536), wd (if phase then 2 ^ 31 else 0), lo32 time, hi32 time]
    ++ padTo 4 0 args ++ [seq] ++ List.replicate 7 0)

/-- Signal an interrupt of the event ring under its moderation (R100, R105): `force` for its timer. -/
def State.evtModerate (s : State) : State :=
  let c := s.fld Reg.HOST_EVT_CTRL 23 16
  if c ≤ s.host.evt.posted then
    { s with host := { s.host with evt := { s.host.evt with posted := 0, first := none } } }.irq false (s.fld Reg.HOST_EVT_CTRL 13 8)
  else s

/-- Write an entry with the given SEQ at the producer index and advance it (R97, R104). -/
def State.evtPost (s : State) (code ctx : Nat) (args : List Word) (seq : Word) : State :=
  let e := s.host.evt
  let addr := (s.rd64 Reg.HOST_EVT_BASE).toNat + e.pi * 64
  let s := s.hostWrite addr (evtEntry code ctx e.phase s.now args seq)
  let wrap := e.pi + 1 == 2 ^ s.evtSize
  let e := { e with pi := if wrap then 0 else e.pi + 1, phase := if wrap then !e.phase else e.phase,
                    posted := e.posted + 1, first := match e.first with | none => some s.now | some t => some t }
  { s with host := { s.host with evt := e } }.evtModerate

/-- Take the next SEQ of the event ring. -/
def State.evtSeq (s : State) : Word × State :=
  (s.host.evt.seq, { s with host := { s.host with evt := { s.host.evt with seq := s.host.evt.seq + 1 } } })

/-- EVENT_OFFER (R104, R105): an event whose class is unmasked, while EN is 1, takes a SEQ and is posted or lost. -/
def State.offerEvt (s : State) (code ctx : Nat) (args : List Word) : State :=
  let cls := code / 256
  if s.flag Reg.HOST_EVT_CTRL 0 && s.flag (Reg.HOST_EVT_MASK (cls / 32)) (cls % 32) then
    let (q, s) := s.evtSeq
    if s.evtSpace then s.evtPost code ctx args q
    else { s with host := { s.host with evt := { s.host.evt with lost := s.host.evt.lost + 1 } } }.bump Reg.HOST_EVT_LOST
  else s

/-! Staging of Cask records. -/

/-- The 64 bytes of a record: the fields of R501 and the CRC over bytes 0 to 59. -/
def CaskRec.bytes (r : CaskRec) : List Byte :=
  let b := natBytes 8 r.seq ++ natBytes 8 r.time.toNat ++ natBytes 2 r.code ++ natBytes 1 r.ctx ++ natBytes 1 r.flags
    ++ wordBytes r.boot ++ wordsBytes (padTo 7 0 r.args) ++ wordBytes r.epoch ++ natBytes 1 r.addr ++ List.replicate 3 0
  b ++ wordBytes (crc32c b)

/-- The code of a role (R302). -/
def Role.code : Role → Nat
  | .off => 0 | .standby => 1 | .active => 2

/-- FLAGS of a record (R501): [0] UNSTEERED, [1] UNIT, [3:2] twin role. -/
def State.caskFlags (s : State) : Nat :=
  (if s.domOn 6 && (s.eth.ptp == 3 || s.eth.ptp == 5) then 0 else 1) + s.power.unitB.toNat * 2 + s.twin.role.code * 4

/-- The bucket a code is assigned to (R509): the enabled CASK_MAP entry of lowest index that names it, else its class. -/
def State.bucketOf (s : State) (code : Nat) : Nat :=
  match (List.range 64).find? (fun k => let w := s.rd (Reg.CASK_MAP k); bit w 31 && bits w 15 0 == code) with
  | some k => s.fld (Reg.CASK_MAP k) 23 16
  | none => code / 256

/-- A code is never rate-limited: classes 0x10 and 0x12 (R509). -/
def neverLimited (code : Nat) : Bool := code / 256 == 0x10 || code / 256 == 0x12

/-- BURST of a bucket (R519). -/
def State.burst (s : State) (b : Nat) : Nat := s.fld (Reg.CASK_BKT b) 26 16

/-- Replace a bucket. -/
def State.setBucket (s : State) (b : Nat) (k : Bucket) : State :=
  { s with cask := { s.cask with buckets := s.cask.buckets.set {} b k } }

/-- Step 3 of R507 is over: PFAIL# was recognised 1 ms ago and is still low. -/
def State.pfailPast (s : State) : Bool := s.power.pfail && decide (1000000 < (s.count - s.power.pfailAt).toNat)

/-- Make a staged record of an event with the next SEQ, or count it as overflow when staging is full (R505). A flush
starts when the bucket is urgent and when staging holds 768 records (R506). Records raised after step 3 of R507 are told apart. -/
def State.caskPut (s : State) (code ctx : Nat) (args : List Word) : State :=
  if 1024 ≤ s.cask.staging.length then
    { s with cask := { s.cask with overflow := s.cask.overflow + 1 } }.bump Reg.CASK_OVERFLOW
  else
    let r : CaskRec :=
      { seq := s.cask.seq, time := s.now, code := code, ctx := ctx, flags := s.caskFlags, boot := s.cask.boot,
        args := args, epoch := s.twin.epoch, addr := s.fab.addr }
    let urgent := s.flag (Reg.CASK_BKT (s.bucketOf code)) 31
    { s with cask := { s.cask with staging := s.cask.staging ++ [r], seq := s.cask.seq + 1, late := s.cask.late + s.pfailPast.toNat,
                                   flushing := s.cask.flushing || urgent || decide (768 ≤ s.cask.staging.length + 1) } }

/-- CASK_STAGE (R505, R509 to R511): an event to be recorded is missed under a freeze, suppressed without a token, or staged. -/
def State.caskStage (s : State) (code ctx : Nat) (args : List Word) : State :=
  match s.cask.freeze with
  | some f =>
    let f := { f with missed := f.missed + 1, first := if f.missed = 0 then code else f.first, last := code }
    { s with cask := { s.cask with freeze := some f } }.wr Reg.CASK_MISSED (wd (min f.missed (2 ^ 32 - 1)))
  | none =>
    if neverLimited code then s.caskPut code ctx args else
    let b := s.bucketOf code
    let k := s.cask.buckets.get {} b
    if s.burst b ≤ k.used then
      (s.setBucket b { k with suppr := k.suppr + 1, first := if k.suppr = 0 then code else k.first, last := code }).bump Reg.CASK_SUPPR
    else (s.setBucket b { k with used := k.used + 1 }).caskPut code ctx args

/-- Raise an event that is written to Cask (R104, R504, R505). -/
def State.raise (s : State) (code ctx : Nat) (args : List Word) : State := (s.offerEvt code ctx args).caskStage code ctx args

/-- Raise an event that is not written to Cask (R104, R504). -/
def State.raiseE (s : State) (code ctx : Nat) (args : List Word) : State := s.offerEvt code ctx args

end Sys2Proof.Machine
end

