-- ==== Sys2Proof/Machine/Upset.lean ====
section
/-!
DEFINITION. Host errors (R17 to R20): the command that makes one goes on, with a result that is free but for what R19 says such a
result never does; it stays free, tick by tick, until the next reset that includes PD1.
-/
namespace Sys2Proof

/-- The state that the unpredictable result of a host error leads to, before R19 is applied: the number of the free value, and the state
in which it arises (R17, R18; log entry 10). -/
opaque Config.unpredictable : Nat → Machine.State → Machine.State

namespace Machine

/-- An area of host memory: first address and bytes. -/
abbrev HostArea := Nat × Nat

/-- The areas of the rings (R88), of each whose control register passes `p`. -/
def State.ringAreas (s : State) (p : Nat → Bool) : List HostArea :=
  let area := fun (ctrl : Nat) (base : DWord) (size : Nat) => (if p ctrl then [(base.toNat, 64 * 2 ^ size)] else [] : List HostArea)
  area Reg.HOST_MGMT_CTRL (s.rd64 Reg.HOST_MGMT_BASE) (s.fld Reg.HOST_MGMT_CTRL 5 1)
    ++ area Reg.HOST_EVT_CTRL (s.rd64 Reg.HOST_EVT_BASE) (s.fld Reg.HOST_EVT_CTRL 5 1)
    ++ (List.range 64).flatMap (fun n =>
      if n = 0 then [] else
      area (Reg.HOST_RING_CTRL n) (s.rd64 (Reg.HOST_SQ_BASE n)) (s.fld (Reg.HOST_RING_CTRL n) 5 1)
        ++ area (Reg.HOST_RING_CTRL n) (s.rd64 (Reg.HOST_CQ_BASE n)) (s.fld (Reg.HOST_RING_CTRL n) 10 6))

/-- The tile and table buffers of descriptors that have been read and whose data has not all arrived. -/
def State.hostBufs (s : State) : List HostArea :=
  s.ctx.flatMap (fun e => (e.2.tiles.filter (fun t => t.state == .waiting || t.state == .fetching)).map (fun t => (t.addr.toNat, t.len))
    ++ e.2.copies.map (fun t => (t.addr.toNat, t.len)))

/-- The buffers that the set-up registers of operations, programs and firmware name. -/
def State.setupAreas (s : State) : List HostArea :=
  [((dw (s.rd (Reg.OP_ARG 0)) (s.rd (Reg.OP_ARG 1))).toNat, (s.rd (Reg.OP_ARG 2)).toNat),
   ((s.rd64 Reg.CYC_PRG_ADDR).toNat, (s.rd Reg.CYC_PRG_LEN).toNat), ((s.rd64 Reg.SEC_FW_ADDR).toNat, (s.rd (Reg.SEC_FW_ADDR + 8)).toNat)]

/-- Two areas overlap. -/
def areasMeet (a b : HostArea) : Bool := decide (a.1 < b.1 + b.2) && decide (b.1 < a.1 + a.2)

/-- A host address that the host has placed in a ring base, a descriptor that is being worked on, or a set-up register (R18). -/
def State.hostPlaced (s : State) (a : Nat) : Bool :=
  (s.ringAreas (fun _ => true) ++ s.hostBufs ++ s.setupAreas).any (fun x => decide (x.1 ≤ a) && decide (a < x.1 + x.2))

/-- A buffer that a descriptor or an operation names overlaps a ring that is enabled or another such buffer (R114). Descriptors that name
one and the same area share a buffer (log entry 139). -/
def State.bufMeets (s : State) (a : HostArea) : Bool :=
  (s.ringAreas (fun c => s.flag c 0)).any (areasMeet a) || s.hostBufs.any (fun b => b != a && areasMeet a b)

/-- Two of a list of areas overlap. -/
def areasClash : List HostArea → Bool
  | [] => false
  | a :: r => r.any (areasMeet a) || areasClash r

/-- A ring area overlaps another ring or a buffer, as the ring's EN is set (R114). -/
def State.ringBad (s : State) : Bool :=
  let rs := s.ringAreas (fun c => s.flag c 0)
  areasClash rs || rs.any (fun r => s.hostBufs.any (areasMeet r))

/-- The memory of a completion or event ring as the ring's EN is set (R114): none when it is not zero. Where the device has written it before,
whether the host has cleared it since is free, and what it has cleared is zero (log entry 138). -/
def State.ringMemory (s : State) (z : HostArea) : Option State :=
  let inside := fun (e : Cell) => decide (z.1 ≤ e.1) && decide (e.1 < z.1 + z.2)
  if !s.hostMem.any inside then some s
  else if s.free.1.getLsbD 0 then some { s.free.2 with hostMem := s.hostMem.filter (fun e => !inside e) }
  else none

/-- Registers that an unpredictable result leaves: those of PRINT_INHIBIT#, the island, Cask and the trust block (R19). -/
def kept (off : Nat) : Bool :=
  (decide (0x8900 ≤ off) && decide (off < 0x890C)) || (decide (0x1B000 ≤ off) && decide (off < 0x1C000)) ||
  (decide (0x1D000 ≤ off) && decide (off < 0x1F000))

/-- What leaves the part in an unpredictable result: no output of the island, and no read outside the addresses of R18. -/
def State.mayLeave (s : State) : Emit → Bool
  | .safeOut _ _ => false
  | .hostRead a _ _ => s.hostPlaced a
  | _ => true

/-- New records in an unpredictable result: those that stand are neither altered nor erased (R19). -/
def State.newRecords (s : State) (l : List CaskRec) : State := l.foldl (fun s r => s.caskPut r.code r.ctx r.args) s

/-- The unpredictable result (R18), within the bounds of R19: the queue, the time-base count, the island and its supply, the fuses with all
that trust rests on, Cask's records and the inhibit logic are as they were; host memory changes only where R18 lets it. -/
def State.disturb (s : State) : State :=
  let t := Config.unpredictable s.freeCtr s
  let regs := (t.regs.filter (fun e => !kept e.1)).foldl (fun m e => SMap.set m (resetWord e.1) e.1 e.2) (s.regs.filter (fun e => kept e.1))
  let mem := (t.hostMem.filter (fun e => s.hostPlaced e.1)).foldl (fun m e => Mem.setByte m e.1 e.2) s.hostMem
  State.newRecords { t with
    pending := s.pending, out := t.out.filter s.mayLeave ++ s.out, regs := regs, hostMem := mem, freeCtr := s.freeCtr + 1,
    upset := s.upset, tb := { t.tb with count := s.tb.count }, pos := { t.pos with pi := s.pos.pi },
    power := { t.power with on := (t.power.on &&& 0xF8) ||| (s.power.on &&& 7), started := s.power.started, pfail := s.power.pfail,
                            refLost := s.power.refLost },
    cask := s.cask, sec := s.sec, safe := s.safe } t.cask.staging

/-- A host error (R17), with the number of the rule that lists it: from here on the part's behaviour is unpredictable (R20). -/
def State.hostError (s : State) (rule : Nat) : State := { s with upset := some rule }.disturb

/-- A completion or event ring starts (R88), unless that is a host error (R114). -/
def State.ringOpens (s : State) (z : HostArea) (f : State → State) : State :=
  if s.ringBad then s.hostError 114 else match s.ringMemory z with
  | some t => f t
  | none => s.free.2.hostError 114

end Machine
end Sys2Proof
end

