-- ==== Sys2Proof/Machine/Gate.lean ====
section
/-!
DEFINITION. What a register write must pass before it acts: the function it comes through (R39), start-up (R551), a
long operation (R107) and the domain of the register (R40).
-/
namespace Sys2Proof.Machine

/-- The registers at an offset can be reached: the domain of their region, or of their block, is on (R40). -/
def State.regOn (s : State) (off : Nat) : Bool :=
  match regionOf off with
  | .global | .host | .timePos | .safe | .cask | .sec | .op | .ctx => true
  | .buf => s.domOn 5
  | .mash =>
    if off < 0xA400 then s.domOn 3 || s.domOn 4 else s.domOn (chDom ((off - 0xA400) / 0x20))
  | .noz => if off < 0xC400 then s.domOn 3 || s.domOn 4 else s.domOn (chDom ((off - 0xC400) / 0x40))
  | .hlink => s.domOn (chDom ((off - 0x10000) / 0x100))
  | .fabric | .twin | .sbus | .can | .eth => s.domOn 6
  | .cycle | .kiln | .loop => s.domOn 7

/-- In recovery the host may stage firmware: SEC_CMD and the registers of FW_STAGE stay writable (R533). -/
def recoveryReg (off : Nat) : Bool :=
  off == Reg.SEC_CMD || (decide (Reg.SEC_FW_ADDR ≤ off) && decide (off ≤ Reg.SEC_FW_ADDR + 8))

/-- A write of a PF0 register that does not reach it: counted as early (R551) or dropped (R107); none when it reaches it. -/
def State.dropped (s : State) (off : Nat) : Option State :=
  if !s.power.ready && !(s.power.recovery && recoveryReg off) then some (s.bump Reg.GLOBAL_EARLY_WR)
  else if s.host.op.isSome then some (s.bump Reg.OP_DROPPED)
  else if !s.regOn off then some s
  else none

/-- A write of a PF0 register: `f` is its effect when it reaches the register. -/
def State.gated (s : State) (off : Nat) (f : State → State) : State := (s.dropped off).getD (f s)

/-- Regions mirrored in BAR0 of PF1 (R38). -/
def mirrored (off : Nat) : Bool :=
  match regionOf off with | .host | .ctx | .timePos | .buf => true | _ => false

/-- Reads of BAR0 return register values: from the end of S2, or in recovery (R533, R551). -/
def State.readable (s : State) : Bool := decide (3 ≤ s.power.phase) || s.power.recovery

/-- In recovery only the GLOBAL and SEC/NVIMG regions respond (R533). -/
def State.mute (s : State) (off : Nat) : Bool := s.power.recovery && regionOf off != .global && regionOf off != .sec

/-- What a read of BAR0 returns when it does not reach its register: 0 through PF1 outside the mirror (R39), in recovery (R533) and while the
domain is off (R40), 0xB5B5B5B5 through PF0 during a long operation (R107). -/
def State.readMiss (s : State) (pf1 : Bool) (off : Nat) : Option Word :=
  if (pf1 && !mirrored off) || s.mute off then some 0
  else if !pf1 && s.host.op.isSome then some 0xB5B5B5B5
  else if !s.regOn off then some 0
  else none

/-- A read of BAR0: `f` gives what the read does and the word that it returns, when it reaches its register. -/
def State.reading (s : State) (pf1 : Bool) (off : Nat) (f : State → State × Word) : State :=
  if !s.readable then s
  else match s.readMiss pf1 off with
    | some w => s.emit (.readData pf1 off w)
    | none => let r := f s; r.1.emit (.readData pf1 off r.2)

end Sys2Proof.Machine
end

