-- ==== Sys2Proof/Machine/FabricTx.lean ====
section
/-!
DEFINITION. Sending on the fabric: blocks and packets (R275, R277, R278), output ports with their priorities and credits (R280,
R281), routing and flooding (R287, R288), packets of the device's own, and the messages of the twin path (R304, R306, R307) with halt
notes (R312, R313).
-/
namespace Sys2Proof.Machine

/-! Blocks. -/

/-- A control block: type, then its content from bit 8 up (R229, R275). -/
def ctlBlock (typ content : Nat) : Block := (true, BitVec.ofNat 64 (typ + content))

/-- The payloads of blocks as bytes, bits [7:0] first (R235). -/
def blockBytes (bs : List Block) : List Byte := bs.flatMap (fun b => natBytes 8 b.2.toNat)

/-- Field [hi:lo] of the payload of a block. -/
def blkField (b : Block) (hi lo : Nat) : Nat := (b.2.toNat >>> lo) % 2 ^ (hi + 1 - lo)

/-- The type of a control block; none for a data block. -/
def blkType (b : Block) : Option Nat := if b.1 then some (blkField b 7 0) else none

/-- The START of a packet (R278). -/
def Packet.start (q : Packet) : Block :=
  ctlBlock 0x1E (q.tc.toNat * 2 ^ 8 + q.dest.toNat * 2 ^ 10 + q.src.toNat * 2 ^ 18 + q.typ.toNat * 2 ^ 26 + q.data.length % 1024 * 2 ^ 32
    + q.alt.toNat * 2 ^ 42 + q.hops.toNat * 2 ^ 43 + q.seq.toNat * 2 ^ 48)

/-- The CRC of a packet (R278): over START and data, with HOPS and ALT read as 0. -/
def Packet.crc (q : Packet) : Word := crc32c (blockBytes (Packet.start { q with alt := false, hops := 0 } :: q.data.map (fun d => (false, d))))

/-- The blocks of a packet (R277, R278). -/
def Packet.wire (q : Packet) : List Block :=
  q.start :: q.data.map (fun d => (false, d)) ++ [ctlBlock 0x78 (q.crc.toNat * 2 ^ 8 + q.bad.toNat * 2 ^ 40)]

/-- The packet that a START and the blocks after it spell (R277, R278): it is bad when BAD is 1, the CRC fails, or the blocks are not LEN
data blocks and an END (log entry 111). -/
def packetOf (l : List Block) : Option Packet :=
  match l with
  | [] => none
  | b :: r =>
    if blkType b ≠ some 0x1E then none else
    let e := r.getLast?.getD (false, 0)
    let body := r.dropLast
    let q : Packet := { tc := BitVec.ofNat 2 (blkField b 9 8), dest := BitVec.ofNat 8 (blkField b 17 10), src := BitVec.ofNat 8 (blkField b 25 18),
                        typ := BitVec.ofNat 6 (blkField b 31 26), alt := b.2.getLsbD 42, hops := BitVec.ofNat 5 (blkField b 47 43),
                        seq := BitVec.ofNat 16 (blkField b 63 48), data := body.map Prod.snd }
    let form := body.all (fun x => !x.1) && blkField b 41 32 == body.length && blkType e == some 0x78
    some { q with bad := !form || e.2.getLsbD 40 || blkField e 39 8 != q.crc.toNat }

/-- A CREDIT block (R275). -/
def creditBlock (cls credits : Nat) : Block := ctlBlock 0x4B (cls * 2 ^ 8 + credits % 65536 * 2 ^ 16)

/-- The pair of LINK blocks that a port in TRAIN sends in place of IDLE (R275, R276). -/
def linkPair (port : Nat) (serial : DWord) : List Block :=
  [ctlBlock 0x33 (port * 2 ^ 9 + (lo32 serial).toNat * 2 ^ 16), ctlBlock 0x33 (2 ^ 8 + port * 2 ^ 9 + (hi32 serial).toNat * 2 ^ 16)]

/-- The serial of a LINK pair, INDEX 0 first (R275). -/
def linkSerial (a b : Block) : Option DWord :=
  if blkType a = some 0x33 && blkType b = some 0x33 && !a.2.getLsbD 8 && b.2.getLsbD 8 then some (dw (wd (blkField a 47 16)) (wd (blkField b 47 16))) else none

/-- TYPE and TC belong together (R279). -/
def typeOk (typ tc : Nat) : Bool :=
  (tc == 3 && decide (1 ≤ typ) && decide (typ ≤ 7)) || (tc == 0 && decide (0x10 ≤ typ) && decide (typ ≤ 0x12)) || (tc == 1 && typ == 0x20)
    || (tc == 2 && typ == 0x30)

/-! Ports. -/

/-- Port `k` of the fabric. -/
def State.portOf (s : State) (k : Nat) : FabPort := s.fab.port.get {} k

/-- Replace port `k`. -/
def State.setPort (s : State) (k : Nat) (p : FabPort) : State := { s with fab := { s.fab with port := s.fab.port.set {} k p } }

/-- FAB_PORT_CTRL.EN of a port. -/
def State.portEn (s : State) (k : Nat) : Bool := s.flag Reg.FAB_PORT_CTRL k

/-- A port carries packets (R276). -/
def State.portUp (s : State) (k : Nat) : Bool := s.domOn 6 && s.portEn k && (s.portOf k).up

/-- Blocks of a packet: START, data and END (R277). -/
def pktBlocks (p : Packet) : Nat := p.data.length + 2

/-- Credits of a class at a port, in blocks. -/
def FabPort.credit (p : FabPort) (tc : Nat) : Nat := match tc with | 1 => p.credit1 | 2 => p.credit2 | _ => p.credit3

/-- Replace the credits of a class. -/
def FabPort.setCredit (p : FabPort) (tc n : Nat) : FabPort :=
  match tc with | 1 => { p with credit1 := n } | 2 => { p with credit2 := n } | _ => { p with credit3 := n }

/-- 10 ps units: a block of 2.56 ns, the choice of ports (step 2 of R281), the wait of step 4. -/
def blockTime : Nat := 256

/-- Time-base count in 10 ps. -/
def State.tenPs (s : State) : Nat := s.count.toNat * 100

/-- The next packet of TC1 to TC3 that an output port sends (R280): the oldest of its class, if the credits cover its whole length; TC1
first, then TC2, but TC3 when 15 of TC2 have gone before it. -/
def FabPort.choose (p : FabPort) : Option (Packet × Option Nat) :=
  let head := fun tc => (p.wait.find? (fun e => e.1.tc.toNat == tc)).filter (fun e => decide (pktBlocks e.1 ≤ p.credit tc))
  match head 1, head 2, head 3 with
  | some e, _, _ => some e
  | none, some e, some f => some (if 15 ≤ p.run2 then f else e)
  | none, some e, none => some e
  | none, none, f => f

/-- Take up a packet for transmission: its credits are used. -/
def FabPort.begin (p : FabPort) (e : Packet × Option Nat) : FabPort :=
  let tc := e.1.tc.toNat
  let p := p.setCredit tc (p.credit tc - pktBlocks e.1)
  { p with wait := p.wait.erase e, cur := e.1.wire, run2 := if tc = 2 then p.run2 + 1 else if tc = 3 then 0 else p.run2 }

/-- What the line of a port sends up to a time (R277, R280): a TC0 packet first, at any block boundary; CREDIT blocks and new packets
between packets. A block that starts by then is sent; `fuel` bounds the turns. -/
def FabPort.run (now : Nat) : Nat → FabPort → FabPort × List Block
  | 0, p => (p, [])
  | f + 1, p =>
    let t0 := match p.wait0 with | [] => now + 1 | e :: _ => e.1
    let zero : FabPort × List Block := match p.wait0 with
      | [] => (p, [])
      | (t, q) :: r => ({ p with wait0 := r, line := max p.line t + pktBlocks q * blockTime }, q.wire)
    if now < p.line then (p, [])
    else if t0 ≤ p.line then let r := FabPort.run now f zero.1; (r.1, zero.2 ++ r.2)
    else if p.cur ≠ [] then
      let n := (min (now + 1) t0 - p.line + (blockTime - 1)) / blockTime
      let k := min n p.cur.length
      let r := FabPort.run now f { p with cur := p.cur.drop k, line := p.line + k * blockTime }
      (r.1, p.cur.take k ++ r.2)
    else if p.ctl ≠ [] then
      let r := FabPort.run now f { p with ctl := [], line := p.line + p.ctl.length * blockTime }
      (r.1, p.ctl ++ r.2)
    else match p.choose with
      | some e => FabPort.run now f (p.begin e)
      | none => if t0 ≤ now then let r := FabPort.run now f zero.1; (r.1, zero.2 ++ r.2) else ({ p with line := now }, [])

/-- Send on a port what its line has taken by now. -/
def State.portPump (s : State) (k : Nat) : State :=
  let p := s.portOf k
  let r := p.run s.tenPs (2 * p.wait0.length + 2 * p.wait.length + 4)
  let s := s.setPort k r.1
  if r.2 = [] then s else s.emit (.fabBlocks k r.2)

/-- Change what waits at a port: what its line took before is sent first. -/
def State.portGive (s : State) (k : Nat) (f : FabPort → FabPort) : State :=
  let s := s.portPump k
  (s.setPort k (f (s.portOf k))).portPump k

/-- Send on every port that is UP what its line has taken by now. -/
def State.portsPump (s : State) : State := s.each ((List.range 8).filter s.portUp) State.portPump

/-- Give a TC0 packet to an output port: it leaves after those queued ahead; a departure later than step 5 of R281
counts in FAB_TC0_WAIT. -/
def State.sendTc0 (s : State) (k : Nat) (q : Packet) : State :=
  let t := max (s.tenPs + 1250) (s.portOf k).busy
  let s := s.portGive k (fun p => { p with busy := t + pktBlocks q * blockTime, wait0 := p.wait0 ++ [(t, q)] })
  if s.tenPs + 2530 < t then s.bump Reg.FAB_TC0_WAIT else s

/-- Give a packet that came on a port, or is the device's own, to an output port (R280). -/
def State.portSend (s : State) (k : Nat) (q : Packet) (came : Option Nat) : State :=
  if q.tc = 0 then s.sendTc0 k q else s.portGive k (fun p => { p with wait := p.wait ++ [(q, came)] })

/-- The ports that are UP, but for one. -/
def State.upPorts (s : State) (except : Option Nat) : List Nat :=
  (List.range 8).filter (fun k => s.portUp k && some k != except)

/-- FAB_UNREACHABLE (R287): a discarded packet is counted, and raised once for its destination. -/
def State.unreachable (s : State) (dest : Nat) : State :=
  let s := s.bump Reg.FAB_DROP
  if s.fab.unreach.contains dest then s
  else { s with fab := { s.fab with unreach := dest :: s.fab.unreach } }.raise 0x0907 0 [wd dest]

/-- FAB_PACKET_FORWARD of a unicast packet (R287): the primary port, else the alternate with ALT set. -/
def State.route (s : State) (q : Packet) (came : Option Nat) : State :=
  let e := s.fab.route.get 0 q.dest.toNat
  let pri := (e.extractLsb' 0 3).toNat
  let alt := (e.extractLsb' 4 3).toNat
  if e = 0 then s.unreachable q.dest.toNat
  else if e.getLsbD 3 && s.portUp pri && came != some pri then s.portSend pri q came
  else if e.getLsbD 7 && s.portUp alt && came != some alt then s.portSend alt { q with alt := true } came
  else s.unreachable q.dest.toNat

/-- Flood a packet on every UP port but the one on which it came (R288). -/
def State.flood (s : State) (q : Packet) (came : Option Nat) : State :=
  s.each (s.upPorts came) (fun s k => s.portSend k q came)

/-- A received packet goes on: its hops are one more, and above 31 it is discarded (R287, R288). -/
def State.forward (s : State) (q : Packet) (came : Nat) : State :=
  if q.hops = 31 then s.unreachable q.dest.toNat else
  let q := { q with hops := q.hops + 1 }
  if q.dest = 255 then s.flood q (some came) else s.route q (some came)

/-- The SEQ of a packet is new in its window, which then holds it (R288). From address 0 the windows go by serial. -/
def State.newSeq (s : State) (q : Packet) : Option State :=
  if q.src = 0 then
    let e := (q.data.headD 0, q.tc.toNat, q.seq)
    if s.fab.seen0.contains e then none
    else
      let mine := fun x : DWord × Nat × BitVec 16 => x.1 == e.1 && x.2.1 == e.2.1
      let keep := (s.fab.seen0.filter mine).take 63
      some { s with fab := { s.fab with seen0 := e :: keep ++ s.fab.seen0.filter (fun x => !mine x) } }
  else
    let k := q.src.toNat * 4 + q.tc.toNat
    let w := s.fab.seen.get [] k
    if w.contains q.seq then none
    else some { s with fab := { s.fab with seen := s.fab.seen.set [] k ((q.seq :: w).take 64) } }

/-- FAB_CFG.EN is 1 and PD6 is on: the device takes part in the fabric. -/
def State.fabOn (s : State) : Bool := s.domOn 6 && s.flag Reg.FAB_CFG 0

/-- The image of an IMAGE packet (R291, R292): it is ready for the link of its channel, once, if the packet comes from the node that
FAB_FWD_RX names. One whose slot's token has been taken fires nothing and is not held (log entry 112). -/
def State.imageTake (s : State) (q : Packet) : State :=
  let b := q.data.headD 0
  let ch := b.toNat / 2 ^ 32 % 64
  let w := s.rd (Reg.FAB_FWD_RX ch)
  if !bit w 15 || bits w 7 0 ≠ q.src.toNat then s.bump Reg.FAB_FWD_REJECT else
  let i : HlImage := { line := lo32 b, blocks := if b.getLsbD 38 then [] else q.data.drop 1, bankmap := b.getLsbD 39, bank := b.getLsbD 40,
                       readyAt := s.count }
  s.modHl ch (fun h =>
    if match h.took with | some l => decide ((i.line - l).toInt ≤ 0) | none => false then h else { h with images := h.images.filter (fun x => x.line != i.line) ++ [i] })

/-- Send a packet of the device's own: the next SEQ of its class (R278), flooded or routed; one to the device's own address is delivered
at once (R287), and only an IMAGE has an effect there. Without an address a device sends discovery packets only (R286). -/
def State.sendPacket (s : State) (tc dest typ : Nat) (data : List DWord) : State :=
  if !s.fabOn || (s.fab.addr = 0 && tc ≠ 3) then s else
  let n := s.fab.seq.get 0 tc
  let q : Packet := { tc := BitVec.ofNat 2 tc, dest := BitVec.ofNat 8 dest, src := BitVec.ofNat 8 s.fab.addr,
                      typ := BitVec.ofNat 6 typ, alt := false, hops := 0, seq := n, data := data }
  let s := { s with fab := { s.fab with seq := s.fab.seq.set 0 tc (n + 1) } }
  let s := (s.newSeq q).getD s
  if dest = 255 then s.flood q none
  else if dest = s.fab.addr then (if typ = 0x30 then s.imageTake q else s)
  else s.route q none

/-! The twin path. -/

/-- Data block 0 of a TWIN packet (R306). -/
def State.twinHead (s : State) (kind : Nat) : DWord :=
  dw (wd (kind + s.power.unitB.toNat * 16 + (s.twin.role == .active).toNat * 32)) s.twin.epoch

/-- Send a message to the partner (R301, R306, R307): none without a partner address, or while the role is
OFF and the unit does not wait for its partner. -/
def State.twinMsg (s : State) (kind : Nat) (data : List DWord) : State :=
  if s.twin.partnerAddr = 0 || (s.twin.role == .off && s.twin.startWait.isNone) then s
  else s.sendPacket 1 s.twin.partnerAddr 0x20 (s.twinHead kind :: data)

/-- The frame number that the pair uses: own count, with the offset learned on the standby (R307). -/
def State.pairFrame (s : State) : Word := lo32 s.pos.frame.number + s.twin.frameOfs

/-- TWIN_DIVERGED (R312): a context of the standby is marked, with the reason. -/
def State.diverge (s : State) (n reason : Nat) : State :=
  if s.twin.div.getLsbD n then s
  else { s with twin := { s.twin with div := s.twin.div ||| BitVec.ofNat 64 (1 <<< n) } }.raise 0x0A07 n [wd n, wd reason]

/-- A context has halted (R312, R313): through a cause local to the unit the active sends a halt note, and on the
standby the context diverges unless the halt was noted. -/
def State.haltNote (s : State) (n cause : Nat) : State :=
  if cause = 1 || cause = 2 then s else
  match s.twin.role with
  | .off => s
  | .active => s.twinMsg 6 [dw (wd (n + 1 * 256 + cause * 65536)) s.pairFrame, 0]
  | .standby =>
    if s.twin.noted.contains n then { s with twin := { s.twin with noted := s.twin.noted.erase n } }
    else s.diverge n 2

/-- Send a CTX message of a command or a table effect with its apply frame (R307, R311). -/
def State.ctxMsg (s : State) (a : TwinAct) : State :=
  s.twinMsg 6 [dw (wd (a.ctx + a.kind * 256 + a.cmd * 4096)) a.frame, dw (wd (a.pi + a.key * 65536)) 0]

/-- Send the SEQ message of the inputs taken at a boundary (R310). -/
def State.seqMsg (s : State) (n : Nat) (codes : List Nat) : State :=
  let word := fun i => BitVec.ofNat 64 (bytesNat (((codes.drop (8 * i)).take 8).map (BitVec.ofNat 8)))
  s.twinMsg 5 (dw s.pairFrame (wd (n + codes.length % 64 * 256)) :: (List.range ((codes.length + 7) / 8)).map word)

end Sys2Proof.Machine
end

