-- ==== Sys2Proof/Machine/Context.lean ====
section
/-!
DEFINITION. Print contexts beside their commands: completions and their rings (R91, R97 to R100), pages and lines (R129,
R130), slack (R142), sequencer inputs and actions (R131 to R135), halts (R126) and buffer ECC findings (R146, R148).
-/
namespace Sys2Proof.Machine

/-- The code of a context state (R122). -/
def CtxState.code : CtxState → Nat
  | .idle => 0 | .armed => 1 | .running => 2 | .draining => 3 | .halted => 4

/-- ARMED, RUNNING or DRAINING. -/
def Ctx.active (c : Ctx) : Bool := c.state == .armed || c.state == .running || c.state == .draining

/-- RUNNING or DRAINING from RUNNING: lines are fired (R122, R125). -/
def Ctx.firing (c : Ctx) : Bool := c.state == .running || (c.state == .draining && !c.drainArmed)

/-- Signed distance of two lines, modulo 2^32 (R6). -/
def ldiff (a b : Word) : Int := (a - b).toInt

/-- The channels of context `n` (R120). -/
def State.chans (s : State) (n : Nat) : List Nat := (List.range 64).filter (fun k => (s.rd64 (Reg.CTX_CHMAP n)).getLsbD k)

/-- The channels of context `n` that screen and compensate: those not in receive mode (R290). -/
def State.workChans (s : State) (n : Nat) : List Nat := (s.chans n).filter (fun k => !s.flag (Reg.FAB_FWD_RX k) 15)

/-- The context that is not IDLE and whose channel set holds the channel (R121, R578). -/
def State.ownerOf (s : State) (ch : Nat) : Option Nat :=
  (s.ctx.map Prod.fst).find? (fun n => (s.ctxOf n).state != .idle && (s.rd64 (Reg.CTX_CHMAP n)).getLsbD ch)

/-- The context whose table region serves a channel (R578): the owner, else the lowest-numbered whose set holds it. -/
def State.tableCtx (s : State) (ch : Nat) : Option Nat :=
  match s.ownerOf ch with
  | some n => some n
  | none => ((List.range 64).filter (fun n => 1 ≤ n)).find? (fun n => (s.rd64 (Reg.CTX_CHMAP n)).getLsbD ch)

/-! Pages and lines. -/

/-- The last line of an item whose first line is known. -/
def Item.endLine (i : Item) : Option Word := i.first.map (fun f => f + wd i.count - 1)

/-- Place one item behind the end of the item before it (R130). `base` is the next line to fire while lines run. -/
def placeItem (prev : Option Item) (base : Option Word) (i : Item) : Item :=
  match i.first with
  | some _ => i
  | none =>
    if i.page && i.anchored then i
    else if i.page then
      match prev with
      | none => { i with first := some i.start }
      | some p => match p.endLine with
        | none => i
        | some e => { i with first := some (if ldiff i.start e ≤ 0 then e + 1 else i.start) }
    else match prev with
      | none => { i with first := base }
      | some p => match p.endLine with
        | none => i
        | some e => { i with first := some (e + 1) }

/-- Place the items of a context in submit order (R129, R130). -/
def placeItems (prev : Option Item) (base : Option Word) : List Item → List Item
  | [] => []
  | i :: r => let j := placeItem prev base i; j :: placeItems (some j) base r

/-- The next line to fire, once START fixed the last line fired. -/
def Ctx.next (c : Ctx) : Word := c.lastLine + 1

/-- The items placed; BLANK lines read first begin at the next line to fire, while ARMED once START fixes it (R130). -/
def Ctx.place (c : Ctx) : Ctx :=
  { c with items := placeItems none (if c.state == .armed then none else some c.next) c.items }

/-- The item that holds a line. -/
def Ctx.itemAt (c : Ctx) (l : Word) : Option Item :=
  c.items.find? (fun i => match i.first with
    | none => false
    | some f => decide (0 ≤ ldiff l f) && decide (ldiff l f < i.count))

/-- The page that holds a line. -/
def Ctx.pageAt (c : Ctx) (l : Word) : Option Item := (c.itemAt l).filter (fun i => i.page)

/-- LINES of a tile whose header is known and holds 1 to 256, else the largest tile's 256 (R155, R169; log entry 20): of a tile that
has not arrived, the header is not known. -/
def Tile.lineCount (t : Tile) : Nat :=
  let l := bits (nthW t.hdr 1) 24 16
  if t.hdr = [] || l = 0 || 256 < l then 256 else l

/-- A tile that is not resident and covers page line `y`. -/
def Tile.blocks (t : Tile) (y : Nat) : Bool :=
  t.state != .resident && decide (t.y0 ≤ y) && decide (y < t.y0 + t.lineCount)

/-- Page line `y` of an item is resident: covered completely (R157) and every tile on it whole in the ingest area (R142). -/
def Ctx.lineIn (c : Ctx) (i : Item) (y : Nat) : Bool :=
  (i.closed || decide (y < i.lastY0)) && c.tiles.all (fun t => t.item != i.id || !t.blocks y)

/-- Consecutive resident lines of an item from its line `y` on: up to the first line that a tile or R157 blocks. -/
def Ctx.runIn (c : Ctx) (i : Item) (y : Nat) : Nat :=
  if !i.page then i.count - y else
  let lim := if i.closed then i.count else min i.count i.lastY0
  let lim := c.tiles.foldl (fun m t =>
    if t.item != i.id || t.state == .resident then m
    else if t.y0 + t.lineCount ≤ y then m
    else min m (max y t.y0)) lim
  lim - y

/-- Slack over the items from line `l` on (R142; while ARMED before START fixes it, `l` is the line after the last one of the run before:
log entry 114); an anchored page that waits counts its resident lines as if it
started next, and ends the count (log entry 21). -/
def Ctx.slackFrom (c : Ctx) : List Item → Word → Nat → Nat
  | [], _, acc => acc
  | i :: r, l, acc =>
    match i.first with
    | none => if i.page then acc + c.runIn i 0 else Ctx.slackFrom c r l (acc + i.count)
    | some f =>
      let e := f + wd i.count
      if ldiff e l ≤ 0 then Ctx.slackFrom c r l acc
      else
        let gap := if 0 < ldiff f l then (ldiff f l).toNat else 0
        let y := if 0 < ldiff l f then (ldiff l f).toNat else 0
        let k := c.runIn i y
        if k < i.count - y then acc + gap + k else Ctx.slackFrom c r e (acc + gap + k)

/-- Slack of a context (R142): 0 in IDLE and HALTED, saturating at 2^31 − 1. -/
def Ctx.slack (c : Ctx) : Nat := if c.active then min (c.slackFrom c.items c.next 0) (2 ^ 31 - 1) else 0

/-- A line is resident (R142): gap and BLANK lines are; a page line when `lineIn` holds; a line beyond everything read
is not, unless an anchored page waits. -/
def Ctx.resident (c : Ctx) (l : Word) : Bool :=
  match c.itemAt l with
  | some i => if i.page then c.lineIn i (ldiff l (i.first.getD 0)).toNat else true
  | none => c.items.any (fun i => match i.first with
      | none => true
      | some f => decide (0 < ldiff f l))

/-! Completions. -/

/-- The 64 bytes of a completion entry (R97). -/
def complEntry (e : Compl) (phase : Bool) (slack : Nat) (time : DWord) (lost : Nat) : List Byte :=
  wordsBytes [wd (e.op + e.status * 256 + e.tag * 65536), wd (e.sqCi + (if phase then 2 ^ 31 else 0)), e.pageId,
    wd slack, lo32 time, hi32 time, e.late, e.ecc, e.blank, e.inhib, e.clip, wd (min lost (2 ^ 32 - 1)), 0, 0, 0, 0]

/-- SQ_SIZE and CQ_SIZE of a context's rings (R117). -/
def State.sqSize (s : State) (n : Nat) : Nat := s.fld (Reg.HOST_RING_CTRL n) 5 1
/-- CQ_SIZE of a context's completion ring. -/
def State.cqSize (s : State) (n : Nat) : Nat := s.fld (Reg.HOST_RING_CTRL n) 10 6

/-- A completion can be written now: space in the ring, PF1 able to write, the ring engine running (R35; log entry 107), and no wait
after a takeover (R323). -/
def State.cqSpace (s : State) (n : Nat) : Bool :=
  let r := s.ringOf n
  !ringFull r.cqPi r.cqCi (s.cqSize n) && s.pf1Can && s.mgmtRuns && !s.twin.postHold

/-- Signal a completion ring's interrupt under its moderation (R100), at once for a descriptor with IRQ = 1. -/
def State.cqModerate (s : State) (n : Nat) (force : Bool) : State :=
  let r := s.ringOf n
  if force || s.fld (Reg.HOST_RING_CTRL n) 24 17 ≤ r.posted then
    (s.setRing n { r with posted := 0, first := none }).irq true (s.fld (Reg.HOST_RING_CTRL n) 16 11)
  else s

/-- COMPLETION_POST (R97): write one entry at the producer index, with the slack and time of this moment. -/
def State.complPost (s : State) (n : Nat) (e : Compl) (lost : Nat) : State :=
  let r := s.ringOf n
  let addr := (s.rd64 (Reg.HOST_CQ_BASE n)).toNat + r.cqPi * 64
  let s := s.hostWrite addr (complEntry e r.phase (s.ctxOf n).slack s.now lost)
  let wrap := r.cqPi + 1 == 2 ^ s.cqSize n
  (s.setRing n { r with cqPi := if wrap then 0 else r.cqPi + 1, phase := if wrap then !r.phase else r.phase,
                        posted := r.posted + 1, first := some (r.first.getD s.now) }).cqModerate n e.irq

/-- A completion falls due (R97, R99, R106): posted, held while the ring is full, or discarded beyond 32 held. On a
standby unit none is posted (R103); while EN is 0 it is discarded and not counted. -/
def State.complDue (s : State) (n : Nat) (e : Compl) : State :=
  let r := s.ringOf n
  if !s.flag (Reg.HOST_RING_CTRL n) 0 || s.twin.role == .standby then s
  else if r.held = [] && r.lost = 0 && s.cqSpace n then s.complPost n e 0
  else if r.held.length < 32 then s.setRing n { r with held := r.held ++ [e] }
  else
    let s := (s.setRing n { r with lost := r.lost + 1 }).bump (Reg.HOST_CQ_LOST n)
    if r.lost = 0 then s.raise 0x0301 n [wd n] else s

/-- Post held completions while there is space, then the CQ_LOST summary (R99). -/
def State.cqDrain (s : State) (n : Nat) : Nat → State
  | 0 => s
  | k + 1 =>
    let r := s.ringOf n
    if !s.cqSpace n || !s.flag (Reg.HOST_RING_CTRL n) 0 then s else
    match r.held with
    | e :: h => ((s.setRing n { r with held := h }).complPost n e 0).cqDrain n k
    | [] => if r.lost = 0 then s else
        (s.setRing n { r with lost := 0 }).complPost n { status := 7, sqCi := r.sqCi } r.lost

/-- A TILE or TABLE_LOAD completion may be posted: the standby has copied it, or need not be waited for (R309). The standby's index
counts as ahead of the active's own where it lies among the descriptors that the active has still to read. -/
def State.copyOk (s : State) (n : Nat) (e : Compl) : Bool :=
  let t := s.twin
  if t.role != .active || !t.partner || t.div.getLsbD n || (e.op != 2 && e.op != 4) then true
  else
    let m := 2 ^ s.sqSize n
    let r := s.ringOf n
    let k := t.copyIdx.get 0 n
    decide ((k + m - r.sqCi) % m ≤ (r.sqPi + m - r.sqCi) % m) || decide ((r.sqCi + m - k) % m ≤ (r.sqCi + m - e.sqCi) % m)

/-- Index of a key in the table directory of context `n` (R307): new keys are entered in order and keep their place. -/
def State.dirKey (s : State) (n : Nat) (e : DirEntry) : Nat :=
  (s.buf.dirs.get [] n).findIdx (fun x => x.kind == e.kind && x.inst == e.inst && x.tset == e.tset)

/-- The completion of a TABLE_LOAD on the active unit of a pair (R311): its effect is announced for the eighth boundary. -/
def State.tableEffect (s : State) (n id : Nat) : State :=
  if s.twin.role != .active then s else
  match (s.ctxOf n).tabWait.find? (fun t => t.id == id) with
  | none => s
  | some t =>
    let a : TwinAct := { frame := s.pairFrame + 8, ctx := n, kind := 2, id := some id, key := s.dirKey n t.e }
    State.ctxMsg { s with twin := { s.twin with acts := s.twin.acts ++ [a] } } a

/-- A descriptor's completion is posted (R93 to R96, R86): COMPL is set, or it was skipped, or its own read failed. -/
def InFlight.posts (f : InFlight) (st : Nat) : Bool := f.compl || (st != 0 && st != 5)

/-- Post the completions whose turn has come, in submit order (R91). -/
def State.settle (s : State) (n : Nat) : Nat → State
  | 0 => s
  | k + 1 =>
    let c := s.ctxOf n
    match c.flight with
    | [] => s
    | f :: r => match f.status with
      | none => s
      | some st =>
        let e := { f.entry with status := st }
        if !s.copyOk n e then s else
        let s := s.setCtx n { c with flight := r }
        let s := if e.op = 4 && st = 0 then s.tableEffect n f.id else s
        (if f.posts st then s.complDue n e else s).settle n k

/-- Post what is due of context `n`. -/
def State.settleAll (s : State) (n : Nat) : State := s.settle n (s.ctxOf n).flight.length

/-- Change a descriptor in flight. -/
def Ctx.modFlight (c : Ctx) (id : Nat) (f : InFlight → InFlight) : Ctx :=
  { c with flight := c.flight.map (fun e => if e.id == id then f e else e) }

/-- A descriptor has finished with a STATUS: its completion is due in its turn. -/
def State.finish (s : State) (n id st : Nat) : State :=
  (s.modCtx n (fun c => c.modFlight id (fun e => { e with status := some (e.status.getD st) }))).settleAll n

/-- Change the completion counters of a page in flight (R97). -/
def Ctx.modPage (c : Ctx) (item : Option Nat) (f : Compl → Compl) : Ctx :=
  match item with
  | none => c
  | some id => c.modFlight id (fun e => { e with entry := f e.entry })

/-! Sequencer inputs. -/

/-- SEQ_INPUT_QUEUE (R133): an input of an active context is stamped and queued, or dropped when 64 are queued. A
standby unit takes no inputs of its own (R310). -/
def State.seqInputAt (s : State) (n code : Nat) (stamp : DWord) : State :=
  let c := s.ctxOf n
  if !c.active || s.twin.role == .standby then s
  else if 64 ≤ c.seqQ.length then
    ((s.bump (Reg.CTX_SEQ_DROPPED n)).orW (Reg.CTX_FAULTS n) 8).raise 0x0407 n [wd code]
  else s.setCtx n { c with seqQ := c.seqQ ++ [{ stamp := stamp, code := code }] }

/-- An input that arises now. -/
def State.seqInput (s : State) (n code : Nat) : State := s.seqInputAt n code s.count

/-- The contexts that exist in the bank, in ascending order. -/
def State.ctxNums (s : State) : List Nat := s.ctx.map Prod.fst

/-- An input to every context that is ARMED, RUNNING or DRAINING. -/
def State.seqInputAll (s : State) (code : Nat) : State := s.each s.ctxNums (fun s n => s.seqInput n code)

/-! Halts. -/

/-- Cancel the armed map switch of a channel (R211). -/
def State.cancelSwitch (s : State) (ch : Nat) : State :=
  let z := s.nozOf ch
  let s := s.setNoz ch { z with pending := none, fetch := none, ready := false }
  let s := s.setHl ch { s.hlOf ch with uploads := (s.hlOf ch).uploads.filter (fun u => !u.forSwitch) }
  (s.setF (Reg.NOZ_CH_SWCTL ch) 0 0 0).setF (Reg.NOZ_CH_STATUS ch) 4 4 0

/-- The channel's stream has no slots any more: block 2 carries V = 0 (R268), and no older map is in use (R209). -/
def State.dropSlots (s : State) (ch : Nat) : State :=
  let z := s.nozOf ch
  (s.setNoz ch { z with maps := z.maps.take 1, built := none }).modHl ch (fun h => { h with images := [], tokens := [], lateRun := false })

/-- The context is DIVERGED on this standby (R312). -/
def State.divergedHere (s : State) (n : Nat) : Bool := s.twin.role == .standby && s.twin.div.getLsbD n

/-- A context reads descriptors and fetches (R122, R125): while it is active, and while it is DIVERGED on the standby, HALTED too (R312). -/
def State.reads (s : State) (n : Nat) : Bool :=
  (s.ctxOf n).active || ((s.ctxOf n).state == .halted && s.divergedHere n)

/-- A halt with this cause leaves the context DIVERGED on this standby (R312). -/
def State.haltDiverges (s : State) (n cause : Nat) : Bool :=
  s.twin.role == .standby && (s.twin.div.getLsbD n || (cause != 1 && cause != 2 && !s.twin.noted.contains n))

/-- The read requests of a context. -/
def RdOwner.ofCtx (n : Nat) : RdOwner → Bool
  | .tile m _ | .table m _ => m == n
  | _ => false

/-- CTX_HALTED (R126, R133, R211): the context enters HALTED; unfinished descriptors complete with ABORTED, and their data is not read any
more. One that diverges by the halt still fetches (R312). -/
def State.enterHalted (s : State) (n cause : Nat) : State :=
  let c := s.ctxOf n
  let still := s.haltDiverges n cause
  let fl := if still then c.flight else c.flight.map (fun e => { e with status := some (e.status.getD 6) })
  let s := s.setCtx n { c with state := .halted, cause := cause, flight := fl, copies := if still then c.copies else [], startPend := false,
                               drain := none, drainArmed := false, drainPend := none, seqLine := none, halt := none, seqQ := [], lines := [], slots := [],
                               nozLoad := false, nozFail := false, lowEp := false, critEp := false, lateRun := false,
                               tiles := if still then c.tiles else c.tiles.filter (fun t => t.state == .resident) }
  let s := if still then s else s.dropReads (RdOwner.ofCtx n)
  let s := s.each (s.chans n) (fun s ch => (s.cancelSwitch ch).dropSlots ch)
  let s := s.settleAll n
  let s := s.raise 0x0401 n [wd cause, c.lastLine]
  s.haltNote n cause

/-- Halt at the tick where R35 or R52 names it: every active context of a list. -/
def State.haltNow (s : State) (ns : List Nat) (cause : Nat) : State :=
  s.each ns (fun s n => if (s.ctxOf n).active then s.enterHalted n cause else s)

/-- Request a halt at the next line boundary (R126); the cause that came first stays (R128). -/
def State.haltReq (s : State) (n cause : Nat) (pageEnd : Option Nat) : State :=
  let c := s.ctxOf n
  if !c.active then s else
  match c.halt with
  | none => s.setCtx n { c with halt := some { cause := cause, since := s.count, pageEnd := pageEnd } }
  | some h => if h.pageEnd.isSome && pageEnd.isNone then
      s.setCtx n { c with halt := some { cause := cause, since := s.count, pageEnd := none } }
    else s

/-- The page in progress: started and not ended. -/
def Ctx.inPage (c : Ctx) : Option Item := c.items.find? (fun i => i.page && i.started && !i.ended)

/-! Lines that have passed. -/

/-- Forget the items that have ended, but for the last one and each one before an item that has not ended (R130), the open page and the
last absolute page (R96, R150), and those with tiles that are still to arrive (R168). -/
def pruneItems (keep : Nat → Bool) : List Item → List Item
  | i :: j :: r => if i.ended && j.ended && !keep i.id then pruneItems keep (j :: r) else i :: pruneItems keep (j :: r)
  | l => l

/-- The last page that a context has read since ARM: the open page. -/
def Ctx.openPage (c : Ctx) : Option Item := (c.items.filter (fun i => i.page)).getLast?

/-- Forget what a context needs no more of the items that have ended. -/
def Ctx.prune (c : Ctx) : Ctx :=
  let keep := (c.openPage.map Item.id).toList ++ ((c.items.filter (fun i => i.page && !i.anchored)).getLast?.map Item.id).toList
    ++ ((c.tiles.filter (fun t => t.state == .waiting || t.state == .fetching)).map Tile.item)
  { c with items := pruneItems (fun k => keep.contains k) c.items }

/-- A line of an item has passed (R95, R132): the page starts, and at its last line the item ends and its descriptor
completes; a halt that waited for the page's end waits no more. CTX_PAGE_ID keeps the PAGE_ID of the last page started (log entry 115). -/
def State.itemPass (s : State) (n : Nat) (i : Item) (last : Bool) (stamp : DWord) : State :=
  let mark := fun (s : State) (f : Item → Item) =>
    s.modCtx n (fun c => { c with items := c.items.map (fun j => if j.id == i.id then f j else j) })
  let s := if i.page && !i.started then
      ((mark s (fun j => { j with started := true })).modCtx n (fun c => { c with pageId := i.pageId })).seqInputAt n 0x25 stamp
    else s
  if !last || i.ended then s
  else
    let s := mark s (fun j => { j with ended := true })
    let s := if i.page then (s.bump (Reg.CTX_PAGES n)).seqInputAt n 0x26 stamp else s
    let s := s.modCtx n (fun c => { c with halt := c.halt.map (fun h =>
      if h.pageEnd == some i.id then { h with pageEnd := none, since := s.count } else h) })
    s.finish n i.id 0

/-- LATE_LINE (R143, R144, R196): late lines, of a page if one holds them, are counted; the first of a run is raised and is a sequencer
input. -/
def State.lateLine (s : State) (n : Nat) (it : Option Item) (line : Word) (count : Nat) (stamp : DWord) : State :=
  let s := (s.bumpBy (Reg.CTX_LATE_LINES n) count).orW (Reg.CTX_FAULTS n) 4
  let run := (s.ctxOf n).lateRun
  let s := s.modCtx n (fun c => { c.modPage (it.map Item.id) (fun e => { e with late := satAdd e.late count }) with lateRun := true })
  let s := if run then s else (s.raise 0x0402 n [line]).seqInputAt n 0x27 stamp
  match it with
  | some i => if i.page && s.flag (Reg.CTX_CFG n) 4 then s.haltReq n 3 (if i.ended then none else some i.id) else s
  | none => s

/-- The lines of an item up to a line have passed without being fired: those of a page are late lines (R124, R143). -/
def State.passed (s : State) (n : Nat) (last : Word) (i : Item) : State :=
  match i.first with
  | none => s
  | some f =>
    let k := min i.count (ldiff last f + 1).toNat
    if k = 0 then s else
    let s := if i.page then s.lateLine n (some i) f k s.count else s
    s.itemPass n i (k == i.count) s.count

/-- The last line whose slot has passed: the lines after it up to the last line fired have slots. -/
def Ctx.lastPassed (c : Ctx) : Word := match c.slots with | [] => c.lastLine | sl :: _ => sl.line - 1

/-- New items, or new first lines, have come to a context whose lines run: what lies on lines that have passed is late (R143). A line
whose deadline passed while it belonged to no page fires 0:0 and is neither screened nor late (log entry 116). -/
def State.setItems (s : State) (n : Nat) (c : Ctx) : State :=
  let old := (s.ctxOf n).items.filter (fun i => i.first.isSome)
  let s := s.setCtx n c
  if !c.firing then s
  else (c.items.filter (fun i => !old.any (fun j => j.id == i.id))).foldl (fun s i => s.passed n c.lastPassed i) s

/-- DRAIN (R125): record the producer index and read descriptors up to it. From ARMED the PAGE descriptors
end ABORTED and the BLANK descriptors end without firing (log entry 29). -/
def State.doDrain (s : State) (n pi : Nat) : State :=
  let c := s.ctxOf n
  match c.state with
  | .running => s.setCtx n { c with state := .draining, drain := some pi }
  | .armed =>
    let fl := c.flight.map (fun e => if e.entry.op == 1 then { e with status := some (e.status.getD 6) }
      else if e.entry.op == 3 then { e with status := some (e.status.getD 0) } else e)
    (s.setCtx n { c with state := .draining, drain := some pi, drainArmed := true, startPend := false, flight := fl }).settleAll n
  | _ => s

/-! Sequencer actions. -/

/-- Give the oldest anchored page that has not been started its first line (R129, R134). -/
def startPage (c : Ctx) (arg : Word) : Option Ctx :=
  match c.items.find? (fun i => i.page && i.anchored && i.first.isNone) with
  | none => none
  | some p =>
    let want := c.next + arg + p.start + wd p.delay
    let prev := (c.items.filter (fun i => decide (i.id < p.id))).getLast?
    let f := match prev.bind Item.endLine with
      | some e => if ldiff want e ≤ 0 then e + 1 else want
      | none => want
    let items := c.items.map (fun i : Item => if i.id == p.id then { i with first := some f } else i)
    some (Ctx.place { c with items := items })

/-- One sequencer action (R134); the inputs it raises are answered for the walk in progress. -/
def State.seqAction (s : State) (n act : Nat) (arg : Word) : State × List Nat :=
  let c := s.ctxOf n
  match act with
  | 1 => match startPage c arg with
    | some c => (s.setItems n c, [])
    | none => (s.bump (Reg.CTX_SEQ_DROPPED n), [])
  | 2 => (s.setCtx n { c with items := c.items.map (fun i =>
      if i.page && i.anchored && i.first.isNone then { i with delay := i.delay + bits arg 23 0 } else i) }, [])
  | 3 => (s.setCtx n { c with tsetPend := some (bits arg 3 0) }, [])
  | 4 => (s.haltReq n 2 (c.inPage.map Item.id), [])
  | 5 => (s.haltReq n 2 none, [])
  | 6 => (s.raiseE 0x0406 n [wd (bits arg 15 0), wd c.seqState], [])
  | 7 => (s.setCtx n { c with seqCount := bits arg 23 0 }, if bits arg 23 0 = 0 then [0x2B] else [])
  | 8 => if c.seqCount = 0 then (s, [])
    else (s.setCtx n { c with seqCount := c.seqCount - 1 }, if c.seqCount = 1 then [0x2B] else [])
  | 9 => (s.setCtx n { c with seqFlags := (c.seqFlags &&& ~~~(BitVec.ofNat 16 (bits arg 31 16))) ||| BitVec.ofNat 16 (bits arg 15 0) }, [])
  | 10 => (s.doDrain n (s.ringOf n).sqPi, [])
  | _ => (s, [])

/-- The entry of lowest index that an input fires in a state (R133). -/
def seqMatch (tab : List (Word × Word)) (st code : Nat) : Option (Word × Word) :=
  tab.find? (fun e => bit e.1 7 && bits e.1 13 8 == code && (bit e.1 6 || bits e.1 5 0 == st))

/-- SEQ_WALK (R133): take inputs in order; those an action raises are taken after them, up to a bound (log entry 22). -/
def State.seqWalk (s : State) (n : Nat) : Nat → List Nat → State
  | 0, _ => s
  | _, [] => s
  | k + 1, code :: r =>
    let c := s.ctxOf n
    if !c.active then s else
    match seqMatch c.seqTab c.seqState code with
    | none => s.seqWalk n k r
    | some (w0, arg) =>
      let (s, more) := s.seqAction n (bits w0 27 24) arg
      let s := if bit w0 22 then s else s.modCtx n (fun c => { c with seqState := bits w0 21 16 })
      s.seqWalk n k (r ++ more)

/-- Insert an input in the order of stamps, ties in ascending order of code (R133). -/
def seqInsert (i : SeqIn) : List SeqIn → List SeqIn
  | [] => [i]
  | j :: r => if i.stamp.toNat < j.stamp.toNat || (i.stamp == j.stamp && decide (i.code < j.code)) then i :: j :: r
              else j :: seqInsert i r

/-- The queued inputs in the order in which the sequencer takes them. -/
def seqOrder (q : List SeqIn) : List Nat := (q.foldl (fun l i => seqInsert i l) []).map SeqIn.code

/-! Buffer words and their codewords. -/

/-- Bounds of an allocation register in buffer bytes: first byte and size (R137). -/
def State.alloc (s : State) (off : Nat) : Nat × Nat := (s.fld off 13 0 * 4096, s.fld off 30 16 * 4096)

/-- Write bytes to the buffer: the words written have valid check bytes (R147). -/
def State.bufWrite (s : State) (a : Nat) (b : List Byte) : State :=
  { s with buf := { s.buf with mem := s.buf.mem.write a b, flips := s.buf.flips.dropRange (a / 32) ((a + b.length + 31) / 32) } }

/-- Clear the buffer bytes of [lo, hi): the words written have valid check bytes. -/
def State.bufClear (s : State) (lo hi : Nat) : State :=
  { s with buf := { s.buf with mem := s.buf.mem.dropRange lo hi, flips := s.buf.flips.dropRange (lo / 32) ((hi + 31) / 32) } }

/-- The data of a buffer word, byte 0 lowest. -/
def State.wordData (s : State) (w : Nat) : BitVec 256 := BitVec.ofNat 256 (bytesNat (s.buf.mem.read (w * 32) 32))

/-- The codeword that a buffer word holds as stored (R22, R146): data, then check bytes, with the bits that have flipped. -/
def State.codeword (s : State) (w : Nat) : Code304 :=
  (Config.rsCheck (s.wordData w) ++ s.wordData w) ^^^ s.buf.flips.get 0 w

/-- Symbols in error in an error pattern. -/
def symbols (e : Code304) : Nat := ((List.range 38).filter (fun k => e.extractLsb' (8 * k) 8 != 0)).length

/-- What the decoder finds in a buffer word (R146). -/
inductive EccClass where
  | clean | corrected | uncorrectable
deriving DecidableEq, Repr

/-- The class of an error pattern that lies near no other codeword (R37, R146). -/
def eccClass (e : Code304) : EccClass :=
  match symbols e with | 0 => .clean | 1 | 2 | 3 => .corrected | _ => .uncorrectable

/-- The codeword that the decoder takes a pattern of 4 symbols or more for, if one lies within 3 symbols of it (R146). -/
def miscorrects (e : Code304) : Option Code304 :=
  (Config.rsNear e).filter (fun c => decide (4 ≤ symbols e) && c != 0 && decide (symbols (e ^^^ c) ≤ 3))

/-- Bits of a word's codeword have flipped and the word is read (R146): from a miscorrection on, the word's data are those of the other
codeword, from which the word as stored differs in at most 3 symbols. -/
def State.wordRead (s : State) (w : Nat) (flip : Code304) : EccClass × State :=
  let e := s.buf.flips.get 0 w ^^^ flip
  match miscorrects e with
  | some c =>
    let m := s.buf.mem.write (w * 32) (natBytes 32 (s.wordData w ^^^ c.extractLsb' 0 256).toNat)
    (.corrected, { s with buf := { s.buf with mem := m, flips := s.buf.flips.set 0 w (e ^^^ c) } })
  | none => (eccClass e, { s with buf := { s.buf with flips := s.buf.flips.set 0 w e } })

/-- A buffer word is uncorrectable as it stands. -/
def State.wordBad (s : State) (w : Nat) : Bool := eccClass (s.buf.flips.get 0 w) == .uncorrectable

/-- Pages of the diffusion error store of a channel: E of R138. -/
def State.errPages (s : State) (ch : Nat) : Nat := (s.fld (Reg.MASH_CH_CFG ch) 29 16 + 4095) / 4096

/-- Bytes per line of the row-delay line: B of R138. -/
def State.rowBytes (s : State) (ch : Nat) : Nat := (s.fld (Reg.MASH_CH_CFG ch) 29 16 + 63) / 64 * 32

/-- Lines of the row-delay line: C of R138. -/
def State.rowCap (s : State) (ch : Nat) : Nat :=
  let b := s.rowBytes ch
  if b = 0 then 0 else ((s.alloc (Reg.BUF_CH_DLY ch)).2 - s.errPages ch * 4096) / b

/-- First byte of the row-delay line of a channel (R138). -/
def State.rowBase (s : State) (ch : Nat) : Nat := (s.alloc (Reg.BUF_CH_DLY ch)).1 + s.errPages ch * 4096

/-- The place of a line in the row-delay line, a circular store whose newest line is known (R218; log entry 23). -/
def State.rowIndex (s : State) (ch : Nat) (line : Word) : Nat :=
  let la := s.laneOf ch
  let c := s.rowCap ch
  match la.rowLine with
  | none => 0
  | some r => if c = 0 then 0 else (((la.rowIdx : Int) + ldiff line r) % (c : Int)).toNat

/-- The line whose codes a word of the row-delay line of a channel holds: the newest one at its place. -/
def State.rowLineAt (s : State) (ch word : Nat) : Option Word :=
  let la := s.laneOf ch
  let c := s.rowCap ch
  if c = 0 then none else
  let k := (word * 32 - s.rowBase ch) / s.rowBytes ch
  la.rowLine.map (fun r => r - wd ((la.rowIdx + c - k % c) % c))

/-- The page that the data of a row-delay word belongs to (R146). -/
def State.rowItem (s : State) (n ch word : Nat) : Option Nat :=
  ((s.rowLineAt ch word).bind (fun l => (s.ctxOf n).pageAt l)).map Item.id

/-- Where a buffer word lies (R148, R154): use code and the context concerned, with the channel of a row-delay area. -/
def State.useOf (s : State) (word : Nat) : Nat × Nat × Nat :=
  let a := word * 32
  let within := fun off => let (b, l) := s.alloc off; decide (b ≤ a) && decide (a < b + l)
  match (List.range 64).find? (fun n => 1 ≤ n && within (Reg.BUF_CTX_TBL n)) with
  | some n => (1, n, 0)
  | none => match (List.range 64).find? (fun n => 1 ≤ n && within (Reg.BUF_CTX_ING n)) with
    | some n => (2, n, 0)
    | none => match (List.range 64).find? (fun ch => within (Reg.BUF_CH_DLY ch)) with
      | some ch => (if a < s.rowBase ch then 4 else 3, (s.ownerOf ch).getD 0, ch)
      | none => (0, 0, 0)

/-- BUF_ECC_UNCORR (R147, R148): record, count and raise an uncorrectable word. -/
def State.eccUncorr (s : State) (word use n : Nat) : State :=
  (((s.wr Reg.BUF_UNCORR_ADDR (wd (word + use * 2 ^ 21))).bump Reg.BUF_UNCORR_CNT).raise 0x0408 n [wd word, wd use])

/-- Count a blanked line segment (R148) in the context and the page's completion. -/
def State.eccBlank (s : State) (n : Nat) (item : Option Nat) : State :=
  (s.bump (Reg.CTX_ECC_BLANK n)).modCtx n (fun c => c.modPage item (fun e => { e with blank := satInc e.blank }))

/-- ECC_CORRECT and BUF_ECC_UNCORR on the data path (R146, R148) for one word: counts, events, the halt with cause 4 for a table word, and
the blanked segment of a row-delay word. What an uncorrectable ingest or error-store word blanks is the reader's part. `item`: the page in
work, whose data an ingest word holds. -/
def State.eccHit (s : State) (item : Option Nat) (h : EccHit) : State :=
  let (use, n, ch) := s.useOf h.word
  let page := if use = 3 then s.rowItem n ch h.word else item
  let (cls, s) := s.wordRead h.word h.flip
  match cls with
  | .clean => s
  | .corrected =>
    let s := s.bump Reg.BUF_CORR_CNT
    if use = 2 || use = 3 then
      (s.bump (Reg.CTX_ECC_CORR n)).modCtx n (fun c => c.modPage page (fun e => { e with ecc := satInc e.ecc }))
    else s
  | .uncorrectable =>
    let s := s.eccUncorr h.word use n
    if use = 1 then (s.orW (Reg.CTX_FAULTS n) 2).haltReq n 4 none else if use = 3 then s.eccBlank n page else s

/-- The words that a step reads. -/
def State.eccHits (s : State) (hits : List EccHit) (item : Option Nat) : State := hits.foldl (fun s h => s.eccHit item h) s

/-- The words of a list of findings that are uncorrectable. -/
def State.badWords (s : State) (hits : List EccHit) : List Nat := (hits.map EccHit.word).filter s.wordBad

end Sys2Proof.Machine
end

