-- ==== Sys2Proof/Machine/Grist.lean ====
section
/-!
DEFINITION. The Grist tile format: header fields (R155), format entries (R159), raw and Grist decoding (R162 to R166),
delivered values (R161) and the arrival check (R168).
-/
namespace Sys2Proof.Machine

/-- Depth in bits of a DEPTH code (R159). -/
def depthBits (code : Nat) : Nat := match code with | 0 => 1 | 1 => 2 | 2 => 4 | 3 => 8 | _ => 4

/-- A format entry's word 0 is valid (R159). -/
def fmtValid (w : Word) : Bool :=
  bit w 0 && decide (bits w 3 1 ≤ 4) && bits w 6 5 != 3 && !(bits w 6 5 != 0 && bits w 8 7 == 0)
    && !(bit w 9 && bits w 3 1 == 4)

/-- The Mash plane of a descriptor PLANE under a format entry's PLANE_MAP (R159). -/
def planeMap (fmt : List Word) (plane : Nat) : Nat :=
  if plane < 8 then bits (nthW fmt 1) (4 * plane + 3) (4 * plane)
  else bits (nthW fmt 2) (4 * (plane - 8) + 3) (4 * (plane - 8))

/-- Line stride S of a raw payload (R162). -/
def rawStride (width d align : Nat) : Nat :=
  let s := (width * d + 7) / 8
  let u := match align with | 0 => 1 | 1 => 4 | 2 => 8 | _ => 64
  (s + u - 1) / u * u

/-- The SWAP exchange of a raw line (R162). -/
def rawSwap (swap : Nat) : List Byte → List Byte
  | a :: b :: c :: e :: r =>
    if swap = 1 then b :: a :: e :: c :: rawSwap swap r
    else if swap = 2 then e :: c :: b :: a :: rawSwap swap r
    else a :: b :: c :: e :: rawSwap swap r
  | l => l

/-- Stored value of pixel `x` of a swapped raw line (R162). -/
def rawPixel (line : List Byte) (d x : Nat) (packMsb : Bool) : Nat :=
  let o := x * d
  let b := (line.getD (o / 8) 0).toNat
  if d = 8 then b else if packMsb then (b >>> (8 - o % 8 - d)) % 2 ^ d else (b >>> (o % 8)) % 2 ^ d

/-- Stored values of raw line `y` (R162). -/
def rawLine (payload : List Byte) (fmt0 : Word) (width y : Nat) : List Nat :=
  let d := depthBits (bits fmt0 3 1)
  let s := rawStride width d (bits fmt0 8 7)
  let l := rawSwap (bits fmt0 6 5) ((payload.drop (y * s)).take s)
  (List.range width).map (fun x => rawPixel l d x (bit fmt0 4))

/-- The prediction of the pixel after those decoded, newest first (R164). -/
def predict (mode width : Nat) (i : Nat) (rev : List Nat) : Nat :=
  let x := i % width
  let y := i / width
  let left := rev.headD 0
  let up := rev.getD (width - 1) 0
  let a := if x > 0 then left else if y > 0 then up else 0
  let b := if y > 0 then up else if x > 0 then left else 0
  match mode with | 0 => 0 | 1 => a | 2 => b | _ => (a + b) / 2

/-- `n` pixels of a RUN (w = 0) or LITERAL token (R165, R166): position, values newest first, or UNDERRUN. -/
def gristPixels (stream total d width w mode : Nat) : Nat → Nat → Nat → List Nat → Except Nat (Nat × List Nat)
  | 0, pos, _, rev => .ok (pos, rev)
  | k + 1, pos, i, rev =>
    if w != 0 && decide (total < pos + w) then .error 0x0A else
    let u := (stream >>> pos) % 2 ^ w
    let r : Int := if u % 2 = 1 then -(((u + 1) / 2 : Nat) : Int) else ((u / 2 : Nat) : Int)
    let v := (((predict mode width i rev : Nat) : Int) + r) % (2 ^ d : Int)
    gristPixels stream total d width w mode k (pos + w) (i + 1) (v.toNat :: rev)

/-- The token walk of R166: fuel, bit position, tokens read, predictor, values newest first. -/
def gristTokens (stream total d width p : Nat) : Nat → Nat → Nat → Nat → List Nat → Except Nat (List Nat)
  | 0, _, _, _, _ => .error 0x0C
  | k + 1, pos, toks, mode, rev =>
    let i := rev.length
    if p ≤ i then
      if (pos + 7) / 8 * 8 != total || stream >>> pos != 0 then .error 0x0B else .ok rev.reverse
    else if total < pos + 4 then .error 0x0A else
    let w := (stream >>> pos) % 16
    if p < toks + 1 then .error 0x0C else
    if w = 9 then
      if total < pos + 6 then .error 0x0A
      else gristTokens stream total d width p k (pos + 6) (toks + 1) ((stream >>> (pos + 4)) % 4) rev
    else if d < w then .error 0x08
    else if total < pos + 16 then .error 0x0A else
    let n := (stream >>> (pos + 4)) % 4096 + 1
    if p < i + n then .error 0x09 else
    match gristPixels stream total d width w mode n (pos + 16) i rev with
    | .error e => .error e
    | .ok (pos, rev) => gristTokens stream total d width p k pos (toks + 1) mode rev

/-- Grist decoding of a payload: the stored values in raster order, or the reason of the first fault (R166, R168). -/
def gristDecode (payload : List Byte) (d width lines pred0 : Nat) : Except Nat (List Nat) :=
  let p := width * lines
  gristTokens (bytesNat payload) (8 * payload.length) d width p (p + 2) 0 0 pred0 []

/-- Delivered value of a stored value (R161), after INVERT. Drop codes pass unchanged. -/
def deliver (fmt0 : Word) (v : Nat) : Nat :=
  let code := bits fmt0 3 1
  let d := depthBits code
  let v := if bit fmt0 9 then 2 ^ d - 1 - v else v
  match code with | 0 => v * 255 | 1 => v * 85 | 2 => v * 17 | _ => v

/-- Header fields of a tile (R155). -/
def hdrWidth (h : List Word) : Nat := bits (nthW h 1) 10 0
/-- LINES of a header. -/
def hdrLines (h : List Word) : Nat := bits (nthW h 1) 24 16
/-- PAYLOAD_LEN of a header. -/
def hdrLen (h : List Word) : Nat := bits (nthW h 3) 18 0

/-! Decoding line by line (R170). -/

/-- The prediction of pixel `x` of line `y` from its left and upper neighbours (R164). -/
def predictAt (mode x y left up : Nat) : Nat :=
  let a := if x > 0 then left else if y > 0 then up else 0
  let b := if y > 0 then up else if x > 0 then left else 0
  match mode with | 0 => 0 | 1 => a | 2 => b | _ => (a + b) / 2

/-- The next line of a Grist tile (R165, R166, R170) that passed its check: pixels so far newest first; `fuel` bounds tokens and pixels. -/
def gristRow (stream d width : Nat) : Nat → TileDec → List Nat → List Nat × TileDec
  | 0, t, acc => (acc.reverse, t)
  | k + 1, t, acc =>
    if width ≤ acc.length then (acc.reverse, { t with line := t.line + 1, prev := acc.reverse })
    else if t.left = 0 then
      let w := (stream >>> t.pos) % 16
      let f := stream >>> (t.pos + 4)
      if w = 9 then gristRow stream d width k { t with pos := t.pos + 6, mode := f % 4 } acc
      else gristRow stream d width k { t with pos := t.pos + 16, w := w, left := f % 4096 + 1 } acc
    else
      let u := (stream >>> t.pos) % 2 ^ t.w
      let r : Int := if u % 2 = 1 then -(((u + 1) / 2 : Nat) : Int) else ((u / 2 : Nat) : Int)
      let p := predictAt t.mode acc.length t.line (acc.headD 0) (t.prev.getD acc.length 0)
      let v := (((p : Nat) : Int) + r) % (2 ^ d : Int)
      gristRow stream d width k { t with pos := t.pos + t.w, left := t.left - 1 } (v.toNat :: acc)

/-- Decode the next line of a tile (R162, R170): delivered values (R161) and the progress after it. -/
def TileDec.step (hdr fmt : List Word) (payload : List Byte) (t : TileDec) : List Nat × TileDec :=
  let f0 := nthW fmt 0
  let w := hdrWidth hdr
  let (vs, t) := if bits (nthW hdr 0) 25 24 = 0 then (rawLine payload f0 w t.line, { t with line := t.line + 1 })
    else gristRow (bytesNat payload) (depthBits (bits f0 3 1)) w (w * hdrLines hdr + w + 2) t []
  (vs.map (deliver f0), t)

/-- Decode a tile up to its line `y`, past lines that were not screened: the values of that line, and the progress. -/
def TileDec.upTo (hdr fmt : List Word) (payload : List Byte) (y : Nat) : Nat → TileDec → List Nat × TileDec
  | 0, t => ([], t)
  | k + 1, t => let r := t.step hdr fmt payload; if y < r.2.line then r else TileDec.upTo hdr fmt payload y k r.2

/-- The arrival check of R168: 0 when the tile passes, a reason code, or none when the table set has no format table and
the header group stops there (R160). `width` and `count` are the page's WIDTH_PX and LINE_COUNT. -/
def arrivalCheck (data : List Byte) (descLen descFmt x0 y0 width count : Nat) (fmt : Option (List Word)) : Option Nat :=
  let h := (bytesWords (data.take 32))
  let w0 := nthW h 0
  if bits w0 15 0 != 0x7247 then some 1
  else if bits w0 23 16 != 1 then some 2
  else if 2 ≤ bits w0 25 24 then some 3
  else match fmt with
  | none => none
  | some f =>
    let f0 := nthW f 0
    let payload := data.drop 32
    let d := depthBits (bits f0 3 1)
    let w := hdrWidth h
    let l := hdrLines h
    let raw := bits w0 25 24 == 0
    if bits (nthW h 2) 4 0 != descFmt || !fmtValid f0 then some 4
    else if w = 0 || 1024 < w || l = 0 || 256 < l || width < x0 + w || count < y0 + l then some 5
    else if descLen != 32 + hdrLen h || (raw && hdrLen h != l * rawStride w d (bits f0 8 7)) then some 6
    else if bit w0 28 && crc32c payload != nthW h 4 then some 7
    else if raw then some 0
    else match gristDecode payload d w l (bits w0 27 26) with
      | .ok _ => some 0
      | .error e => some e

/-- Reserved fields of a tile header that are not 0 (R15, R168). -/
def hdrReserved (h : List Word) : Bool :=
  bits (nthW h 0) 31 29 != 0 || bits (nthW h 1) 15 11 != 0 || bits (nthW h 1) 31 25 != 0 || bits (nthW h 2) 31 5 != 0
    || bits (nthW h 3) 31 19 != 0 || nthW h 6 != 0 || nthW h 7 != 0

end Sys2Proof.Machine
end

