-- ==== Sys2Proof/Machine/Mash.lean ====
section
/-!
DEFINITION. Mash screening: the lane's range and partners (R176 to R178), the tables of a plane (R180 to R187, R193), one
line of one lane (R189, R191, R194), and LINE_SCREEN with the decoding of the tiles it needs (R170).
-/
namespace Sys2Proof.Machine

/-- The registers of a MASH channel block (R176, R202 to R204). -/
structure LaneCfg where
  plane : Nat
  cols  : Nat
  x0    : Int
  sx    : Nat
  sn    : Nat
deriving DecidableEq, Repr

/-- The settings of lane `ch`. -/
def State.laneCfg (s : State) (ch : Nat) : LaneCfg :=
  { plane := s.fld (Reg.MASH_CH_CFG ch) 3 0, cols := s.fld (Reg.MASH_CH_CFG ch) 29 16,
    x0 := (s.rd (Reg.MASH_CH_X0 ch)).toInt, sx := s.fld (Reg.MASH_CH_SX ch) 23 0, sn := s.fld (Reg.MASH_CH_SN ch) 13 0 }

/-- Pixels that a lane screens on a page of a width: N of R177. -/
def LaneCfg.count (l : LaneCfg) (width : Nat) : Nat := min (l.sx + min l.sn l.cols) width - l.sx

/-- The LEFT (or RIGHT) partner that counts for a channel of context `n` (R178, R204). -/
def State.partner (s : State) (n ch : Nat) (right : Bool) : Option Nat :=
  let w := s.rd (Reg.MASH_CH_SEAM ch)
  let (p, en) := if right then (bits w 13 8, bit w 15) else (bits w 5 0, bit w 7)
  if en && p != ch && (s.rd64 (Reg.CTX_CHMAP n)).getLsbD p && (s.laneCfg p).plane == (s.laneCfg ch).plane then some p else none

/-- The partners of a channel that count. -/
def State.partners (s : State) (n ch : Nat) : List Nat := (s.partner n ch false).toList ++ (s.partner n ch true).toList

/-- A table's directory entry by kind and number. -/
def findTab (tabs : List DirEntry) (kind inst : Nat) : Option DirEntry := tabs.find? (fun e => e.kind == kind && e.inst == inst)

/-- Bytes of a table of context `n`. -/
def State.tabRead (s : State) (n : Nat) (e : DirEntry) (off len : Nat) : List Byte :=
  s.buf.mem.read ((s.alloc (Reg.BUF_CTX_TBL n)).1 + e.dest + off) len

/-- The tone of a delivered value (R182). -/
def curveTone (curve : List Byte) (v : Nat) : Nat := leAt curve (2 * v) 2 % 4096

/-- Drop size by comparison with three thresholds, strict (R185, R189). -/
def sizeOf3 (x t1 t2 t3 : Int) : Nat := (decide (x > t1)).toNat + (decide (x > t2)).toNat + (decide (x > t3)).toNat

/-- Waveform select of a drop size and tone (R193, R194); size 0 gives 0:0 (R175). -/
def waveCode (ws : List Byte) (sz t : Nat) : Nat :=
  if sz = 0 then 0 else
  let b1 := bits (wordAt ws 1) 11 0
  let b2 := bits (wordAt ws 1) 27 16
  let b3 := bits (wordAt ws 2) 11 0
  let band := (decide (b1 ≤ t)).toNat + (decide (b2 ≤ t)).toNat + (decide (b3 ≤ t)).toNat
  sz * 4 + ((wordAt ws 0).toNat >>> (2 * (4 * sz + band))) % 4

/-- The drop size of a pixel in threshold-array mode (R183 to R185): header and the row of the array. -/
def threshSize (hdr row : List Byte) (x : Int) (t : Nat) : Nat :=
  let w := bits (wordAt hdr 0) 9 0
  let c := ((x + (bits (wordAt hdr 1) 8 0 : Nat)) % (w : Int)).toNat
  let th := fun k => ((leAt row (6 * c + 2 * k) 2 % 4096 : Nat) : Int)
  sizeOf3 t (th 0) (th 1) (th 2)

/-- The array row of a line (R184, R185): its number and its stride in bytes. -/
def threshRow (hdr : List Byte) (line first : Word) : Nat × Nat :=
  let h := bits (wordAt hdr 0) 25 16
  let y : Int := if bit (wordAt hdr 2) 0 then line.toInt else (line - first).toInt
  (((y + (bits (wordAt hdr 1) 24 16 : Nat)) % (h : Int)).toNat, (bits (wordAt hdr 0) 9 0 * 6 + 63) / 64 * 64)

/-- One pixel of line diffusion (R187, R189, R192): size, error q, and whether q was clamped. -/
def diffusePixel (df : List Byte) (t : Nat) (a1 a2 pl pu pr : Int) : Nat × Int × Bool :=
  let w0 := wordAt df 0
  let wt := fun hi lo => ((bits w0 hi lo : Nat) : Int)
  let c : Int := (t : Int) + wt 3 0 * a1 + wt 7 4 * a2 + wt 11 8 * pl + wt 15 12 * pu + wt 19 16 * pr
  let d := fun k hi lo => ((bits (wordAt df k) hi lo : Nat) : Int)
  let sz := sizeOf3 c (d 1 11 0) (d 1 27 16) (d 2 11 0)
  let lvl := match sz with | 0 => d 3 11 0 | 1 => d 3 27 16 | 2 => d 4 11 0 | _ => d 4 27 16
  let q := (c - lvl + 8).fdiv 16
  let m := wt 26 20
  (sz, clampI q (-m) m, decide (q > m) || decide (q < -m))

/-- Line diffusion along a lane (R189, R194): the pixels left as delivered value or blank, previous errors, SR, and the
running a1, a2, p(k − 1). Answers codes, errors and the count of clamped pixels. -/
def diffuseLine (curve ws df : List Byte) (sr : Int) : List (Option Nat) → List Int → Int → Int → Int → List Nat × List Int × Nat
  | [], _, _, _, _ => ([], [], 0)
  | v :: vs, p, a1, a2, pl =>
    let pu := p.headD 0
    let pr := if vs = [] then sr else p.tail.headD 0
    match v with
    | none =>
      let (cs, qs, n) := diffuseLine curve ws df sr vs p.tail 0 a1 pu
      (0 :: cs, 0 :: qs, n)
    | some v =>
      let t := curveTone curve v
      let (sz, q, cl) := diffusePixel df t a1 a2 pl pu pr
      let (cs, qs, n) := diffuseLine curve ws df sr vs p.tail q a1 pu
      (waveCode ws sz t :: cs, q :: qs, n + cl.toNat)

/-- The tiles of a page that cover its line `y` in a Mash plane (R156). -/
def Ctx.tilesOn (c : Ctx) (item plane y : Nat) : List Tile :=
  c.tiles.filter (fun t => t.state == .resident && t.item == item && t.mplane == plane
    && decide (t.y0 ≤ y) && decide (y < t.y0 + hdrLines t.hdr))

/-- The payload of a tile in the ingest area of context `n`, a circular store (R139). -/
def State.tilePayload (s : State) (n : Nat) (t : Tile) : List Byte :=
  let (base, size) := s.alloc (Reg.BUF_CTX_ING n)
  (List.range (hdrLen t.hdr)).map (fun i => s.buf.mem.byte (base + (t.off + 32 + i) % size))

/-- LINE_DECODE (R170): the tiles of a plane on line `y` of a page are decoded up to it for the line in work, once for all lanes. -/
def State.decodeLine (s : State) (n : Nat) (lw : LineWork) (item plane y : Nat) : State :=
  ((s.ctxOf n).tilesOn item plane y).foldl (fun s t =>
    let c := s.ctxOf n
    if c.lines.any (fun w => w.line == lw.line && w.px.any (fun e => e.1 == t.id)) then s else
    let (vs, d) := t.dec.upTo t.hdr t.fmt (s.tilePayload n t) (y - t.y0) 257
    s.setCtx n { c with tiles := c.tiles.map (fun u => if u.id == t.id then { u with dec := d } else u),
                        lines := c.lines.map (fun w : LineWork => if w.line == lw.line then { w with px := w.px ++ [(t.id, vs)] } else w) }) s

/-- Delivered value of page pixels `sx` … of line `y` (R158, R161), from the tile lines decoded; none for a blanked pixel (R148). -/
def decodeRange (px : List (Nat × List Nat)) (tiles : List Tile) (y sx count : Nat) : List (Option Nat) :=
  (List.range count).map (fun k =>
    match tiles.find? (fun t => decide (t.x0 ≤ sx + k) && decide (sx + k < t.x0 + hdrWidth t.hdr)) with
    | none => some 0
    | some t =>
      let v := (((px.find? (fun e => e.1 == t.id)).map Prod.snd).getD []).getD (sx + k - t.x0) 0
      match t.blank with
      | some b => if b ≤ y - t.y0 then none else some v
      | none => some v)

/-- The format entry of a tile, three words, from the table set of its page (R160). -/
def State.fmtEntry (s : State) (n tset format : Nat) : Option (List Word) :=
  ((s.buf.dirs.get [] n).find? (fun e => e.kind == 1 && e.inst == 0 && e.tset == tset)).map
    (fun e => bytesWords (s.tabRead n e (16 * format) 12))

/-- A tile of a page that has been read and has not arrived uses a Mash plane, by the format entry as it stands: with the drop-code depth,
or not (R158, R159). -/
def State.planeComing (s : State) (n : Nat) (i : Item) (plane : Nat) : Option Bool :=
  (s.ctxOf n).tiles.findSome? (fun t =>
    if t.item != i.id || t.state == .resident || t.state == .failed then none
    else match s.fmtEntry n i.tset t.format with
      | some f => if fmtValid (nthW f 0) && planeMap f t.plane == plane then some (bits (nthW f 0) 3 1 == 4) else none
      | none => none)

/-- The plane is treated as a drop-code plane on a page (R158): its tiles have the drop-code depth, or no tile of the page uses it. A page
that is still open may have a tile of the plane that is not read yet: free (log entry 113). -/
def State.dropPlane (s : State) (n : Nat) (i : Item) (plane : Nat) : Bool :=
  match i.planes.find? (fun p => p.1 == plane) with
  | some p => p.2
  | none => match s.planeComing n i plane with
    | some b => b
    | none => i.closed || !Config.laterTile n i.id plane

/-- The tables that a contone plane needs of a table set (R180): MODE from the curve decides the last. -/
def State.planeMode (s : State) (n : Nat) (tabs : List DirEntry) (plane : Nat) : Option Nat :=
  match findTab tabs 2 plane, findTab tabs 5 plane with
  | some cv, some _ =>
    let m := bits (wordAt (s.tabRead n cv 512 4) 0) 1 0
    if m = 0 then (findTab tabs 3 plane).map (fun _ => 0) else (findTab tabs 4 plane).map (fun _ => 1)
  | _, _ => none

/-- A partner's error of the line before at a page pixel (R191); 0 outside its range, and of an uncorrectable word of its store (R148). -/
def State.seamErr (s : State) (p : Nat) (prev : Word) (width : Nat) (bad : List Nat) (x : Int) : Int :=
  let l := s.laneCfg p
  if x < l.sx || (l.sx + l.count width : Int) ≤ x then 0
  else if bad.contains (((s.alloc (Reg.BUF_CH_DLY p)).1 + (x - l.sx).toNat) / 32) then 0 else
  match (s.laneOf p).hist.find? (fun h => h.1 == prev) with
  | some h => h.2.getD (x - l.sx).toNat 0
  | none => 0

/-- A byte of the error store as it is stored (R188). -/
def errByte (q : Int) : Byte := BitVec.ofInt 8 q

/-- Write the error store of a channel (R188): one byte per screened index. -/
def State.writeErr (s : State) (ch : Nat) (qs : List Int) : State :=
  let (base, size) := s.alloc (Reg.BUF_CH_DLY ch)
  if size = 0 then s else s.bufWrite base (qs.map errByte)

/-- Previous errors with those of uncorrectable store words taken as 0 (R148). -/
def zeroBad (base : Nat) (bad : List Nat) (qs : List Int) : List Int :=
  qs.mapIdx (fun k q => if bad.contains ((base + k) / 32) then 0 else q)

/-- A tile holds a byte of the buffer word given (its place wraps in the ingest area). -/
def tileHolds (base size word : Nat) (t : Tile) : Bool :=
  let a := word * 32
  decide (base ≤ a) && decide (a < base + size) && decide (((a - base) + size - t.off) % size < t.size)

/-- Mark the tiles of the page line that hold an uncorrectable word: blank from this line on (R148). -/
def Ctx.blankTiles (c : Ctx) (base size : Nat) (bad : List Nat) (item y : Nat) : Ctx :=
  { c with tiles := c.tiles.map (fun t =>
      if t.item == item && t.state == .resident && t.blank.isNone && decide (t.y0 ≤ y) && decide (y < t.y0 + hdrLines t.hdr)
          && bad.any (fun w => tileHolds base size w t) then { t with blank := some (y - t.y0) } else t) }

/-- Tile lines of the plane that are blanked on line `y`: each counts once in ECC_BLANK (R148). -/
def blankCount (tiles : List Tile) (y : Nat) : Nat :=
  (tiles.filter (fun t => match t.blank with | some b => decide (b ≤ y - t.y0) | none => false)).length

/-- Free the tiles whose last line has been decoded on every lane (R139, R170). A page that a DRAIN from ARMED ended has no line that is
decoded: its tiles keep their space until the context is IDLE (R125; DESIGN CHOICE, log entry 137). -/
def Ctx.release (c : Ctx) (chans : List Nat) : Ctx :=
  let open' := c.lines.filter (fun l => !l.late && !chans.all (fun ch => l.codes.any (fun e => e.1 == ch)))
  { c with tiles := c.tiles.filter (fun t =>
      if t.state != .resident then true else
      match c.items.find? (fun i => i.id == t.item) with
      | none => false
      | some i => match i.first, c.upto with
        | some f, some u =>
          let last := f + wd (t.y0 + hdrLines t.hdr) - 1
          decide (0 < ldiff last u) || open'.any (fun l => decide (ldiff l.line last ≤ 0) && l.item == some i.id)
        | _, _ => true) }

/-- The codes of a lane for a line of a page: R173, R174, R194. Answers codes, errors when it diffused, clamped pixels. -/
def State.screenPage (s : State) (n ch : Nat) (lw : LineWork) (i : Item) (bad : List Nat) : List Nat × Option (List Int) × Nat :=
  let l := s.laneCfg ch
  let c := s.ctxOf n
  let y := (ldiff lw.line (i.first.getD 0)).toNat
  let cnt := l.count i.width
  let vs := decodeRange lw.px (c.tilesOn i.id l.plane y) y l.sx cnt
  if s.dropPlane n i l.plane then (vs.map (fun v => let c := v.getD 0; if c < 4 then 0 else c), none, 0) else
  match s.planeMode n lw.tabs l.plane, findTab lw.tabs 2 l.plane, findTab lw.tabs 5 l.plane with
  | some mode, some cv, some wv =>
    let curve := s.tabRead n cv 0 512
    let ws := s.tabRead n wv 0 64
    if mode = 0 then
      match findTab lw.tabs 3 l.plane with
      | none => (List.replicate cnt 0, none, 0)
      | some th =>
        let hdr := s.tabRead n th 0 64
        let (r, rs) := threshRow hdr lw.line (i.first.getD 0)
        let row := s.tabRead n th (64 + r * rs) rs
        (vs.mapIdx (fun k v => match v with
          | none => 0
          | some v => let t := curveTone curve v; waveCode ws (threshSize hdr row ((l.sx + k : Nat) : Int) t) t), none, 0)
    else
      match findTab lw.tabs 4 l.plane with
      | none => (List.replicate cnt 0, none, 0)
      | some de =>
        let df := s.tabRead n de 0 64
        let prev := lw.line - 1
        let z := y == 0
        let p := if z then [] else match (s.laneOf ch).hist.find? (fun h => h.1 == prev) with | some h => h.2 | none => []
        let p := zeroBad (s.alloc (Reg.BUF_CH_DLY ch)).1 bad p
        let seam := fun side x => if z then 0 else match s.partner n ch side with | some q => s.seamErr q prev i.width bad x | none => 0
        let sl1 := seam false ((l.sx : Int) - 1)
        let sl2 := seam false ((l.sx : Int) - 2)
        let sr := seam true ((l.sx : Int) + cnt)
        let (cs, qs, k) := diffuseLine curve ws df sr vs p sl1 sl2 sl1
        (cs, some qs, k)
  | _, _, _ => (List.replicate cnt 0, none, 0)

/-- The dot-clock PLL feeds the lane and its domain is on (R29, R35). -/
def State.laneRuns (s : State) (ch : Nat) : Bool :=
  s.domOn (chDom ch) && !s.pllLost .dot && !s.pllLost .buffer && !s.flag (Reg.FAB_FWD_RX ch) 15

/-- A lane may start line `L`: every seam partner in effect has done the line before (R191); those in receive mode screen nothing (R290). -/
def State.seamReady (s : State) (n ch : Nat) (l : Word) : Bool :=
  let c := s.ctxOf n
  ((s.partners n ch).filter (fun p => !s.flag (Reg.FAB_FWD_RX p) 15)).all (fun p => c.lines.all (fun w => w.late || !(decide (ldiff w.line l < 0)) || w.codes.any (fun e => e.1 == p)))

/-- LINE_SCREEN (R177, R195): the lane of a channel screens the oldest line of its context that it has not screened; of a line without
pixels of its own it screens nothing. -/
def execLineScreen (ch : Nat) (ecc : List EccHit) (s : State) : Host.Outcome State Fault Refusal :=
  match s.ownerOf ch with
  | none => .next s
  | some n =>
    let c := s.ctxOf n
    match c.lines.find? (fun l => !l.late && !l.codes.any (fun e => e.1 == ch)) with
    | none => .next s
    | some lw =>
      if !s.laneRuns ch || !s.seamReady n ch lw.line then .next s else
      let s := s.eccHits ecc lw.item
      let bad := s.badWords ecc
      let c := s.ctxOf n
      let it := lw.item.bind (fun id => c.items.find? (fun i => i.id == id))
      let (s, res) : State × (List Nat × Option (List Int) × Nat) := match it with
        | none => (s, ([], none, 0))
        | some i =>
          let y := (ldiff lw.line (i.first.getD 0)).toNat
          let (base, size) := s.alloc (Reg.BUF_CTX_ING n)
          let s := s.setCtx n (c.blankTiles base size bad i.id y)
          let pl := (s.laneCfg ch).plane
          let first := !lw.codes.any (fun e => (s.laneCfg e.1).plane == pl)
          let k := if first then blankCount ((s.ctxOf n).tilesOn i.id pl y) y else 0
          let s := (s.each (List.range k) (fun s _ => s.eccBlank n lw.item)).decodeLine n lw i.id pl y
          let lw := ((s.ctxOf n).lines.find? (fun w => w.line == lw.line)).getD lw
          (s, s.screenPage n ch lw i bad)
      let la := s.laneOf ch
      let s := s.setLane ch { la with last := some lw.line, hist := match res.2.1 with
        | some qs => ((lw.line, qs) :: la.hist).take 6
        | none => la.hist }
      let s := s.writeErr ch (match res.2.1 with
        | none | some [] => List.replicate (s.laneCfg ch).cols 0
        | some qs => qs)
      let s := s.bumpBy (Reg.MASH_CH_CLAMP ch) res.2.2
      let s := if res.1 = [] then s else s.bumpWrap (Reg.MASH_CH_LINES ch)
      .next (s.modCtx n (fun c => Ctx.release { c with lines := c.lines.map (fun w =>
        if w.line == lw.line then { w with codes := w.codes ++ [(ch, res.1)], lastCh := ch } else w) } (s.workChans n)))

end Sys2Proof.Machine
end

