-- ==== Sys2Proof/Machine/Noz.lean ====
section
/-!
DEFINITION. The nozzle map: records (R205, R206), loading and switching of the tables (R208 to R211), stitching (R215 to
R217), compensation (R212 to R214), row delays (R218 to R220) and the images of the slots (R236, R247).
-/
namespace Sys2Proof.Machine

/-! Records. -/

/-- STATE of a record (R205): 0 GOOD, 1 WEAK, 2 MISSING, 3 DISABLED. -/
def recState (r : Word) : Nat := bits r 1 0

/-- A nozzle is usable when it is GOOD or WEAK (R206). -/
def recUsable (r : Word) : Bool := decide (recState r < 2)

/-- Reserved bits of a record (R205). -/
def recReserved (r : Word) : Bool := bits r 3 2 != 0 || bits r 31 24 != 0

/-- ROW_DLY of a row (R226). -/
def State.rowDly (s : State) (ch row : Nat) : Nat :=
  let w := s.rd (Reg.NOZ_CH_RDLY ch (row / 2))
  if row % 2 = 0 then bits w 11 0 else bits w 27 16

/-- The total delay of a nozzle in 1/64 line: D of R218. -/
def State.recDelay (s : State) (ch : Nat) (r : Word) : Nat :=
  (64 * (s.rowDly ch (bits r 23 20) : Int) + sx 8 (bits r 15 8)).toNat

/-- D_max of a map (R218). -/
def State.mapDmax (s : State) (ch : Nat) (map : List Word) : Nat :=
  map.foldl (fun m r => max m (s.recDelay ch r / 64)) 0

/-- The trim fractions of a map (R218, R245). -/
def State.mapFracs (s : State) (ch : Nat) (map : List Word) : List Nat := map.map (fun r => s.recDelay ch r % 64)

/-! Overlaps. -/

/-- The mutual overlap of channel `l` with its RIGHT partner in context `n`: the partner and OV (R215). -/
def State.overlap (s : State) (n l : Nat) : Option (Nat × Nat) :=
  match s.partner n l true with
  | none => none
  | some r =>
    if s.partner n r false != some l then none else
    let ov := (s.laneCfg l).x0 + (s.laneCfg l).cols - (s.laneCfg r).x0
    if 1 ≤ ov && ov ≤ 256 then some (r, ov.toNat) else none

/-- A mutual overlap wider than 256 columns, a host error (R223). -/
def State.overlapBad (s : State) (n l : Nat) : Bool :=
  match s.partner n l true with
  | none => false
  | some r => s.partner n r false == some l
      && decide (256 < (s.laneCfg l).x0 + (s.laneCfg l).cols - (s.laneCfg r).x0)

/-- The overlap in which channel `r` is the right head: the left head and OV. -/
def State.overlapLeft (s : State) (n r : Nat) : Option (Nat × Nat) :=
  match s.partner n r false with
  | none => none
  | some l => match s.overlap n l with
    | some (q, ov) => if q = r then some (l, ov) else none
    | none => none

/-! Loading. -/

/-- The NOZMAP, CLASS and STITCH entries of a channel in a directory and table set (R208); or the SW_REASON of the first
that is missing (R209). -/
def State.nozFind (s : State) (n ch tset : Nat) (dir : List DirEntry) : Except Nat (List DirEntry) :=
  let d := dir.filter (fun e => e.tset == tset)
  match findTab d 6 ch with
  | none => .error 1
  | some m => match findTab d 7 0 with
    | none => .error 2
    | some c => match findTab d 8 ch with
      | some t => .ok [m, c, t]
      | none => if (s.overlap n ch).isSome then .error 3 else .ok [m, c]

/-- Read the tables of directory entries of context `n`. -/
def State.nozRead (s : State) (n ch tset : Nat) (bank : Bool) (refs : List DirEntry) : NozTabs :=
  let cols := (s.laneCfg ch).cols
  { tset := tset, bank := bank,
    map := match findTab refs 6 ch with | some e => bytesWords (s.tabRead n e 0 (4 * cols)) | none => [],
    cls := match findTab refs 7 0 with | some e => bytesWords (s.tabRead n e 0 128) | none => [],
    stitch := match findTab refs 8 ch with | some e => s.tabRead n e 0 e.len | none => [] }

/-- The first host error of nozzle tables (R15, R223), by the rule that lists it. -/
def State.nozBad (s : State) (n ch : Nat) (refs : List DirEntry) (t : NozTabs) : Option Nat :=
  let cols := (s.laneCfg ch).cols
  let len := fun k i => (findTab refs k i).map DirEntry.len
  if len 6 ch != some ((4 * cols + 63) / 64 * 64) || len 7 0 != some 128 then some 223
  else if t.map.any (fun r => decide (s.fld (Reg.NOZ_CH_CFG ch) 4 0 ≤ bits r 23 20)) then some 223
  else if t.map.any recReserved || (t.cls.mapIdx (fun k w => if k < 16 then bits w 31 16 else bits w 31 8)).any (· != 0) then some 15
  else match findTab refs 8 ch with
    | none => none
    | some e =>
      let m := bits (wordAt t.stitch 0) 8 0
      if m = 0 || 256 < m || e.len != 64 + 64 * ((m + 1) / 2) then some 223
      else if bits (wordAt t.stitch 0) 31 9 != 0 || (s.tabRead n e 4 60).any (· != 0) then some 15
      else none

/-- The map in force of a channel, if one is. -/
def NozCh.active (z : NozCh) : Option NozTabs := z.maps.head?.map Prod.snd

/-- Show the active copy in NOZ_CH_STATUS (R227) and HL_STATE.BANK. -/
def State.showActive (s : State) (ch : Nat) (t : NozTabs) : State :=
  let s := (s.setF (Reg.NOZ_CH_STATUS ch) 3 0 t.tset).setF (Reg.NOZ_CH_STATUS ch) 28 16 (s.mapDmax ch t.map)
  s.modHl ch (fun h => { h with bank := t.bank })

/-- A switch fails its checks (R209): cancelled, ARM cleared, SW_FAULT and SW_REASON set, NOZ_SWITCH_FAULT raised. -/
def State.switchFault (s : State) (ch reason : Nat) : State :=
  let s := s.cancelSwitch ch
  let s := (s.setF (Reg.NOZ_CH_STATUS ch) 9 9 1).setF (Reg.NOZ_CH_STATUS ch) 14 12 reason
  s.raise 0x0703 0 [wd ch, wd reason]

/-- NOZ_SWITCH_REQUEST (R209, R211, R578): the tables are looked up in the directory as it stands at the write and fetched
into the pending copy, whose fractions are queued for the other trim bank (R246). -/
def execNozSwitchRequest (ch : Nat) (value : Word) (s : State) : Host.Outcome State Fault Refusal :=
  .next (s.gated (Reg.NOZ_CH_SWCTL ch) fun s =>
    let tset := bits value 7 4
    let s := (s.cancelSwitch ch).wr (Reg.NOZ_CH_SWCTL ch) (value &&& 0xF0)
    match s.tableCtx ch with
    | none => s.switchFault ch 1
    | some n => match s.nozFind n ch tset (s.buf.dirs.get [] n) with
      | .error r => s.switchFault ch r
      | .ok refs =>
        let bank := !(s.hlOf ch).bank
        let t := s.nozRead n ch tset bank refs
        let s := s.setF (Reg.NOZ_CH_SWCTL ch) 0 0 1
        let s := s.setNoz ch { s.nozOf ch with pending := some t, fetch := some (refs, n, tset), ready := false }
        let up : TrimUpload := { bank := bank, fracs := s.mapFracs ch t.map, forSwitch := true }
        s.modHl ch (fun h => { h with uploads := h.uploads ++ [up] }))

/-- NOZ_SWITCH_CANCEL (R211): ARM = 0 cancels any armed switch. -/
def execNozSwitchCancel (ch : Nat) (value : Word) (s : State) : Host.Outcome State Fault Refusal :=
  .next (s.gated (Reg.NOZ_CH_SWCTL ch) fun s => (s.cancelSwitch ch).wr (Reg.NOZ_CH_SWCTL ch) (value &&& 0xF0))

/-- NOZ_PENDING_READY (R209, R246): the upload of the pending fractions has been sent; the delay check is made last. -/
def execNozPendingReady (ch : Nat) (ecc : List EccHit) (s : State) : Host.Outcome State Fault Refusal :=
  let z := s.nozOf ch
  match z.pending, z.fetch with
  | some t, some (refs, n, _) =>
    if z.ready || (s.hlOf ch).uploads.any (fun u => u.forSwitch) || !s.domOn (chDom ch) then .next s else
    match s.nozBad n ch refs t with
    | some r => .next (s.hostError r)
    | none =>
      let s := s.eccHits ecc none
      if s.rowCap ch < s.mapDmax ch t.map + 5 then .next (s.switchFault ch 4)
      else
        let after := if (s.ownerOf ch).isSome then (s.laneOf ch).last else none
        let s := s.setNoz ch { s.nozOf ch with fetch := none, ready := true, after := after }
        .next (s.setF (Reg.NOZ_CH_STATUS ch) 4 4 1)
  | _, _ => .next s

/-- A channel is in receive mode (R290). -/
def State.receives (s : State) (ch : Nat) : Bool := s.flag (Reg.FAB_FWD_RX ch) 15

/-- Load the active copy of a channel at ARM (R208, R246), of the table set that NOZ_CH_SWCTL named at ARM. A channel in receive mode (R290)
compensates nothing: it needs the fractions of its map alone, and without one has nothing to upload (log entry 118). -/
def State.armLoadCh (s : State) (n ch : Nat) (dir : List DirEntry) : Except Nat State :=
  let tset := (((s.ctxOf n).nozTsets.find? (fun e => e.1 == ch)).map Prod.snd).getD 0
  let rx := s.receives ch
  match s.nozFind n ch tset dir with
  | .error _ => .ok (if rx then s.modHl ch (fun h => { h with trimReady := true }) else s.modCtx n (fun c => { c with nozFail := true }))
  | .ok refs =>
    let bank := (s.hlOf ch).bank
    let t := s.nozRead n ch tset bank refs
    match s.nozBad n ch refs t with
    | some r => .error r
    | none =>
      if !rx && decide (s.rowCap ch < s.mapDmax ch t.map + 5) then .error 223 else
      let s := (s.setNoz ch { s.nozOf ch with maps := [(none, t)] }).showActive ch t
      let up : TrimUpload := { bank := bank, fracs := s.mapFracs ch t.map, arm := true }
      .ok (s.modHl ch (fun h => { h with trimReady := false, uploads := h.uploads.filter (fun u => u.forSwitch) ++ [up] }))

/-- Load the active copies of a list of channels. -/
def State.armLoad (n : Nat) (dir : List DirEntry) : List Nat → State → Except Nat State
  | [], s => .ok s
  | ch :: r, s => match s.armLoadCh n ch dir with
    | .error e => .error e
    | .ok s => State.armLoad n dir r s

/-- NOZ_ARM_LOAD_DONE (R208): the channels take their active copies from the directory as it stood at ARM. -/
def execNozArmLoadDone (n : Nat) (ecc : List EccHit) (s : State) : Host.Outcome State Fault Refusal :=
  let c := s.ctxOf n
  if !c.nozLoad then .next s else
  let s := (s.setCtx n { c with nozLoad := false, nozRefs := [] }).eccHits ecc none
  match State.armLoad n c.nozRefs (s.chans n) s with
  | .error r => .next (s.hostError r)
  | .ok s => .next s

/-! Compensation. -/

/-- A column while its line is compensated: code of R178, whether this head fires it, and its record. -/
structure Col where
  code : Nat
  mine : Bool
  nrec : Word
deriving DecidableEq, Repr

/-- Intended size of a column that donates its density, else 0 (R212). -/
def Col.donates (c : Col) : Nat := if c.mine && !recUsable c.nrec then c.code / 4 else 0

/-- A share reaches the column (R212). -/
def Col.receives (c : Col) : Bool := c.mine && recState c.nrec == 0

/-- The share of a donor to its neighbour `i`: 0 to 3 for columns m − 2, m − 1, m + 1, m + 2 (R207, R212). -/
def share (cls : List Word) (d : Option Col) (i : Nat) : Nat :=
  match d with
  | none => 0
  | some c => c.donates * bits (nthW cls (bits c.nrec 19 16)) (4 * i + 3) (4 * i)

/-- The part of a donor's share that its column does not take. -/
def lost (cls : List Word) (d : Col) (i : Nat) (dest : Option Col) : Nat :=
  match dest with
  | some c => if c.receives then 0 else share cls (some d) i
  | none => share cls (some d) i

/-- The code a column writes and what the cap clips (R213): shares with their donors' waveform selects, lower donor first. -/
def Col.write (c : Col) (cls : List Word) (sh : List (Nat × Nat)) : Nat × Nat :=
  if !(c.mine && recUsable c.nrec) then (0, 0) else
  let sh := if c.receives then sh else []
  let e := (sh.map Prod.fst).sum
  let best := sh.foldl (fun b x => if b.1 < x.1 then x else b) (0, 0)
  let sz := c.code / 4
  let t := sz + (e + 8) / 16
  let wf := if 0 < sz then c.code % 4 else best.2
  let t3 := min t 3
  let m := if t3 = 0 then 0 else ((nthW cls (16 + bits c.nrec 7 4)).toNat >>> (2 * t3)) % 4
  (if m = 0 then 0 else m * 4 + wf, 16 * (t - t3))

/-- Waveform select of a donor. -/
def wfOf (d : Option Col) : Nat := match d with | some c => c.code % 4 | none => 0

/-- Compensation of one line of one channel (R212 to R214): the codes written and CLIPPED_DENSITY. The two columns before
the list are given. -/
def compLine (cls : List Word) : Option Col → Option Col → List Col → List Nat × Nat
  | _, _, [] => ([], 0)
  | p2, p1, c :: r =>
    let n1 := r.head?
    let n2 := r.tail.head?
    let sh := [(share cls p2 3, wfOf p2), (share cls p1 2, wfOf p1), (share cls n1 1, wfOf n1), (share cls n2 0, wfOf n2)]
    let gone := lost cls c 0 p2 + lost cls c 1 p1 + lost cls c 2 n1 + lost cls c 3 n2
    let (code, clip) := c.write cls sh
    let (codes, clips) := compLine cls p1 (some c) r
    (code :: codes, gone + clip + clips)

/-- The pending copy of a channel qualifies for a line (R210). -/
def State.switchesAt (s : State) (ch : Nat) (line : Word) : Bool :=
  let z := s.nozOf ch
  z.pending.isSome && z.ready && decide (0 ≤ ldiff line (s.rd (Reg.NOZ_CH_SWLINE ch)))
    && (match z.after with | none => true | some a => decide (0 < ldiff line a))

/-- The copy that governs a line of a channel. -/
def State.govern (s : State) (ch : Nat) (line : Word) : Option NozTabs :=
  let z := s.nozOf ch
  if s.switchesAt ch line then z.pending
  else (z.maps.find? (fun m => match m.1 with | none => true | some l => decide (0 ≤ ldiff line l))).map Prod.snd

/-- The nozzle over a column is usable under the copy that governs a line. -/
def State.usableAt (s : State) (ch : Nat) (line : Word) (j : Nat) : Bool :=
  match s.govern ch line with
  | some t => recUsable (nthW t.map j)
  | none => false

/-- Mask bit of an overlap pixel (R216, R217): row L mod M of the left head's STITCH. -/
def stitchBit (stitch : List Byte) (line : Word) (i : Nat) : Bool :=
  let m := bits (wordAt stitch 0) 8 0
  let k := (line.toInt % (m : Int)).toNat
  ((stitch.getD (64 + 32 * k + i / 8) 0).toNat >>> (i % 8)) % 2 == 1

/-- What a head does with pixel `i` of the overlap of left head `l` and right head `r` (R217): whether the left head fires
it, and whether that is a takeover. -/
def State.stitchAt (s : State) (l r ov : Nat) (line : Word) (i : Nat) : Bool × Bool :=
  let prim := match s.govern l line with | some t => stitchBit t.stitch line i | none => true
  let ul := s.usableAt l line ((s.laneCfg l).cols - ov + i)
  let ur := s.usableAt r line i
  let (pu, su) := if prim then (ul, ur) else (ur, ul)
  let take := !pu && su
  (prim != take, take)

/-- For each column of a channel: it fires it, and it took it over (R217). -/
def State.mineCols (s : State) (n ch : Nat) (line : Word) : List (Bool × Bool) :=
  let cols := (s.laneCfg ch).cols
  let right := s.overlap n ch
  let left := s.overlapLeft n ch
  (List.range cols).map (fun j =>
    let a := match right with
      | some (r, ov) => if cols ≤ j + ov then
          let (f, t) := s.stitchAt ch r ov line (j + ov - cols)
          (f, f && t) else (true, false)
      | none => (true, false)
    let b := match left with
      | some (l, ov) => if j < ov then
          let (f, t) := s.stitchAt l ch ov line j
          (!f, !f && t) else (true, false)
      | none => (true, false)
    (a.1 && b.1, (a.1 && b.1) && (a.2 || b.2)))

/-- The code that a channel receives for each column of a line (R178). -/
def State.colCodes (s : State) (n ch : Nat) (lw : LineWork) (width : Nat) : List Nat :=
  let l := s.laneCfg ch
  let from' := fun (p : Option Nat) (x : Int) => match p with
    | none => none
    | some p =>
      let q := s.laneCfg p
      if (q.sx : Int) ≤ x && x < q.sx + q.count width then
        some (((lw.codes.find? (fun e => e.1 == p)).map Prod.snd |>.getD []).getD (x - q.sx).toNat 0)
      else none
  let left := s.partner n ch false
  let right := s.partner n ch true
  (List.range l.cols).map (fun (j : Nat) =>
    let x := l.x0 + j
    match from' (some ch) x with
    | some c => c
    | none => match (if j ≤ 255 then from' left x else none) with
      | some c => c
      | none => (if l.cols ≤ j + 256 then from' right x else none).getD 0)

/-! Row delays. -/

/-- Where the codes of a line lie in the row-delay line (R138, R218; log entry 23). -/
def State.rowAddr (s : State) (ch : Nat) (line : Word) : Nat := s.rowBase ch + s.rowIndex ch line * s.rowBytes ch

/-- Codes as bytes, two to a byte, the lower column in the low bits (log entry 23). -/
def packCodes : List Nat → List Byte
  | [] => []
  | [a] => [BitVec.ofNat 8 a]
  | a :: b :: r => BitVec.ofNat 8 (a + 16 * b) :: packCodes r

/-- Write a line of a channel to the row-delay line, `[]` for 0:0 in every column. -/
def State.rowWrite (s : State) (ch : Nat) (line : Word) (codes : List Nat) : State :=
  if s.rowCap ch = 0 then s else
  let a := s.rowAddr ch line
  let la := s.laneOf ch
  let newer := match la.rowLine with | none => true | some r => decide (0 < ldiff line r)
  let s := if newer then s.setLane ch { la with rowLine := some line, rowIdx := s.rowIndex ch line } else s
  (s.bufClear a (a + s.rowBytes ch)).bufWrite a (packCodes codes)

/-- The stored code of a column of a line. -/
def State.rowRead (s : State) (ch : Nat) (line : Word) (j : Nat) : Nat :=
  ((s.buf.mem.byte (s.rowAddr ch line + j / 2)).toNat >>> (4 * (j % 2))) % 16

/-- Clear the row-delay lines of a channel: every line 0:0 (R124, R127). -/
def State.rowClear (s : State) (ch : Nat) : State :=
  let (base, size) := s.alloc (Reg.BUF_CH_DLY ch)
  (s.bufClear (s.rowBase ch) (base + size)).setLane ch { s.laneOf ch with rowLine := none, rowIdx := 0 }

/-- The lines a nozzle can fire in slot `f` (R218, R220): newest map first, with each map's bank; `hi` bounds the map. -/
def State.slotLines (s : State) (ch : Nat) (f : Word) (j : Nat) : Option Word → List (Option Word × NozTabs) → List (Word × Bool)
  | _, [] => []
  | hi, (since, t) :: r =>
    let l := f - wd (s.recDelay ch (nthW t.map j) / 64)
    let ok := (match since with | none => true | some x => decide (0 ≤ ldiff l x))
      && (match hi with | none => true | some x => decide (ldiff l x < 0))
    (if ok then [(l, t.bank)] else []) ++ s.slotLines ch f j since r

/-- What nozzle `j` fires in slot `f`: code, trim bank, and drops discarded (R220). -/
def State.slotCode (s : State) (ch : Nat) (maps : List (Option Word × NozTabs)) (bad : List Nat) (f : Word) (j : Nat) :
    Nat × Bool × Nat :=
  let read := fun l => if bad.contains ((s.rowAddr ch l + j / 2) / 32) then 0 else s.rowRead ch l j
  match s.slotLines ch f j none maps with
  | [] => (0, ((maps.take 2).getLast?.map (fun m => m.2.bank)).getD false, 0)
  | (l, b) :: r => (read l, b, (r.filter (fun x => read x.1 != 0)).length)

/-- Blocks of an image (R236): data blocks of 16 columns. -/
def dataBlocks (codes : List Nat) : Nat → List DWord
  | 0 => []
  | k + 1 => BitVec.ofNat 64 (bytesNat (packCodes (codes.take 16))) :: dataBlocks (codes.drop 16) k

/-- Bits as a number, the first least. -/
def bitsNat : List Bool → Nat
  | [] => 0
  | b :: r => b.toNat + 2 * bitsNat r

/-- Bank-map blocks of 64 columns (R236). -/
def bankBlocks (bs : List Bool) : Nat → List DWord
  | 0 => []
  | k + 1 => BitVec.ofNat 64 (bitsNat (bs.take 64)) :: bankBlocks (bs.drop 64) k

/-- The image of slot `f` of a channel (R236, R247) from the row-delay line as it stands, and the drops that it discards (R220). -/
def State.slotImage (s : State) (ch : Nat) (f : Word) (bad : List Nat) : HlImage × Nat :=
  let z := s.nozOf ch
  let cols := (s.laneCfg ch).cols
  let px := (List.range cols).map (s.slotCode ch z.maps bad f)
  let codes := px.map (fun p => p.1)
  let banks := px.map (fun p => p.2.1)
  let b0 := banks.headD ((z.active.map NozTabs.bank).getD false)
  let mixed := banks.any (· != b0)
  let blocks := if !mixed && codes.all (· == 0) then []
    else dataBlocks codes ((cols + 15) / 16) ++ (if mixed then bankBlocks banks ((cols + 63) / 64) else [])
  ({ line := f, blocks := blocks, bankmap := mixed, bank := !mixed && b0, readyAt := s.count }, (px.map (fun p => p.2.2)).sum)

/-- The maps that are still needed after slot `f`: an older one while a slot can fire a line of it, and for 8 lines more, in which an
overlap partner may still work on those lines (R217), or while a nozzle has not fired a line of the newer map (R247). `newer`: the line
from which the newer copy governs, and its D_max. -/
def State.mapsKept (s : State) (ch : Nat) (f : Word) : Option (Word × Nat) → List (Option Word × NozTabs) → List (Option Word × NozTabs)
  | _, [] => []
  | newer, m :: r =>
    let d := s.mapDmax ch m.2.map
    let need := match newer with
      | none => true
      | some (x, e) => decide (ldiff (f - wd (max d e)) (x + 8) < 0)
    if need then m :: s.mapsKept ch f (m.1.map (fun x => (x, d))) r else []

/-- A slot not yet fired references a trim bank (R246): an image that has not been fired, or a line of an older map that a slot to come
fires. -/
def State.bankBusy (s : State) (ch : Nat) (bank : Bool) : Bool :=
  let z := s.nozOf ch
  let old := match z.maps, z.built with
    | (some x, _) :: r, some f => r.any (fun m => m.2.bank == bank && decide (ldiff (f + 1 - wd (s.mapDmax ch m.2.map)) x < 0))
    | (some _, _) :: r, none => r.any (fun m => m.2.bank == bank)
    | _, _ => false
  old || (s.hlOf ch).images.any (fun i => i.bankmap || (i.blocks != [] && i.bank == bank))

/-- Build the image of slot `f` of a channel (R236, R247), and drop the maps that no slot needs any more. -/
def State.buildImage (s : State) (ch : Nat) (f : Word) (bad : List Nat) : State × HlImage :=
  let (i, drops) := s.slotImage ch f bad
  let z := s.nozOf ch
  ((s.setNoz ch { z with maps := s.mapsKept ch f none z.maps, built := some f }).bumpBy (Reg.NOZ_CH_SWDROP ch) drops, i)

/-- FAB_IMAGE_SEND (R290, R292), or the image joins those of the channel's own link (R237). -/
def State.imageOut (s : State) (ch : Nat) (i : HlImage) : State :=
  let w := s.rd (Reg.FAB_FWD_TX ch)
  if bit w 15 then
    let zero := i.blocks = []
    let h := dw i.line (wd (bits w 13 8 + (decide zero).toNat * 64 + i.bankmap.toNat * 128 + i.bank.toNat * 256
      + (s.laneCfg ch).cols * 512))
    s.sendPacket 2 (bits w 7 0) 0x30 (h :: i.blocks)
  else s.modHl ch (fun l => { l with images := l.images ++ [i] })

/-- The map switch at a line (R210): the pending copy governs from here on. -/
def State.doSwitch (s : State) (ch : Nat) (line : Word) : State :=
  if !s.switchesAt ch line then s else
  let z := s.nozOf ch
  match z.pending with
  | none => s
  | some t =>
    let at' := s.rd (Reg.NOZ_CH_SWLINE ch)
    let s := s.setNoz ch { z with maps := (some line, t) :: z.maps, pending := none, fetch := none, ready := false }
    let s := ((s.setF (Reg.NOZ_CH_SWCTL ch) 0 0 0).setF (Reg.NOZ_CH_STATUS ch) 4 4 0).wr (Reg.NOZ_CH_SWDONE ch) line
    let s := (s.showActive ch t).raise 0x0701 0 [wd ch, wd t.tset, line]
    if 0 < ldiff line at' then (s.setF (Reg.NOZ_CH_STATUS ch) 8 8 1).raise 0x0702 0 [wd ch, at', line] else s

/-- The lanes that give a channel its codes of a line (R178, R195): its own and its partners'; those in receive mode screen nothing (R290). -/
def State.suppliers (s : State) (n ch : Nat) : List Nat := (ch :: s.partners n ch).filter (fun p => !s.receives p)

/-- The codes of a channel for a line are complete (R195). -/
def State.codesOf (s : State) (n ch : Nat) (lw : LineWork) : Bool :=
  (s.suppliers n ch).all (fun p => lw.codes.any (fun e => e.1 == p))

/-- A channel may compensate a line (R221): its codes and those of its overlap partners are complete. -/
def State.codesDone (s : State) (n ch : Nat) (lw : LineWork) : Bool :=
  (ch :: ((s.overlap n ch).map Prod.fst).toList ++ ((s.overlapLeft n ch).map Prod.fst).toList).all (fun p => s.codesOf n p lw)

/-- A line has become late after a channel stored it (R196): the images of its slot and of those after it are formed anew from the
row-delay line; one that had been begun is sent from its start (log entry 119). -/
def State.reimage (s : State) (ch : Nat) (line : Word) : State :=
  match (s.nozOf ch).built with
  | none => s
  | some b => (List.range ((ldiff b line + 1).toNat)).foldl (fun s k =>
      let i := (s.slotImage ch (line + wd k) []).1
      if s.flag (Reg.FAB_FWD_TX ch) 15 then s.imageOut ch i
      else s.modHl ch (fun h => { h with images := h.images.map (fun x => if x.line == i.line && x.window.isNone then i else x) })) s

/-- The images of late lines of a channel, each as soon as every line before it has been compensated (R143, R236). -/
def State.lateImages (s : State) (n ch : Nat) (bad : List Nat) : Nat → State
  | 0 => s
  | k + 1 =>
    match (s.ctxOf n).lines.find? (fun w => !w.comp.contains ch) with
    | none => s
    | some w =>
      if !w.late then s else
      let (s, img) := s.buildImage ch w.line bad
      let s := (s.imageOut ch img).modCtx n (fun c => { c with lines := c.lines.map (fun v : LineWork =>
        if v.line == w.line then { v with comp := v.comp ++ [ch] } else v) })
      s.lateImages n ch bad k

/-- LINE_COMPENSATE (R210, R212 to R221, R236): stitch, compensate and store the oldest line of the channel that is ready
for it, and build the image of its slot. -/
def execLineCompensate (ch : Nat) (ecc : List EccHit) (s : State) : Host.Outcome State Fault Refusal :=
  match s.ownerOf ch with
  | none => .next s
  | some n =>
    let s := s.lateImages n ch (s.badWords ecc) (s.ctxOf n).lines.length
    let c := s.ctxOf n
    match c.lines.find? (fun l => !l.late && !l.comp.contains ch) with
    | none => .next s
    | some lw =>
      if !s.laneRuns ch || !s.codesDone n ch lw then .next s else
      let s := s.doSwitch ch lw.line
      let it := lw.item.bind (fun id => c.items.find? (fun i => i.id == id))
      let s := match s.govern ch lw.line, it with
        | some t, some i =>
          let mine := s.mineCols n ch lw.line
          let cols := (List.zip (s.colCodes n ch lw i.width) mine).mapIdx (fun j (x : Nat × Bool × Bool) =>
            ({ code := x.1, mine := x.2.1, nrec := nthW t.map j } : Col))
          let (codes, clip) := compLine t.cls none none cols
          let s := (s.bumpBy (Reg.NOZ_CH_CLIPPED ch) clip).bumpBy (Reg.NOZ_CH_TAKEOVER ch) (mine.filter (fun m : Bool × Bool => m.2)).length
          let s := s.modCtx n (fun c => c.modPage lw.item (fun e => { e with clip := satAdd e.clip clip }))
          s.rowWrite ch lw.line codes
        | _, _ => s.rowWrite ch lw.line []
      let s := s.eccHits ecc lw.item
      let (s, img) := s.buildImage ch lw.line (s.badWords ecc)
      let s := s.imageOut ch img
      .next (s.modCtx n (fun c => { c with lines := c.lines.map (fun w =>
        if w.line == lw.line then { w with comp := w.comp ++ [ch] } else w) }))

/-! Bulk verify. -/

/-- The records of a channel that fail NOZ_VERIFY (R222), by column: every column when the map is missing. -/
def State.verifyCh (s : State) (ch tset : Nat) : List Nat :=
  let cols := (s.laneCfg ch).cols
  let dir := match s.tableCtx ch with
    | some n => (s.buf.dirs.get [] n).filter (fun e => e.tset == tset)
    | none => []
  match findTab dir 6 ch, s.tableCtx ch with
  | some e, some n =>
    let map := bytesWords (s.tabRead n e 0 (4 * cols))
    (List.range cols).filter (fun j =>
      let r := nthW map j
      recReserved r || decide (s.fld (Reg.NOZ_CH_CFG ch) 4 0 ≤ bits r 23 20) || decide (s.rowCap ch < s.recDelay ch r / 64 + 5))
  | _, _ => List.range cols

/-- NOZ_VERIFY of a channel map (R222): RESULT0, RESULT1 and the result code (0 OK, else VERIFY_FAIL). -/
def State.verifyAll (s : State) (chmap : DWord) (tset : Nat) : Word × Word :=
  let fails := ((List.range 64).filter (fun ch => chmap.getLsbD ch)).flatMap (fun ch =>
    (s.verifyCh ch tset).map (fun j => ch * 8192 + j))
  (wd fails.length, match fails.head? with | some k => wd k | none => BitVec.allOnes 32)

end Sys2Proof.Machine
end

