-- ==== Sys2Proof/Machine/HeadLink.lean ====
section
/-!
DEFINITION. Head links: the frame grid (R231), downstream frames and their checks (R233 to R235), images and tokens (R237,
R238), the service area (R241, R242, R245), training and calibration (R252 to R256), faults (R265) and waveform sets.
-/
namespace Sys2Proof.Machine

/-! The frame grid. -/

/-- First block of phase `p`: m_p of R231. -/
def firstBlock (p : Nat) : Nat := (4000 * p + 32) / 33

/-- Blocks of a frame of phase `p`: B_p of R231. -/
def frameBlocks (p : Nat) : Nat := firstBlock (p + 1) - firstBlock p

/-- Phase of the frame with a number, in the active's numbering on a standby (R232, R307). -/
def State.framePhase (s : State) (f : DWord) : Nat := (f.toNat % 33 + s.twin.phaseOfs) % 33

/-! Blocks. -/

/-- IDLE. -/
def idleBlock : Block := ctlBlock 0x87 0

/-- One step of the CRC-16 of R235 over one bit. -/
def crc16Bits : Nat → Nat → Nat
  | 0, c => c
  | k + 1, c => crc16Bits k (if c / 0x8000 % 2 = 1 then ((c * 2) % 0x10000) ^^^ 0x1021 else (c * 2) % 0x10000)

/-- CRC-16 over bytes (R235): polynomial 0x1021, initial 0xFFFF, not reflected, no final inversion. -/
def crc16 (bs : List Byte) : Nat := bs.foldl (fun c b => crc16Bits 8 (c ^^^ (b.toNat * 256))) 0xFFFF

/-! Images and tokens. -/

/-- Images begun and not yet fired at the boundary of a frame (R237): OUTSTANDING. -/
def Hl.outstanding (h : Hl) : Nat := (h.images.filter (fun i => i.begun)).length

/-- A DATA_HDR for `run` blocks from the image's next block on (R234). -/
def HlImage.header (i : HlImage) (run : Nat) : Block :=
  let last := decide (i.next + run = i.blocks.length)
  ctlBlock 0x4B ((decide (i.blocks = [])).toNat * 2 ^ 8 + i.bankmap.toNat * 2 ^ 9 + i.bank.toNat * 2 ^ 10 + last.toNat * 2 ^ 11
    + i.line.toNat % 65536 * 2 ^ 16 + i.next * 2 ^ 32 + run * 2 ^ 42)

/-- Fill the image area (R237): free blocks, images begun and not fired, images ready by time `cut`, in order. -/
def fillImages (cut : DWord) : Nat → Nat → List HlImage → List Block × List HlImage
  | _, _, [] => ([], [])
  | free, out, i :: r =>
    if i.sent then
      let (b, r) := fillImages cut free out r
      (b, i :: r)
    else if !i.begun && (4 ≤ out || decide (cut.toInt < i.readyAt.toInt)) then ([], i :: r)
    else
      let left := i.blocks.length - i.next
      if free = 0 || (left ≠ 0 && free < 2) then ([], i :: r) else
      let run := min left (free - 1)
      let out := if i.begun then out else out + 1
      let j := { i with begun := true, next := i.next + run, sent := decide (run = left) }
      let data := ((i.blocks.drop i.next).take run).map (fun d => ((false, d) : Block))
      let head := i.header run :: data
      if j.sent then
        let (b, r) := fillImages cut (free - 1 - run) out r
        (head ++ b, j :: r)
      else (head, j :: r)

/-- The token block (R234). -/
def tokenBlock (v : Bool) (t : HlToken) : Block :=
  if v then ctlBlock 0x33 (2 ^ 8 + t.line.toNat % 65536 * 2 ^ 16 + t.fine * 2 ^ 32 + t.period * 2 ^ 42) else ctlBlock 0x33 0

/-- The link is in a state in which its frames carry images and tokens (R252). -/
def Hl.carries (h : Hl) : Bool := h.state == .load || h.state == .up || h.state == .fault

/-- The token of the next window (R238): it goes into the frame when the slot's image has been sent completely and the trims are there;
while the capability check fails (R253) it does not. Answers whether it does. -/
def State.hlToken (s : State) (ch : Nat) (t : HlToken) : State × Bool :=
  let h := { s.hlOf ch with took := some t.line }
  let whole := h.images.any (fun i => i.line == t.line && i.sent)
  if h.trimReady && whole then
    let mark := fun (i : HlImage) => if i.line == t.line then { i with window := some t.window } else i
    (s.setHl ch { h with images := h.images.map mark, lateRun := false }, h.capOk)
  else
    let s := s.setHl ch { h with images := h.images.filter (fun i => i.line != t.line), lateRun := true }
    let s := (s.bump (Reg.HL_DATA_LATE ch)).orW (Reg.HL_ERR ch) 0x10
    (if h.lateRun then s else s.raise 0x0804 0 [wd ch, t.line], false)

/-! The service area. -/

/-- A WAVE block (R234). -/
def waveBlock (addr : Nat) (last : Bool) (tag : Word) (data : Word) : Block :=
  ctlBlock 0x55 (addr % 128 * 2 ^ 8 + last.toNat * 2 ^ 15 + tag.toNat % 65536 * 2 ^ 16 + data.toNat * 2 ^ 32)

/-- The next slot of a channel: the next line to fire of its context. -/
def State.nextSlot (s : State) (ch : Nat) : Word := match s.ownerOf ch with | some n => (s.ctxOf n).next | none => 0

/-- Waveform writes of frame `f` (R241, R242, R267): the reload of the shadow first, then the armed set. -/
def State.hlWaves (s : State) (ch : Nat) (f : DWord) : Nat → State × List Block
  | 0 => (s, [])
  | k + 1 =>
    let h := s.hlOf ch
    match h.reload with
    | some (tag, a :: r) =>
      let b := waveBlock a (decide (r = [])) tag (h.shadow.get 0 a)
      let (s, bs) := (s.setHl ch { h with reload := if r = [] then none else some (tag, r) }).hlWaves ch f k
      (s, b :: bs)
    | _ =>
      if !s.flag (Reg.HL_WCTL ch) 0 then (s, []) else
      match h.wstage[h.wnext]? with
      | none => (s, [])
      | some (a, d) =>
        let last := h.wnext + 1 == h.wstage.length
        let b := waveBlock a last (s.rd (Reg.HL_WSWLINE ch)) d
        if last then
          let sh := h.wstage.foldl (fun m e => m.set 0 e.1 e.2) h.shadow
          let s := (s.setHl ch { h with shadow := sh, wstage := [], wnext := 0, wdone := some f, wlate := false }).setF (Reg.HL_WCTL ch) 0 0 0
          (s, [b])
        else
          let (s, bs) := (s.setHl ch { h with wnext := h.wnext + 1 }).hlWaves ch f k
          (s, b :: bs)

/-- Trim block `i` of a bank (R245): ten fractions of 6 bits. -/
def trimBlock (fracs : List Nat) (i : Nat) : DWord :=
  BitVec.ofNat 64 (((fracs.drop (10 * i)).take 10).foldr (fun f n => f % 64 + 64 * n) 0)

/-- The upload of a switch waits while a slot not yet fired references its bank (R246). -/
def State.uploadWaits (s : State) (ch : Nat) (u : TrimUpload) : Bool := u.forSwitch && s.bankBusy ch u.bank

/-- An upload has been sent: its bank is in use (R267), and the first after ARM lets slots fire (R238). -/
def Hl.uploaded (h : Hl) (u : TrimUpload) : Hl :=
  let h := if u.bank then { h with bank1 := some u.fracs } else { h with bank0 := some u.fracs }
  { h with trimReady := h.trimReady || u.arm, uploads := h.uploads.drop 1 }

/-- Trim runs of a frame (R241, R245): free blocks of the service area. -/
def State.hlTrims (s : State) (ch : Nat) : Nat → Nat → State × List Block
  | 0, _ => (s, [])
  | k + 1, free =>
    let h := s.hlOf ch
    match h.uploads with
    | [] => (s, [])
    | u :: r =>
      let total := (u.fracs.length + 9) / 10
      let left := total - u.next
      if s.uploadWaits ch u || free = 0 || (left ≠ 0 && free < 2) then (s, []) else
      let run := min left (min 8 (free - 1))
      let last := decide (run = left)
      let hd := ctlBlock 0x66 (u.bank.toNat * 2 ^ 8 + last.toNat * 2 ^ 9 + u.next * 2 ^ 16 + run * 2 ^ 26)
      let bs := hd :: (List.range run).map (fun i => ((false, trimBlock u.fracs (u.next + i)) : Block))
      let s := s.setHl ch (if last then h.uploaded u else { h with uploads := { u with next := u.next + run } :: r })
      let (s, more) := s.hlTrims ch k (free - 1 - run)
      (s, bs ++ more)

/-- The service area of frame `f` (R241): CAP or CAL, then waveform writes, then trim uploads, which wait while the frames carry none. -/
def State.hlService (s : State) (ch : Nat) (f : DWord) : State × List Block :=
  let h := s.hlOf ch
  let (s, b0) : State × List Block := match h.state with
    | .train => (s, [ctlBlock 0xB4 (ch * 2 ^ 8 + s.power.unitB.toNat * 2 ^ 14)])
    | .cal => (s, [ctlBlock 0xAA (h.calSeq % 256 * 2 ^ 8)])
    | .up =>
      if 1023 ≤ h.sinceCal then
        (s.setHl ch { h with sinceCal := 0, calSeq := h.calSeq + 1, latOut := true }, [ctlBlock 0xAA ((h.calSeq + 1) % 256 * 2 ^ 8)])
      else (s.setHl ch { h with sinceCal := h.sinceCal + 1 }, [])
    | _ => (s, [])
  if !h.carries then (s, b0) else
  let (s, b1) := s.hlWaves ch f (9 - b0.length)
  let (s, b2) := s.hlTrims ch 9 (9 - b0.length - b1.length)
  (s, b0 ++ b1 ++ b2)

/-! A frame. -/

/-- The context of a channel is DIVERGED on this standby (R312). -/
def State.hlDiverged (s : State) (ch : Nat) : Bool :=
  s.twin.role == .standby && (match s.ownerOf ch with | some n => s.twin.div.getLsbD n | none => false)

/-- WLATE (R242): the token of a slot at or above S is in a frame, and the set's final write has been sent neither before nor in it. -/
def State.hlWaveLate (s : State) (ch : Nat) (line : Word) : State :=
  let sl := s.rd (Reg.HL_WSWLINE ch)
  let h := s.hlOf ch
  if s.flag (Reg.HL_WCTL ch) 0 && !h.wlate && decide (0 ≤ ldiff line sl) then
    ((s.setHl ch { h with wlate := true }).setF (Reg.HL_WCTL ch) 16 16 1).raise 0x080B 0 [wd ch, sl]
  else s

/-- Blocks padded with IDLE, or cut, to an area's length. -/
def areaOf (n : Nat) (bs : List Block) : List Block := padTo n idleBlock bs

/-- The scheduler forms frame `f` at t(f) − 1,280 ns (R237, R238, R241, R266; log entry 120), in every state of the link: images that are
ready, the service area, and the token of the next window. Images whose windows are over have been fired. -/
def State.hlForm (s : State) (ch : Nat) (f : DWord) : State :=
  let s := s.modHl ch (fun h => { h with images := h.images.filter (fun i => match i.window with
    | some w => decide (f.toNat ≤ w.toNat + 2) | none => true) })
  let p := s.framePhase f
  let (img, imgs) := fillImages s.count (frameBlocks p - 13) (s.hlOf ch).outstanding (s.hlOf ch).images
  let s := s.modHl ch (fun h => { h with images := imgs })
  let (s, svc) := s.hlService ch f
  let tok := (s.hlOf ch).tokens.find? (fun t => t.window == f + 1)
  let (s, v) : State × Bool := match tok with
    | none => (s, false)
    | some t =>
      let s := s.hlWaveLate ch t.line
      if s.hlDiverged ch then (s, false) else s.hlToken ch t
  let x : TxFrame := { number := f, phase := p, img := if s.hlDiverged ch then [] else img, svc := svc, token := if v then tok else none }
  s.modHl ch (fun h => { h with tokens := h.tokens.filter (fun t => decide (f.toNat + 1 < t.window.toNat)), txq := h.txq ++ [x] })

/-- When block `k` of a frame leaves the balls (R231, R239), in 10 ps of time-base count: blocks of 5.28 ns on their grid, advanced by ADV
in steps of 1 UI of 0.08 ns. `boundary`: the count of the frame's boundary. -/
def blockStart (boundary : Nat) (phase : Nat) (adv : Int) (k : Nat) : Nat :=
  (((boundary * 100 + firstBlock phase * 528 + k * 528 : Nat) : Int) - phase * 64000 - (adv * 100).fdiv 128 * 8).toNat

/-- The count of the boundary of frame `f`. -/
def State.boundaryOf (s : State) (f : DWord) : Nat := (s.pos.frame.next - 640 + (f - s.pos.frame.number) * 640).toNat

/-- The blocks of a frame as they leave (R233 to R235, R248): START and TOKEN as the inhibit latch stands when they leave (log entry 121), and a KILL in the
place of the first block that leaves at or after each kill symbol; the checks are taken over what is sent. Answers the blocks, the kill
symbols that it has not carried, and whether its token went out. -/
def State.txBlocks (s : State) (ch : Nat) (x : TxFrame) : List Block × List DWord × Bool :=
  let h := s.hlOf ch
  let at' := blockStart (s.boundaryOf x.number) x.phase h.adv
  let n := frameBlocks x.phase
  let carry := x.state == .load || x.state == .up || x.state == .fault
  let v := carry && x.token.isSome && !s.inhibited (at' 2)
  let mine := fun (t : DWord) => carry && decide (t.toNat * 100 ≤ at' (n - 1))
  let killed := fun k => h.kills.any (fun t => mine t && (t.toNat * 100 - at' 0 + 527) / 528 == k)
  let sent := fun (bs : List Block) (k0 : Nat) => bs.mapIdx (fun k b => if killed (k0 + k) then ctlBlock 0x99 0 else b)
  let start := ctlBlock 0x1E ((lo32 x.number + s.twin.frameOfs).toNat % 2 ^ 24 * 2 ^ 8 + x.phase * 2 ^ 32 + (s.inhibited (at' 0)).toNat * 2 ^ 38)
  let epoch := ctlBlock 0x2D (s.twin.epoch.toNat * 2 ^ 8 + (s.twin.role == .active).toNat * 2 ^ 40
    + s.power.unitB.toNat * 2 ^ 41 + ch * 2 ^ 42)
  let b0 := sent [start] 0
  let b1 := sent [epoch] 1
  let b2 := sent (tokenBlock v (x.token.getD {}) :: areaOf (n - 13) (if carry then x.img else [])) 2
  let b3 := sent (areaOf 9 x.svc) (n - 10)
  let last := ctlBlock 0x78 ((crc32c (blockBytes (b0 ++ b2))).toNat * 2 ^ 8 + crc16 (blockBytes (b1 ++ b3)) * 2 ^ 40)
  (b0 ++ b1 ++ b2 ++ b3 ++ sent [last] (n - 1), h.kills.filter (fun t => !mine t), v)

/-- A slot's token is placed for its window (R53, R238): the frame that carries it takes it, when that has been formed and its block 2 has
not left; of a later token the slot is lost. -/
def State.hlPlace (s : State) (ch : Nat) (t : HlToken) : State :=
  match (s.hlOf ch).txq.find? (fun x => x.number + 1 == t.window) with
  | none => s.modHl ch (fun h => { h with tokens := h.tokens ++ [t] })
  | some x =>
    if blockStart (s.boundaryOf x.number) x.phase (s.hlOf ch).adv 2 ≤ s.tenPs then
      s.modHl ch (fun h => { h with took := some t.line, images := h.images.filter (fun i => i.line != t.line) })
    else
      let s := s.hlWaveLate ch t.line
      if s.hlDiverged ch then s else
      let (s, v) := s.hlToken ch t
      if !v then s else s.modHl ch (fun h => { h with txq := h.txq.map (fun y => if y.number == x.number then { y with token := some t } else y) })

/-- A frame has left (R233): it is recorded unless the link was OFF, and HL_WDONE takes the first token sent after a set's final write. -/
def State.hlSend (s : State) (ch : Nat) (x : TxFrame) : State :=
  if x.state == .off then s else
  let (bs, kills, v) := s.txBlocks ch x
  let h := s.hlOf ch
  let done := v && (match h.wdone with | some f => decide (f.toNat < x.number.toNat) | none => false)
  let s := s.setHl ch { h with kills := kills, wdone := if done then none else h.wdone }
  let s := if done then s.wr (Reg.HL_WDONE ch) (x.token.getD {}).line else s
  (s.bumpWrap (Reg.HL_FRAMES ch)).emit (.hlBlocks ch bs)

/-- A link at the boundary that begins frame `f`: the frames before have left, the link's state now is that of frame `f`, and frame `f` + 2
is formed. -/
def State.hlFrame (s : State) (ch : Nat) (f : DWord) : State :=
  let gone := (s.hlOf ch).txq.filter (fun x => decide (x.number.toNat < f.toNat))
  let s := gone.foldl (fun s x => s.hlSend ch x) s
  let s := s.modHl ch (fun h => { h with txq := (h.txq.filter (fun x => decide (f.toNat ≤ x.number.toNat))).map (fun x =>
    if x.number == f then { x with state := h.state } else x) })
  s.hlForm ch (f + 2)

/-- The kill symbol (R248): a KILL block in place of the next block, on every link in UP, LOAD or FAULT. -/
def State.killAll (s : State) : State :=
  s.each ((List.range 64).filter (fun ch => (s.hlOf ch).carries)) (fun s ch =>
    (s.bump (Reg.HL_KILLS ch)).modHl ch (fun h => { h with kills := h.kills ++ [s.count] }))

/-- The stream of a link breaks off (R35): what had left by now, and the KILL block that is the last; nothing formed is sent any more. -/
def State.hlCut (s : State) (ch : Nat) : State :=
  let h := s.hlOf ch
  let now := s.tenPs
  let cut := fun (x : TxFrame) =>
    let x := if x.state == .off then { x with state := h.state } else x
    let at' := blockStart (s.boundaryOf x.number) x.phase h.adv
    let bs := (s.txBlocks ch x).1
    bs.take ((List.range bs.length).filter (fun k => k = 0 || decide (at' (k - 1) < now))).length
  let bs := if h.state == .off then [] else (h.txq.filter (fun x => decide (blockStart (s.boundaryOf x.number) x.phase h.adv 0 < now + 528))).flatMap cut
  let s := s.setHl ch { h with txq := [], kills := [] }
  if bs = [] then s else s.emit (.hlBlocks ch bs)

/-! Training. -/

/-- Start the training sequence (R252). A link whose EN is 0 goes OFF again at the next frame boundary. -/
def State.hlTrain (s : State) (ch : Nat) : State :=
  (s.modHl ch (fun h => { h with state := .train, since := s.count, cal := [], upPend := false, newLat := none, reload := none,
                                 loaded := false, hstate := 0, badRun := 0, leaving := !s.flag (Reg.HL_CTRL ch) 0 })).setF (Reg.HL_TRAIN ch) 11 8 0

/-- Training ends with a RESULT other than OK, and the link goes OFF (R252, R270). -/
def State.hlTrainFail (s : State) (ch result : Nat) : State :=
  let s := (s.modHl ch (fun h => { h with state := .off, lock := false, upPend := false, hstate := 0, loaded := false })).setF (Reg.HL_TRAIN ch) 11 8 result
  if result = 6 then s else s.raise 0x0803 0 [wd ch, wd result]

/-- The link enters UP (R252, R255): D and ADV are applied. -/
def State.hlUp (s : State) (ch : Nat) : State :=
  let h := s.hlOf ch
  let (d, adv) := h.newLat.getD (h.d, h.adv)
  let s := s.setHl ch { h with state := .up, since := s.count, d := d, adv := adv, newLat := none, upPend := false, lat := h.cal.take 256,
                               sinceCal := 0, badRun := 0, drift := false }
  let s := (s.wr (Reg.HL_LAT ch) (wd ((d % 65536).toNat + (adv % 65536).toNat * 65536))).setF (Reg.HL_TRAIN ch) 11 8 1
  s.raise 0x0801 0 [wd ch, wi adv]

/-- Enter LOAD (R267): every trim bank in use, else bank 0 with every fraction 0, and the whole waveform shadow. -/
def State.hlLoad (s : State) (ch : Nat) : State :=
  s.modHl ch (fun h =>
    let b0 : List TrimUpload := match h.bank0 with | some f => [{ bank := false, fracs := f }] | none => []
    let b1 : List TrimUpload := match h.bank1 with | some f => [{ bank := true, fracs := f }] | none => []
    let b : List TrimUpload := if b0 ++ b1 = [] then [{ fracs := List.replicate (s.laneCfg ch).cols 0 }] else b0 ++ b1
    { h with state := .load, reload := some (s.nextSlot ch, List.range 128), uploads := b ++ h.uploads })

/-- A link in UP or LOAD enters FAULT with a cause (R265). -/
def State.hlFault (s : State) (ch cause : Nat) : State :=
  let h := s.hlOf ch
  if h.state != .up && h.state != .load then s else
  let s := s.setHl ch { h with state := .fault, since := s.count, reload := none, badRun := 0 }
  ((s.bump (Reg.HL_RETRAINS ch)).orW (Reg.HL_ERR ch) (if cause = 1 then 1 else 0)).raise 0x0802 0 [wd ch, wd cause]

/-- The capability check of R253 on the head's reported capabilities. -/
def State.capCheck (s : State) (ch : Nat) : Bool :=
  let c := s.rd (Reg.HL_CAP0 ch)
  let hfix := s.fld (Reg.HL_CAP1 ch) 9 0
  decide ((s.laneCfg ch).cols ≤ bits c 13 0) && decide (s.fld (Reg.NOZ_CH_CFG ch) 4 0 ≤ bits c 20 16)
    && decide (4 ≤ bits c 27 24) && decide (64 ≤ hfix) && decide (hfix ≤ 640)

/-- Repeat the capability check of a channel (R253): HL_ERR.CAP_MISMATCH is set while it fails. -/
def State.capRecheck (s : State) (ch : Nat) : State :=
  let ok := s.capCheck ch
  let s := s.modHl ch (fun h => { h with capOk := ok })
  if ok then s else s.orW (Reg.HL_ERR ch) 8

/-- The channel belongs to a context that is not IDLE: its settings are locked (R121, R271). -/
def State.chLocked (s : State) (ch : Nat) : Bool := (s.ownerOf ch).isSome

/-- A write of HL_CTRL (R16, R271, R273): while the channel is locked only HEALTH_EN changes. -/
def State.hlCtrlWrite (s : State) (ch : Nat) (value : Word) : State :=
  let off := Reg.HL_CTRL ch
  let v := value &&& 0x1FF
  if s.chLocked ch then
    let s' := s.setF off 8 8 (bits v 8 8)
    if (v ^^^ s.rd off) &&& 0xFF = 0 then s' else s'.orW (Reg.HL_ERR ch) 0x800
  else
    let was := s.flag off 0
    let auto := s.fld off 1 0 == 3
    let s := s.wr off v
    let s := if (s.hlOf ch).state == .fault && !auto then s.modHl ch (fun h => { h with since := s.count }) else s
    if bit v 0 && !was then
      (if (s.hlOf ch).state == .off || (s.hlOf ch).state == .fault then s.hlTrain ch else s.modHl ch (fun h => { h with leaving := false }))
    else if !bit v 0 && was then
      (s.hlFault ch 4).modHl ch (fun h => { h with leaving := h.state != .off })
    else s

/-- HL_ENABLE (R252): a write of HL_CTRL that sets EN. -/
def execHlEnable (ch : Nat) (value : Word) (s : State) : Host.Outcome State Fault Refusal :=
  .next (s.gated (Reg.HL_CTRL ch) (fun s => s.hlCtrlWrite ch value))

/-- HL_DISABLE (R252, R265): a write of HL_CTRL that clears EN. -/
def execHlDisable (ch : Nat) (value : Word) (s : State) : Host.Outcome State Fault Refusal :=
  .next (s.gated (Reg.HL_CTRL ch) (fun s => s.hlCtrlWrite ch value))

/-- HL_TRAIN_GO (R252, R255, R256): the training sequence starts, whatever the link's state (log entry 101). -/
def execHlTrainGo (ch : Nat) (s : State) : Host.Outcome State Fault Refusal :=
  .next (s.gated (Reg.HL_TRAIN ch) (fun s => s.hlTrain ch))

/-- HL_TRAIN_CANCEL (R272): training ends with RESULT CANCELLED. -/
def execHlTrainCancel (ch : Nat) (s : State) : Host.Outcome State Fault Refusal :=
  .next (s.gated (Reg.HL_TRAIN ch) (fun s =>
    let st := (s.hlOf ch).state
    if st == .train || st == .cal || st == .load then s.hlTrainFail ch 6 else s))

/-- HL_BLOCK_LOCK (R230): the device receiver gains block lock. -/
def execHlBlockLock (ch : Nat) (s : State) : Host.Outcome State Fault Refusal :=
  .next (if (s.hlOf ch).state == .off then s else s.modHl ch (fun h => { h with lock := true }))

/-- HL_CAP_RX (R253): the head's capabilities are taken and checked. -/
def execHlCapRx (ch : Nat) (cap0 cap1 cap2 cap3 : DWord) (s : State) : Host.Outcome State Fault Refusal :=
  let h := s.hlOf ch
  if h.state != .train || !h.lock then .next s else
  let f := fun (d : DWord) hi lo => (d.toNat >>> lo) % 2 ^ (hi + 1 - lo)
  let s := s.wr (Reg.HL_CAP0 ch)
    (wd (f cap0 23 10 + f cap0 28 24 * 2 ^ 16 + f cap0 32 29 * 2 ^ 24 + f cap0 43 43 * 2 ^ 28))
  let s := s.wr (Reg.HL_CAP1 ch) (wd (f cap0 42 33 + f cap3 25 10 * 2 ^ 16))
  let s := s.wr64 (Reg.HL_HEAD_SN ch) (dw (wd (f cap1 41 10)) (wd (f cap2 41 10)))
  let s := s.capRecheck ch
  if s.capCheck ch then
    .next (s.modHl ch (fun h => { h with state := .cal, badRun := 0, hfix := f cap0 42 33, cal := [], calSeq := h.calSeq + 1 }))
  else .next (s.hlTrainFail ch 4)

/-- HL_CAL_DONE (R254): D and ADV from 256 exchanges, in 1/16 ns; or none when calibration fails. -/
def calResult (xs : List Int) (hfix : Nat) : Option (Int × Int) :=
  let hi := xs.foldl max (xs.headD 0)
  let lo := xs.foldl min (xs.headD 0)
  let d := divHalfUp xs.sum 512
  let adv := d + 16 * hfix
  if 64 < hi - lo || 1280 * 16 < adv then none else some (d, adv)

/-- HL_CAL_RX (R254): an answer closes an exchange; the 256th ends calibration. -/
def execHlCalRx (ch : Nat) (seq : Byte) (r ht : Word) (s : State) : Host.Outcome State Fault Refusal :=
  let h := s.hlOf ch
  if h.state != .cal || h.upPend || seq.toNat != h.calSeq % 256 then .next s else
  let cal := (r.toNat - ht.toNat : Int) :: h.cal
  let s := s.setHl ch { h with cal := cal, calSeq := h.calSeq + 1 }
  if cal.length < 256 then .next s else
  match calResult cal h.hfix with
  | none => .next ((s.orW (Reg.HL_ERR ch) 4).hlTrainFail ch 5)
  | some p =>
    let s := s.modHl ch (fun h => { h with newLat := some p })
    if !h.loaded then .next (s.hlLoad ch)
    else if s.chLocked ch then .next (s.modHl ch (fun h => { h with upPend := true }))
    else .next (s.hlUp ch)

/-- HL_TRAIN_TIMEOUT (R252): 200 µs without lock, 300 µs without CAP, or 2 ms without the 256 exchanges (log entry 106). -/
def execHlTrainTimeout (ch : Nat) (s : State) : Host.Outcome State Fault Refusal :=
  let h := s.hlOf ch
  let t := (s.count - h.since).toNat
  if h.state == .cal && !h.upPend && decide (2000000 ≤ t) then .next ((s.orW (Reg.HL_ERR ch) 4).hlTrainFail ch 5)
  else if h.state != .train then .next s
  else if !h.lock && 200000 ≤ t then .next (s.hlTrainFail ch 2)
  else if h.lock && 300000 ≤ t then .next (s.hlTrainFail ch 3)
  else .next s

/-- HL_LOAD_DONE (R252, R255, R267): uploads sent and LOADED seen; with a context that is not IDLE at a frame boundary. -/
def execHlLoadDone (ch : Nat) (s : State) : Host.Outcome State Fault Refusal :=
  let h := s.hlOf ch
  if h.state != .load || h.reload.isSome || h.uploads.any (fun u => !u.forSwitch) || !h.loaded then .next s
  else if s.chLocked ch then .next (s.modHl ch (fun h => { h with upPend := true }))
  else .next (s.hlUp ch)

/-- HL_LOCK_LOST (R265): UP and LOAD enter FAULT; calibration ends with NO_LOCK. -/
def execHlLockLost (ch : Nat) (s : State) : Host.Outcome State Fault Refusal :=
  let h := s.hlOf ch
  if !h.lock then .next s else
  let s := s.setHl ch { h with lock := false }
  if h.state == .cal then .next (s.hlTrainFail ch 2) else .next (s.hlFault ch 1)

/-- Frame lock is lost: UP and LOAD enter FAULT with a cause (R265); calibration ends with NO_LOCK (R252, log entry 106). -/
def State.hlFrameLost (s : State) (ch cause : Nat) : State :=
  if (s.hlOf ch).state == .cal then s.hlTrainFail ch 2 else s.hlFault ch cause

/-- HL_NO_RETURN (R265): no return START for 4 frame periods. -/
def execHlNoReturn (ch : Nat) (s : State) : Host.Outcome State Fault Refusal := .next (s.hlFrameLost ch 3)

/-- HL_RETRAIN_TIMER (R252): 10 µs in FAULT with AUTO_RETRAIN and EN set. -/
def execHlRetrainTimer (ch : Nat) (s : State) : Host.Outcome State Fault Refusal :=
  let h := s.hlOf ch
  if h.state == .fault && s.fld (Reg.HL_CTRL ch) 1 0 == 3 && decide (10000 ≤ (s.count - h.since).toNat) then
    .next (s.hlTrain ch)
  else .next s

/-- At a frame boundary (R252, R255): a link being disabled goes OFF, a calibrated one enters UP. -/
def State.hlBoundary (s : State) (ch : Nat) : State :=
  let h := s.hlOf ch
  if h.leaving then s.setHl ch { h with state := .off, lock := false, leaving := false, upPend := false, hstate := 0, loaded := false }
  else if h.upPend then s.hlUp ch
  else s

/-- HL_LAT_CHECK (R256): the mean of the last 256 exchanges against D. -/
def execHlLatCheck (ch : Nat) (r ht : Word) (s : State) : Host.Outcome State Fault Refusal :=
  let h := s.hlOf ch
  if h.state != .up || !h.latOut then .next s else
  let lat := ((r.toNat - ht.toNat : Int) :: h.lat).take 256
  let s := s.setHl ch { h with lat := lat, latOut := false }
  let n : Int := lat.length
  -- twice the mean flight time less D, in 1/16 ns, times n
  let dev := lat.sum - 2 * h.d * n
  if 16 * n < dev || dev < -(16 * n) then
    .next ((s.orW (Reg.HL_ERR ch) 0x200).raise 0x080C 0 [wd ch, wi (divHalfUp lat.sum (2 * n))])
  else .next s

/-! Waveform sets. -/

/-- HL_WDATA_WRITE (R242, R244): stage one entry. -/
def execHlWdataWrite (ch : Nat) (value : Word) (s : State) : Host.Outcome State Fault Refusal :=
  .next (s.gated (Reg.HL_WDATA ch) (fun s =>
    let h := s.hlOf ch
    if s.flag (Reg.HL_WCTL ch) 0 then s.orW (Reg.HL_ERR ch) 0x100
    else if 32 ≤ h.wstage.length then s.orW (Reg.HL_ERR ch) 0x80
    else s.setHl ch { h with wstage := h.wstage ++ [(s.fld (Reg.HL_WADDR ch) 6 0, value)] }))

/-- A write of HL_WCTL (R242, R244, R273): CLEAR while ARM is 0, ARM, and the W1C bit WLATE. -/
def State.wctlWrite (s : State) (ch : Nat) (value : Word) : State :=
  let off := Reg.HL_WCTL ch
  let armed := s.flag off 0
  let s := if bit value 1 && !armed then s.modHl ch (fun h => { h with wstage := [], wnext := 0 }) else s
  let s := if bit value 0 && !armed then s.modHl ch (fun h => { h with wlate := false }) else s
  let s := if bit value 16 then s.setF off 16 16 0 else s
  if bit value 0 then s.setF off 0 0 1
  else if armed then (s.setF off 0 0 0).modHl ch (fun h => { h with wstage := [], wnext := 0 })
  else s

/-- HL_WAVE_ARM (R242). -/
def execHlWaveArm (ch : Nat) (value : Word) (s : State) : Host.Outcome State Fault Refusal :=
  .next (s.gated (Reg.HL_WCTL ch) (fun s => s.wctlWrite ch value))

/-- HL_WAVE_CANCEL (R244). -/
def execHlWaveCancel (ch : Nat) (value : Word) (s : State) : Host.Outcome State Fault Refusal :=
  .next (s.gated (Reg.HL_WCTL ch) (fun s => s.wctlWrite ch value))

/-- HL_WAVE_CLEAR (R273). -/
def execHlWaveClear (ch : Nat) (value : Word) (s : State) : Host.Outcome State Fault Refusal :=
  .next (s.gated (Reg.HL_WCTL ch) (fun s => s.wctlWrite ch value))

end Sys2Proof.Machine
end

