-- ==== Sys2Proof/Machine/Position.lean ====
section
/-!
DEFINITION. Position and time: encoders (R41 to R43), position references (R44 to R58), the time base (R59 to R64), capture
units (R71) and PRINT_INHIBIT# (R72, R73).
-/
namespace Sys2Proof.Machine

/-! Position references. -/

/-- The code of a state (R49). -/
def PState.code : PState → Nat
  | .off => 0 | .acquire1 => 1 | .acquire2 => 2 | .tracking => 3 | .stopped => 4 | .coast => 5 | .invalid => 6

/-- The state with a code; codes that R49 does not list count as OFF. -/
def PState.ofCode : Nat → PState
  | 1 => .acquire1 | 2 => .acquire2 | 3 => .tracking | 4 => .stopped | 5 => .coast | 6 => .invalid | _ => .off

/-- PREF_N and PREF_M. -/
def State.prefNM (s : State) (n : Nat) : Nat × Nat := (s.fld (Reg.PREF_N n) 23 0, s.fld (Reg.PREF_M n) 23 0)

/-- PREF_CTRL.SRC. -/
def State.prefSrc (s : State) (n : Nat) : Nat := s.fld (Reg.PREF_CTRL n) 4 1

/-- PREF_CTRL.EN. -/
def State.prefEn (s : State) (n : Nat) : Bool := s.flag (Reg.PREF_CTRL n) 0

/-- One count in 2^-32 line: c of R47. -/
def State.countLen (s : State) (n : Nat) : Int :=
  let (a, b) := s.prefNM n
  if b = 0 then 0 else ((a * 2 ^ 32 / b : Nat) : Int)

/-- Measured position in 2^-32 line (R45). -/
def Pref.measured (p : Pref) (m : Nat) : Int := p.pos.toInt * 65536 + ((if m = 0 then 0 else p.acc * 65536 / m : Nat) : Int)

/-- `k` counts change the measured position by N/M lines each, exactly (R45). -/
def Pref.convert (p : Pref) (n m : Nat) (k : Int) : Pref :=
  let a := (p.acc : Int) + k * n * 65536
  { p with pos := p.pos + BitVec.ofInt 48 (a.fdiv m), acc := (a.emod m).toNat }

/-- A difference of positions in 2^-32 line, wrapped modulo 2^32 lines (R6). -/
def wrapPos (x : Int) : Int := (BitVec.ofInt 64 x).toInt

/-- Position extrapolated from the last edge: p + v × (t − tk). -/
def Pref.linear (p : Pref) (t : DWord) : Int := p.p.toInt + asr (p.v.toInt * (t - p.tk).toInt) 16

/-- The estimator's output at a tick (R47, R52): clamped in TRACKING, free in COAST. -/
def Pref.est (p : Pref) (c : Int) (t : DWord) : Int :=
  match p.state with
  | .tracking => p.mlast.toInt + clampI (wrapPos (p.linear t - p.mlast.toInt)) (-c) c
  | .coast => p.linear t
  | _ => p.p.toInt

/-- The PREF follows samples: SRC = FABRIC, or SRC = TWIN on a standby that has not changed to its own estimator (R55, R56). -/
def State.follows (s : State) (n : Nat) : Bool :=
  s.prefSrc n == 8 || (s.prefSrc n == 9 && s.twin.role == .standby && !(s.prefOf n).own)

/-- The state that PREF_STATUS reports (R49, R58). -/
def State.prefState (s : State) (n : Nat) : PState :=
  if !s.prefEn n then .off else if s.follows n then (s.prefOf n).fstate else (s.prefOf n).state

/-- The dot clock runs, and with it encoders, estimators and the scheduler: its PLL is locked (R32, R35). -/
def State.dotRuns (s : State) : Bool := !s.pllLost .dot

/-- The output of a PREF at a tick, 2^-32 line. While the dot clock stands still the estimators do, and the output is that of the tick
at which it stopped (R35); while a PREF is OFF it is that of the tick at which EN was cleared (log entry 126). -/
def State.prefOut (s : State) (n : Nat) (t : DWord) : Int :=
  let p := s.prefOf n
  let t := if s.dotRuns then t else s.pos.dotStop
  if !s.prefEn n then p.p.toInt
  else if s.follows n then p.fp.toInt + asr (p.fv.toInt * (t - p.ftk).toInt) 16 else p.est (s.countLen n) t

/-- The velocity in use, 2^-48 line per ns (R49). -/
def State.prefVel (s : State) (n : Nat) : Int :=
  match s.prefState n with
  | .tracking | .coast => if s.follows n then (s.prefOf n).fv.toInt else (s.prefOf n).v.toInt
  | _ => 0

/-- The output in 1/65,536 line, rounded down (R48). -/
def State.prefPos (s : State) (n : Nat) (t : DWord) : BitVec 48 := BitVec.ofInt 48 (asr (s.prefOut n t) 16)

/-- The active contexts bound to a PREF. -/
def State.boundTo (s : State) (n : Nat) : List Nat :=
  s.ctxNums.filter (fun k => (s.ctxOf k).active && s.fld (Reg.CTX_CFG k) 1 0 == n)

/-- PREF_INVALID (R52, R58, R74): the PREF enters INVALID and every context bound to it halts at that tick. A halt that comes
from the active's samples is not local to the standby. ARG1, the state left, is the state before the fault when the fault leads to INVALID
at once (DESIGN CHOICE, log entry 108). -/
def State.invalidate (s : State) (n : Nat) : State :=
  let old := s.prefState n
  let t := s.count
  let out := BitVec.ofInt 64 (s.prefOut n t)
  let p := s.prefOf n
  let fol := s.follows n
  let p := if fol then { p with fstate := .invalid, fp := out, fv := 0, ftk := t }
    else { p with state := .invalid, p := out, v := 0, tk := t }
  let s := (s.setPref n p).raise 0x0204 0 [wd n, wd old.code]
  let b := s.boundTo n
  let s := if fol && s.twin.role == .standby then { s with twin := { s.twin with noted := b ++ s.twin.noted } } else s
  s.haltNow b 6

/-- The estimator that a TWIN PREF keeps beside the samples it follows takes a fault of its encoder: it coasts or becomes INVALID, and
the PREF, whose source is the stream, does not (R52, R56; log entry 25). -/
def State.ownFault (s : State) (n : Nat) (enc : Nat) : State :=
  let p := s.prefOf n
  match p.state with
  | .off | .coast | .invalid => s
  | st =>
    let p : Pref := { p with fcount := (s.encOf enc).count }
    let stands := s.fld (Reg.PREF_COAST n) 7 0 == 0 || st != PState.tracking || p.v == 0#64
    s.setPref n (if stands then
        { p with state := .invalid, p := BitVec.ofInt 64 (p.est (s.countLen n) s.count), v := 0, tk := s.count }
      else { p with state := .coast })

/-- PREF_SOURCE_FAULT (R52): COAST, or INVALID at once when the coast distance or the velocity in use is 0. `enc`: the encoder at fault,
none for a lost sample stream (R57), which a PREF that already coasts on samples can meet too. -/
def State.sourceFault (s : State) (n : Nat) (enc : Option Nat) : State :=
  match enc with
  | some e =>
    if s.follows n then s.ownFault n e else
    match s.prefState n with
    | .off | .coast | .invalid => s
    | _ =>
      let v := s.prefVel n
      let s := (s.orW (Reg.PREF_FAULTS n) 1).setPref n { s.prefOf n with fcount := (s.encOf e).count }
      if s.fld (Reg.PREF_COAST n) 7 0 = 0 || v = 0 then s.invalidate n else s.setPref n { s.prefOf n with state := .coast }
  | none =>
    let v := s.prefVel n
    let s := (s.orW (Reg.PREF_FAULTS n) 1).setPref n { s.prefOf n with lossCoast := true }
    if s.fld (Reg.PREF_COAST n) 7 0 = 0 || v = 0 then s.invalidate n else s.setPref n { s.prefOf n with fstate := .coast }

/-- The encoder that a PREF's estimator uses: of its SRC, or of its own number for a TWIN source (log entry 25). -/
def State.prefEnc (s : State) (n : Nat) : Option Nat :=
  let src := s.prefSrc n
  if src < 8 then some src else if src = 9 then some n else none

/-- The PREFs enabled on an encoder. -/
def State.prefsOn (s : State) (enc : Nat) : List Nat :=
  (List.range 4).filter (fun n => s.prefEn n && s.prefEnc n == some enc)

/-- on_edge of R47 with the transitions of R49 and R51, on a measured position. Answers whether it was a reversal. -/
def Pref.onEdge (p : Pref) (alpha beta : Nat) (t : DWord) (m : Int) (fwd : Bool) : Pref × Bool :=
  let w := BitVec.ofInt 64
  let dt := max 1 (t - p.tk).toInt
  let q := { p with tk := t, mlast := w m, dir := some fwd }
  if p.dir == some (!fwd) then ({ q with state := .acquire2, p := w m, v := 0 }, true) else
  match p.state with
  | .acquire2 => ({ q with state := .tracking, v := w ((wrapPos (m - p.mlast.toInt) * 65536).tdiv dt), p := w m }, false)
  | .tracking =>
    let pred := p.p.toInt + asr (p.v.toInt * dt) 16
    let r := wrapPos (m - pred)
    ({ q with p := w (pred + asr r alpha), v := w (p.v.toInt + (asr (r * 65536) beta).tdiv dt) }, false)
  | _ => ({ q with state := .acquire2, p := w m, v := 0 }, false)

/-- PREF_EDGE_UPDATE (R45, R47, R51): one accepted count reaches a PREF, which ignores it while OFF, in COAST or INVALID. -/
def State.prefEdge (s : State) (n : Nat) (up : Bool) (stamp : DWord) : State :=
  let p := s.prefOf n
  if p.state == .off || p.state == .coast || p.state == .invalid then s else
  let (a, b) := s.prefNM n
  let fwd := up != s.flag (Reg.PREF_CTRL n) 5
  let p := p.convert a b (if fwd then 1 else -1)
  let (p, rev) := p.onEdge (s.fld (Reg.PREF_CTRL n) 7 6) (s.fld (Reg.PREF_CTRL n) 10 8) stamp (p.measured b) fwd
  let s := s.setPref n p
  if rev then (s.bump (Reg.PREF_REV_CNT n)).raiseE 0x0203 0 [wd n, bw (!fwd)] else s

/-! Encoders. -/

/-- Position of a pair of levels in the quadrature cycle; A leads B when counting up (log entry 26). -/
def quadPos (a b : Bool) : Nat := match a, b with | false, false => 0 | true, false => 1 | true, true => 2 | false, true => 3

/-- A level of encoder `e` that has stood for `run` consecutive samples is accepted: for more than FILT of them (R41). -/
def State.accepted (s : State) (e run : Nat) : Bool := decide (s.fld (Reg.ENC_CTRL e) 3 0 < run)

/-- The stamp of R41: the time-base count of the tick in which the first of `run` consecutive dot-clock samples was taken, the last of
them `sub` sixths of a ns into the tick in progress. A dot-clock cycle is five sixths of a ns (R32). -/
def State.runStamp (s : State) (run : Nat) (sub : Fin 6) : DWord :=
  BitVec.ofInt 64 (((s.count.toNat : Int) * 6 + sub.val - 5 * ((run : Int) - 1)).fdiv 6)

/-- ENC_AB_EDGE (R41, R42): the levels of A and B have stood for `run` samples. -/
def execEncAbEdge (e : Nat) (a b : Bool) (run : Nat) (sub : Fin 6) (s : State) : Host.Outcome State Fault Refusal :=
  let c := s.encOf e
  let stamp := s.runStamp run sub
  if !s.dotRuns || !s.accepted e run || (c.a == a && c.b == b) then .next s
  else if c.a != a && c.b != b then
    let s := s.setEnc e { c with a := a, b := b }
    let s := s.setF (Reg.ENC_ERR e) 15 0 (satFld (s.fld (Reg.ENC_ERR e) 15 0) 16)
    let s := s.raise 0x0201 0 [wd e, c.count]
    .next (s.each (s.prefsOn e) (fun s n => s.sourceFault n (some e)))
  else
    let up := (quadPos c.a c.b + 1) % 4 == quadPos a b
    let s := s.setEnc e { c with a := a, b := b, count := if up then c.count + 1 else c.count - 1,
                                 movedUp := c.movedUp || up, movedDn := c.movedDn || !up }
    .next (s.each (s.prefsOn e) (fun s n => s.prefEdge n up stamp))

/-- What a tick takes off S (R64), in the unit of `TimeBase.slew`. -/
def State.slewStep (s : State) : Nat := s.tb.incr.toNat * s.fld Reg.TB_SLEW 8 0

/-- Corrected time of an earlier tick of the time-base count, at the rate and the slew in force. -/
def State.timeAt (s : State) (t : DWord) : DWord :=
  TimeBase.now { s.tb with count := t, slew := if s.tb.slew = 0 then 0 else s.tb.slew + s.slewStep * (s.count - t).toNat }

/-- MARK inputs of the contexts whose MARK_SRC is a source code (R132; DESIGN CHOICE, log entry 140). -/
def State.markInputs (s : State) (src : Nat) : State :=
  s.each (s.ctxNums.filter (fun n => s.fld (Reg.CTX_CFG n) 20 16 == src)) (fun s n => s.seqInput n 0x20)

/-- ENC_Z_EDGE (R41, R43, R284): Z has stood at a level for `run` samples; a rising change is a Z edge, and while ZGATE is 1 it counts
only with A and B high. -/
def execEncZEdge (e : Nat) (z : Bool) (run : Nat) (sub : Fin 6) (s : State) : Host.Outcome State Fault Refusal :=
  if !s.dotRuns || !s.accepted e run || (s.encOf e).z == z then .next s else
  let stamp := s.runStamp run sub
  let s := s.setEnc e { s.encOf e with z := z }
  if !z then .next s else
  let s := s.markInputs (e + 1)
  let c := s.encOf e
  let ctl := s.rd (Reg.ENC_CTRL e)
  if bit ctl 4 && !(c.a && c.b) then .next s else
  let s := s.wr (Reg.ENC_ZPOS e) c.count
  let s := if bit ctl 6 then s.sendPacket 0 255 0x11 [s.timeAt stamp, dw c.count (wd e)] else s
  let s := s.setEnc e { c with zref := if bit ctl 5 then some c.count else none, movedUp := false, movedDn := false }
  match c.zref with
  | none => .next s
  | some was =>
    let mag := (c.count - was).toInt.natAbs
    let want := s.fld (Reg.ENC_ZCOUNT e) 23 0
    if !bit ctl 5 || (c.movedUp && c.movedDn) || (mag ≤ want + 1 && want ≤ mag + 1) then .next s
    else
      let s := s.setF (Reg.ENC_ERR e) 31 16 (satFld (s.fld (Reg.ENC_ERR e) 31 16) 16)
      let s := s.raise 0x0202 0 [wd e, wd mag]
      .next (s.each (s.prefsOn e) (fun s n => s.sourceFault n (some e)))

/-! PREF_CTRL. -/

/-- Whether a value is one that PREF_CTRL.SRC lists (R78). -/
def srcOk (k : Nat) : Bool := decide (k ≤ 9)

/-- EN of a PREF goes from 0 to 1 (R46). -/
def State.prefStart (s : State) (n : Nat) : State :=
  let pos := BitVec.ofNat 48 (s.rd64 (Reg.PREF_PRESET n)).toNat
  let m := BitVec.ofInt 64 (pos.toInt * 65536)
  s.setPref n { state := .acquire1, pos := pos, p := m, mlast := m, tk := s.count, fp := m, ftk := s.count, sp := m,
                sf := s.pos.frame.number }

/-- Time-base count at which a frame of the active's numbering begins, from the 32-bit frame number (R307). -/
def State.frameCount (s : State) (f : Word) : DWord :=
  s.pos.frame.next - 640 - BitVec.ofInt 64 ((s.pairFrame - f).toInt * 640)

/-- The time-base count of the boundary that a sample was taken at (R55, R56): of its corrected time for a FABRIC source, of its frame for
a TWIN source. The interval is converted at the INCR in force, with the fraction of a tick dropped (DESIGN CHOICE, log entry 109). -/
def State.sampleTick (s : State) (n : Nat) (x : PSample) : DWord :=
  if s.prefSrc n == 8 then s.count - BitVec.ofInt 64 (((s.now - x.stamp).toInt * 2 ^ 40).tdiv (s.tb.incr.toNat : Int))
  else s.frameCount (lo32 x.stamp)

/-- A following PREF takes the position, the velocity and a state of a sample (R55, R56, R58). -/
def State.takeSample (s : State) (n : Nat) (x : PSample) (st : PState) : State :=
  let s := s.setPref n { s.prefOf n with fstate := st, fp := x.p, fv := x.v, ftk := s.sampleTick n x }
  if st == .coast then s.orW (Reg.PREF_FAULTS n) 1 else s

/-- A PREF's own estimator restarts from its encoder's count (R52). -/
def State.ownRestart (s : State) (n : Nat) : State :=
  let p := s.prefOf n
  match s.prefEnc n with
  | some e =>
    if p.state != .invalid then s else
    let (a, b) := s.prefNM n
    let k := ((s.encOf e).count - p.fcount).toInt
    let q := p.convert a b (if s.flag (Reg.PREF_CTRL n) 5 then -k else k)
    let m := BitVec.ofInt 64 (q.measured b)
    s.setPref n { q with state := .acquire1, p := m, v := 0, mlast := m, tk := s.count, dir := none }
  | none => s

/-- RESYNC (R49, R52, R58): an INVALID PREF restarts; one that follows samples takes the state of the latest, unless that is INVALID. -/
def State.prefRestart (s : State) (n : Nat) : State :=
  let s := if s.follows n && s.prefState n == .invalid then
      match (s.prefOf n).sample with
      | some x => if x.state == .invalid then s else (s.setPref n { s.prefOf n with lossCoast := false }).takeSample n x x.state
      | none => s
    else s
  s.ownRestart n

/-- A write of PREF_CTRL (R16, R44, R45, R49, R79). -/
def State.prefCtrlWrite (s : State) (n : Nat) (value : Word) : State :=
  let off := Reg.PREF_CTRL n
  let old := s.rd off
  let (a, b) := s.prefNM n
  let en := bit old 0
  let bad := a = 0 || b = 0 || 16 * b < a
  let en' := if !en && bit value 0 && bad then false else bit value 0
  let locked := en && bits value 4 1 != bits old 4 1
  let src := if en || !srcOk (bits value 4 1) then bits old 4 1 else bits value 4 1
  let beta := if bits value 10 8 = 0 then bits old 10 8 else bits value 10 8
  let w := setBits (setBits (setBit (value &&& 0x7FF) 0 en') 4 1 src) 10 8 beta
  let out := BitVec.ofInt 64 (s.prefOut n s.count)
  let s := s.wr off w
  let s := if locked then s.orW (Reg.PREF_FAULTS n) 4 else s
  let s := if !en && en' then s.prefStart n else if en && !en' then s.setPref n { s.prefOf n with state := .off, p := out, v := 0 } else s
  if bit value 11 then s.prefRestart n else s

/-- PREF_ENABLE (R45, R46): a write of PREF_CTRL that sets EN. -/
def execPrefEnable (n : Nat) (value : Word) (s : State) : Host.Outcome State Fault Refusal :=
  .next (s.gated (Reg.PREF_CTRL n) (fun s => s.prefCtrlWrite n value))

/-- PREF_RESYNC (R49, R52, R58): a write of PREF_CTRL with RESYNC. -/
def execPrefResync (n : Nat) (value : Word) (s : State) : Host.Outcome State Fault Refusal :=
  .next (s.gated (Reg.PREF_CTRL n) (fun s => s.prefCtrlWrite n value))

/-- PREF_STOP (R50): no edge for PREF_STOP_NS in TRACKING. -/
def execPrefStop (n : Nat) (s : State) : Host.Outcome State Fault Refusal :=
  let p := s.prefOf n
  if s.dotRuns && p.state == .tracking && decide ((s.rd (Reg.PREF_STOP_NS n)).toNat ≤ (s.count - p.tk).toNat) then
    .next (s.setPref n { p with state := .stopped, p := BitVec.ofInt 64 (p.est (s.countLen n) s.count), v := 0 })
  else .next s

/-- The coast distance from a position has been used up, in the direction of the velocity (R52). -/
def State.coastDone (s : State) (n : Nat) (out from' v : Int) : Bool :=
  decide ((s.fld (Reg.PREF_COAST n) 7 0 : Int) * 2 ^ 32 ≤ wrapPos (out - from') * (if 0 < v then 1 else -1))

/-- PREF_INVALID (R52): the coast distance is used up. A PREF in COAST through the samples it follows covers none of its own; the estimator
that it keeps beside them may. -/
def execPrefInvalid (n : Nat) (s : State) : Host.Outcome State Fault Refusal :=
  let p := s.prefOf n
  if !s.dotRuns then .next s
  else if s.follows n then
    if p.fstate == .coast && p.lossCoast && s.coastDone n (s.prefOut n s.count) p.fp.toInt p.fv.toInt then .next (s.invalidate n)
    else if p.state == .coast && s.coastDone n (p.linear s.count) p.mlast.toInt p.v.toInt then
      .next (s.setPref n { p with state := .invalid, p := BitVec.ofInt 64 (p.linear s.count), v := 0, tk := s.count })
    else .next s
  else if s.prefState n == .coast && s.coastDone n (s.prefOut n s.count) p.mlast.toInt p.v.toInt then .next (s.invalidate n)
  else .next s

/-- PREF_SAMPLE_LOSS (R57): a FABRIC source that delivered no sample for 4 frames, also while the samples carried COAST. -/
def execPrefSampleLoss (n : Nat) (s : State) : Host.Outcome State Fault Refusal :=
  match s.prefState n with
  | .off | .invalid => .next s
  | _ =>
    if s.dotRuns && s.prefSrc n == 8 && !(s.prefOf n).lossCoast && 4 ≤ (s.prefOf n).missed then
      .next (((s.orW (Reg.PREF_FAULTS n) 2).raise 0x0205 0 [wd n]).sourceFault n none)
    else .next s

/-- A TWIN PREF that followed the samples, with state `old`, changes to its own estimator (R56, R74). One whose estimator is INVALID by
then is INVALID. -/
def State.prefToOwn (s : State) (n : Nat) (old : PState) : State :=
  let s := (s.setPref n { s.prefOf n with own := true }).raise 0x0206 0 [wd n]
  if (s.prefOf n).state == .invalid && old != .invalid then (s.raise 0x0204 0 [wd n, wd old.code]).haltNow (s.boundTo n) 6 else s

/-- PREF_SRC_SWITCH (R56): a standby whose partner's samples stop changes to its own estimator at a frame boundary. Four frames without a
sample count as such a stop, and it stays on its own estimator when samples come again (DESIGN CHOICE, log entry 110). -/
def execPrefSrcSwitch (n : Nat) (s : State) : Host.Outcome State Fault Refusal :=
  let p := s.prefOf n
  if s.dotRuns && s.prefEn n && s.prefSrc n == 9 && s.follows n && p.fstate != .invalid && 4 ≤ p.missed
      && s.count + 640 == s.pos.frame.next then
    .next (s.prefToOwn n (s.prefState n))
  else .next s

/-! Frame samples. -/

/-- Apply the latest accepted sample of a following PREF at a frame boundary (R55, R56, R58). -/
def State.applySample (s : State) (n : Nat) : State :=
  let p := s.prefOf n
  match p.sample with
  | none => s
  | some x =>
    if !s.prefEn n || !s.follows n || p.fstate == .invalid || p.lossCoast then s
    else if x.state == .invalid then (s.takeSample n x p.fstate).invalidate n
    else s.takeSample n x x.state

/-- The velocity of a sample, saturated to 40 bits (R279). -/
def sat40 (v : Int) : Nat := ((clampI v (-(2 ^ 39)) (2 ^ 39 - 1)) % 2 ^ 40).toNat

/-- S_b of a PREF is latched at a boundary (R53), and missed samples are counted (R57). A standby's TWIN PREF takes S_b from the active's
sample of the same frame (R56): it waits for that sample when it has not come. -/
def State.frameSample (s : State) (n : Nat) : State :=
  let s := s.applySample n
  let p := s.prefOf n
  let p := { p with missed := if p.got || !s.prefEn n || !s.follows n then 0 else p.missed + 1, got := false }
  if s.prefEn n && s.prefSrc n == 9 && s.follows n then s.setPref n p
  else s.setPref n { p with sp := BitVec.ofInt 64 (s.prefOut n s.count), sv := BitVec.ofInt 64 (s.prefVel n), sf := s.pos.frame.number }

/-- The frame samples of a boundary (R53), and the SAMPLE broadcasts and messages (R283, R307). -/
def State.frameSamples (s : State) : State :=
  s.each (List.range 4) (fun s n =>
    let s := s.frameSample n
    let pb := BitVec.ofInt 64 (s.prefOut n s.count)
    let vb := s.prefVel n
    let st := (s.prefState n).code
    let s := if s.flag Reg.FAB_PREF_TX n && s.fab.addr != 0 then
        s.sendPacket 0 255 0x10 [pb, s.now, BitVec.ofNat 64 (sat40 vb + n * 2 ^ 40 + st * 2 ^ 42)] else s
    if s.prefEn n && s.prefSrc n == 9 && s.twin.role == .active then
      s.twinMsg 4 [dw s.pairFrame (wd (n + st * 4)), pb, BitVec.ofNat 64 (sat40 vb)] else s)

/-! The time base. -/

/-- One tick of the time-base clock (R59, R64). While the result of a host error is unpredictable it stays so: each tick disturbs the state
anew, but for the count and what else R19 protects (R20; log entry 10). -/
def State.tick (s : State) : State :=
  let t := { s with tb := { s.tb with count := s.tb.count + 1, slew := s.tb.slew - s.slewStep } }
  if t.upset.isSome then t.disturb else t

/-- INCR takes a value at a tick, and OFFSET moves so that corrected time does not step (R61). -/
def State.setIncr (s : State) (v : BitVec 48) : State :=
  let d := (s.tb.count.toNat : Int) * ((s.tb.incr.toNat : Int) - v.toNat)
  { s with tb := { s.tb with incr := v, offset := s.tb.offset + d } }

/-- The holding word of PF0 for a 64-bit register is empty: a write of both its words has taken effect (R12). -/
def State.dropHold (s : State) (off : Nat) : State := { s with hold := s.hold.set none off none }

/-- A value for TB_INCR (R61): one outside 0.95 to 1.05 is refused. -/
def State.tbIncr (s : State) (value : DWord) : State :=
  let v := BitVec.ofNat 48 value.toNat
  if v.toNat < 0xF333333333 || 0x10CCCCCCCCC < v.toNat then
    (s.orW Reg.TB_STATUS 0x200).raise 0x020A 0 [lo32 (BitVec.ofNat 64 v.toNat), hi32 (BitVec.ofNat 64 v.toNat)]
  else s.setIncr v

/-- TB_INCR_WRITE (R12, R61): both words are written, the low word first. -/
def execTbIncrWrite (value : DWord) (s : State) : Host.Outcome State Fault Refusal :=
  .next (s.gated Reg.TB_INCR (fun s => (s.dropHold Reg.TB_INCR).tbIncr value))

/-- A: the integer part of OFFSET (R62). -/
def State.offsetInt (s : State) : Int := s.tb.offset.fdiv (2 ^ 40)

/-- TIME_SLEW_END (R64): the last tick of a slew. -/
def execTimeSlewEnd (s : State) : Host.Outcome State Fault Refusal :=
  if 0 < s.tb.slew && s.tb.slew ≤ s.slewStep then .next s.tick else .next s

/-- TB_ARM_WRITE (R63). -/
def execTbArmWrite (value : Word) (s : State) : Host.Outcome State Fault Refusal :=
  .next (s.gated Reg.TB_ARM (fun s =>
    let t := s.tb
    if value = 0x7A3C then { s with tb := { t with armKey := some t.count, armed := none } }
    else match t.armKey with
      | some k => if value = 0xC5E1 && (t.count - k).toNat ≤ 1000000 then
          { s with tb := { t with armKey := none, armed := some t.count } }
        else { s with tb := { t with armKey := none, armed := none } }
      | none => { s with tb := { t with armKey := none, armed := none } }))

/-- Armed under R63: for 10 ms, until the next write of TB_OFFSET. -/
def State.tbArmed (s : State) : Bool := match s.tb.armed with | some k => decide ((s.tb.count - k).toNat < 10000000) | none => false

/-- TB_ARM_EXPIRE (R63): 10 ms after arming, or more than 1 ms after the first key. -/
def execTbArmExpire (s : State) : Host.Outcome State Fault Refusal :=
  let t := s.tb
  let a := match t.armed with | some k => if 10000000 ≤ (t.count - k).toNat then none else some k | none => none
  let k := match t.armKey with | some k => if 1000000 < (t.count - k).toNat then none else some k | none => none
  .next { s with tb := { t with armed := a, armKey := k } }

/-! Capture units. -/

/-- Capture unit `u`. -/
def State.capOf (s : State) (u : Nat) : Cap := s.pos.cap.get {} u

/-- Replace capture unit `u`. -/
def State.setCap (s : State) (u : Nat) (c : Cap) : State := { s with pos := { s.pos with cap := s.pos.cap.set {} u c } }

/-- A change on a source is an edge that a capture unit takes (R43, R71, R80): its SRC and EDGE select it; one of ENCn_Z is accepted under
R41, and one of a GPIO reaches the unit while PD7 is on. -/
def State.capTakes (s : State) (ctl : Word) (src : Nat) (rising : Bool) (run : Nat) : Bool :=
  bit ctl 0 && bits ctl 5 1 == src && (match bits ctl 7 6 with | 0 => rising | 1 => !rising | _ => true) &&
  (if 1 ≤ src && src ≤ 8 then s.accepted (src - 1) run else decide (src < 16) || s.domOn 7)

/-- CAP_EDGE (R71): a change on a source of capture units. -/
def execCapEdge (u src : Nat) (rising : Bool) (run : Nat) (sub : Fin 6) (s : State) : Host.Outcome State Fault Refusal :=
  let c := s.capOf u
  let ctl := s.rd (Reg.CAP_CTRL u)
  let stamp := s.runStamp run sub
  if !s.dotRuns || !s.capTakes ctl src rising run then .next s
  else if c.valid then .next ((s.orW (Reg.CAP_STATUS u) 2).raiseE 0x020E 0 [wd u])
  else .next (s.setCap u { c with valid := true, time := s.timeAt stamp, pos := s.prefPos (bits ctl 9 8) stamp })

/-- CAP_TIME_LO_READ (R12, R71): a read latches the 64 bits of CAP_TIME; through PF0 it also latches the pair and clears
VALID; the mirror only reads (R39). -/
def execCapTimeLoRead (pf1 : Bool) (u : Nat) (s : State) : Host.Outcome State Fault Refusal :=
  .next (s.reading pf1 (Reg.CAP_TIME u) (fun s =>
    let c := s.capOf u
    let s := s.latch64 pf1 (Reg.CAP_TIME u) c.time
    (if pf1 then s else s.setCap u { c with valid := false, rpos := c.pos }, lo32 c.time)))

/-! PRINT_INHIBIT#. -/

/-- Set the inhibit latch (R72, R73): kill symbols, the event, and the input of every active context. -/
def State.setLatch (s : State) : State :=
  if s.pos.pi.latch then s else
  let s := { s with pos := { s.pos with pi := { s.pos.pi with latch := true, setAt := s.count } } }
  let s := (s.bump Reg.PI_COUNT).killAll
  (s.seqInputAll 0x21).raise 0x020C 0 []

/-- INHIBIT_ASSERT (R72): the input has been low for 2 ns. -/
def execInhibitAssert (s : State) : Host.Outcome State Fault Refusal :=
  if s.pos.pi.low then .next s else
  .next { s with pos := { s.pos with pi := { s.pos.pi with low := true, resumed := false } } }.setLatch

/-- PRINT_INHIBIT_RISE (R73): the input returns high. -/
def execPrintInhibitRise (s : State) : Host.Outcome State Fault Refusal :=
  if !s.pos.pi.low then .next s else
  .next { s with pos := { s.pos with pi := { s.pos.pi with low := false, riseAt := s.count, resumed := false } } }

/-- A write of PI_CTRL (R73): AUTO_RESUME, and RESUME while the input is high. -/
def State.piCtrlWrite (s : State) (value : Word) : State :=
  let s := s.wr Reg.PI_CTRL (value &&& 1)
  if bit value 1 && !s.pos.pi.low then { s with pos := { s.pos with pi := { s.pos.pi with resumed := true } } } else s

/-- PI_RESUME (R73): a write of PI_CTRL with RESUME. -/
def execPiResume (value : Word) (s : State) : Host.Outcome State Fault Refusal :=
  .next (s.gated Reg.PI_CTRL (fun s => s.piCtrlWrite value))

/-- What the latch needs to clear at a frame boundary (R73): the input has been high for 1,280 ns, and resuming is permitted. -/
def State.mayRelease (s : State) : Bool :=
  let i := s.pos.pi
  i.latch && !i.low && decide (1280 ≤ (s.count - i.riseAt).toNat) && (s.flag Reg.PI_CTRL 0 || i.resumed)

/-- The latch clears (R73). -/
def State.release (s : State) : State :=
  let s := { s with pos := { s.pos with pi := { s.pos.pi with latch := false, resumed := false, past := (s.pos.pi.setAt, s.count) :: s.pos.pi.past.filter (fun e => decide (s.count.toNat < e.2.toNat + 10000)) } } }
  (s.seqInputAll 0x22).raise 0x020D 0 []

/-- INHIBIT_RELEASE (R73): at the tick of a frame boundary, before FRAME_BOUNDARY forms the frames that begin there. -/
def execInhibitRelease (s : State) : Host.Outcome State Fault Refusal :=
  if s.dotRuns && s.mayRelease && s.count == s.pos.frame.next then .next s.release else .next s

/-- MARK_SOURCE_EDGE (R132): an accepted edge on a GPIO that MARK_SRC selects. -/
def execMarkSourceEdge (pin : Nat) (s : State) : Host.Outcome State Fault Refusal :=
  .next (if s.domOn 7 then s.markInputs (16 + pin) else s)

end Sys2Proof.Machine
end

