-- ==== Sys2Proof/Machine/Submit.lean ====
section
/-!
DEFINITION. The rings of the contexts (R87 to R100): doorbells, submit descriptors (R93 to R96), table copies (R136), the
fetching and arrival of tiles (R139, R160, R168, R169), interrupt moderation, the scrubber (R147), and the two rows that
end a context's work (R125, R126).
-/
namespace Sys2Proof.Machine

/-! Doorbells. -/

/-- Entries that a ring of 2^size entries holds. -/
def ringCount (pi ci size : Nat) : Nat := (pi + 2 ^ size - ci) % 2 ^ size

/-- A producer doorbell with an index: a host error beyond the ring or past the consumer (R114), else the new index. -/
def producerTo (pi ci size idx : Nat) : Option Nat :=
  let m := 2 ^ size
  if m ≤ idx || m ≤ ringCount pi ci size + (idx + m - pi) % m then none else some idx

/-- A consumer doorbell with an index: a host error beyond the ring or past the producer (R114), else the new index. -/
def consumerTo (pi ci size idx : Nat) : Option Nat :=
  let m := 2 ^ size
  if m ≤ idx || ringCount pi ci size < (idx + m - ci) % m then none else some idx

/-- A PF0 doorbell during a long operation is dropped (R107); before S7 it is ignored (R551). -/
def State.pf0Bell (s : State) (f : State → Host.Outcome State Fault Refusal) : Host.Outcome State Fault Refusal :=
  if !s.power.ready then .next s else if s.host.op.isSome then .next (s.bump Reg.OP_DROPPED) else f s

/-- MGMT_DOORBELL (R90). -/
def execMgmtDoorbell (value : Word) (s : State) : Host.Outcome State Fault Refusal :=
  s.pf0Bell (fun s =>
    if !s.flag Reg.HOST_MGMT_CTRL 0 then .next (s.bump Reg.HOST_DB_IGNORED) else
    match producerTo s.host.mgmtPi s.host.mgmtCi (s.fld Reg.HOST_MGMT_CTRL 5 1) (bits value 15 0) with
    | none => .next (s.hostError 114)
    | some k => .next { s with host := { s.host with mgmtPi := k } })

/-- EVT_RING_LOST (R105): once space is free, one entry reports the discarded events, whatever the mask. The event is
also written to Cask (R115). -/
def State.evtRecover (s : State) : State :=
  let lost := s.host.evt.lost
  if lost = 0 || !s.evtSpace || !s.flag Reg.HOST_EVT_CTRL 0 then s
  else
    let (q, s) := State.evtSeq { s with host := { s.host with evt := { s.host.evt with lost := 0 } } }
    let a := wd (min lost (2 ^ 32 - 1))
    (s.evtPost 0x0302 0 [a] q).caskStage 0x0302 0 [a]

/-- EVT_DOORBELL (R90, R105). -/
def execEvtDoorbell (value : Word) (s : State) : Host.Outcome State Fault Refusal :=
  s.pf0Bell (fun s =>
    if !s.flag Reg.HOST_EVT_CTRL 0 then .next (s.bump Reg.HOST_DB_IGNORED) else
    match consumerTo s.host.evt.pi s.host.evt.ci s.evtSize (bits value 15 0) with
    | none => .next (s.hostError 114)
    | some k => .next (State.evtRecover { s with host := { s.host with evt := { s.host.evt with ci := k } } }))

/-- CTX_SQ_DOORBELL (R90). -/
def execCtxSqDoorbell (n : Nat) (value : Word) (s : State) : Host.Outcome State Fault Refusal :=
  if n = 0 || !s.power.ready then .next s else
  if !s.flag (Reg.HOST_RING_CTRL n) 0 then .next (s.bump Reg.HOST_DB_IGNORED) else
  let r := s.ringOf n
  match producerTo r.sqPi r.sqCi (s.sqSize n) (bits value 15 0) with
  | none => .next (s.hostError 114)
  | some k => .next (s.setRing n { r with sqPi := k })

/-- CTX_CQ_DOORBELL (R90, R99). -/
def execCtxCqDoorbell (n : Nat) (value : Word) (s : State) : Host.Outcome State Fault Refusal :=
  if n = 0 || !s.power.ready then .next s else
  if !s.flag (Reg.HOST_RING_CTRL n) 0 then .next (s.bump Reg.HOST_DB_IGNORED) else
  let r := s.ringOf n
  match consumerTo r.cqPi r.cqCi (s.cqSize n) (bits value 15 0) with
  | none => .next (s.hostError 114)
  | some k => .next ((s.setRing n { r with cqCi := k }).cqDrain n 34)

/-- CQ_MOD_TIMER (R100): HOST_RING_MOD µs after the first entry not yet signalled. -/
def execCqModTimer (n : Nat) (s : State) : Host.Outcome State Fault Refusal :=
  let k := s.fld (Reg.HOST_RING_MOD n) 15 0
  match (s.ringOf n).first with
  | some t => .next (if k != 0 && s.mgmtRuns && t.toNat + k * 1000 ≤ s.now.toNat then s.cqModerate n true else s)
  | none => .next s

/-- EVT_MOD_TIMER (R100, R105): MOD_TIME × 10 µs after the first entry not yet signalled. -/
def execEvtModTimer (s : State) : Host.Outcome State Fault Refusal :=
  let k := s.fld Reg.HOST_EVT_CTRL 31 24
  match s.host.evt.first with
  | some t => .next (if k != 0 && s.mgmtRuns && t.toNat + k * 10000 ≤ s.now.toNat then
      { s with host := { s.host with evt := { s.host.evt with posted := 0, first := none } } }.irq false (s.fld Reg.HOST_EVT_CTRL 13 8)
    else s)
  | none => .next s

/-! Submit descriptors. -/

/-- OPCODE of a descriptor (R93). -/
def descOp (d : List Word) : Nat := bits (nthW d 0) 7 0

/-- A descriptor has a 1 in a reserved bit: of the header, or outside the masks given for words 1 to 15 (R15). -/
def descReserved (d : List Word) (masks : List Word) : Bool :=
  bits (nthW d 0) 15 11 != 0
    || (List.range 15).any (fun k => nthW d (k + 1) &&& ~~~(masks.getD k 0) != 0)

/-- The next descriptor of context `n` may be read (R91, R122, R125): `op` tells that its OPCODE is of the row's kind. -/
def State.descMay (s : State) (n : Nat) (op : Bool) : Bool :=
  let c := s.ctxOf n
  let r := s.ringOf n
  n != 0 && op && s.mgmtRuns && s.flag (Reg.HOST_RING_CTRL n) 0 && s.reads n && s.pf1Can && r.sqPi != r.sqCi
    && (!(c.state == .draining) || c.drain != some r.sqCi)

/-- The next descriptor of context `n` may be read and started (R92): with FENCE only when nothing before it is unfinished. -/
def State.descReady (s : State) (n : Nat) (d : List Word) (op : Bool) : Bool :=
  s.descMay n op && (!bit (nthW d 0) 9 || ((s.ctxOf n).flight = [] && (s.ringOf n).held = []))

/-- Close the pages of a context (R157): a descriptor that is not a TILE of them has been read. -/
def Ctx.closePages (c : Ctx) (except : Option Nat) : Ctx :=
  { c with items := c.items.map (fun i : Item => if some i.id == except then i else { i with closed := true }) }

/-- What the reading of a descriptor closes (R157): a TILE of the open page the lines above its Y0, any other descriptor every page. -/
def Ctx.descCloses (c : Ctx) (d : List Word) : Ctx :=
  match if descOp d = 2 then c.openPage.filter (fun i => i.pageId == nthW d 8) else none with
  | none => c.closePages none
  | some i =>
    let c := c.closePages (some i.id)
    let y0 := (nthW d 7).toNat
    { c with items := c.items.map (fun j : Item => if j.id == i.id then { j with lastY0 := max j.lastY0 y0 } else j) }

/-- A descriptor that cannot start: one whose FENCE makes it wait has been read (R92, R157; log entry 100). -/
def State.descSeen (s : State) (n : Nat) (d : List Word) (op : Bool) : State :=
  if s.descMay n op then s.modCtx n (fun c => c.descCloses d) else s

/-- Read the descriptor: the consumer index advances, and every page before it is closed except as R157 says. Answers the
descriptor's number and the completion it will have. -/
def State.descTake (s : State) (n : Nat) (d : List Word) (pageId : Word) : Nat × State :=
  let r := s.ringOf n
  let ci := (r.sqCi + 1) % 2 ^ s.sqSize n
  let s := s.setRing n { r with sqCi := ci }
  let c := s.ctxOf n
  let w := nthW d 0
  let e : Compl := { op := bits w 7 0, tag := bits w 31 16, sqCi := ci, pageId := pageId, irq := bit w 10 }
  let f : InFlight := { id := c.nextId, compl := bit w 8, entry := e }
  (c.nextId, s.setCtx n { c with nextId := c.nextId + 1, flight := c.flight ++ [f] })

/-- A descriptor without arguments, or one that is not executed: it completes with a STATUS at once. -/
def State.descEnd (s : State) (n : Nat) (d : List Word) (pageId : Word) (st : Nat) : State :=
  let (id, s) := s.descTake n d pageId
  (s.modCtx n (fun c => c.descCloses d)).finish n id st

/-- DESC_NOP (R95). -/
def execDescNop (n : Nat) (d : List Word) (s : State) : Host.Outcome State Fault Refusal :=
  if !s.descReady n d (descOp d == 0) then .next (s.descSeen n d (descOp d == 0))
  else if descReserved d [] then .next (s.hostError 15)
  else .next (s.descEnd n d 0 0)

/-- DESC_MARK (R95). -/
def execDescMark (n : Nat) (d : List Word) (s : State) : Host.Outcome State Fault Refusal :=
  if !s.descReady n d (descOp d == 5) then .next (s.descSeen n d (descOp d == 5))
  else if descReserved d [] then .next (s.hostError 15)
  else .next (s.descEnd n d 0 0)

/-- DESC_INVALID_OP (R94): an opcode not listed completes with INVALID_OP, whatever COMPL holds. -/
def execDescInvalidOp (n : Nat) (d : List Word) (s : State) : Host.Outcome State Fault Refusal :=
  if !s.descReady n d (decide (6 ≤ descOp d)) then .next (s.descSeen n d (decide (6 ≤ descOp d)))
  else .next (s.descEnd n d 0 1)

/-- LINE_COUNT (R95); of a value outside 1 to 2^31 − 1 the manual gives no result, and the count is free (log entry 30). -/
def State.lineCount (s : State) (w : Word) : Nat × State :=
  if w != 0 && !bit w 31 then (w.toNat, s) else (1 + s.free.1.toNat % (2 ^ 31 - 1), s.free.2)

/-- WIDTH_PX (R95); of 0 the manual gives no result, and the width is free (log entry 30). -/
def State.pageWidth (s : State) (w : Word) : Nat × State :=
  if bits w 23 0 != 0 then (bits w 23 0, s) else (1 + s.free.1.toNat % (2 ^ 24 - 1), s.free.2)

/-- DESC_PAGE (R95, R129, R130): the page joins the pages of the context. Read in a DRAIN from ARMED, it ends ABORTED (R125). -/
def execDescPage (n : Nat) (d : List Word) (s : State) : Host.Outcome State Fault Refusal :=
  if !s.descReady n d (descOp d == 1) then .next (s.descSeen n d (descOp d == 1))
  else if descReserved d [0, 0xFFFFFFFF, 0xFFFFFFFF, 0xFFFFFFFF, 0xFFFFFF, 0x10F] then .next (s.hostError 15)
  else
    let anch := bit (nthW d 6) 8
    let late := !anch && (match ((s.ctxOf n).items.filter (fun i => i.page && !i.anchored)).getLast? with
      | some q => decide (ldiff (nthW d 2) q.start < 0)
      | none => false)
    if late then .next (s.hostError 150) else
    let (count, s) := s.lineCount (nthW d 3)
    let (width, s) := s.pageWidth (nthW d 5)
    let (id, s) := s.descTake n d (nthW d 4)
    let i : Item := { id := id, page := true, start := nthW d 2, count := count, pageId := nthW d 4, width := width, tset := bits (nthW d 6) 3 0, anchored := anch }
    let c := (s.ctxOf n).closePages none
    let s := s.setItems n (Ctx.place { c with items := c.items ++ [i] })
    .next (if c.drainArmed then s.finish n id 6 else s)

/-- DESC_BLANK (R95, R130): blank lines behind the pages read. Read in a DRAIN from ARMED, it ends without firing (R125). -/
def execDescBlank (n : Nat) (d : List Word) (s : State) : Host.Outcome State Fault Refusal :=
  if !s.descReady n d (descOp d == 3) then .next (s.descSeen n d (descOp d == 3))
  else if descReserved d [0, 0xFFFFFFFF] then .next (s.hostError 15)
  else
    let (count, s) := s.lineCount (nthW d 2)
    let (id, s) := s.descTake n d 0
    let i : Item := { id := id, page := false, count := count, closed := true }
    let c := (s.ctxOf n).closePages none
    let s := s.setItems n (Ctx.place { c with items := c.items ++ [i] })
    .next (if c.drainArmed then s.finish n id 0 else s)

/-- DESC_TILE (R95, R96): a tile of the open page waits to be fetched. BAD_LENGTH is judged before NO_PAGE. -/
def execDescTile (n : Nat) (d : List Word) (s : State) : Host.Outcome State Fault Refusal :=
  if !s.descReady n d (descOp d == 2) then .next (s.descSeen n d (descOp d == 2))
  else if descReserved d [0, 0xFFFFFFFF, 0xFFFFFFFF, 0x1FFFFF, 0x1F0F, 0xFFFFFF, 0xFFFFFFFF, 0xFFFFFFFF] then .next (s.hostError 15)
  else
    let len := bits (nthW d 4) 20 0
    let y0 := (nthW d 7).toNat
    let page := (s.ctxOf n).openPage.filter (fun i => i.pageId == nthW d 8)
    let addr := dw (nthW d 2) (nthW d 3)
    if len < 32 || 263200 < len then .next (s.descEnd n d (nthW d 8) 2)
    else match page with
    | none => .next (s.descEnd n d (nthW d 8) 3)
    | some i =>
      if addr.toNat % 64 != 0 || s.bufMeets (addr.toNat, len) then .next (s.hostError 114)
      else if (s.alloc (Reg.BUF_CTX_ING n)).2 < len then .next (s.hostError 150)
      else if y0 < i.lastY0 then .next (s.hostError 171)
      else
        let (id, s) := s.descTake n d (nthW d 8)
        let t : Tile := { id := id, item := i.id, addr := addr, len := len,
                          plane := bits (nthW d 5) 3 0, format := bits (nthW d 5) 12 8, x0 := bits (nthW d 6) 23 0, y0 := y0 }
        .next (s.modCtx n (fun c => let c := c.descCloses d; { c with tiles := c.tiles ++ [t] }))

/-! Tables. -/

/-- Two byte ranges overlap. -/
def overlaps (a la b lb : Nat) : Bool := decide (a < b + lb) && decide (b < a + la)

/-- A byte range of the table region of context `n` overlaps a table in use (R136, R150): one being copied or waiting for its
line boundary, one of a line in work, one that ARM or a switch is loading, or one that the directory holds, which is in use
until another replaces it (log entry 28). -/
def State.tabInUse (s : State) (n dest len : Nat) : Bool :=
  let c := s.ctxOf n
  let hit := fun (e : DirEntry) => overlaps dest len e.dest e.len
  c.copies.any (fun t => overlaps dest len t.dest t.len) || c.dirPend.any hit || c.tabWait.any (fun t => hit t.e) || c.lines.any (fun l => l.tabs.any hit)
    || (c.nozLoad && c.nozRefs.any hit)
    || (s.chans n).any (fun ch => match (s.nozOf ch).fetch with | some (refs, _, _) => refs.any hit | none => false)
    || (s.buf.dirs.get [] n).any hit

/-- The keys of the directory of context `n`, with those of loads under way (R136). -/
def State.tabKeys (s : State) (n : Nat) : List (Nat × Nat × Nat) :=
  let c := s.ctxOf n
  ((s.buf.dirs.get [] n).map (fun e => (e.kind, e.inst, e.tset)) ++ c.copies.map (fun t => (t.kind, t.inst, t.tset))).dedup

/-- DESC_TABLE_LOAD (R95, R96, R150): the table is read from host memory. -/
def execDescTableLoad (n : Nat) (d : List Word) (s : State) : Host.Outcome State Fault Refusal :=
  if !s.descReady n d (descOp d == 4) then .next (s.descSeen n d (descOp d == 4))
  else if descReserved d [0, 0xFFFFFFFF, 0xFFFFFFFF, 0x7FFFFF, 0xFFFFF, 0x3FFFFFF] then .next (s.hostError 15)
  else
    let len := bits (nthW d 4) 22 0
    let kind := bits (nthW d 5) 7 0
    let inst := bits (nthW d 5) 15 8
    let tset := bits (nthW d 5) 19 16
    let dest := bits (nthW d 6) 25 0
    let addr := dw (nthW d 2) (nthW d 3)
    if len = 0 || 4194304 < len || len % 64 != 0 || dest % 64 != 0 || (s.alloc (Reg.BUF_CTX_TBL n)).2 < dest + len then
      .next (s.descEnd n d 0 2)
    else if addr.toNat % 64 != 0 || s.bufMeets (addr.toNat, len) then .next (s.hostError 114)
    else if kind = 0 || 9 < kind || dest < 16384 || s.tabInUse n dest len
        || (decide (1024 ≤ (s.tabKeys n).length) && !(s.tabKeys n).contains (kind, inst, tset)) then .next (s.hostError 150)
    else
      let (id, s) := s.descTake n d 0
      let t : TableCopy := { id := id, kind := kind, inst := inst, tset := tset, dest := dest, len := len, addr := addr }
      let s := s.modCtx n (fun c => let c := c.closePages none; { c with copies := c.copies ++ [t] })
      .next (s.request (.table n id) addr.toNat len)

/-- Words `lo` up to `hi` of a table hold a 1 outside a mask. -/
def wordsOut (data : List Byte) (lo hi : Nat) (mask : Word) : Bool :=
  (List.range (hi - lo)).any (fun k => wordAt data (lo + k) &&& ~~~mask != 0)

/-- Every second byte of a table of 16-bit values with a reserved upper nibble. -/
def halvesOut : List Byte → Bool
  | _ :: b :: r => decide (16 ≤ b.toNat) || halvesOut r
  | _ => false

/-- Reserved bytes beyond cell W − 1 of an array row, and reserved bits of its cells (R184). -/
def threshRowsOut (used stride : Nat) : Nat → List Byte → Bool
  | 0, _ => false
  | k + 1, l => halvesOut (l.take used) || ((l.take stride).drop used).any (· != 0) || threshRowsOut used stride k (l.drop stride)

/-- The first host error in the form of a table, by the rule that lists it (R15, R114, R131, R150, R159, R182 to R184,
R187, R193, R199). Nozzle tables are judged when a channel loads them. -/
def tableBad (kind inst tset : Nat) (data : List Byte) : Option Nat :=
  let len := data.length
  let ws := bytesWords data
  match kind with
  | 1 =>
    if inst != 0 || len != 512 then some 114
    else if (ws.mapIdx (fun k w => if k % 4 = 0 then bits w 31 10 != 0 else k % 4 == 3 && w != 0)).any id then some 15 else none
  | 2 =>
    if 16 ≤ inst then some 114 else if len != 576 || 2 ≤ bits (nthW ws 128) 1 0 then some 199
    else if halvesOut (data.take 512) || bits (nthW ws 128) 31 2 != 0 || wordsOut data 129 144 0 then some 15 else none
  | 3 =>
    let w := bits (nthW ws 0) 9 0
    let h := bits (nthW ws 0) 25 16
    let rs := (w * 6 + 63) / 64 * 64
    if 16 ≤ inst then some 114
    else if w = 0 || 512 < w || h = 0 || 512 < h || w ≤ bits (nthW ws 1) 8 0 || h ≤ bits (nthW ws 1) 24 16 || len != 64 + h * rs then some 199
    else if nthW ws 0 &&& 0xFC00FC00 != 0 || nthW ws 1 &&& 0xFE00FE00 != 0 || nthW ws 2 &&& 0xFFFFFFFE != 0
        || wordsOut data 3 16 0 || threshRowsOut (w * 6) rs h (data.drop 64) then some 15 else none
  | 4 =>
    if 16 ≤ inst then some 114 else if len != 64 then some 199
    else if bits (nthW ws 0) 31 27 != 0 || nthW ws 1 &&& 0xF000F000 != 0 || bits (nthW ws 2) 31 12 != 0
        || nthW ws 3 &&& 0xF000F000 != 0 || nthW ws 4 &&& 0xF000F000 != 0 || wordsOut data 5 16 0 then some 15 else none
  | 5 =>
    if 16 ≤ inst then some 114 else if len != 64 then some 199
    else if nthW ws 1 &&& 0xF000F000 != 0 || bits (nthW ws 2) 31 12 != 0 || wordsOut data 3 16 0 then some 15 else none
  | 9 =>
    if inst != 0 || tset != 0 || len != 2048 then some 114
    else if (ws.mapIdx (fun k w => k % 2 == 0 && bit w 7 && (decide (0x2C < bits w 13 8) || decide (10 < bits w 27 24)))).any id then some 150
    else if (ws.mapIdx (fun k w => k % 2 == 0 && w &&& 0xF080C000 != 0)).any id then some 15 else none
  | _ => if (kind = 7 && inst != 0) || 64 ≤ inst then some 114 else none

/-- Words by pairs: the entries of a sequencer table (R131). -/
def wordPairs : List Word → List (Word × Word)
  | a :: b :: r => (a, b) :: wordPairs r
  | _ => []

/-- Set a directory entry for its key. -/
def dirSet (dir : List DirEntry) (e : DirEntry) : List DirEntry :=
  let same := fun (x : DirEntry) => x.kind == e.kind && x.inst == e.inst && x.tset == e.tset
  if dir.any same then dir.map (fun x => if same x then e else x) else dir ++ [e]

/-- A load of a context waits for its line boundary, or a sequencer table for its frame boundary (R135, R136). -/
def Ctx.tabQueue (c : Ctx) (t : TabWait) : Ctx :=
  match t.seq with
  | some q => { c with seqPend := some q }
  | none => { c with dirPend := c.dirPend ++ [t.e] }

/-- Bring a completed load into the directory (R136): a new key, and NOZMAP (R208, R209), at once; any other replacement at
the next line boundary. In a pair the loads that wait for a boundary wait for their apply frame first (R311). -/
def State.dirAdd (s : State) (n : Nat) (t : TabWait) : State :=
  let e := t.e
  let dir := s.buf.dirs.get [] n
  let known := dir.any (fun x => x.kind == e.kind && x.inst == e.inst && x.tset == e.tset)
  let later := known && e.kind != 6 && t.seq.isNone
  let waits := later || t.seq.isSome
  let s := if later then s else { s with buf := { s.buf with dirs := s.buf.dirs.set [] n (dirSet dir e) } }
  if !waits then s
  else s.modCtx n (fun c => if s.twin.role == .off then c.tabQueue t else { c with tabWait := c.tabWait ++ [t] })

/-- Without a line to wait for, the loads that wait for an apply frame take their places (log entry 27). -/
def Ctx.tabFlush (c : Ctx) : Ctx := { c.tabWait.foldl Ctx.tabQueue c with tabWait := [] }

/-- TABLE_REPLACE (R136): the replacements that waited for a line boundary of context `n` take effect. -/
def State.dirApply (s : State) (n : Nat) : State :=
  let p := (s.ctxOf n).dirPend
  if p = [] then s else
  let s := s.modCtx n (fun c => { c with dirPend := [] })
  { s with buf := { s.buf with dirs := s.buf.dirs.set [] n (p.foldl dirSet (s.buf.dirs.get [] n)) } }

/-- TABLE_LOAD_COPY_DONE (R95, R135, R136): the last bytes of the oldest table copy have arrived and its form is checked. -/
def execTableLoadCopyDone (n : Nat) (data : List Byte) (s : State) : Host.Outcome State Fault Refusal :=
  match (s.ctxOf n).copies with
  | [] => .next s
  | t :: r =>
    if !s.pf1Can || s.pllLost .buffer then .next s else
    let data := padTo t.len 0 data
    match tableBad t.kind t.inst t.tset data with
    | some k => .next (s.hostError k)
    | none =>
      let s := (s.readsDone (.table n t.id)).bufWrite ((s.alloc (Reg.BUF_CTX_TBL n)).1 + t.dest) data
      let s := s.modCtx n (fun c => { c with copies := r })
      let s := s.dirAdd n { id := t.id, e := { kind := t.kind, inst := t.inst, tset := t.tset, dest := t.dest, len := t.len },
                            seq := if t.kind = 9 then some (wordPairs (bytesWords data)) else none }
      .next (s.finish n t.id 0)

/-! Tiles. -/

/-- Tiles that hold space in the ingest area, in order. -/
def Ctx.liveTiles (c : Ctx) : List Tile := c.tiles.filter (fun t => t.state == .fetching || t.state == .resident)

/-- Where the next tile goes in an ingest area of `size` bytes (R139): the place behind the youngest tile, if `len` bytes in
units of 64 are free there. -/
def Ctx.ingestPlace (c : Ctx) (size len : Nat) : Option Nat :=
  let need := (len + 63) / 64 * 64
  match c.liveTiles.head?, c.liveTiles.getLast? with
  | some a, some b =>
    let used := let u := (b.off + b.size + size - a.off) % size; if u = 0 then size else u
    if used + need ≤ size then some ((b.off + b.size) % size) else none
  | _, _ => if need ≤ size then some 0 else none

/-- The next tile that context `n` would fetch and its place, when it fits (R139). -/
def State.nextFetch (s : State) (n : Nat) : Option (Tile × Nat) :=
  let c := s.ctxOf n
  if !s.reads n then none else
  match c.tiles.find? (fun t => t.state == .waiting) with
  | none => none
  | some t => (c.ingestPlace (s.alloc (Reg.BUF_CTX_ING n)).2 t.len).map (fun o => (t, o))

/-- Another context comes before context `n` in the order of R139. -/
def State.fetchesFirst (s : State) (n : Nat) : Bool :=
  let k := (s.ctxOf n).slack
  s.ctxNums.any (fun m => m != n && (s.nextFetch m).isSome
    && (decide ((s.ctxOf m).slack < k) || (decide ((s.ctxOf m).slack = k) && decide (m < n))))

/-- Change a tile of a context. -/
def Ctx.modTile (c : Ctx) (id : Nat) (f : Tile → Tile) : Ctx :=
  { c with tiles := c.tiles.map (fun t => if t.id == id then f t else t) }

/-- TILE_FETCH (R139): the next tile of a context is requested from host memory. -/
def execTileFetch (n : Nat) (s : State) : Host.Outcome State Fault Refusal :=
  match s.nextFetch n with
  | none => .next s
  | some (t, o) =>
    if !s.pf1Can || !s.bufRuns || s.fetchesFirst n then .next s else
    .next ((s.modCtx n (fun c => c.modTile t.id (fun t => { t with state := .fetching, off := o, size := (t.len + 63) / 64 * 64 }))).request
      (.tile n t.id) t.addr.toNat t.len)

/-- Write bytes into the ingest area of context `n`, a circular store (R139). -/
def State.ingestWrite (s : State) (n off : Nat) (data : List Byte) : State :=
  let (base, size) := s.alloc (Reg.BUF_CTX_ING n)
  let k := size - off
  let s := s.bufWrite (base + off) (data.take k)
  if data.length ≤ k then s else s.bufWrite base (data.drop k)

/-- What a tile that has arrived places on its page. -/
def Tile.area (t : Tile) : Area := { mplane := t.mplane, x0 := t.x0, y0 := t.y0, width := hdrWidth t.hdr, lines := hdrLines t.hdr }

/-- Two tiles of one page place a pixel in the same position of the same Mash plane (R171). -/
def tilesClash (a b : Area) : Bool := a.mplane == b.mplane && overlaps a.x0 a.width b.x0 b.width && overlaps a.y0 a.lines b.y0 b.lines

/-- The oldest tile in fetch and its page. -/
def Ctx.arriving (c : Ctx) : Option (Tile × Item) :=
  match c.tiles.find? (fun t => t.state == .fetching) with
  | none => none
  | some t => (c.items.find? (fun i => i.id == t.item)).map (fun i => (t, i))

/-- TILE_COPY_DONE (R95, R160, R168, R169): the last data of the oldest tile in fetch has arrived and the tile is judged. -/
def execTileCopyDone (n : Nat) (data : List Byte) (s : State) : Host.Outcome State Fault Refusal :=
  match (s.ctxOf n).arriving with
  | none => .next s
  | some (t, i) =>
    if !s.pf1Can || s.pllLost .buffer then .next s else
    let s := s.readsDone (.tile n t.id)
    let data := padTo t.len 0 data
    let hdr := bytesWords (data.take 32)
    let fmt := s.fmtEntry n i.tset t.format
    let failed := fun (h : List Word) => s.modCtx n (fun c => c.modTile t.id (fun t => { t with state := .failed, hdr := h }))
    match arrivalCheck data t.len t.format t.x0 t.y0 i.width i.count fmt with
    | none => .next ((failed []).haltReq n 5 none)
    | some 0 =>
      if hdrReserved hdr then .next (s.hostError 15) else
      let f := fmt.getD []
      let drop := bits (nthW f 0) 3 1 == 4
      let t := { t with state := .resident, hdr := hdr, fmt := f, mplane := planeMap f t.plane, dec := { mode := bits (nthW hdr 0) 27 26 } }
      if i.planes.any (fun p => p.1 == t.mplane && p.2 != drop) || i.areas.any (tilesClash t.area) then .next (s.hostError 171)
      else
        let s := s.ingestWrite n t.off data
        let s := s.modCtx n (fun c =>
          let items := c.items.map (fun j : Item => if j.id == i.id then
            { j with planes := (j.planes ++ [(t.mplane, drop)]).dedup, areas := j.areas ++ [t.area] } else j)
          { c.modTile t.id (fun _ => t) with items := items })
        .next (s.finish n t.id 0)
    | some r =>
      let s := (failed hdr).raise 0x0501 n
        [wd (r + t.plane * 256 + t.format * 65536), i.pageId, wd t.x0, wd t.y0]
      .next (s.finish n t.id 4)

/-! The scrubber. -/

/-- BUF_SCRUB (R147): the scrubber reads the next word, bits of which may have flipped, and writes it back corrected if it can. -/
def execBufScrub (word : Nat) (flip : Code304) (s : State) : Host.Outcome State Fault Refusal :=
  if !s.bufRuns || !s.buf.ready || !s.flag Reg.BUF_SCRUB_CTRL 0 || word != s.buf.scrub then .next s else
  let s := { s with buf := { s.buf with scrub := (word + 1) % 2097152 } }
  let s := if word + 1 = 2097152 then s.bumpWrap Reg.BUF_SCRUB_PASS else s
  let (cls, s) := s.wordRead word flip
  .next (match cls with
    | .clean => s
    | .corrected => { s with buf := { s.buf with flips := s.buf.flips.set 0 word 0 } }.bump Reg.BUF_CORR_CNT
    | .uncorrectable => let (use, n, _) := s.useOf word; s.eccUncorr word use n)

/-! The end of a context's work. -/

/-- A halt that is due may be taken at a frame boundary without a line boundary (R126): the web stands or runs back, or 1 ms
has passed since the cause. -/
def State.haltStands (s : State) (n : Nat) : Bool :=
  let c := s.ctxOf n
  let p := s.fld (Reg.CTX_CFG n) 1 0
  match c.halt with
  | none => false
  | some h => h.pageEnd.isNone && (decide ((s.prefOf p).sv.toInt ≤ 0) || s.prefState p == .acquire1 || s.prefState p == .acquire2
      || s.prefState p == .stopped || decide (h.since.toNat + 1000000 ≤ s.count.toNat))

/-- The boundary that began the present frame is this tick. -/
def State.atBoundary (s : State) : Bool := s.count + 640 == s.pos.frame.next

/-- CTX_HALT_TAKE (R126): at a frame boundary, a pending halt takes effect that need not wait for a line. -/
def execCtxHaltTake (n : Nat) (s : State) : Host.Outcome State Fault Refusal :=
  match (s.ctxOf n).halt with
  | none => .next s
  | some h => .next (if (s.ctxOf n).active && s.atBoundary && s.haltStands n then s.enterHalted n h.cause else s)

/-- A context enters IDLE (R125, R133): no line of it is fired any more, and its channels belong to no context. -/
def State.enterIdle (s : State) (n : Nat) : State :=
  let s := s.each (s.chans n) (fun s ch => s.dropSlots ch)
  let s := s.modCtx n (fun c => { c with state := .idle, drain := none, drainArmed := false, drainPend := none, seqLine := none, halt := none, seqQ := [], lines := [],
                                         slots := [], nozLoad := false, nozFail := false, lowEp := false, critEp := false,
                                         lateRun := false, startPend := false, upto := none })
  (s.modCtx n Ctx.tabFlush).dirApply n

/-- CTX_DRAIN_DONE (R125): every descriptor up to the recorded index has finished and its completion has been posted. -/
def execCtxDrainDone (n : Nat) (s : State) : Host.Outcome State Fault Refusal :=
  let c := s.ctxOf n
  if c.state == .draining && !s.divergedHere n && c.drain == some (s.ringOf n).sqCi && c.flight = [] && (s.ringOf n).held = [] then .next (s.enterIdle n)
  else .next s

end Sys2Proof.Machine
end

