-- ==== Sys2Proof/Machine/CtxCmd.lean ====
section
/-!
DEFINITION. The management ring (R101, R102) and the context commands that travel on it (R123 to R128): what ARM checks and
does, how a pair applies a command at one frame boundary (R311), and the rows of CTX_CMD.
-/
namespace Sys2Proof.Machine

/-! The management ring. -/

/-- A management descriptor may be read (R85, R101): the ring is enabled and not empty, and PF0 can reach it. -/
def State.mgmtReady (s : State) (op : Bool) : Bool :=
  op && s.mgmtRuns && s.flag Reg.HOST_MGMT_CTRL 0 && s.host.mgmtPi != s.host.mgmtCi && s.pf0Can

/-- The result of a management descriptor (R101): word 1 of its entry is written, the consumer index advances, and its
interrupt is raised when IRQ is 1. -/
def State.mgmtDone (s : State) (d : List Word) (status detail : Nat) : State :=
  let ci := s.host.mgmtCi
  let addr := (s.rd64 Reg.HOST_MGMT_BASE).toNat + ci * 64 + 4
  let s := s.hostWrite addr (wordBytes (wd (status + detail * 256 + 2 ^ 31)))
  let s := { s with host := { s.host with mgmtCi := (ci + 1) % 2 ^ s.fld Reg.HOST_MGMT_CTRL 5 1 } }
  if bit (nthW d 0) 10 then s.irq false (s.fld Reg.HOST_MGMT_CTRL 13 8) else s

/-- A management descriptor has a 1 in a reserved bit; word 1 is an output field. -/
def mgmtReserved (d : List Word) (masks : List Word) : Bool := descReserved d (0xFFFFFFFF :: masks)

/-- A management OPCODE that is listed (R101), and no reserved command code (R102). -/
def mgmtListed (d : List Word) : Bool :=
  [0, 0x10, 0x11, 0x12, 0x13].contains (descOp d) && !(descOp d == 0x10 && decide (4 < bits (nthW d 2) 10 8))

/-- MGMT_NOP (R101). -/
def execMgmtNop (d : List Word) (s : State) : Host.Outcome State Fault Refusal :=
  if !s.mgmtReady (descOp d == 0) then .next s
  else if mgmtReserved d [] then .next (s.hostError 15)
  else .next (s.mgmtDone d 0 0)

/-- MGMT_INVALID_OP (R102): an opcode not listed, or a reserved command code. -/
def execMgmtInvalidOp (d : List Word) (s : State) : Host.Outcome State Fault Refusal :=
  if !s.mgmtReady (!mgmtListed d) then .next s else .next (s.mgmtDone d 1 0)

/-! What ARM checks. -/

/-- Two allocations of whole pages overlap. -/
def allocClash (a b : Nat × Nat) : Bool := decide (a.2 ≠ 0) && decide (b.2 ≠ 0) && overlaps a.1 a.2 b.1 b.2

/-- The allocations of a context and of its channels (R137). -/
def State.allocsOf (s : State) (n : Nat) : List (Nat × Nat) :=
  s.alloc (Reg.BUF_CTX_TBL n) :: s.alloc (Reg.BUF_CTX_ING n) :: (s.chans n).map (fun ch => s.alloc (Reg.BUF_CH_DLY ch))

/-- Some two of a list of allocations overlap. -/
def anyClash : List (Nat × Nat) → Bool
  | [] => false
  | a :: r => r.any (allocClash a) || anyClash r

/-- The contexts other than `n` that are not IDLE. -/
def State.busyCtx (s : State) (n : Nat) : List Nat := s.ctxNums.filter (fun m => m != n && (s.ctxOf m).state != .idle)

/-- The first host error that arming context `n` makes (R114, R150, R223), by the rule that lists it. -/
def State.armError (s : State) (n : Nat) : Option Nat :=
  let mine := s.allocsOf n
  let theirs := (s.busyCtx n).flatMap s.allocsOf
  if (s.busyCtx n).any (fun m => (s.rd64 (Reg.CTX_CHMAP n)) &&& (s.rd64 (Reg.CTX_CHMAP m)) != 0) then some 150
  else if mine.any (fun a => decide (16384 * 4096 < a.1 + a.2)) || anyClash mine || mine.any (fun a => theirs.any (allocClash a)) then some 150
  else if (s.alloc (Reg.BUF_CTX_TBL n)).2 < 4 * 4096 then some 150
  else if (s.workChans n).any (s.overlapBad n) then some 223
  else none

/-- ARM is refused (R30, R149): a channel lies in a domain that is off, or the buffer is not ready. -/
def State.armRefused (s : State) (n : Nat) : Bool :=
  (s.chans n).any (fun ch => !s.domOn (chDom ch)) || !s.domOn 5 || !s.buf.ready

/-! What the commands do. -/

/-- ARM (R123, R124, R133, R135, R208, R253): the channels' maps are loaded from the table sets that NOZ_CH_SWCTL names now. On a pair it
also ends a divergence (R312). -/
def State.doArm (s : State) (n : Nat) : State :=
  let s := (s.modCtx n Ctx.tabFlush).dirApply n
  let c := s.ctxOf n
  let s := s.setCtx n { c with state := .armed, cause := 0, seqState := s.fld (Reg.CTX_CFG n) 13 8, seqFlags := 0, seqCount := 0,
                               seqQ := [], seqTab := c.seqPend.getD c.seqTab, seqPend := none, startPend := false, drain := none,
                               drainArmed := false, drainPend := none, seqLine := none, halt := none, items := [], tiles := [], copies := [], lines := [], slots := [],
                               upto := none, tsetPend := none, nozLoad := true, nozRefs := s.buf.dirs.get [] n,
                               nozTsets := (s.chans n).map (fun ch => (ch, s.fld (Reg.NOZ_CH_SWCTL ch) 7 4)), nozFail := false,
                               lowEp := false, critEp := false, lateRun := false, behindRun := false }
  let s := s.each (s.chans n) (fun s ch => 
    let s := ((s.rowClear ch).setLane ch {}).capRecheck ch
    let s := s.setNoz ch { s.nozOf ch with after := none, built := none }
    s.modHl ch (fun h => { h with trimReady := false, took := none }))
  let keep := ~~~(BitVec.ofNat 64 (1 <<< n))
  { s with twin := { s.twin with div := s.twin.div &&& keep, join := s.twin.join &&& keep, drains := s.twin.drains &&& keep } }

/-- RESET from HALTED (R127): the ingest area is discarded, the row-delay lines are cleared, and the context is IDLE. -/
def State.doReset (s : State) (n : Nat) : State :=
  let s := s.each (s.chans n) State.rowClear
  let s := (s.modCtx n (fun c => { c with tiles := [], items := [] })).dropReads (RdOwner.ofCtx n)
  s.enterIdle n

/-- ARM where it takes effect (R30, R123, R149, R150): refused, a host error, or carried out. -/
def State.arm (s : State) (n : Nat) : State :=
  if s.armRefused n then s else match s.armError n with | some r => s.hostError r | none => s.doArm n

/-- The effect of a command where the table of R123 makes it legal, by the command's code. `pi` is the producer index of a
DRAIN; while lines are fired, a DRAIN of a pair waits for its line boundary (R311). -/
def State.ctxApply (s : State) (n cmd pi : Nat) : State :=
  let c := s.ctxOf n
  match cmd, c.state with
  | 0, .idle => s.arm n
  | 1, .armed => s.setCtx n { c with startPend := true, startAt := s.pos.frame.number + (s.twin.role == .off).toNat }
  | 2, .armed => s.doDrain n pi
  | 2, .running => if s.twin.role == .off then s.doDrain n pi else s.setCtx n { c with drainPend := some pi }
  | 3, .armed | 3, .running | 3, .draining => s.haltReq n 1 none
  | 4, .halted => s.doReset n
  | _, _ => s

/-- A command is a host error in a state (R123, R114). -/
def ctxIllegal (cmd : Nat) (st : CtxState) : Bool :=
  match cmd, st with
  | 0, .idle => false
  | 0, _ => true
  | 1, .armed | 1, .running => false
  | 1, _ => true
  | 2, .idle | 2, .halted => true
  | 4, .idle | 4, .halted => false
  | 4, _ => true
  | _, _ => false

/-- CTX_CMD (R101, R102, R123, R311): the checks in their order; a single device applies the command at once, the active
unit of a pair at the eighth frame boundary, which its CTX message names. -/
def State.ctxCmd (s : State) (cmd : Nat) (d : List Word) : Host.Outcome State Fault Refusal :=
  let w := nthW d 2
  if !s.mgmtReady (descOp d == 0x10 && bits w 10 8 == cmd) then .next s
  else if mgmtReserved d [0x73F] then .next (s.hostError 15)
  else
    let n := bits w 5 0
    if n = 0 then .next (s.mgmtDone d 4 0)
    else if s.twin.role == .standby then .next (s.mgmtDone d 2 4)
    else if ctxIllegal cmd (s.ctxOf n).state then .next (s.hostError 114)
    else if cmd = 0 && s.armRefused n then .next (s.mgmtDone d 2 1)
    else
      let pi := (s.ringOf n).sqPi
      if s.twin.role == .off then .next ((s.ctxApply n cmd pi).mgmtDone d 0 0)
      else
        let a : TwinAct := { frame := s.pairFrame + 8, ctx := n, kind := 0, cmd := cmd, pi := pi }
        .next ((State.ctxMsg { s with twin := { s.twin with acts := s.twin.acts ++ [a] } } a).mgmtDone d 0 0)

/-- CTX_ARM (R123, R124). -/
def execCtxArm (d : List Word) (s : State) : Host.Outcome State Fault Refusal := s.ctxCmd 0 d

/-- CTX_START (R123, R124). -/
def execCtxStart (d : List Word) (s : State) : Host.Outcome State Fault Refusal := s.ctxCmd 1 d

/-- CTX_DRAIN (R123, R125). -/
def execCtxDrain (d : List Word) (s : State) : Host.Outcome State Fault Refusal := s.ctxCmd 2 d

/-- CTX_HALT (R123, R126). -/
def execCtxHalt (d : List Word) (s : State) : Host.Outcome State Fault Refusal := s.ctxCmd 3 d

/-- CTX_RESET (R123, R127). -/
def execCtxReset (d : List Word) (s : State) : Host.Outcome State Fault Refusal := s.ctxCmd 4 d

/-! A pair's actions at their apply frame. -/

/-- A table effect at its apply frame (R311): the load whose key it is, and on the active whose descriptor it is, joins those
that wait for a line boundary; a sequencer table takes effect at once while no lines are fired (log entry 123). -/
def State.tabAct (s : State) (a : TwinAct) : State :=
  let c := s.ctxOf a.ctx
  let pick := fun (t : TabWait) => match a.id with
    | some id => t.id == id
    | none => s.dirKey a.ctx t.e == a.key
  match c.tabWait.find? pick with
  | none => s
  | some t =>
    let c := { c with tabWait := c.tabWait.erase t }
    s.setCtx a.ctx (if t.seq.isSome && c.firing then { c with seqLine := t.seq } else c.tabQueue t)

/-- A DIVERGED context enters IDLE with the active's (R312). -/
def State.idleWith (s : State) (n : Nat) : State := if (s.ctxOf n).state == .idle then s else s.doReset n

/-- An action of a pair at its apply frame (R311, R312). A DIVERGED context takes no command but ARM, before which the active's is IDLE,
and RESET, by which the active's enters IDLE. -/
def State.twinAct (s : State) (a : TwinAct) : State :=
  if a.kind = 2 then s.tabAct a
  else
    let s := if s.twin.role == .standby && a.cmd = 2 then
        { s with twin := { s.twin with drains := s.twin.drains ||| BitVec.ofNat 64 (1 <<< a.ctx) } } else s
    if s.divergedHere a.ctx then
      if a.cmd = 0 then (s.idleWith a.ctx).ctxApply a.ctx 0 a.pi else if a.cmd = 4 then s.idleWith a.ctx else s
    else s.ctxApply a.ctx a.cmd a.pi

/-- A DIVERGED context that the active drains enters IDLE at the boundary at which the active's does (R312). No message names that
boundary: it is free (log entry 124). -/
def State.divergedIdle (s : State) (n : Nat) : State :=
  if s.divergedHere n && s.twin.drains.getLsbD n && (s.ctxOf n).state != .idle then (if s.free.1.getLsbD 0 then s.free.2.idleWith n else s.free.2) else s

/-- The pair's number of a frame (R307). -/
def State.pairOf (s : State) (f : DWord) : Word := lo32 f + s.twin.frameOfs

/-- The actions for a context whose apply frame has come at frame `f`, in the order in which they were given. -/
def State.twinActs (s : State) (n : Nat) (f : DWord) : State :=
  let (now, later) := s.twin.acts.partition (fun a => a.ctx == n && decide ((a.frame - s.pairOf f).toInt ≤ 0))
  let s := now.foldl State.twinAct { s with twin := { s.twin with acts := later } }
  s.divergedIdle n

/-- What waited for a line boundary in a pair takes effect there (R311). -/
def State.lineActs (s : State) (n : Nat) : State :=
  let c := s.ctxOf n
  let s := s.setCtx n { c with seqPend := c.seqLine.orElse (fun _ => c.seqPend), seqLine := none, drainPend := none }
  match c.drainPend with
  | some pi => s.doDrain n pi
  | none => s

end Sys2Proof.Machine
end

