-- ==== Sys2Proof/Machine/FrameBoundary.lean ====
section
/-!
DEFINITION. What a frame boundary does on the dot path (R53): the slots whose time has passed (R73, R95, R143), START
(R124), the sequencers (R133, R310), the line each context fires, its deadlines (R143, R180, R196), halts (R126), slack
(R145), and a frame on every head link.
-/
namespace Sys2Proof.Machine

/-! Slots whose fire time has passed. -/

/-- One slot has passed: its line counts as inhibited (R73), as late (R143, R196), or has been fired. -/
def State.slotEnd (s : State) (n : Nat) (sl : FireSlot) : State :=
  let f := s.pos.frame
  let t : DWord := f.next - 640 - (f.number - sl.frame) * 640 + BitVec.ofNat 64 sl.fine
  let it := (s.ctxOf n).itemAt sl.line
  let s := if s.inhibited (t.toNat * 100) then
      (s.bump (Reg.CTX_INHIBITED n)).modCtx n (fun c =>
        { c.modPage (it.map Item.id) (fun e => { e with inhib := satInc e.inhib }) with lateRun := false })
    else if sl.behind || (sl.late && it.any (fun i => i.page)) then s.lateLine n it sl.line 1 t
    else s.modCtx n (fun c => { c with lateRun := sl.late && c.lateRun })
  match (s.ctxOf n).itemAt sl.line with
  | some i => s.itemPass n i (i.endLine == some sl.line) t
  | none => s

/-- The slots of context `n` whose frame has ended at the boundary of frame `f`. -/
def State.slotsEnd (s : State) (n : Nat) (f : DWord) : State :=
  let (past, rest) := (s.ctxOf n).slots.partition (fun sl => decide (sl.frame.toNat < f.toNat))
  past.foldl (fun s sl => s.slotEnd n sl) (s.modCtx n (fun c => { c with slots := rest }))

/-! Deadlines. -/

/-- The tables that a page's planes need are in the table set of a line (R136, R158, R180). -/
def State.tablesThere (s : State) (n : Nat) (tabs : List DirEntry) (i : Item) : Bool :=
  (s.workChans n).all (fun ch =>
    let p := (s.laneCfg ch).plane
    s.dropPlane n i p || (match s.planeMode n tabs p with
      | none => false
      | some m => (findTab tabs (if m = 0 then 3 else 4) p).isSome))

/-- A late line gives 0:0 to the row-delay lines and errors 0 to the stores of the context's lanes (R143, R190, R196). -/
def State.blankLine (s : State) (n : Nat) (line : Word) : State :=
  s.each (s.workChans n) (fun s ch =>
    let la := s.laneOf ch
    let s := s.setLane ch { la with hist := la.hist.filter (fun h => h.1 != line) }
    let s := if la.hist.any (fun h => decide (0 < ldiff h.1 line)) then s
      else s.writeErr ch (List.replicate (s.laneCfg ch).cols 0)
    s.rowWrite ch line [])

/-- Two channels of one plane screen a common pixel of a page of some width (R177, R179). -/
def State.rangesClash (s : State) (width a b : Nat) : Bool :=
  let x := s.laneCfg a
  let y := s.laneCfg b
  x.plane == y.plane && decide (0 < x.count width) && decide (0 < y.count width) && overlaps x.sx (x.count width) y.sx (y.count width)

/-- Some two channels of a list screen a common pixel of one plane. -/
def State.anyRanges (s : State) (width : Nat) : List Nat → Bool
  | [] => false
  | a :: r => r.any (s.rangesClash width a) || s.anyRanges width r

/-- The tiles of a context that cover a line that is being screened (R170). -/
def Ctx.screening (c : Ctx) : Nat :=
  (c.tiles.filter (fun t => t.state == .resident && c.lines.any (fun w =>
    !w.late && w.item == some t.item && (match (c.items.find? (fun i => i.id == t.item)).bind Item.first with
      | some f => let y := ldiff w.line f; decide ((t.y0 : Int) ≤ y) && decide (y < t.y0 + hdrLines t.hdr)
      | none => false)))).length

/-- The first host error that the lines in work make (R171, R199), by the rule that lists it. -/
def State.screenError (s : State) (n : Nat) (page : Option Item) : Option Nat :=
  if 4096 < (s.ctx.map (fun e => e.2.screening)).sum then some 171
  else if page.any (fun i => s.anyRanges i.width (s.workChans n)) then some 199
  else none

/-- LINE_DEADLINE (R143, R180, R181, R208): line `L` is to be screened with the tables now in force, or is late; a table
that is missing halts the context with cause 5. A page's own TSET acts on its first line that comes to a deadline. -/
def State.deadline (s : State) (n : Nat) (line : Word) : State :=
  let s := s.modCtx n (fun c => { c with upto := some line })
  let c := s.ctxOf n
  let page := c.pageAt line
  let fresh := page.filter (fun i => !i.tsetOn)
  let tset := (fresh.map Item.tset).getD c.tset
  let s := s.modCtx n (fun c => { c with tset := tset, items := c.items.map (fun i : Item =>
    if fresh.map Item.id == some i.id then { i with tsetOn := true } else i) })
  let late := !c.resident line || c.nozLoad
  let tabs := (s.buf.dirs.get [] n).filter (fun e => e.tset == tset && decide (2 ≤ e.kind) && decide (e.kind ≤ 5))
  let there := match page with | none => true | some i => s.tablesThere n tabs i
  if !late && (c.nozFail || !there) then s.enterHalted n 5
  else
    let w : LineWork := { line := line, item := page.map Item.id, late := late, tset := tset, tabs := tabs }
    let s := s.modCtx n (fun c => { c with lines := c.lines ++ [w] })
    let s := if late then s.blankLine n line else s
    match s.screenError n page with
    | some r => s.hostError r
    | none => s

/-- Every deadline up to four lines past the next line to fire (R143). -/
def State.deadlines (s : State) (n : Nat) : Nat → State
  | 0 => s
  | k + 1 =>
    let c := s.ctxOf n
    match c.upto with
    | some u => if c.active && decide (ldiff u (c.next + 4) < 0) then (s.deadline n (u + 1)).deadlines n k else s
    | none => s

/-- MASH_BEHIND (R196): the line that becomes the next line to fire has not all its codes; it is late, and channels that have stored it
form the images of its slot and of those behind it anew. A line that is late under R143 ends a run. -/
def State.behind (s : State) (n : Nat) (line : Word) : State :=
  let c := s.ctxOf n
  match c.lines.find? (fun w => w.line == line) with
  | none => s
  | some w =>
    if w.late || (s.workChans n).all (fun ch => w.comp.contains ch) then s.setCtx n { c with behindRun := false }
    else
      let s := s.setCtx n { c with behindRun := true, lines := c.lines.map (fun v : LineWork =>
        if v.line == line then { v with late := true, behind := true } else v) }
      let s := (s.blankLine n line).each w.comp (fun s ch => s.reimage ch line)
      let s := s.bump Reg.MASH_BEHIND_CNT
      if c.behindRun then s else s.raise 0x0601 n [wd n, line, wd w.lastCh]

/-- The images of late lines of a context, and the lines that need nothing more. -/
def State.ctxImages (s : State) (n : Nat) (bad : List Nat) : State :=
  let s := s.each (s.workChans n) (fun s ch => s.lateImages n ch bad (s.ctxOf n).lines.length)
  let ws := s.workChans n
  s.modCtx n (fun c => Ctx.prune (Ctx.release { c with lines := c.lines.filter (fun w =>
    !(decide (ldiff w.line c.lastLine ≤ 0) && ws.all (fun ch => w.comp.contains ch))) } ws))

/-! START and the line fired. -/

/-- START (R124): the last line fired is the integer part of the PREF output; what lies at or below it inside a page is
late; the sequencer receives START. -/
def State.startCtx (s : State) (n : Nat) : State :=
  let p := s.prefOf (s.fld (Reg.CTX_CFG n) 1 0)
  let last : Word := BitVec.ofInt 32 (asr p.sp.toInt 32)
  let s := s.modCtx n (fun c => Ctx.place { c with state := .running, startPend := false, lastLine := last, upto := some last, lateRun := false })
  let s := s.dirApply n
  let s := (s.ctxOf n).items.foldl (fun s i => s.passed n last i) s
  let s := s.modCtx n (fun c => { c with lateRun := (c.pageAt last).isSome })
  s.seqInput n 0x2C

/-- No line is fired behind the end of a page under HALT_AT_PAGE_END while the halt is decided and the page's last line has not passed, or
while a late line of the page has not passed (R126, R144). -/
def State.pageHold (s : State) (n : Nat) : Bool :=
  let c := s.ctxOf n
  c.items.any (fun i => i.page && !i.ended && (match i.endLine with | some e => decide (ldiff e c.lastLine ≤ 0) | none => false)
    && (c.halt.any (fun h => h.pageEnd == some i.id)
      || (s.flag (Reg.CTX_CFG n) 4 && c.slots.any (fun sl => sl.late && (c.itemAt sl.line).map Item.id == some i.id))))

/-- The fire of a frame sample (R53): how long after its boundary the next line is reached, when a line can be fired. -/
def State.fireTime (s : State) (n : Nat) : Option Nat :=
  let c := s.ctxOf n
  let p := s.prefOf (s.fld (Reg.CTX_CFG n) 1 0)
  if !c.firing || p.sv.toInt ≤ 0 || s.pageHold n then none
  else
    let tau := divHalfUp (wrapPos (c.next.toInt * 2 ^ 32 - p.sp.toInt) * 2 ^ 16) p.sv.toInt
    if tau < 3200 then some tau.toNat else none

/-- The period T of a token (R219). -/
def tokenPeriod (v : Int) : Nat := min 1048575 (divHalfUp (2 ^ 48) v).toNat

/-- The next line is fired in frame b + 4 (R53): its tokens are placed on the channels that fire themselves (R290) and the context passes a
line boundary (R126, R134, R136, R143, R196). -/
def State.fireLine (s : State) (n tau : Nat) : State :=
  let c := s.ctxOf n
  let line := c.next
  let p := s.prefOf (s.fld (Reg.CTX_CFG n) 1 0)
  let w := p.sf + 4
  let fine := tau - 2560
  let t : HlToken := { line := line, window := w, fine := fine, period := tokenPeriod p.sv.toInt }
  let s := s.each ((s.chans n).filter (fun ch => !s.flag (Reg.FAB_FWD_TX ch) 15)) (fun s ch => s.hlPlace ch t)
  let has := fun (p : LineWork → Bool) => c.lines.any (fun v => v.line == line && p v)
  let sl : FireSlot := { line := line, frame := w, fine := fine, late := has LineWork.late, behind := has LineWork.behind }
  let s := s.setCtx n { c with lastLine := line, slots := c.slots ++ [sl], tset := c.tsetPend.getD c.tset, tsetPend := none }
  let s := s.dirApply n
  match (s.ctxOf n).halt with
  | some h => if h.pageEnd.isNone then s.enterHalted n h.cause else ((s.behind n (line + 1)).deadlines n 8)
  | none => (s.behind n (line + 1)).deadlines n 8

/-! Sequencers. -/

/-- SEQ_WALK at a boundary (R133, R310): a single device takes its queued inputs; the active of a pair sends them and acts on
those taken eight boundaries ago; the standby acts on those it was sent. -/
def State.seqBoundary (s : State) (n : Nat) (f : DWord) : State :=
  let c := s.ctxOf n
  let s := s.setCtx n { c with seqTab := c.seqPend.getD c.seqTab, seqPend := none, seqQ := [] }
  let own := seqOrder c.seqQ
  if s.twin.role == .off then s.seqWalk n 4096 own
  else
    let s := if s.twin.role == .active && own ≠ [] then
        let q : TwinSeq := { frame := s.pairFrame + 8, ctx := n, codes := own }
        (s.seqMsg n own : State) |> fun s => { s with twin := { s.twin with seqs := s.twin.seqs ++ [q] } }
      else s
    let due := fun (q : TwinSeq) => q.ctx == n && decide ((q.frame - s.pairOf f).toInt ≤ 0)
    let codes := (s.twin.seqs.filter due).flatMap TwinSeq.codes
    let s := { s with twin := { s.twin with seqs := s.twin.seqs.filter (fun q => !due q) } }
    if s.divergedHere n then s else s.seqWalk n 4096 codes

/-! Slack. -/

/-- LOW_SLACK, CRITICAL_SLACK and SLACK_RECOVERED (R145). A slack below a threshold from the first page on counts as a fall, a
CRITICAL_SLACK episode ends with SLACK_RECOVERED alone, and CTX_SLACK_MIN takes the slack of every boundary at which the context is
active, with a page or without (DESIGN CHOICE, log entry 117). -/
def State.slackCheck (s : State) (n : Nat) : State :=
  let c := s.ctxOf n
  if !c.active then s else
  let k := c.slack
  let s := if k < (s.rd (Reg.CTX_SLACK_MIN n)).toNat then s.wr (Reg.CTX_SLACK_MIN n) (wd k) else s
  if !c.items.any (fun i => i.page && !i.ended) then s else
  let low := s.fld (Reg.CTX_SLACK_THR n) 15 0
  let s := if k < low && !c.lowEp then
      ((s.modCtx n (fun c => { c with lowEp := true })).raiseE 0x0403 n [wd k]).seqInput n 0x28 else s
  let s := if k < s.fld (Reg.CTX_SLACK_THR n) 31 16 && !c.critEp then
      ((s.modCtx n (fun c => { c with critEp := true })).raise 0x0404 n [wd k]).seqInput n 0x29 else s
  if c.lowEp && decide (low + s.fld (Reg.CTX_SLACK_HYST n) 15 0 ≤ k) then
    ((s.modCtx n (fun c => { c with lowEp := false, critEp := false })).raiseE 0x0405 n [wd k]).seqInput n 0x2A
  else s

/-! The boundary. -/

/-- A context of a standby that follows the active's samples waits for the sample of a boundary before it does that boundary's work, so that
it fires what the active fires (R56; log entry 125). -/
def State.ctxWaits (s : State) (n : Nat) : Bool :=
  let p := s.fld (Reg.CTX_CFG n) 1 0
  (s.ctxOf n).active && s.prefEn p && s.prefSrc p == 9 && s.follows p

/-- The work of the boundary of frame `f` for one context. -/
def State.ctxBoundary (s : State) (bad : List Nat) (f : DWord) (n : Nat) : State :=
  let s := s.twinActs n f
  let s := s.slotsEnd n f
  let c := s.ctxOf n
  let sampled := (s.prefOf (s.fld (Reg.CTX_CFG n) 1 0)).sf == f
  let s := if c.state == .armed && c.startPend && c.halt.isNone && sampled && decide (c.startAt.toNat ≤ f.toNat) then s.startCtx n else s
  let s := if sampled && (s.fireTime n).isSome then s.lineActs n else s
  let s := if (s.ctxOf n).active then s.seqBoundary n f else s
  let s := s.deadlines n 8
  let s := match (if sampled then s.fireTime n else none) with | some tau => s.fireLine n tau | none => s
  let s := match (s.ctxOf n).halt with
    | some h => if (s.ctxOf n).active && s.haltStands n then s.enterHalted n h.cause else s
    | none => s
  (if (s.ctxOf n).active then s.ctxImages n bad else s).slackCheck n

/-- The frame grid moves on at a boundary (R31, R53). -/
def State.frameOn (s : State) : State :=
  let f := s.pos.frame
  { s with pos := { s.pos with frame := { f with number := f.number + 1, next := f.next + 640 } } }

/-- The work of a boundary: while the dot clock runs, the inhibit latch clears if it may (R73), frame samples are latched, the contexts run in
ascending order, and every link of a domain that is on comes to the frame that begins. `ecc`: the buffer words read in this step that were
not clean. -/
def State.boundaryWork (s : State) (ecc : List EccHit) : State :=
  let s := if !s.dotRuns then s else
    let s := if s.mayRelease then s.release else s
    let s := s.eccHits ecc none
    let bad := s.badWords ecc
    let s := s.each (s.hl.map Prod.fst) State.hlBoundary
    let s := s.frameSamples
    let s := s.each s.ctxNums (fun s n => if s.ctxWaits n then s else s.ctxBoundary bad s.pos.frame.number n)
    s.each (s.hl.map Prod.fst) (fun s ch => if s.domOn (chDom ch) then s.hlFrame ch s.pos.frame.number else s)
  s.portsPump

/-- FRAME_BOUNDARY on the dot path (R53). -/
def State.boundary (s : State) (ecc : List EccHit) : State := s.frameOn.boundaryWork ecc

end Sys2Proof.Machine
end

