-- ==== Sys2Proof/Machine/Peek.lean ====
section
/-!
DEFINITION. What the read-only fields of the HOST, CTX, TIME/POS, BUF, MASH, NOZ, HLINK and FABRIC regions show of the
state (R48, R76, R77, R117, R152, R154, R202, R226, R272, R299): none for an offset whose stored word is what it reads.
-/
namespace Sys2Proof.Machine

/-- Ring indices as the HOST registers show them (R117). -/
def idxWord (pi ci : Nat) : Word := wd (pi % 65536 + ci % 65536 * 65536)

/-- The HOST region. -/
def State.peekHost (s : State) (off : Nat) : Option Word :=
  if off < 0x2000 then
    if off = Reg.HOST_MGMT_IDX then some (idxWord s.host.mgmtPi s.host.mgmtCi)
    else if off = Reg.HOST_EVT_IDX then some (idxWord s.host.evt.pi s.host.evt.ci)
    else none
  else
    let n := (off - 0x2000) / 0x40
    let r := s.ringOf n
    match off % 0x40 with
    | 0x18 => some (idxWord r.sqPi r.sqCi)
    | 0x1C => some (idxWord r.cqPi r.cqCi)
    | 0x24 => some (wd r.held.length)
    | _ => none

/-- The CTX region (R152). -/
def State.peekCtx (s : State) (off : Nat) : Option Word :=
  let c := s.ctxOf ((off - 0x4000) / 0x100)
  match off % 0x100 with
  | 0x00 => some (wd (c.state.code + c.seqState * 2 ^ 8 + c.cause * 2 ^ 16))
  | 0x10 => some (wd c.slack)
  | 0x20 => some c.lastLine
  | 0x24 => some c.pageId
  | 0x40 => some (wd c.seqFlags.toNat)
  | 0x44 => some (wd c.seqCount)
  | 0x48 => some (wd c.tset)
  | _ => none

/-- S in whole ns, rounded down (R76). -/
def State.slewNs (s : State) : Nat := s.tb.slew / slewUnit

/-- PREF_VEL: the velocity in 1/256 line per s, rounded down (log entry 40). -/
def State.velWord (s : State) (n : Nat) : Word := wi ((s.prefVel n * 1000000000).fdiv (2 ^ 40))

/-- The TIME/POS region (R76, R77). -/
def State.peekPos (s : State) (off : Nat) : Option Word :=
  if off < 0x8100 then
    match off with
    | 0x8000 => some (lo32 s.count)
    | 0x8004 => some (hi32 s.count)
    | 0x8008 => some (lo32 s.now)
    | 0x800C => some (hi32 s.now)
    | 0x8010 => some (wd s.tb.incr.toNat)
    | 0x8014 => some (wd (s.tb.incr.toNat / 2 ^ 32))
    | 0x8018 => some (wi s.offsetInt)
    | 0x801C => some (wi (s.offsetInt.fdiv (2 ^ 32)))
    | 0x802C => some (wd s.slewNs)
    | 0x8030 => some (bw (decide (0 < s.tb.slew)) ||| (bw s.tbArmed <<< 1) ||| (bw s.tb.holdover <<< 2)
        ||| (s.rd Reg.TB_STATUS &&& 0x300))
    | _ => none
  else if off < 0x8200 then
    let n := (off - 0x8100) / 0x40
    match off % 0x40 with
    | 0x20 => some (wd (s.prefPos n s.count).toNat)
    | 0x24 => some (wd ((s.prefPos n s.count).toNat / 2 ^ 32))
    | 0x28 => some (s.velWord n)
    | 0x2C => some (wd (s.prefState n).code)
    | _ => none
  else if off < 0x8400 then
    if off % 0x20 = 4 then some (s.encOf ((off - 0x8200) / 0x20)).count else none
  else if off < 0x8800 then
    let u := s.capOf ((off - 0x8400) / 0x20)
    match off % 0x20 with
    | 0x04 => some (bw u.valid ||| (s.rd off &&& 2))
    | 0x08 => some (lo32 u.time)
    | 0x0C => some (hi32 u.time)
    | 0x10 => some (wd u.rpos.toNat)
    | 0x14 => some (wd (u.rpos.toNat / 2 ^ 32))
    | _ => none
  else if off = Reg.PI_STATUS then some (bw s.pos.pi.low ||| (bw s.pos.pi.latch <<< 1))
  else none

/-- The BUF region (R154). BUF_LOAD shows a measurement that the model does not make: free, from 0 to 100 percent (log entry 41). -/
def State.peekBuf (s : State) (off : Nat) : Option Word :=
  if off = Reg.BUF_STATUS then some (bw s.buf.ready ||| (bw (s.buf.ready && s.flag Reg.BUF_SCRUB_CTRL 0) <<< 1))
  else if off = Reg.BUF_LOAD then some (wd ((Config.freeValue s.count.toNat).toNat % 101))
  else none

/-- A head link's block (R272, R273). -/
def State.peekHl (s : State) (off : Nat) : Option Word :=
  let ch := (off - 0x10000) / 0x100
  let h := s.hlOf ch
  match off % 0x100 with
  | 0x08 => some (wd ((match h.state with | .off => 0 | .train => 1 | .cal => 2 | .load => 3 | .up => 4 | .fault => 5)
      + h.lock.toNat * 2 ^ 3 + h.hstate * 2 ^ 4 + h.loaded.toNat * 2 ^ 8 + s.pos.pi.latch.toNat * 2 ^ 9
      + h.outstanding * 2 ^ 10 + h.bank.toNat * 2 ^ 13))
  | 0x58 => some ((s.rd off &&& 0x10001) ||| wd (h.wstage.length * 2 ^ 8))
  | 0x64 => some (match h.health with | [] => 0 | r :: _ => wd (r.toNat + 65536))
  | 0x70 => some (h.shadow.get 0 (s.fld (Reg.HL_WADDR ch) 6 0))
  | _ => none

/-- The code of a fabric port's state (R276). -/
def State.portState (s : State) (k : Nat) : Nat :=
  let p := s.portOf k
  if !s.portEn k then 4 else if !p.lock then 0 else if p.loop then 3 else if p.up then 2 else 1

/-- The address of the neighbour on a port, by its serial (R299). -/
def State.nbrAddr (s : State) (k : Nat) : Nat :=
  let p := s.portOf k
  if p.up && !p.loop then ((s.fab.addrs.find? (fun e => e.1 == p.nbr)).map Prod.snd).getD 0 else 0

/-- The FABRIC region (R299, R300). -/
def State.peekFab (s : State) (off : Nat) : Option Word :=
  let f := s.fab
  if off = Reg.FAB_STATUS then
    some (wd (f.addr + f.nodes * 2 ^ 8 + (f.coord == some Config.serial).toNat * 2 ^ 16 + f.disc.isSome.toNat * 2 ^ 17
      + f.coordAddr * 2 ^ 24))
  else if off = Reg.FAB_SERIAL then some (lo32 Config.serial)
  else if off = Reg.FAB_SERIAL + 4 then some (hi32 Config.serial)
  else if off = Reg.FAB_PORT_STATE then some (wd (((List.range 8).map (fun k => s.portState k * 16 ^ k)).sum))
  else if Reg.FAB_NBR 0 ≤ off && off < Reg.FAB_NBR 8 then some (wd (s.nbrAddr ((off - Reg.FAB_NBR 0) / 4)))
  else if off = Reg.FAB_ROUTE then some (wd (f.route.get 0 (s.fld Reg.FAB_ROUTE_SEL 7 0)).toNat)
  else if off = Reg.FAB_SNAP_DATA then some (f.shadow.get 0 (s.fld Reg.FAB_SNAP_SEL 12 0))
  else none

/-- The registers of an offset in the regions of chapters 2 to 9 that show more than their stored word. -/
def State.peekDot (s : State) (off : Nat) : Option Word :=
  match regionOf off with
  | .host => s.peekHost off
  | .ctx => s.peekCtx off
  | .timePos => s.peekPos off
  | .buf => s.peekBuf off
  | .mash => if off = Reg.MASH_STATUS then some (bw (s.domOn 3) ||| (bw (s.domOn 4) <<< 1)) else none
  | .noz => if off = Reg.NOZ_STATUS then some (bw (s.domOn 3) ||| (bw (s.domOn 4) <<< 1)) else none
  | .hlink => s.peekHl off
  | .fabric => s.peekFab off
  | _ => none

/-- What an offset of those regions holds, read without side effects: 0 while its domain is off (R40). -/
def State.seeDot (s : State) (off : Nat) : Word := if s.regOn off then (s.peekDot off).getD (s.rd off) else 0

end Sys2Proof.Machine
end

