-- ==== Sys2Proof/Machine/Fabric.lean ====
section
/-!
DEFINITION. The device fabric: ports (R276), what a received packet meets (R278 to R280, R287, R288), discovery, addresses
and routes (R285 to R289), samples and Z edges (R283, R284), images (R290 to R292) and the fabric-wide snapshot (R293 to
R295). Times of discovery are kept in time-base counts.
-/
namespace Sys2Proof.Machine

/-- Change the fabric. -/
def State.modFab (s : State) (f : Fabric → Fabric) : State := { s with fab := f s.fab }

/-- A number of ns has passed since a time-base count. -/
def State.since (s : State) (t : DWord) (ns : Nat) : Bool := decide (t.toNat + ns ≤ s.count.toNat)

/-- This device is the coordinator. -/
def State.isCoord (s : State) : Bool := s.fab.coord == some Config.serial

/-! Discovery: entering it. -/

/-- The HELLO of this device (R279). -/
def State.helloData (s : State) : List DWord :=
  let mask := ((List.range 8).map (fun k => (s.portUp k).toNat * 2 ^ k)).sum
  let b1 := s.fab.addr + s.fld Reg.FAB_CFG 15 8 * 2 ^ 8 + s.fld Reg.FAB_PREF_TX 3 0 * 2 ^ 16 + s.power.unitB.toNat * 2 ^ 20 + mask * 2 ^ 24
  Config.serial :: BitVec.ofNat 64 b1 :: (List.range 8).map (fun k => if s.portUp k then (s.portOf k).nbr else 0)

/-- Flood a HELLO (step 2 of R285). -/
def State.sendHello (s : State) : State :=
  (s.sendPacket 3 255 0x01 s.helloData).modFab (fun f => { f with disc := f.disc.map (fun d => { d with helloAt := s.count }) })

/-- The HELLOs of a discovery, with the device's own as it would be sent now. -/
def State.hellosNow (s : State) (d : Disc) : List (DWord × List DWord) :=
  d.hellos.map (fun h => if h.1 == Config.serial then (h.1, s.helloData) else h)

/-- Enter discovery (R285), keeping address and route table in force; none while it already runs. -/
def State.enterDisc (s : State) : State :=
  if !s.fabOn || s.fab.disc.isSome then s else
  let d : Disc := { start := s.count, newAt := s.count, helloAt := s.count, hellos := [(Config.serial, s.helloData)] }
  (s.modFab (fun f => { f with disc := some d })).sendHello

/-- Start discovery (step 1 of R285): DISC_REQ is flooded. -/
def State.startDisc (s : State) : State :=
  if !s.fabOn || s.fab.disc.isSome then s else (s.sendPacket 3 255 0x03 [Config.serial]).enterDisc

/-- Change the discovery in progress. -/
def State.modDisc (s : State) (f : Disc → Disc) : State := s.modFab (fun x => { x with disc := x.disc.map f })

/-- A topology change, which the coordinator answers after HOLD (R289); who that is then, a discovery in progress may still settle. -/
def State.topoSeen (s : State) : State :=
  if !s.fabOn then s else s.modFab (fun f => { f with hold := some (s.count + BitVec.ofNat 64 (s.fld Reg.FAB_CFG 23 16 * 1000000)) })

/-- A port of the device has entered or left UP: TOPO_CHANGE is flooded (R289). -/
def State.topoChange (s : State) : State := (s.sendPacket 3 255 0x07 [Config.serial]).topoSeen

/-! Ports. -/

/-- FAB_BLOCK_LOCK (R276): the receive lane gains block lock, and the port sends LINK pairs in place of IDLE. -/
def execFabBlockLock (k : Nat) (s : State) : Host.Outcome State Fault Refusal :=
  if !s.domOn 6 || !s.portEn k || (s.portOf k).lock then .next s
  else .next ((s.setPort k { lock := true }).emit (.fabBlocks k (linkPair k Config.serial)))

/-- FAB_PORT_UP (R276, R285, R289): the last of 8 matching LINK pairs, with lock both ways: UP, or LOOP for the own serial. The first
port at start-up starts discovery; TOPO_CHANGE is flooded for every port. -/
def execFabPortUp (k : Nat) (link0 link1 : Block) (s : State) : Host.Outcome State Fault Refusal :=
  let p := s.portOf k
  if !s.domOn 6 || !s.portEn k || !p.lock || p.up || p.loop then .next s else
  match linkSerial link0 link1 with
  | none => .next s
  | some serial =>
    if serial = Config.serial then .next ((s.setPort k { p with loop := true, nbr := serial }).raise 0x0903 0 [wd k])
    else
      let s := ((s.setPort k { lock := true, up := true, nbr := serial }).raise 0x0901 0 [wd k, lo32 serial]).topoChange
      .next (if s.fab.coord.isNone && s.fab.disc.isNone then s.startDisc else s)

/-- A port loses its lane, or is disabled (R276): unicast packets that waited for it go to the other port of their route (R287); what it was
sending breaks off (log entry 111). -/
def State.portLost (s : State) (k : Nat) : State :=
  let s := s.portPump k
  let was := s.portOf k
  let s := s.setPort k {}
  if was.up then
    let s := (s.raise 0x0902 0 [wd k]).topoChange
    (was.wait.filter (fun e => e.1.dest != 255)).foldl (fun s e => s.route e.1 e.2) s
  else s

/-- FAB_PORT_DOWN (R276). -/
def execFabPortDown (k : Nat) (s : State) : Host.Outcome State Fault Refusal :=
  if !s.domOn 6 then .next s else .next (s.portLost k)

/-! Receiving. -/

/-- The input buffer of TC0 holds 2 KiB, 256 blocks (R280): make room for what has left, and tell whether a packet fits. -/
def State.tc0Fits (s : State) (k : Nat) (q : Packet) : State × Bool :=
  let p := s.portOf k
  let held := p.tc0.filter (fun e => decide (s.tenPs < e.1))
  (s.setPort k { p with tc0 := held }, decide ((held.map Prod.snd).sum + pktBlocks q ≤ 256))

/-- Return the credits of a packet that has been handed on (R275, R280), in units of 8 blocks. -/
def State.giveCredit (s : State) (k : Nat) (q : Packet) : State :=
  let tc := q.tc.toNat
  s.portGive k (fun p =>
    let owed := (match tc with | 1 => p.owed1 | 2 => p.owed2 | _ => p.owed3) + pktBlocks q
    let p := match tc with
      | 1 => { p with owed1 := owed % 8 }
      | 2 => { p with owed2 := owed % 8 }
      | _ => { p with owed3 := owed % 8 }
    if owed < 8 then p else { p with ctl := p.ctl ++ [creditBlock tc (owed / 8)] })

/-- Hold a forwarded TC0 packet in its input buffer until the last output port has sent it. -/
def State.tc0Hold (s : State) (k : Nat) (q : Packet) : State :=
  let out := (s.upPorts (some k)).foldl (fun m j => max m (s.portOf j).busy) s.tenPs
  let p := s.portOf k
  s.setPort k { p with tc0 := p.tc0 ++ [(out, pktBlocks q)] }

/-- The blocks of a packet arrive on a port (R277 to R280, R287, R288). `mine` picks the packets that a row is about: other packets of a
listed TYPE have rows of their own. `ok` tells that LEN matches; `deliver` is the effect on the device. A packet of a TYPE that is not
listed for its TC is discarded. One forwarded by cut-through goes on before its CRC is known bad. -/
def State.fabRecv (s : State) (k : Nat) (bs : List Block) (mine ok : Packet → Bool) (deliver : Packet → State → State) : State :=
  match (if s.portUp k then packetOf bs else none) with
  | none => s
  | some q =>
    let listed := typeOk q.typ.toNat q.tc.toNat
    if listed && !mine q then s else
    let (s, fits) := if q.tc = 0 then s.tc0Fits k q else (s, true)
    if !fits then (s.bump Reg.FAB_TC0_DROP).raise 0x0908 0 [wd k] else
    let s := if q.tc = 0 then s else s.giveCredit k q
    if !listed || !ok q then s.bump Reg.FAB_DROP
    else
      let s := if q.bad then s.bump Reg.FAB_RX_CRC else s
      if (q.bad && q.tc == 3) || !s.fabOn || (s.fab.addr = 0 && q.tc ≠ 3) then s
      else if q.dest = 255 then
        match s.newSeq q with
        | none => s
        | some s =>
          let s := s.forward q k
          let s := if q.tc = 0 then s.tc0Hold k q else s
          if q.bad then s else deliver q s
      else if q.dest.toNat = s.fab.addr then (if q.bad then s else deliver q s)
      else s.forward q k

/-- Receive a packet of one TYPE, of one length (R279). -/
def State.fabRecvType (s : State) (k : Nat) (bs : List Block) (typ len : Nat) (deliver : Packet → State → State) : State :=
  s.fabRecv k bs (fun q => q.typ.toNat == typ) (fun q => q.data.length == len) deliver

/-- Data block `i` of a packet. -/
def pktBlock (q : Packet) (i : Nat) : DWord := q.data.getD i 0

/-- FAB_CREDIT_RX (R275, R280): credits come back, and what they cover is sent. -/
def execFabCreditRx (k : Nat) (block : Block) (s : State) : Host.Outcome State Fault Refusal :=
  let cls := blkField block 9 8
  if !s.portUp k || blkType block != some 0x4B || cls = 0 then .next s
  else .next (s.portGive k (fun p => p.setCredit cls (p.credit cls + blkField block 31 16 * 8)))

/-! Addresses and routes. -/

/-- A device as its HELLO reports it: current address and ADDR_REQ. -/
def helloAddr (b : List DWord) : Nat := bits (lo32 (b.getD 1 0)) 7 0
/-- ADDR_REQ of a HELLO. -/
def helloReq (b : List DWord) : Nat := bits (lo32 (b.getD 1 0)) 15 8
/-- The unit of a HELLO: true for B. -/
def helloUnit (b : List DWord) : Bool := (b.getD 1 0).getLsbD 20
/-- The neighbours of a HELLO: port and serial of every port in UP. -/
def helloNbrs (b : List DWord) : List (Nat × DWord) :=
  ((List.range 8).filter (fun k => (b.getD 1 0).getLsbD (24 + k))).map (fun k => (k, b.getD (2 + k) 0))

/-- HELLOs in ascending order of serial. -/
def helloInsert (e : DWord × List DWord) : List (DWord × List DWord) → List (DWord × List DWord)
  | [] => [e]
  | x :: r => if e.1.toNat < x.1.toNat then e :: x :: r else if e.1 = x.1 then e :: r else x :: helloInsert e r

/-- Breadth-first distances from a set of devices, not passing through `avoid`. -/
def bfs (hs : List (DWord × List DWord)) (avoid : Option DWord) : Nat → Nat → List DWord → List (DWord × Nat) → List (DWord × Nat)
  | 0, _, _, seen => seen
  | f + 1, d, front, seen =>
    let next := (front.flatMap (fun u => match hs.find? (fun h => h.1 == u) with
      | some h => (helloNbrs h.2).map Prod.snd
      | none => [])).dedup.filter (fun v => some v != avoid && hs.any (fun h => h.1 == v) && !seen.any (fun e => e.1 == v))
    if next = [] then seen else bfs hs avoid f (d + 1) next (seen ++ next.map (fun v => (v, d + 1)))

/-- Hops from every device to one, not passing through `avoid`. -/
def hopsTo (hs : List (DWord × List DWord)) (avoid : Option DWord) (dest : DWord) : List (DWord × Nat) :=
  bfs hs avoid hs.length 0 [dest] [(dest, 0)]

/-- Hops of a device in a list of distances. -/
def hopsOf (l : List (DWord × Nat)) (u : DWord) : Option Nat := (l.find? (fun e => e.1 == u)).map Prod.snd

/-- The port with the fewest hops, the lowest-numbered of several. -/
def bestPort (l : List (Nat × Nat)) : Option (Nat × Nat) :=
  l.foldl (fun b e => match b with | none => some e | some x => if e.2 < x.2 then some e else b) none

/-- The route entry of device `u` for a destination (R287). -/
def routeEntry (hs : List (DWord × List DWord)) (u dest : DWord) : BitVec 16 :=
  let nb := match hs.find? (fun h => h.1 == u) with | some h => helloNbrs h.2 | none => []
  let dist := hopsTo hs none dest
  let rest := hopsTo hs (some u) dest
  let via := fun (l : List (DWord × Nat)) (e : Nat × DWord) => (hopsOf l e.2).map (fun d => (e.1, d + 1))
  match bestPort (nb.filterMap (via dist)) with
  | none => 0
  | some (p, h) =>
    if 31 < h then 0 else
    let base := p + 8 + h * 2 ^ 8
    match bestPort ((nb.filter (fun e => e.1 != p)).filterMap (via rest)) with
    | none => BitVec.ofNat 16 base
    | some (a, _) => BitVec.ofNat 16 (base + a * 2 ^ 4 + 2 ^ 7)

/-- Rules 1 and 2 of R286: in ascending serial order, a wish in 1–254 that is free is granted. -/
def grant (wish : List DWord → Nat) (hs : List (DWord × List DWord)) (got : List (DWord × Nat)) : List (DWord × Nat) :=
  hs.foldl (fun g h =>
    let w := wish h.2
    if g.any (fun e => e.1 == h.1) || w = 0 || 254 < w || g.any (fun e => e.2 == w) then g else g ++ [(h.1, w)]) got

/-- Rule 3 of R286: the lowest free address to each of the others. -/
def grantRest (hs : List (DWord × List DWord)) (got : List (DWord × Nat)) : List (DWord × Nat) :=
  hs.foldl (fun g h =>
    if g.any (fun e => e.1 == h.1) then g else
    match ((List.range 254).map (· + 1)).find? (fun a => !g.any (fun e => e.2 == a)) with
    | some a => g ++ [(h.1, a)]
    | none => g) got

/-- The addresses that the coordinator assigns (R286), to the first 254 devices in serial order, at most 31 hops away. -/
def assign (hs : List (DWord × List DWord)) (coord : DWord) : List (DWord × Nat) :=
  let near := hopsTo hs none coord
  let hs := (hs.take 254).filter (fun h => match hopsOf near h.1 with | some d => decide (d ≤ 31) | none => false)
  grantRest hs (grant helloAddr hs (grant helloReq hs []))

/-- The route table of a device (R287): 256 entries. -/
def routeTable (hs : List (DWord × List DWord)) (addrs : List (DWord × Nat)) (u : DWord) : List (BitVec 16) :=
  (List.range 256).map (fun a => match addrs.find? (fun e => e.2 == a) with
    | some e => if e.1 = u || a = 0 || a = 255 then 0 else routeEntry hs u e.1
    | none => 0)

/-- Four route entries to a block (R279). -/
def routeBlocks : List (BitVec 16) → List DWord
  | a :: b :: c :: d :: r => (d ++ c ++ b ++ a) :: routeBlocks r
  | _ => []

/-- The entries of a ROUTE's blocks. -/
def routeWords (bs : List DWord) : List (BitVec 16) :=
  bs.flatMap (fun b => [b.extractLsb' 0 16, b.extractLsb' 16 16, b.extractLsb' 32 16, b.extractLsb' 48 16])

/-! Discovery: its steps. -/

/-- DONE (step 6 of R285): every acknowledgement has come; a new generation, and T_sw 2 ms ahead. -/
def State.sendDone (s : State) : State :=
  let gen := s.rd Reg.FAB_GEN + 1
  let tsw := s.now + 2000000
  ((s.sendPacket 3 255 0x06 [dw gen 0, tsw]).modDisc (fun d => { d with done := some (gen, tsw) })).modFab (fun f => { f with unreach := [] })

/-- FAB_HELLO_TIMER (step 2 of R285): every 200 µs until DONE. -/
def execFabHelloTimer (s : State) : Host.Outcome State Fault Refusal :=
  match s.fab.disc with
  | some d => .next (if d.done.isNone && s.since d.helloAt 200000 then s.sendHello else s)
  | none => .next s

/-- FAB_HELLO_RX (step 3 of R285). -/
def execFabHelloRx (k : Nat) (bs : List Block) (s : State) : Host.Outcome State Fault Refusal :=
  .next (s.fabRecvType k bs 0x01 10 (fun q s =>
    let sn := pktBlock q 0
    s.modDisc (fun d =>
      let fresh := !d.hellos.any (fun h => h.1 == sn)
      { d with hellos := helloInsert (sn, q.data) d.hellos, newAt := if fresh then s.count else d.newAt })))

/-- FAB_COORD_ELECT (steps 3 to 5 of R285, R286): no new serial for 4 ms; the device with the lowest serial coordinates and
floods the ROUTEs, its own among them. A device whose request loses raises FAB_ADDR_CONFLICT. -/
def execFabCoordElect (s : State) : Host.Outcome State Fault Refusal :=
  match s.fab.disc with
  | none => .next s
  | some d =>
    if d.coord.isSome || !s.since d.newAt 4000000 then .next s else
    let hs := s.hellosNow d
    let c := (hs.head?.map Prod.fst).getD Config.serial
    let s := s.modDisc (fun d => { d with coord := some c })
    let req := s.fld Reg.FAB_CFG 15 8
    let lost := req ≠ 0 && req ≠ 255 && hs.any (fun h => decide (h.1.toNat < Config.serial.toNat) && helloReq h.2 == req)
    let s := if lost then s.raise 0x0906 0 [wd req] else s
    if c ≠ Config.serial then .next s else
    let addrs := assign hs c
    let gen := s.rd Reg.FAB_GEN + 1
    let data := fun (e : DWord × Nat) => e.1 :: dw (wd e.2) gen :: routeBlocks (routeTable hs addrs e.1)
    let others := addrs.filter (fun e => e.1 != Config.serial)
    let mine := (addrs.find? (fun e => e.1 == Config.serial)).map (fun e => (e.2, routeTable hs addrs e.1))
    let s := s.modDisc (fun d => { d with routes := addrs.map data, unacked := others.map Prod.fst, routeAt := s.count,
                                          addrs := addrs, mine := mine })
    let s := addrs.foldl (fun s e => s.sendPacket 3 255 0x04 (data e)) s
    .next (if others = [] then s.sendDone else s)

/-- FAB_ROUTE_RX (step 5 of R285): the ROUTE that bears the own serial becomes pending and is acknowledged. -/
def execFabRouteRx (k : Nat) (bs : List Block) (s : State) : Host.Outcome State Fault Refusal :=
  .next (s.fabRecvType k bs 0x04 66 (fun q s =>
    if s.fab.disc.isNone then s else
    let sn := pktBlock q 0
    let a := bits (lo32 (pktBlock q 1)) 7 0
    let s := s.modDisc (fun d => { d with addrs := d.addrs.filter (fun e => e.1 != sn) ++ [(sn, a)] })
    if sn = Config.serial then
      (s.modDisc (fun d => { d with mine := some (a, routeWords (q.data.drop 2)) })).sendPacket 3 255 0x05 [Config.serial]
    else s))

/-- FAB_ROUTE_ACK_RX (steps 5 and 6 of R285). -/
def execFabRouteAckRx (k : Nat) (bs : List Block) (s : State) : Host.Outcome State Fault Refusal :=
  .next (s.fabRecvType k bs 0x05 1 (fun q s =>
    match s.fab.disc with
    | none => s
    | some d =>
      let left := d.unacked.filter (· != pktBlock q 0)
      let s := s.modDisc (fun d => { d with unacked := left })
      if d.unacked ≠ [] && left = [] && d.done.isNone then s.sendDone else s))

/-- FAB_ROUTE_REPEAT (step 5 of R285): every 1 ms, the ROUTEs that no acknowledgement has answered. -/
def execFabRouteRepeat (s : State) : Host.Outcome State Fault Refusal :=
  match s.fab.disc with
  | none => .next s
  | some d =>
    if d.unacked = [] || !s.since d.routeAt 1000000 then .next s else
    let s := s.modDisc (fun d => { d with routeAt := s.count })
    .next ((d.routes.filter (fun r => d.unacked.contains (r.headD 0))).foldl (fun s r => s.sendPacket 3 255 0x04 r) s)

/-- FAB_DONE_RX (step 6 of R285). -/
def execFabDoneRx (k : Nat) (bs : List Block) (s : State) : Host.Outcome State Fault Refusal :=
  .next (s.fabRecvType k bs 0x06 2 (fun q s =>
    (s.modDisc (fun d => { d with done := some (lo32 (pktBlock q 0), pktBlock q 1) })).modFab (fun f => { f with unreach := [] })))

/-- The partner of the pair, found among the devices of the fabric (R301). -/
def State.findPartner (s : State) : State :=
  let sn := s.rd64 Reg.TWIN_PARTNER_SN
  let a := if !s.flag Reg.TWIN_CFG 0 then 0 else
    match s.fab.addrs.find? (fun e => e.1 == sn && s.fab.unitsB.contains sn != s.power.unitB) with
    | some e => e.2
    | none => 0
  { s with twin := { s.twin with partnerAddr := a } }

/-- FAB_ROUTE_SWITCH (step 7 of R285): corrected time has reached T_sw; address and pending table become active. -/
def execFabRouteSwitch (s : State) : Host.Outcome State Fault Refusal :=
  match s.fab.disc with
  | none => .next s
  | some d => match d.done with
    | none => .next s
    | some (gen, tsw) =>
      if s.now.toNat < tsw.toNat then .next s else
      let old := s.fab.addr
      let addr := (d.mine.map Prod.fst).getD old
      let table := match d.mine with
        | some (_, es) => (es.foldl (fun (m : SMap (BitVec 16) × Nat) e => (m.1.set 0 m.2 e, m.2 + 1)) (([], 0) : SMap (BitVec 16) × Nat)).1
        | none => s.fab.route
      let ca := match d.coord with | some c => hopsOf d.addrs c | none => none
      let units := (d.hellos.filter (fun h => helloUnit h.2)).map Prod.fst
      let s := s.modFab (fun f => { f with addr := addr, route := table, nodes := d.addrs.length, coord := d.coord,
                                           coordAddr := ca.getD 0, disc := none, addrs := d.addrs, unitsB := units,
                                           opEnded := true, beaconRx := s.count, beaconTx := s.count, lost := false })
      let s := (s.wr Reg.FAB_GEN gen).raise 0x0904 0 [wd s.fab.nodes, wd addr, gen, 0]
      .next (if old = addr then s else s.raise 0x0905 0 [wd old, wd addr]).findPartner

/-- FAB_DISC_TIMEOUT (R285): no DONE within 40 ms; address and table stay. -/
def execFabDiscTimeout (s : State) : Host.Outcome State Fault Refusal :=
  match s.fab.disc with
  | none => .next s
  | some d =>
    if d.done.isSome || !s.since d.start 40000000 then .next s else
    .next ((s.modFab (fun f => { f with disc := none, opEnded := true })).raise 0x0904 0
      [wd s.fab.nodes, wd s.fab.addr, s.rd Reg.FAB_GEN, 1])

/-- FAB_DISC_REQ_RX (step 1 of R285). -/
def execFabDiscReqRx (k : Nat) (bs : List Block) (s : State) : Host.Outcome State Fault Refusal :=
  .next (s.fabRecvType k bs 0x03 1 (fun _ s => s.enterDisc))

/-- FAB_BEACON_TIMER (R289): the coordinator's BEACON, every 1 ms. -/
def execFabBeaconTimer (s : State) : Host.Outcome State Fault Refusal :=
  if !s.isCoord || !s.since s.fab.beaconTx 1000000 then .next s else
  .next ((s.sendPacket 3 255 0x02 [dw (s.rd Reg.FAB_GEN) (wd s.fab.coordAddr)]).modFab (fun f => { f with beaconTx := s.count }))

/-- FAB_BEACON_RX (R289). -/
def execFabBeaconRx (k : Nat) (bs : List Block) (s : State) : Host.Outcome State Fault Refusal :=
  .next (s.fabRecvType k bs 0x02 1 (fun _ s => s.modFab (fun f => { f with beaconRx := s.count, lost := false })))

/-- FAB_COORD_LOST (R289): 4 BEACONs in a row have not come. -/
def execFabCoordLost (s : State) : Host.Outcome State Fault Refusal :=
  let f := s.fab
  if !s.fabOn || s.isCoord || f.coord.isNone || f.lost || !s.since f.beaconRx 4000000 then .next s else
  let s := (s.modFab (fun f => { f with lost := true })).raise 0x0909 0 [wd f.coordAddr]
  .next (if s.flag Reg.FAB_CFG 1 then s.startDisc else s)

/-- FAB_TOPO_CHANGE_RX (R289). -/
def execFabTopoChangeRx (k : Nat) (bs : List Block) (s : State) : Host.Outcome State Fault Refusal :=
  .next (s.fabRecvType k bs 0x07 1 (fun _ s => s.topoSeen))

/-- FAB_HOLD_EXPIRE (R289): HOLD ms without a further TOPO_CHANGE; during a discovery it waits for its end (R296). -/
def execFabHoldExpire (s : State) : Host.Outcome State Fault Refusal :=
  match s.fab.hold with
  | none => .next s
  | some t =>
    if s.count.toNat < t.toNat || s.fab.disc.isSome then .next s else
    let s := s.modFab (fun f => { f with hold := none })
    .next (if s.isCoord && s.flag Reg.FAB_CFG 1 then s.startDisc else s)

/-! Samples, Z edges, images. -/

/-- FAB_SAMPLE_RX (R55, R283): every PREF that names the source takes the sample, unless it is not later than the last from that source. -/
def execFabSampleRx (k : Nat) (bs : List Block) (s : State) : Host.Outcome State Fault Refusal :=
  .next (s.fabRecvType k bs 0x10 3 (fun q s =>
    let b2 := (pktBlock q 2).toNat
    let x : PSample := { src := q.src.toNat + b2 / 2 ^ 40 % 4 * 2 ^ 8, p := pktBlock q 0, v := BitVec.ofInt 64 (sx 40 b2), stamp := pktBlock q 1, state := PState.ofCode (b2 / 2 ^ 42 % 8) }
    s.each (List.range 4) (fun s n =>
      let p := s.prefOf n
      let mine := s.prefEn n && s.prefSrc n == 8 && s.fld (Reg.PREF_FAB n) 9 0 == x.src
      let later := match p.sample with | none => true | some y => y.src != x.src || decide (0 < (x.stamp - y.stamp).toInt)
      if mine && later then s.setPref n { p with sample := some x, got := true } else s)))

/-- FAB_ZEDGE_RX (R284). -/
def execFabZedgeRx (k : Nat) (bs : List Block) (s : State) : Host.Outcome State Fault Refusal :=
  .next (s.fabRecvType k bs 0x11 2 (fun q s =>
    let b1 := (pktBlock q 1).toNat
    if !s.flag Reg.FAB_ZSRC 15 || s.fld Reg.FAB_ZSRC 7 0 ≠ q.src.toNat || s.fld Reg.FAB_ZSRC 10 8 ≠ b1 / 2 ^ 32 % 8 then s else
    let ovr := bw (s.flag Reg.FAB_ZRX_STATUS 0) <<< 1
    ((s.wr64 Reg.FAB_ZRX_TIME (pktBlock q 0)).wr Reg.FAB_ZRX_COUNT (wd b1)).orW Reg.FAB_ZRX_STATUS (1 ||| ovr)))

/-- FAB_ZRX_TIME_READ (R12, R284, R299): a PF0 read of FAB_ZRX_TIME_LO latches the 64 bits and clears VALID. The region has
no mirror (R38). -/
def execFabZrxTimeRead (pf1 : Bool) (s : State) : Host.Outcome State Fault Refusal :=
  .next (s.reading pf1 Reg.FAB_ZRX_TIME (fun s =>
    ((s.latch64 false Reg.FAB_ZRX_TIME (s.rd64 Reg.FAB_ZRX_TIME)).setF Reg.FAB_ZRX_STATUS 0 0 0, s.rd Reg.FAB_ZRX_TIME)))

/-- LEN of an IMAGE packet matches its header (R292). -/
def imageLen (q : Packet) : Bool :=
  let h := pktBlock q 0
  let cols := h.toNat / 2 ^ 41 % 2 ^ 14
  q.data.length == 1 + (if h.getLsbD 38 then 0 else (cols + 15) / 16 + (if h.getLsbD 39 then (cols + 63) / 64 else 0))

/-- FAB_IMAGE_RX (R290 to R292): an image for a channel in receive mode is ready for its link. -/
def execFabImageRx (k : Nat) (bs : List Block) (s : State) : Host.Outcome State Fault Refusal :=
  .next (s.fabRecv k bs (fun q => q.typ == 0x30) imageLen (fun q s => s.imageTake q))

/-! The fabric-wide snapshot. -/

/-- A snapshot set's word indices and the offsets of the registers they show (R295), but for words 0 to 4. -/
def snapItems : List (Nat × Nat) :=
  (List.range 4).flatMap (fun k => [(16 + 4 * k, Reg.PREF_POS k), (17 + 4 * k, Reg.PREF_POS k + 4), (18 + 4 * k, Reg.PREF_VEL k),
      (19 + 4 * k, Reg.PREF_STATUS k)])
    ++ (List.range 8).map (fun k => (32 + k, Reg.ENC_COUNT k))
    ++ (List.range 4).flatMap (fun c => [(40 + 2 * c, Reg.CYC_COUNT c), (41 + 2 * c, Reg.CYC_OVR c)])
    ++ [(48, Reg.BUF_CORR_CNT), (49, Reg.BUF_UNCORR_CNT), (50, Reg.BUF_SCRUB_PASS), (51, Reg.MASH_BEHIND_CNT), (52, Reg.SCHED_LATE_CNT),
        (53, Reg.SCHED_IGNORED), (54, Reg.PI_COUNT), (55, Reg.HOST_EVT_LOST), (56, Reg.TB_SLEW_REMAIN), (57, Reg.TB_REFUSED_CNT)]
    ++ ((List.range 64).drop 1).flatMap (fun n => [(64 * n, Reg.CTX_STATE n), (64 * n + 1, Reg.CTX_SLACK n), (64 * n + 2, Reg.CTX_LAST_LINE n),
        (64 * n + 3, Reg.CTX_PAGE_ID n), (64 * n + 4, Reg.CTX_PAGES n), (64 * n + 5, Reg.CTX_LATE_LINES n), (64 * n + 6, Reg.CTX_INHIBITED n),
        (64 * n + 7, Reg.CTX_ECC_CORR n), (64 * n + 8, Reg.CTX_ECC_BLANK n), (64 * n + 9, Reg.CTX_SEQ_FLAGS n),
        (64 * n + 10, Reg.CTX_SEQ_COUNT n), (64 * n + 11, Reg.CTX_TSET n), (64 * n + 12, Reg.HOST_CQ_LOST n)])
    ++ (List.range 64).flatMap (fun c => [(4096 + 8 * c, Reg.HL_FRAMES c), (4097 + 8 * c, Reg.HL_DATA_LATE c), (4098 + 8 * c, Reg.HL_DMISS c),
        (4099 + 8 * c, Reg.HL_MISMATCH c), (4100 + 8 * c, Reg.HL_RX_BAD c), (4101 + 8 * c, Reg.NOZ_CH_CLIPPED c),
        (4102 + 8 * c, Reg.NOZ_CH_TAKEOVER c), (4103 + 8 * c, Reg.MASH_CH_LINES c)])

/-- Latch the snapshot set (R293 to R295): the copy has no side effects. -/
def State.snapTake (s : State) (tag origin : Nat) (late : Bool) : State :=
  let taken := s.fab.taken + 1
  let head := [(0, lo32 s.now), (1, hi32 s.now), (2, lo32 s.count), (3, hi32 s.count), (4, wd (tag + origin * 2 ^ 8 + taken.toNat * 2 ^ 16))]
  let m := (head ++ snapItems.map (fun e => (e.1, s.seeDot e.2))).foldl (fun m e => SMap.set m 0 e.1 e.2) ([] : SMap Word)
  let s := s.modFab (fun f => { f with shadow := m, taken := taken, arm := none })
  let w := (s.rd Reg.FAB_SNAP_STATUS &&& 0x18) ||| wd (2 + late.toNat * 4 + tag * 2 ^ 8 + origin * 2 ^ 16)
  (s.wr Reg.FAB_SNAP_STATUS w).raiseE 0x090A 0 [wd tag, wd origin, bw late]

/-- A snapshot is not taken (R294): MISSED is set and its tag is reported. -/
def State.snapMissed (s : State) (tag origin : Nat) : State := (s.orW Reg.FAB_SNAP_STATUS 8).raise 0x090B 0 [wd tag, wd origin]

/-- A SNAP arms the device (R293, R294), or is latched at once when it comes after T_s. -/
def State.snapArm (s : State) (t : DWord) (tag origin : Nat) : State :=
  if s.flag Reg.FAB_SNAP_STATUS 1 then s.snapMissed tag origin
  else
    let s := match s.fab.arm with | some a => s.snapMissed a.tag a.origin | none => s
    if t.toNat < s.now.toNat then s.snapTake tag origin true
    else
      let s := s.modFab (fun f => { f with arm := some { time := t, tag := tag, origin := origin } })
      s.wr Reg.FAB_SNAP_STATUS ((s.rd Reg.FAB_SNAP_STATUS &&& 0x18) ||| wd (1 + tag * 2 ^ 8 + origin * 2 ^ 16))

/-- FAB_SNAP_RX (R293, R294). -/
def execFabSnapRx (k : Nat) (bs : List Block) (s : State) : Host.Outcome State Fault Refusal :=
  .next (s.fabRecvType k bs 0x12 2 (fun q s => s.snapArm (pktBlock q 0) (bits (lo32 (pktBlock q 1)) 7 0) q.src.toNat))

/-- A snapshot that this device takes at once (R66, R294): action 6 of the scheduler, subject to VALID. -/
def State.snapNow (s : State) (tag : Nat) : State :=
  if s.flag Reg.FAB_SNAP_STATUS 1 then s.snapMissed tag s.fab.addr else
  let s := match s.fab.arm with | some a => s.snapMissed a.tag a.origin | none => s
  s.snapTake tag s.fab.addr false

/-- A write of FAB_SNAP_CMD (R293, R294): RELEASE, then SEND. -/
def State.snapCmdWrite (s : State) (value : Word) : State :=
  let s := if bit value 9 then s.wr Reg.FAB_SNAP_STATUS (s.rd Reg.FAB_SNAP_STATUS &&& ~~~6) else s
  if !bit value 8 then s else
  let t := s.rd64 Reg.FAB_SNAP_TIME
  let tag := bits value 7 0
  if t.toNat < s.now.toNat + 1000 then s.orW Reg.FAB_SNAP_STATUS 0x10
  else (s.sendPacket 0 255 0x12 [t, BitVec.ofNat 64 tag]).snapArm t tag s.fab.addr

/-- FAB_SNAP_SEND (R293): a write of FAB_SNAP_CMD with SEND. -/
def execFabSnapSend (value : Word) (s : State) : Host.Outcome State Fault Refusal :=
  .next (s.gated Reg.FAB_SNAP_CMD (fun s => s.snapCmdWrite value))

/-- FAB_SNAP_RELEASE (R294): a write of FAB_SNAP_CMD with RELEASE. -/
def execFabSnapRelease (value : Word) (s : State) : Host.Outcome State Fault Refusal :=
  .next (s.gated Reg.FAB_SNAP_CMD (fun s => s.snapCmdWrite value))

/-- FAB_SNAP_LATCH (R293): corrected time has reached T_s of the armed snapshot. -/
def execFabSnapLatch (s : State) : Host.Outcome State Fault Refusal :=
  match s.fab.arm with
  | none => .next s
  | some a => .next (if s.domOn 6 && decide (a.time.toNat ≤ s.now.toNat) then s.snapTake a.tag a.origin false else s)

end Sys2Proof.Machine
end

