-- ==== Sys2Proof/Machine/Can.lean ====
section
/-!
DEFINITION. The CAN FD controllers: modes and timing (R416 to R420), transmit buffers (R421 to R425), filters, receive queues
and image entries (R426 to R429), errors and bus-off (R430 to R432).
-/
namespace Sys2Proof.Machine

/-- Controller `n`. -/
def State.canOf (s : State) (n : Nat) : Can := s.can.get {} n
/-- Replace controller `n`. -/
def State.setCan (s : State) (n : Nat) (c : Can) : State := { s with can := s.can.set {} n c }
/-- Change controller `n`. -/
def State.modCan (s : State) (n : Nat) (f : Can → Can) : State := s.setCan n (f (s.canOf n))
/-- Transmit buffer `b`. -/
def Can.txb (c : Can) (b : Nat) : CanTx := c.buf.get {} b
/-- Replace transmit buffer `b`. -/
def Can.setTxb (c : Can) (b : Nat) (t : CanTx) : Can := { c with buf := c.buf.set {} b t }

/-- CAN_CTRL.MODE: 0 INIT, 1 NORMAL, 2 LISTEN, 3 LOOPBACK (R417). -/
def State.canMode (s : State) (n : Nat) : Nat := s.fld (Reg.CAN_CTRL n) 1 0

/-! Transmit buffers. -/

/-- TXMODE (R421). -/
def CanTx.mode (t : CanTx) : Nat := bits t.w1 7 6

/-- Payload bytes that a DLC codes (R416): the FD codes above 8 are 12, 16, 20, 24, 32, 48 and 64. -/
def dlcLen (fd : Bool) (dlc : Nat) : Nat :=
  if dlc ≤ 8 then dlc else if !fd then 8
  else match dlc with | 9 => 12 | 10 => 16 | 11 => 20 | 12 => 24 | 13 => 32 | 14 => 48 | _ => 64

/-- Payload length of a buffer's frame. -/
def CanTx.len (t : CanTx) : Nat := if bit t.w0 30 then 0 else dlcLen (bit t.w1 4) (bits t.w1 3 0)

/-- The payload that a buffer's frame would carry now: of its DATA words, or of area 0x84 (R424). -/
def State.canPayload (s : State) (n b : Nat) (t : CanTx) : List Byte :=
  if t.mode = 0 then (wordsBytes (padTo 16 0 t.data)).take t.len
  else s.cyc.img.read (0x84 * 2 ^ 21 + 2048 * n + 64 * b) t.len

/-- The key by which frames win arbitration (R423): base identifier, then format and RTR, then extended identifier. -/
def CanTx.key (t : CanTx) : Nat :=
  let base := bits t.w0 28 18
  if bit t.w0 29 then base * 2 ^ 21 + 2 * 2 ^ 19 + bits t.w0 17 0 * 2 + (bit t.w0 30).toNat
  else base * 2 ^ 21 + (bit t.w0 30).toNat * 2 ^ 19

/-- The requested buffer of highest priority among those that pass `ok` (R423). -/
def Can.best (c : Can) (ok : CanTx → Bool) : Option Nat :=
  (c.buf.foldl (fun (m : Option (Nat × Nat)) e =>
    if !e.2.req || !ok e.2 then m else match m with
    | none => some (e.1, e.2.key)
    | some (_, k) => if e.2.key < k then some (e.1, e.2.key) else m) none).map Prod.fst

/-- The frame that a buffer sends. BRS counts only in FD frames; ESI tells error-passive (R421, R430). -/
def canFrame (t : CanTx) (data : List Byte) (passive : Bool) : CanFrame :=
  let fd := bit t.w1 4
  { id := BitVec.ofNat 29 t.w0.toNat, ide := bit t.w0 29, rtr := bit t.w0 30, dlc := BitVec.ofNat 4 (bits t.w1 3 0), fdf := fd,
    brs := fd && bit t.w1 5, esi := fd && passive, payload := data }

/-- CAN_TX_START (R423, R424): a controller that takes part, and neither sends nor receives the frame that won against it, begins
the frame of highest priority, with its payload as it now stands (log entry 52). With FD_EN = 0 no FD frame is sent. In LOOPBACK
CANn_TX stays recessive (R417). -/
def State.canStart (s : State) (n : Nat) : State :=
  let c := s.canOf n
  let m := s.canMode n
  if c.state ≠ 2 || c.cur.isSome || c.rx || c.init || (m ≠ 1 && m ≠ 3) || s.twin.role == .standby then s else
  match c.best (fun t => s.flag (Reg.CAN_CTRL n) 2 || !bit t.w1 4) with
  | none => s
  | some b =>
    let t := c.txb b
    let f := canFrame t (s.canPayload n b t) c.passive
    let s := s.setCan n { c with cur := some (b, f) }
    if m = 3 then s else s.emit (.canFrame n f)

/-- Set CAN_RESULT. -/
def State.canResult (s : State) (n r : Nat) : State := s.wr (Reg.CAN_RESULT n) (wd r)

/-- The window words 0 to 19. -/
def State.txWindow (s : State) (n : Nat) : List Word := (List.range 20).map (fun k => s.rd (Reg.CAN_TXB n k))

/-- A write of CAN_TXB_CMD reaches controller `n`. -/
def State.canCmd (s : State) (n : Nat) (f : State → State) : State := s.gated (Reg.CAN_TXB_CMD n) f

/-- CAN_TXB_WRITE (R16, R421, R422): window words 0 to 17 enter the buffer unless it is requested. A reserved TXMODE keeps the
field. -/
def execCanTxbWrite (n b : Nat) (s : State) : Host.Outcome State Fault Refusal :=
  .next (s.canCmd n (fun s =>
    let c := s.canOf n
    let t := c.txb b
    if t.req then s.canResult n 1 else
    let w := s.txWindow n
    let w1 := nthW w 1 &&& 0x1FF
    let mode := bits w1 7 6
    let w1 := if mode = 3 || (mode ≠ 0 && 32 ≤ b) then setBits w1 7 6 t.mode else w1
    (s.setCan n (c.setTxb b { t with w0 := nthW w 0 &&& 0x7FFFFFFF, w1 := w1, data := (w.drop 2).take 16 })).canResult n 0))

/-- The STATUS word of a buffer (R421). -/
def CanTx.status (t : CanTx) : Word :=
  wd (t.req.toNat + t.held.toNat * 2 + t.done.toNat * 4 + t.cancelled.toNat * 8 + t.failed.toNat * 16)

/-- CAN_TXB_READ (R422): the buffer is copied into the window. -/
def execCanTxbRead (n b : Nat) (s : State) : Host.Outcome State Fault Refusal :=
  .next (s.canCmd n (fun s =>
    let t := (s.canOf n).txb b
    let ws := t.w0 :: t.w1 :: padTo 16 0 t.data ++ [t.status, t.ts]
    (s.each (List.range 20) (fun s k => s.wr (Reg.CAN_TXB n k) (nthW ws k))).canResult n 0))

/-- CAN_TXB_REQUEST (R422, R425, R431). The payload of a program buffer's request is the one that a later output write is compared
with (R424). -/
def execCanTxbRequest (n b : Nat) (s : State) : Host.Outcome State Fault Refusal :=
  .next (s.canCmd n (fun s =>
    let c := s.canOf n
    let t := c.txb b
    if bit t.w1 4 && bit t.w0 30 then s.canResult n 3
    else if s.canMode n = 0 || s.canMode n = 2 || s.twin.role == .standby then s.canResult n 2
    else
      let prev := if t.mode = 0 then t.prev else some (s.canPayload n b t)
      let t := { t with req := true, done := false, cancelled := false, failed := false, held := c.state == 3, prev := prev }
      ((s.setCan n (c.setTxb b t)).canResult n 0).canStart n))

/-- CAN_TXB_CANCEL (R422, R433). -/
def execCanTxbCancel (n b : Nat) (s : State) : Host.Outcome State Fault Refusal :=
  .next (s.canCmd n (fun s =>
    let c := s.canOf n
    (s.setCan n (c.setTxb b { c.txb b with req := false, held := false, cancelled := true })).canResult n 0))

/-- CAN_PROGRAM_REQUEST of one buffer (R424): a cyclic buffer, or an on-change buffer whose payload differs from that of its last
request. A request on a requested buffer counts in CAN_TX_OVERWRITE. -/
def State.canProgram (s : State) (n b : Nat) : State :=
  let c := s.canOf n
  let t := c.txb b
  let data := s.canPayload n b t
  if s.twin.role == .standby || 32 ≤ b || !(t.mode == 1 || (t.mode == 2 && t.prev != some data)) then s else
  let s := if t.req then s.bump (Reg.CAN_TX_OVERWRITE n) else s
  let t := { t with req := true, done := false, cancelled := false, failed := false, held := c.state == 3, prev := some data }
  s.setCan n (c.setTxb b t)

/-- An output write of the cycle engine reaches every program buffer (R424); the next frame is then selected among all of them
(R423). -/
def State.canOutputs (s : State) : State :=
  s.each (List.range 4) (fun s n => (s.each ((s.canOf n).buf.map Prod.fst) (fun s b => s.canProgram n b)).canStart n)

/-- Requests end at demotion (R425): the frame in transmission completes, and every other request is cancelled. -/
def State.canDemote (s : State) : State :=
  s.each (List.range 4) (fun s n =>
    let c := s.canOf n
    let keep := c.cur.map Prod.fst
    let k := (c.buf.filter (fun e => e.2.req && some e.1 != keep)).length
    if k = 0 then s else
    let buf := c.buf.map (fun e => if e.2.req && some e.1 != keep then
      (e.1, { e.2 with req := false, held := false, cancelled := true }) else e)
    (s.setCan n { c with buf := buf }).raise 0x0E07 0 [wd n, wd k])

/-! Modes. -/

/-- The conditions of R418 for leaving INIT. -/
def State.canTimingOk (s : State) (n : Nat) : Bool :=
  let a := s.rd (Reg.CAN_NBT n)
  let d := s.rd (Reg.CAN_DBT n)
  let nq := 1 + bits a 23 16 + bits a 30 24
  let dq := 1 + bits d 21 16 + bits d 28 24
  let nt := bits a 8 0 * nq
  let dt := bits d 5 0 * dq
  let fd := s.flag (Reg.CAN_CTRL n) 2
  decide (125 ≤ nt) && decide (8 ≤ nq) && decide (5 ≤ dq) && (!fd || (decide (16 ≤ dt) && decide (dt ≤ nt)))
    && decide (bits a 15 9 ≤ bits a 30 24) && decide (bits a 15 9 ≤ bits a 23 16)
    && decide (bits d 12 8 ≤ bits d 28 24) && decide (bits d 12 8 ≤ bits d 21 16)

/-- Error-passive and error-active (R430). -/
def State.canFault (s : State) (n : Nat) : State :=
  let c := s.canOf n
  let p := decide (128 ≤ c.tec) || decide (128 ≤ c.rec_)
  if p && !c.passive then (s.setCan n { c with passive := true }).raise 0x0E01 0 [wd n, wd c.tec, wd c.rec_]
  else if !p && c.passive then (s.setCan n { c with passive := false }).raiseE 0x0E02 0 [wd n]
  else s

/-- The controller is in INIT: error counters 0, requests kept (R417); with counters of 0 it is error-active (R430). -/
def State.canInit (s : State) (n : Nat) : State :=
  (((s.modCan n (fun c =>
      { c with state := 0, init := false, cur := none, rx := false, tec := 0, rec_ := 0, recover := none })).canFault n)
    |>.setF (Reg.CAN_CTRL n) 1 0 0)

/-- Begin bus-off recovery (R431): automatic or by the host. -/
def State.canRecoverBegin (s : State) (n : Nat) (auto : Bool) : State :=
  let c := s.canOf n
  if c.state = 3 && c.recover.isNone then s.setCan n { c with recover := some auto } else s

/-- A write of CAN_CTRL (R417, R418, R431, R436, R437). MODE reads as written; a controller asked for INIT in the middle of a
frame leaves at its end. -/
def State.canCtrl (s : State) (n : Nat) (v : Word) : State :=
  let off := Reg.CAN_CTRL n
  let old := s.rd off
  let inInit := (s.canOf n).state = 0
  let lock := !inInit && (bit v 2 != bit old 2 || bits v 11 8 != bits old 11 8)
  let s := if lock then s.orW (Reg.CAN_FAULTS n) 1 else s
  let s := if inInit then (s.setF off 2 2 (bits v 2 2)).setF off 11 8 (bits v 11 8) else s
  let s := s.setF off 3 3 (bits v 3 3)
  let m := bits v 1 0
  let s :=
    if inInit then
      if m = 0 then s
      else if s.canTimingOk n then (s.setF off 1 0 m).modCan n (fun c => { c with state := 1 })
      else s.orW (Reg.CAN_FAULTS n) 2
    else if m = 0 then
      if (s.canOf n).cur.isSome || (s.canOf n).rx then (s.setF off 1 0 0).modCan n (fun c => { c with init := true }) else s.canInit n
    else ((s.setF off 1 0 m).modCan n (fun c => { c with init := false })).canStart n
  let s := if bit v 4 then s.canRecoverBegin n false else s
  if bit v 3 then s.canRecoverBegin n true else s

/-- CAN_MODE_WRITE (R417, R418). -/
def execCanModeWrite (n : Nat) (v : Word) (s : State) : Host.Outcome State Fault Refusal :=
  .next (s.gated (Reg.CAN_CTRL n) (fun s => s.canCtrl n v))

/-- CAN_RECOVER (R431): RECOVER is written; outside bus-off it is ignored. -/
def execCanRecover (n : Nat) (s : State) : Host.Outcome State Fault Refusal :=
  .next (s.gated (Reg.CAN_CTRL n) (fun s => s.canRecoverBegin n false))

/-- CAN_INTEGRATED (R417): 11 recessive bits have been seen. -/
def execCanIntegrated (n : Nat) (s : State) : Host.Outcome State Fault Refusal :=
  if !s.busRuns || (s.canOf n).state ≠ 1 then .next s
  else .next ((s.modCan n (fun c => { c with state := 2 })).canStart n)

/-! Receiving. -/

/-- The timestamp of a start of frame (R428). -/
def State.canStamp (s : State) (n : Nat) (sof : DWord) : Word := lo32 (BitVec.ofNat 64 (sof.toNat >>> s.fld (Reg.CAN_CTRL n) 11 8))

/-- Filter pair `k`. -/
def Can.filter (c : Can) (k : Nat) : Word × Word × Word := c.flt.get (0, 0, 0) k

/-- A filter pair governs a frame (R426). -/
def filterMatch (p : Word × Word × Word) (f : CanFrame) : Bool :=
  bit p.1 31 && bit p.1 29 == f.ide && decide ((f.id ^^^ BitVec.ofNat 29 p.1.toNat) &&& BitVec.ofNat 29 p.2.1.toNat = 0)
    && (!f.rtr || bit p.2.2 2)

/-- Receive queue `q` of a controller. -/
def Can.queue (c : Can) (q : Nat) : CanQ := if q = 0 then c.q0 else c.q1
/-- Replace a receive queue. -/
def Can.setQueue (c : Can) (q : Nat) (x : CanQ) : Can := if q = 0 then { c with q0 := x } else { c with q1 := x }

/-- CAN_RXQ_JOIN (R427): tail, shadow of a locked head, or lost. -/
def State.canEnqueue (s : State) (n q : Nat) (r : CanRx) : State :=
  let c := s.canOf n
  let x := c.queue q
  if x.q.length < 64 then s.setCan n (c.setQueue q { x with q := x.q ++ [r], lossEp := false })
  else if x.locked && x.shadow.isNone then s.setCan n (c.setQueue q { x with shadow := some r, lossEp := false })
  else
    let s := (s.bump (if q = 0 then Reg.CAN_RXQ_LOST0 n else Reg.CAN_RXQ_LOST1 n)).orW (Reg.CAN_FAULTS n) 4
    let s := s.setCan n (c.setQueue q { x with lossEp := true })
    if x.lossEp then s else s.raise 0x0E05 0 [wd n, wd q]

/-- A frame received completely and validly is judged against the filters (R426, R429). -/
def State.canReceive (s : State) (n : Nat) (f : CanFrame) (sof : DWord) : State :=
  let c := s.canOf n
  match (List.range 128).find? (fun k => filterMatch (c.filter k) f) with
  | none => s.bump (Reg.CAN_RX_NOMATCH n)
  | some k =>
    let w2 := (c.filter k).2.2
    if bit w2 1 then s else
    let s := s.canEnqueue n (bits w2 0 0) { f := f, filter := k, ts := s.canStamp n sof }
    if bit w2 3 && bits w2 8 4 < 31 then
      let i : CanImg := { data := f.payload, fdf := f.fdf, at_ := some s.count }
      s.modCan n (fun c => { c with img := c.img.set {} (bits w2 8 4) i })
    else s

/-- At the end of a frame a waiting INIT takes effect (R417); else the next frame may start. -/
def State.canFrameEnd (s : State) (n : Nat) : State :=
  let s := s.modCan n (fun c => { c with rx := false })
  if (s.canOf n).init then s.canInit n else s.canStart n

/-- REC after a frame received without error (R430; the numbers are ISO 11898-1's, PRESUMED, log entry 127): one less, or, from
above 127, a value of 119 to 127, which is a free value. -/
def State.canRecDown (s : State) (n : Nat) : State :=
  let c := s.canOf n
  let (v, s) := if 127 < c.rec_ then s.free else (0, s)
  (s.setCan n { c with rec_ := if 127 < c.rec_ then 119 + v.toNat % 9 else c.rec_ - 1 }).canFault n

/-- TEC after a frame sent without error (R430): one less (log entry 127). -/
def State.canTecDown (s : State) (n : Nat) : State := (s.modCan n (fun c => { c with tec := c.tec - 1 })).canFault n

/-- CAN_FRAME_RX (R426 to R430). -/
def execCanFrameRx (n : Nat) (f : CanFrame) (sof : DWord) (s : State) : Host.Outcome State Fault Refusal :=
  if !s.busRuns || (s.canOf n).state ≠ 2 || (f.fdf && !s.flag (Reg.CAN_CTRL n) 2) then .next s
  else .next (((s.canReceive n f sof).canRecDown n).canFrameEnd n)

/-- The words of filter pair `k` (R426); IMG 31 is reserved and keeps the field (R16). -/
def State.canFltPut (s : State) (n k : Nat) (w0 w1 w2 : Word) : State :=
  let c := s.canOf n
  let w2 := w2 &&& 0x1FF
  let w2 := if bits w2 8 4 = 31 then setBits w2 8 4 (bits (c.filter k).2.2 8 4) else w2
  s.setCan n { c with flt := c.flt.set (0, 0, 0) k (w0 &&& 0xBFFFFFFF, w1 &&& 0x1FFFFFFF, w2) }

/-- CAN_FLT_WRITE (R426): the words of the selected pair. -/
def execCanFltWrite (n : Nat) (s : State) : Host.Outcome State Fault Refusal :=
  .next (s.gated (Reg.CAN_FLT_CMD n) (fun s =>
    s.canFltPut n (s.fld (Reg.CAN_FLT_SEL n) 6 0) (s.rd (Reg.CAN_FLT_W n 0)) (s.rd (Reg.CAN_FLT_W n 1)) (s.rd (Reg.CAN_FLT_W n 2))))

/-- CAN_FLT_READ (R426). -/
def execCanFltRead (n : Nat) (s : State) : Host.Outcome State Fault Refusal :=
  .next (s.gated (Reg.CAN_FLT_CMD n) (fun s =>
    let (a, b, c) := (s.canOf n).filter (s.fld (Reg.CAN_FLT_SEL n) 6 0)
    ((s.wr (Reg.CAN_FLT_W n 0) a).wr (Reg.CAN_FLT_W n 1) b).wr (Reg.CAN_FLT_W n 2) c))

/-- The words of the head of a receive queue (R427). -/
def CanRx.words (x : CanRx) : List Word :=
  let f := x.f
  let len := f.payload.length
  [wd (f.id.toNat + f.ide.toNat * 2 ^ 29 + f.rtr.toNat * 2 ^ 30),
   wd (f.dlc.toNat + f.fdf.toNat * 16 + f.brs.toNat * 32 + f.esi.toNat * 64 + x.filter * 2 ^ 8 + len * 2 ^ 16 + 2 ^ 31), x.ts, 0]
  ++ bytesWords (padTo 64 0 f.payload)

/-- CAN_RXQ_HEAD_READ (R427): a PF0 read of word 0 locks the head. -/
def execCanRxqHeadRead (pf1 : Bool) (n q : Nat) (s : State) : Host.Outcome State Fault Refusal :=
  .next (s.reading pf1 (0x19200 + n * 0x400 + q * 0x80) (fun s =>
    let c := s.canOf n
    let x := c.queue q
    match x.q with
    | [] => (s, 0)
    | e :: _ => (s.setCan n (c.setQueue q { x with locked := true }), nthW e.words 0)))

/-- CAN_RXQ_POP (R427, R433). -/
def execCanRxqPop (n q : Nat) (s : State) : Host.Outcome State Fault Refusal :=
  .next (s.gated (if q = 0 then Reg.CAN_RXQ0_POP n else Reg.CAN_RXQ1_POP n) (fun s =>
    let c := s.canOf n
    let x := c.queue q
    match x.q with
    | [] => s.canResult n 4
    | _ :: r => (s.setCan n (c.setQueue q { x with q := r ++ x.shadow.toList, shadow := none, locked := false })).canResult n 0))

/-! Errors. -/

/-- CAN_BUS_OFF (R431). An INIT that waits for the end of the frame in progress then takes effect (R417). -/
def State.canBusOff (s : State) (n : Nat) : State :=
  let c := s.canOf n
  let buf := c.buf.map (fun e => if !e.2.req then e else
    (e.1, if bit e.2.w1 8 then { e.2 with req := false, failed := true } else { e.2 with held := true }))
  let c := { c with state := 3, cur := none, rx := false, buf := buf }
  let top := (c.best (fun _ => true)).getD 0xFF
  let s := ((s.setCan n c).bump (Reg.CAN_BUSOFF_CNT n)).raise 0x0E03 0 [wd n, wd top]
  if c.init then s.canInit n else if s.flag (Reg.CAN_CTRL n) 3 then s.canRecoverBegin n true else s

/-- The attempt of the buffer in transmission has failed: a ONE_SHOT buffer gives up (R423). -/
def State.canAttemptFailed (s : State) (n : Nat) : State :=
  let c := s.canOf n
  match c.cur with
  | none => s
  | some (b, _) =>
    let t := c.txb b
    let t := if bit t.w1 8 && t.req then { t with req := false, failed := true } else t
    s.setCan n { c.setTxb b t with cur := none }

/-- The code of an error in CAN_ERR_LAST (R436). -/
def canErrCode : CanErr → Nat
  | .stuff => 1 | .form => 2 | .ack => 3 | .bit1 => 4 | .bit0 => 5 | .crc => 6

/-- CAN_ERROR (R423, R430 to R432): an error is detected; the counters are as ISO 11898-1 gives them. -/
def execCanError (n : Nat) (kind : CanErr) (dataPhase transmitting : Bool) (tec : BitVec 9) (rec_ : BitVec 8) (s : State) :
    Host.Outcome State Fault Refusal :=
  let c := s.canOf n
  if !s.busRuns || c.state ≠ 2 then .next s else
  let s := s.wr (Reg.CAN_ERR_LAST n) (wd (canErrCode kind + dataPhase.toNat * 8))
  let s := (s.setCan n { c with tec := tec.toNat, rec_ := rec_.toNat }).canFault n
  if 255 < tec.toNat then .next (s.canBusOff n)
  else
    let s := if transmitting then s.canAttemptFailed n else s
    .next (s.canFrameEnd n)

/-- CAN_ARB_LOST (R423): a ONE_SHOT buffer has had its attempt; the controller receives the frame that won, and selects anew at its
end. -/
def execCanArbLost (n : Nat) (s : State) : Host.Outcome State Fault Refusal :=
  if !s.busRuns || (s.canOf n).cur.isNone then .next s
  else .next ((s.canAttemptFailed n).modCan n (fun c => { c with rx := true }))

/-- CAN_TX_SUCCESS (R420, R423, R428): the frame in transmission was acknowledged. -/
def execCanTxSuccess (n : Nat) (sof : DWord) (tdcv : Nat) (s : State) : Host.Outcome State Fault Refusal :=
  let c := s.canOf n
  match c.cur with
  | none => .next s
  | some (b, f) =>
    if !s.busRuns then .next s else
    let t := c.txb b
    let off := Reg.CAN_STATUS n
    let s := if f.brs && s.flag (Reg.CAN_TDC n) 8 then
        let s := (s.setF off 14 8 (min tdcv 127)).setF off 15 15 (decide (127 < tdcv)).toNat
        if 127 < tdcv then (s.orW (Reg.CAN_FAULTS n) 8).raise 0x0E08 0 [wd n, wd (s.fld (Reg.CAN_TDC n) 6 0)] else s
      else s
    let t := { t with req := false, held := false, done := true, cancelled := false, ts := s.canStamp n sof }
    let s := s.setCan n { c.setTxb b t with cur := none }
    let d := s.rd64 (Reg.CAN_TX_DONE n) ||| BitVec.ofNat 64 (1 <<< b)
    let s := s.wr64 (Reg.CAN_TX_DONE n) d
    let s := if s.canMode n = 3 then s.canReceive n f sof else s
    .next ((s.canTecDown n).canFrameEnd n)

/-- CAN_BUS_OFF_RECOVERED (R431): 128 occurrences of 11 recessive bits. -/
def execCanBusOffRecovered (n : Nat) (s : State) : Host.Outcome State Fault Refusal :=
  let c := s.canOf n
  match c.recover with
  | none => .next s
  | some auto =>
    if !s.busRuns || c.state ≠ 3 then .next s else
    let buf := c.buf.map (fun e => (e.1, { e.2 with held := false }))
    let s := (s.setCan n { c with state := 2, recover := none, tec := 0, rec_ := 0, buf := buf }).canFault n
    .next ((s.raise 0x0E04 0 [wd n, bw auto]).canStart n)

/-- CAN_PROTOCOL_EXCEPTION (R416): bus integration, with no change of the error counters; a waiting INIT takes effect (R417). -/
def execCanProtocolException (n : Nat) (id : BitVec 29) (s : State) : Host.Outcome State Fault Refusal :=
  let c := s.canOf n
  if !s.busRuns || c.state ≠ 2 then .next s
  else .next ((((s.setCan n { c with state := 1, cur := none }).bump (Reg.CAN_PROTO_EXC n)).raiseE 0x0E06 0
    [wd n, wd id.toNat]).canFrameEnd n)

end Sys2Proof.Machine
end

