-- ==== Sys2Proof/Machine/Loop.lean ====
section
/-!
DEFINITION. The current-loop channels: target (R490, R491), conversions (R492), compliance (R493), trimming (R496), and what
a channel drives (R497).
-/
namespace Sys2Proof.Machine

/-- Channel LP`n`. -/
def State.loopOf (s : State) (n : Nat) : Loop := s.loop.get {} n
/-- Replace channel LP`n`. -/
def State.setLoop (s : State) (n : Nat) (l : Loop) : State := { s with loop := s.loop.set {} n l }
/-- Change channel LP`n`. -/
def State.modLoop (s : State) (n : Nat) (f : Loop → Loop) : State := s.setLoop n (f (s.loopOf n))

/-- LOOP_CH_CFG.EN. -/
def State.loopEn (s : State) (n : Nat) : Bool := s.flag (Reg.LOOP_CH_CFG n) 0

/-- The target of a setpoint (R491). -/
def State.loopTarget (s : State) (n sp : Nat) : Nat :=
  let w := s.rd (Reg.LOOP_CH_TRIM n)
  let t := 8000 + sx 16 (bits w 15 0) + (((sp : Int) - 8000) * (65536 + sx 16 (bits w 31 16)) + 32768).fdiv 65536
  (clampI t 0 48000).toNat

/-- VALID (R492): EN is 1 and a conversion has completed within the last 10 ms. -/
def State.loopValid (s : State) (n : Nat) : Bool :=
  s.domOn 7 && s.loopEn n && (match (s.loopOf n).validAt with
    | none => false
    | some t => decide (s.count.toNat ≤ t.toNat + 10000000))

/-- The middle one of three values. -/
def median3 (a b c : Nat) : Nat := max (min a b) (min (max a b) c)

/-- What a channel drives and its HOLD code (R497): the first row of the table that applies. -/
inductive LoopRow where
  | off | backup | preset | held | setpoint
deriving DecidableEq, Repr

/-- The row of R497 in force for a channel. -/
def State.loopRow (s : State) (n : Nat) : LoopRow :=
  let l := s.loopOf n
  let c := s.rd (Reg.LOOP_CH_CFG n)
  if !s.domOn 7 || !bit c 0 then .off
  else if s.twin.role == .standby then (if !bit c 3 || l.pgate then .off else .backup)
  else if l.holding then .backup
  else if s.cyc.state != .running && !l.wrote then .preset
  else if (s.cyc.state == .stopped || s.cyc.state == .halted) && !l.kilnWrote then (if bit c 2 then .preset else .held)
  else .setpoint

/-- The tracked value (R497): the median of the last three conversions; with fewer the manual gives none, and it is free
(log entry 55). -/
def State.loopTracked (s : State) (n : Nat) : Nat × State :=
  match (s.loopOf n).last3 with
  | a :: b :: c :: _ => (median3 a b c, s)
  | _ => (s.free.1.toNat % 65536, s.free.2)

/-- Entry into backup hold (R497): the tracked value is held and LOOP_BACKUP_HOLD raised, once. -/
def State.loopHold (s : State) (n : Nat) : State :=
  if (s.loopOf n).held.isSome then s else
  let v := (s.loopTracked n).1
  let s := (s.loopTracked n).2
  (s.modLoop n (fun l => { l with held := some v, holding := true })).raise 0x1104 0 [wd n, wd v]

/-- What the row in force drives. -/
def State.loopDriven (s : State) (n : Nat) (row : LoopRow) : Option Nat :=
  match row with
  | .off => none
  | .backup => (s.loopOf n).held
  | .preset => some (s.loopTarget n (s.fld (Reg.LOOP_CH_PRESET n) 15 0))
  | _ => some (s.loopTarget n (s.loopOf n).sp)

/-- LOOP_UPDATE (R497): bring a channel's drive to the row in force. -/
def State.loopUpdate (s : State) (n : Nat) : State :=
  let row := s.loopRow n
  let s := if row = .backup then s.loopHold n
    else if (s.loopOf n).held.isNone then s else s.modLoop n (fun l => { l with held := none, holding := false })
  let d := s.loopDriven n row
  if (s.loopOf n).drive = d then s else (s.modLoop n (fun l => { l with drive := d })).emit (.loopDrive n d)

/-- Every channel. -/
def State.loopsUpdate (s : State) : State := s.each (List.range 8) State.loopUpdate

/-- LOOP_SETPOINT (R490): an output write, of the program or of Kiln, has reached a channel's bytes of area 0x85. -/
def State.loopWrite (s : State) (n : Nat) (fromKiln : Bool) : State :=
  let v := bytesNat (s.cyc.img.read (0x85 * 2 ^ 21 + 4 * n) 2)
  let s := if v < 8000 || 40000 < v then s.bump (Reg.LOOP_CH_CLAMP n) else s
  (s.modLoop n (fun l => { l with sp := clampN v 8000 40000, wrote := true, kilnWrote := fromKiln, holding := false })).loopUpdate n

/-- The engine has stopped or halted: only a later Kiln write drives a channel (R497). -/
def State.loopsStop (s : State) : State :=
  (s.each (List.range 8) (fun s n => s.modLoop n (fun l => { l with kilnWrote := false }))).loopsUpdate

/-- LOOP_EN (R492, R497): EN was set or cleared: no output write counts and nothing is low. -/
def State.loopEnWrite (s : State) (n : Nat) : State :=
  (s.modLoop n (fun l => { l with wrote := false, kilnWrote := false, held := none, holding := false, validAt := none, low := false, lowRun := 0, okRun := 0 })).loopUpdate n

/-! Conversions. -/

/-- A conversion is asked for by scheduler action 3 (R492): at most one is queued. -/
def State.loopConvReq (s : State) (n : Nat) : State :=
  s.modLoop n (fun l => if l.conv.isSome then { l with queued := true } else { l with conv := some s.count })

/-- LOOP_CONV_START (R492): with CONV = 0, at every corrected time that is a multiple of 100 µs. -/
def execLoopConvStart (n : Nat) (s : State) : Host.Outcome State Fault Refusal :=
  let l := s.loopOf n
  let g := s.now.toNat / 100000
  if !s.ctlRuns || s.flag (Reg.LOOP_CH_CFG n) 1 || l.conv.isSome || l.grid = g then .next s
  else .next (s.setLoop n { l with conv := some s.count, grid := g })

/-- Compliance at the end of a conversion of a channel that is driven (R493; log entry 56). -/
def State.loopCompliance (s : State) (n : Nat) : State :=
  let l := s.loopOf n
  match l.drive with
  | none => s
  | some target =>
    let short := decide (l.current + 160 < target)
    let lowRun := if short && decide (l.headroom < s.fld (Reg.LOOP_CH_HRMIN n) 15 0) then l.lowRun + 1 else 0
    let okRun := if short then 0 else l.okRun + 1
    let s := s.setLoop n { l with lowRun := min lowRun 4, okRun := min okRun 4 }
    if !l.low && 4 ≤ lowRun then
      let s := (s.modLoop n (fun l => { l with low := true })).orW (Reg.LOOP_CH_STATUS n) 0x100
      s.raise 0x1101 0 [wd n, wd target, wd l.current, wd l.headroom]
    else if l.low && 4 ≤ okRun then
      (s.modLoop n (fun l => { l with low := false })).raise 0x1102 0 [wd n, wd l.current]
    else s

/-- LOOP_CONV_DONE (R492, R493): 20 µs after its start a conversion ends; a queued one starts. -/
def execLoopConvDone (n : Nat) (current headroom : BitVec 16) (s : State) : Host.Outcome State Fault Refusal :=
  let l := s.loopOf n
  match l.conv with
  | none => .next s
  | some t =>
    if !s.ctlRuns || !s.since t 20000 then .next s else
    let s := s.setLoop n { l with conv := if l.queued then some s.count else none, queued := false, count := l.count + 1,
                                  current := current.toNat, headroom := headroom.toNat, validAt := some s.count,
                                  last3 := (current.toNat :: l.last3).take 3 }
    let s := s.wr (Reg.LOOP_CH_MEAS n) (wd (current.toNat + headroom.toNat * 65536))
    .next (s.loopCompliance n)

/-- LOOP_PGATE_FALL (R489, R497). -/
def execLoopPgateFall (n : Nat) (s : State) : Host.Outcome State Fault Refusal :=
  .next ((s.modLoop n (fun l => { l with pgate := false })).loopUpdate n)

/-- LOOP_PGATE_RISE (R497). -/
def execLoopPgateRise (n : Nat) (s : State) : Host.Outcome State Fault Refusal :=
  .next ((s.modLoop n (fun l => { l with pgate := true })).loopUpdate n)

/-! Trimming. -/

/-- One step of a trim (R496): ZERO while the setpoint in force is below 24,000, else SPAN, staying within its range. -/
def State.trimStep (s : State) (n : Nat) (up : Bool) : State :=
  let w := s.rd (Reg.LOOP_CH_TRIM n)
  let d : Int := if up then 1 else -1
  let w := if (s.loopOf n).sp < 24000 then
      setBits w 15 0 (clampI (sx 16 (bits w 15 0) + d) (-1000) 1000 % 65536).toNat
    else setBits w 31 16 (clampI (sx 16 (bits w 31 16) + d) (-2048) 2047 % 65536).toNat
  (s.wr (Reg.LOOP_CH_TRIM n) w).loopUpdate n

/-- LOOP_TRIM_PRESS (R496): a press that has been stable for 20 ms. Both buttons together change nothing. -/
def execLoopTrimPress (sel : Nat) (up dn : Bool) (s : State) : Host.Outcome State Fault Refusal :=
  if !s.ctlRuns || !s.flag Reg.LOOP_CTRL 0 || !s.loopEn sel then .next s
  else if up && dn then .next { s with trim := s.trim.map (fun b => { b with both := true }) }
  else if !up && !dn then .next s
  else .next ({ s with trim := some { ch := sel, up := up, next := s.count + 980000000 } }.trimStep sel up)

/-- LOOP_TRIM_REPEAT (R496): a press held for 1 s repeats at 10 steps per second. -/
def execLoopTrimRepeat (s : State) : Host.Outcome State Fault Refusal :=
  match s.trim with
  | none => .next s
  | some b =>
    if !s.ctlRuns || !s.flag Reg.LOOP_CTRL 0 || !s.loopEn b.ch || b.both || decide (s.count.toNat < b.next.toNat) then .next s
    else .next ({ s with trim := some { b with next := b.next + 100000000 } }.trimStep b.ch b.up)

/-- LOOP_TRIM_RELEASE (R496). -/
def execLoopTrimRelease (s : State) : Host.Outcome State Fault Refusal :=
  match s.trim with
  | none => .next s
  | some b =>
    if !s.ctlRuns then .next s else
    let s := { s with trim := none }.orW (Reg.LOOP_CH_STATUS b.ch) 0x200
    .next (s.raise 0x1103 0 [wd b.ch, s.rd (Reg.LOOP_CH_TRIM b.ch)])

end Sys2Proof.Machine
end

