-- ==== Sys2Proof/Machine/Image.lean ====
section
/-!
DEFINITION. The I/O image (R345): what the input areas show (R397, R429, R492), forces (R355, R356), and what an output write
passes to its destinations (R346, R396, R424, R490). A byte is addressed by area × 2^21 + offset.
-/
namespace Sys2Proof.Machine

/-- Address of a byte of an area. -/
def imgAt (area off : Nat) : Nat := area * 2 ^ 21 + off

/-- Size in bytes of an area of R345; 0 for a number that the table does not list. -/
def areaSize (area : Nat) : Nat :=
  match area with
  | 0x01 | 0x81 | 0x05 | 0x85 => 64
  | 0x02 | 0x03 | 0x82 | 0x83 => 16384
  | 0x04 | 0x84 => 8192
  | 0x06 => 1024
  | 0x07 => 256
  | 0x08 => 2048
  | 0x86 => 128
  | _ => 0

/-- Station Bus channel `c`. -/
def State.sbOf (s : State) (c : Nat) : Sb := s.sb.get {} c
/-- Replace Station Bus channel `c`. -/
def State.setSb (s : State) (c : Nat) (b : Sb) : State := { s with sb := s.sb.set {} c b }
/-- Change Station Bus channel `c`. -/
def State.modSb (s : State) (c : Nat) (f : Sb → Sb) : State := s.setSb c (f (s.sbOf c))

/-- The slot table entry of a slot (R413). -/
def Sb.entry (b : Sb) (slot : Nat) : Word := b.slot.get 0xF slot
/-- BRANCH of a slot's entry. -/
def Sb.branch (b : Sb) (slot : Nat) : Nat := bits (b.entry slot) 3 0
/-- The slot is the device's own. -/
def Sb.own (b : Sb) (slot : Nat) : Bool := b.branch slot == 8

/-! Forces. -/

/-- Bytes that a force of a width covers; a bit force covers one. -/
def forceLen (width : Nat) : Nat := match width with | 2 => 2 | 3 => 4 | _ => 1

/-- First byte that a force covers (R355): the address bits below the width are ignored. -/
def Force.base (f : Force) : Nat := f.addr / 8 / forceLen f.width * forceLen f.width

/-- A force covers a byte. -/
def Force.covers (f : Force) (a : Nat) : Bool := decide (f.base ≤ a) && decide (a < f.base + forceLen f.width)

/-- A byte under one force. -/
def Force.apply (f : Force) (a : Nat) (b : Byte) : Byte :=
  if !f.covers a then b
  else if f.width = 0 then
    let m : Byte := BitVec.ofNat 8 (2 ^ (f.addr % 8))
    if bit f.value 0 then b ||| m else b &&& ~~~m
  else BitVec.ofNat 8 (f.value.toNat >>> (8 * (a - f.base)))

/-- A byte with all forces applied: the entry set later governs (R355). -/
def State.forced (s : State) (a : Nat) (b : Byte) : Byte := s.cyc.forces.foldl (fun b f => f.apply a b) b

/-- Some bit of a range of bytes is forced. -/
def State.anyForced (s : State) (a len : Nat) : Bool :=
  s.cyc.forces.any (fun f => decide (f.base < a + len) && decide (a < f.base + forceLen f.width))

/-! The input areas. -/

/-- The status word of a slot (R397). -/
def SbSlot.status (r : SbSlot) : Word :=
  wd (r.valid.toNat + r.null.toNat * 2 + r.force.toNat * 4 + r.active.toNat * 8 + r.age * 256)

/-- The 64 bytes of a slot in areas 0x02 and 0x03 (R397): 0 for own and unused slots. -/
def State.sbEntry (s : State) (c slot : Nat) : List Byte :=
  let b := s.sbOf c
  if b.own slot || b.branch slot == 15 then List.replicate 64 0
  else let r := b.rx.get {} slot; padTo 60 0 r.data ++ wordBytes r.status

/-- AGE of an image entry in ms (R429). -/
def State.canAge (s : State) (i : CanImg) : Nat :=
  match i.at_ with
  | none => 255
  | some t => min 255 ((s.count - t).toNat / 1000000)

/-- A byte of the 2 KiB of a CAN controller in area 0x04 (R429). -/
def State.canByte (s : State) (c r : Nat) : Byte :=
  let i := fun e => (s.canOf c).img.get {} e
  if r < 1984 then (i (r / 64)).data.getD (r % 64) 0
  else if r < 2046 then
    let e := i ((r - 1984) / 2)
    if r % 2 = 0 then BitVec.ofNat 8 (e.data.length + e.fdf.toNat * 128) else BitVec.ofNat 8 (s.canAge e)
  else 0

/-- The 8 bytes of a loop channel in area 0x05 (R492). -/
def State.loopBytes (s : State) (n : Nat) : List Byte :=
  let l := s.loopOf n
  natBytes 2 l.current ++ natBytes 2 l.headroom
    ++ natBytes 2 ((s.loopValid n).toNat + l.low.toNat * 2 + l.drive.isSome.toNat * 4) ++ natBytes 2 l.count.toNat

/-- The registers that areas 0x06 and 0x08 show, by word: none for a word that shows nothing. -/
def areaReg (area w : Nat) : Option Nat :=
  if area = 6 then
    let n := w / 4
    if n = 0 then none else
    match w % 4 with
    | 0 => some (Reg.CTX_STATE n) | 1 => some (Reg.CTX_SLACK n) | 2 => some (Reg.CTX_PAGES n) | _ => some (Reg.CTX_SEQ_FLAGS n)
  else if area = 7 then some (Reg.SAFE_VIEW w)
  else
    let c := w / 8
    match w % 8 with
    | 0 => some (Reg.HL_TEMP01 c) | 1 => some (Reg.HL_TEMP23 c) | 2 => some (Reg.HL_SUPPLY c) | 3 => some (Reg.HL_PORT c)
    | 4 => some (Reg.HL_STATE c) | _ => none

/-- A byte of the input image as it stands (R345), without forces. Area 0x01 shows pin levels, which come from outside and are
free; so is a byte of an output area, which the input image does not hold (log entry 58). -/
def State.inRaw (s : State) (area off : Nat) : Byte :=
  match area with
  | 0x02 | 0x03 => (s.sbEntry (area - 2) (off / 64)).getD (off % 64) 0
  | 0x04 => s.canByte (off / 2048) (off % 2048)
  | 0x05 => (s.loopBytes (off / 8)).getD (off % 8) 0
  | 0x06 | 0x07 | 0x08 => match areaReg area (off / 4) with
    | some r => (wordBytes (s.seeDot r)).getD (off % 4) 0
    | none => 0
  | _ => BitVec.ofNat 8 ((Config.freeValue (s.freeCtr + off / 8)).toNat >>> (8 * (off % 8)))

/-- Bytes of the input image with forces applied. -/
def State.inBytes (s : State) (area off len : Nat) : List Byte :=
  (List.range len).map (fun k => s.forced (imgAt area (off + k)) (s.inRaw area (off + k)))

/-- The slots of a channel whose entry can differ from 0. -/
def State.sbSlots (s : State) (c : Nat) : List Nat := (s.sbOf c).rx.map Prod.fst

/-- The offsets of an input area that a copy takes: for the slot areas those of the slots that hold something. -/
def State.inOffsets (s : State) (area : Nat) : List Nat :=
  if area = 2 || area = 3 then (s.sbSlots (area - 2)).flatMap (fun k => (List.range 64).map (fun i => 64 * k + i))
  else List.range (areaSize area)

/-- The input copy (steps 1 and 2 of R340): every input area as it stands, with forces applied. -/
def State.inputCopy (s : State) : Mem :=
  let plain : Mem := ((List.range 8).flatMap (fun k =>
    (s.inOffsets (k + 1)).map (fun off => (imgAt (k + 1) off, s.inRaw (k + 1) off)))).filter (fun e => e.2 != 0)
  s.cyc.forces.foldl (fun m f => if f.base < imgAt 9 0 then
      (List.range (forceLen f.width)).foldl (fun m k => Mem.setByte m (f.base + k) (f.apply (f.base + k) (m.byte (f.base + k)))) m
    else m) plain

/-! Output writes. -/

/-- Drive a GPIO: a pulse in progress ends with the new level (log entry 59). -/
def State.gpioDrive (s : State) (pin : Nat) (level : Bool) : State :=
  let old := s.pos.gpio.getLsbD pin
  let m := BitVec.ofNat 16 (2 ^ pin)
  let g := if level then s.pos.gpio ||| m else s.pos.gpio &&& ~~~m
  let s := { s with pos := { s.pos with gpio := g, pulses := s.pos.pulses.set none pin none } }
  if old = level then s else s.emit (.gpio pin level)

/-- The output-image bytes of an output write: what was written, and every forced byte of the output areas (step 4 of R340,
R357). -/
def State.outMerge (s : State) (w : SMap Byte) : SMap Byte :=
  s.cyc.forces.foldl (fun w f => if f.base < imgAt 0x81 0 then w else
    (List.range (forceLen f.width)).foldl (fun w k =>
      let a := f.base + k
      SMap.insert w a (s.forced a ((SMap.find w a).getD (s.cyc.img.byte a)))) w) w

/-- PFLAG_RAISE (R346): the program flags of a context that rise. -/
def State.pflagRaise (s : State) (n : Nat) (old new : BitVec 16) : State :=
  s.each ((List.range 16).filter (fun k => new.getLsbD k && !old.getLsbD k)) (fun s k => s.seqInput n (0x10 + k))

/-- The program flags of a context in the output image. -/
def State.pflagsOf (s : State) (n : Nat) : BitVec 16 := BitVec.ofNat 16 (bytesNat (s.cyc.img.read (imgAt 0x86 (2 * n)) 2))

/-- Some written byte lies in [off, off + len) of an area. -/
def wrote (w : SMap Byte) (area off len : Nat) : Bool :=
  w.any (fun e => decide (imgAt area off ≤ e.1) && decide (e.1 < imgAt area (off + len)))

/-- The elements of 64 bytes or other size `k` of an area that a write touches. -/
def touched (w : SMap Byte) (area k : Nat) : List Nat :=
  ((w.filter (fun e => decide (imgAt area 0 ≤ e.1) && decide (e.1 < imgAt (area + 1) 0))).map (fun e => (e.1 - imgAt area 0) / k)).dedup

/-- An output write reaches a slot's entry in area 0x82 or 0x83: what the entry held before it is kept, for a frame of a slot that
starts before the write is complete (R396). -/
def State.sbWrote (s : State) (c slot : Nat) : State :=
  s.modSb c (fun b =>
    let was := if b.wrote.contains slot then some (s.cyc.img.read (imgAt (0x82 + c) (64 * slot)) 64) else none
    { b with wrote := if b.wrote.contains slot then b.wrote else b.wrote ++ [slot],
             outs := b.outs.set [] slot (((s.now, was) :: b.outs.get [] slot).take 4) })

/-- An output write passes bytes to their destinations (step 5 of R340, R374). A write of Kiln requests only the CAN buffers whose
bytes it touches (R424). -/
def State.deliver (s : State) (w : SMap Byte) (fromKiln : Bool) : State :=
  let ctxs := touched w 0x86 2
  let old := ctxs.map (fun n => (n, s.pflagsOf n))
  let s := s.each [0, 1] (fun s c => (touched w (0x82 + c) 64).foldl (fun s k => s.sbWrote c k) s)
  let s := { s with cyc := { s.cyc with img := w.foldl (fun (m : Mem) (e : Nat × Byte) => Mem.setByte m e.1 e.2) s.cyc.img } }
  let s := s.each ((List.range 16).filter (fun p => wrote w 0x81 (p / 8) 1))
    (fun s p => s.gpioDrive p ((s.cyc.img.byte (imgAt 0x81 (p / 8))).getLsbD (p % 8)))
  let s := s.each ((List.range 8).filter (fun n => wrote w 0x85 (4 * n) 2)) (fun s n => s.loopWrite n fromKiln)
  let s := old.foldl (fun s e => s.pflagRaise e.1 e.2 (s.pflagsOf e.1)) s
  if fromKiln then
    (s.each (touched w 0x84 64) (fun s k => s.canProgram (k / 32) (k % 32))).each (List.range 4) State.canStart
  else s.canOutputs

end Sys2Proof.Machine
end

