-- ==== Sys2Proof/Machine/Kiln.lean ====
section
/-!
DEFINITION. The Kiln loop engine: rate groups (R365, R366), loop entries (R367, R368), sources (R369, R370), modes (R371), the
arithmetic (R372, R373), outputs (R374), relay auto-tune (R375 to R378) and takeover (R379, R380).
-/
namespace Sys2Proof.Machine

/-- Loop `n`. -/
def State.kloop (s : State) (n : Nat) : KLoop := s.kiln.loop.get {} n
/-- Replace loop `n`. -/
def State.setKloop (s : State) (n : Nat) (l : KLoop) : State := { s with kiln := { s.kiln with loop := s.kiln.loop.set {} n l } }
/-- Change loop `n`. -/
def State.modKloop (s : State) (n : Nat) (f : KLoop → KLoop) : State := s.setKloop n (f (s.kloop n))
/-- Rate group `g`. -/
def State.kgrp (s : State) (g : Nat) : KGroup := s.kiln.grp.get {} g
/-- Replace rate group `g`. -/
def State.setKgrp (s : State) (g : Nat) (x : KGroup) : State := { s with kiln := { s.kiln with grp := s.kiln.grp.set {} g x } }

/-- Word `k` of an entry in force. -/
def KLoop.w (l : KLoop) (k : Nat) : Word := nthW l.entry k
/-- A signed word of an entry. -/
def KLoop.i32 (l : KLoop) (k : Nat) : Int := (l.w k).toInt
/-- EN of an entry. -/
def entryEn (e : List Word) : Bool := bit (nthW e 0) 0
/-- GROUP of an entry. -/
def entryGroup (e : List Word) : Nat := bits (nthW e 0) 3 1

/-- Kiln runs (R379). -/
def State.kilnRuns (s : State) : Bool := s.domOn 7 && s.flag Reg.KILN_CTRL 0 && s.twin.role != .standby

/-- An output clamped to the limits of its entry. -/
def KLoop.clamp (l : KLoop) (v : Int) : Int := clampI v (l.i32 8) (l.i32 9)

/-- Bytes that an image type occupies (R367). -/
def typeLen (t : Nat) : Nat := if t = 2 then 4 else 2

/-! Entries. -/

/-- Initialise a loop (R368). -/
def KLoop.init (l : KLoop) : KLoop :=
  { l with mode := bits (l.w 0) 17 16, req := none, first := true, uInit := some (l.clamp (l.i32 10)), i := 0, d := 0, x := 0, u := 0,
           sp := l.i32 3, spNew := none, bad := false, forced := false, out := none }

/-- A written entry takes effect (R367, R368). -/
def KLoop.take (l : KLoop) : KLoop :=
  match l.pend with
  | none => l
  | some e =>
    let was := entryEn l.entry
    let same := was && entryGroup l.entry == entryGroup e && bits (l.w 0) 5 4 == bits (nthW e 0) 5 4
      && l.w 1 == nthW e 1 && bits (l.w 0) 13 12 == bits (nthW e 0) 13 12 && l.w 2 == nthW e 2
    let l := { l with entry := e, pend := none }
    if !entryEn e then { l with out := none } else if same then l else l.init

/-- A source or destination address lies inside an area of R345. -/
def imgOk (addr : Word) (len : Nat) (output : Bool) : Bool :=
  let area := bits addr 31 24
  decide (bits addr 23 3 + len ≤ areaSize area) && (!output || decide (0x81 ≤ area))

/-- The setpoint destinations that lead on from a loop, with the entry `e` for loop `n`, come back to `n` (R382). -/
def State.kilnCircle (s : State) (n : Nat) (e : List Word) : Nat → Nat → Bool
  | 0, _ => false
  | f + 1, m =>
    let x := if m = n then e else let l := s.kloop m; l.pend.getD l.entry
    if entryEn x && bits (nthW x 0) 13 12 == 2 then
      let t := bits (nthW x 2) 8 0
      t == n || s.kilnCircle n e f t
    else false

/-- An entry that is a host error (R382). -/
def State.kilnBad (s : State) (n : Nat) (e : List Word) : Bool :=
  let w := nthW e 0
  let src := bits w 5 4
  let dst := bits w 13 12
  entryEn e &&
    (src == 3 || bits w 7 6 == 3 || dst == 3 || bits w 15 14 == 3 || bits w 17 16 == 3
      || (src == 0 && !imgOk (nthW e 1) (typeLen (bits w 7 6)) false)
      || (src == 1 && decide (7 < (nthW e 1).toNat)) || (src == 2 && decide (255 < (nthW e 1).toNat))
      || (dst == 1 && !imgOk (nthW e 2) (typeLen (bits w 15 14)) true)
      || (dst == 2 && s.kilnCircle n e 512 n)
      || decide ((nthW e 9).toInt < (nthW e 8).toInt))

/-! Relay auto-tune. -/

/-- KILN_TUNE_STATUS (R384): its low bits, the cycles measured and a reason. The cycles field has four bits, so 16 shows as 0 (log
entry 130). -/
def tuneStatus (low n reason : Nat) : Word := wd (low + n % 16 * 8 + reason * 256)

/-- The tune ends without a result (R378): the loop returns to its mode before, at output u0. -/
def State.tuneAbort (s : State) (reason : Nat) : State :=
  match s.kiln.tune with
  | none => s
  | some t =>
    let s := s.modKloop t.loop (fun l => { l with mode := t.prev, uInit := some t.u0 })
    let s := { s with kiln := { s.kiln with tune := none } }
    let s := (s.wr Reg.KILN_TUNE_STATUS (tuneStatus 4 t.n reason)).orW Reg.KILN_FAULTS 8
    s.raise 0x0C05 0 [wd t.loop, wd reason]

/-- The tune in progress is of this loop. -/
def State.tuning (s : State) (n : Nat) : Bool := s.kiln.tune.any (fun t => t.loop == n)

/-- π as a quotient. -/
def piNum : Nat := 31415926535897932385
/-- π as a quotient. -/
def piDen : Nat := 10000000000000000000

/-- The coefficients of a rule (R377): numerators of c_P, c_I and c_D, and their common denominator (log entry 60). -/
def State.tuneRule (s : State) : Int × Int × Int × Int :=
  match s.fld Reg.KILN_TUNE_CFG 15 13 with
  | 0 => (6000, 5000, 1250, 10000)
  | 1 => (4500, 8333, 0, 10000)
  | 2 => (3125, 22000, 0, 10000)
  | 3 => (4545, 22000, 1587, 10000)
  | 4 => (3333, 5000, 3333, 10000)
  | 5 => (2000, 5000, 3333, 10000)
  | _ => ((s.rd Reg.KILN_TUNE_UCP).toInt, (s.rd Reg.KILN_TUNE_UCI).toInt, (s.rd Reg.KILN_TUNE_UCD).toInt, 65536)

/-- A quotient rounded to nearest in a 32-bit register; where it has no value, or none in 32 bits, the manual gives none and
it is free (log entry 61). -/
def State.putQuot (s : State) (off : Nat) (num den : Int) : State :=
  let (num, den) := if den < 0 then (-num, -den) else (num, den)
  let q := divHalfUp num den
  if den = 0 || q < -2147483648 || 2147483647 < q then s.free.2.wr off (lo32 s.free.1) else s.wr off (wi q)

/-- The tune's measurements are complete (R376 to R378). -/
def State.tuneDone (s : State) (t : Tune) : State :=
  let pu := t.sumT / t.n
  let a := (t.sumHi - t.sumLo) * 65536 / (2 * t.n)
  let h := (s.rd Reg.KILN_TUNE_H).toInt
  if a ≤ h * 65536 then { s with kiln := { s.kiln with tune := some t } }.tuneAbort 7 else
  let d := (s.rd Reg.KILN_TUNE_D).toInt
  let kn := 4 * d * piDen * 65536
  let kd := (piNum : Int) * a
  let (cp, ci, cd, den) := s.tuneRule
  let s := (s.wr Reg.KILN_TUNE_PU (wd pu)).wr Reg.KILN_TUNE_A (wi a)
  let s := s.putQuot Reg.KILN_TUNE_KU (kn * 65536) kd
  let s := s.putQuot Reg.KILN_TUNE_KP (cp * kn * 65536) (den * kd)
  let s := s.putQuot Reg.KILN_TUNE_KI (cp * kn * 65536 * 1000000) (kd * ci * pu)
  let s := if cd = 0 then s.wr Reg.KILN_TUNE_KD 0 else s.putQuot Reg.KILN_TUNE_KD (cp * kn * 65536 * cd * pu) (den * kd * den * 1000000)
  let apply := s.flag Reg.KILN_TUNE_CFG 16
  let gains := [s.rd Reg.KILN_TUNE_KP, s.rd Reg.KILN_TUNE_KI, s.rd Reg.KILN_TUNE_KD]
  let s := s.modKloop t.loop (fun l =>
    if apply then { l with entry := (padTo 13 0 l.entry).take 4 ++ gains ++ (padTo 13 0 l.entry).drop 7, mode := 2, uInit := some t.u0 }
    else { l with mode := t.prev, uInit := some t.u0 })
  let s := ({ s with kiln := { s.kiln with tune := none } }).wr Reg.KILN_TUNE_STATUS (tuneStatus 2 t.n 0)
  s.raise 0x0C04 0 [wd t.loop, s.rd Reg.KILN_TUNE_KU, wd (pu / 1000)]

/-- The relay at a tune sample (R376): what is measured and where the relay then stands. Answers the tune and whether N cycles
are measured. -/
def State.tuneSample (s : State) (t : Tune) (e pv : Int) : Tune × Bool :=
  let h := (s.rd Reg.KILN_TUNE_H).toInt
  match t.high with
  | none => ({ t with high := some (decide (0 ≤ e)) }, false)
  | some old =>
    let high := if h < e then true else if e < -h then false else old
    let t := { t with high := some high }
    if high && !old then
      match t.from_ with
      | none => ({ t with from_ := some s.now, maxPv := pv, minPv := pv }, false)
      | some f =>
        let t := { t with n := t.n + 1, sumT := t.sumT + (s.now - f).toNat / 1000, sumHi := t.sumHi + t.maxPv,
                          sumLo := t.sumLo + t.minPv, from_ := some s.now, maxPv := pv, minPv := pv }
        (t, decide (s.fld Reg.KILN_TUNE_CFG 12 9 ≤ t.n))
    else ({ t with maxPv := max t.maxPv pv, minPv := min t.minPv pv }, false)

/-! Sampling. -/

/-- The process value of a loop (R369), none while its source is invalid (R370). -/
def State.kilnPv (s : State) (l : KLoop) : Option Int :=
  let src := l.w 1
  match bits (l.w 0) 5 4 with
  | 0 =>
    let t := bits (l.w 0) 7 6
    let v := bytesNat (s.inBytes (bits src 31 24) (bits src 23 3) (typeLen t))
    some (if t = 1 then v else sx (8 * typeLen t) v)
  | 1 => if s.loopValid (bits src 2 0) then some (s.loopOf (bits src 2 0)).current else none
  | _ =>
    let ch := bits src 5 0
    let k := bits src 7 6
    if s.domOn (chDom ch) && (s.hlOf ch).state == .up then
      some (sx 16 (bits (s.rd (if k < 2 then Reg.HL_TEMP01 ch else Reg.HL_TEMP23 ch)) (16 * (k % 2) + 15) (16 * (k % 2))))
    else none

/-- Some bit of a loop's image destination is forced (R373). -/
def State.kilnForced (s : State) (l : KLoop) : Bool :=
  bits (l.w 0) 13 12 == 1 && s.anyForced (imgAt (bits (l.w 2) 31 24) (bits (l.w 2) 23 3)) (typeLen (bits (l.w 0) 15 14))

/-- sat62 of R372. -/
def sat62 (x : Int) : Int := clampI x (-(2 ^ 62)) (2 ^ 62)

/-- One computation (R372, R373, R378): `tus` is Ts in µs, `relay` the relay's output in TUNE. -/
def KLoop.compute (l : KLoop) (pv : Int) (tus : Nat) (relay : Int) : KLoop :=
  let rev := bit (l.w 0) 8
  let e := if rev then pv - l.sp else l.sp - pv
  let x := if bit (l.w 0) 9 then e else if rev then pv else -pv
  let p := l.i32 4 * e
  let d := if l.first then l.d else
    let dr := (l.i32 6 * (x - l.x) * 1000000).tdiv tus
    l.d + ((dr - l.d) * tus).tdiv (bits (l.w 7) 23 0 + tus : Nat)
  let (u, i) :=
    if l.mode = 2 then
      let hold := decide (l.u ≤ l.i32 8) || decide (l.i32 9 ≤ l.u) || l.forced
      let i := match l.uInit with
        | some v => v * 65536 - p - d
        | none => if hold || l.first then l.i else sat62 (l.i + (l.i32 5 * e * tus).tdiv 1000000)
      (l.clamp (asr (p + i + d + 0x8000) 16), i)
    else
      let u := l.clamp (if l.mode = 1 then l.i32 12 else relay)
      (u, sat62 (u * 65536 - p - d))
  { l with d := d, i := i, u := u, x := x, first := false, uInit := none, out := some u }

/-- A sample with an invalid source (R370). -/
def State.kilnInvalid (s : State) (n : Nat) : State :=
  let s := if s.tuning n then s.tuneAbort 4 else s
  let l := s.kloop n
  let out := if l.mode = 0 then none else if bit (l.w 0) 10 then some (l.i32 11) else if l.wrote then some l.lastOut else none
  let s := s.setKloop n { l with bad := true, first := true, out := out, count := l.count + 1 }
  if l.bad then s else (s.orW Reg.KILN_FAULTS 4).raise 0x0C02 0 [wd n]

/-- A mode command takes effect at a sample (R371, R383). -/
def State.kilnMode (s : State) (n : Nat) : State :=
  let l := s.kloop n
  match l.req with
  | none => s
  | some m =>
    let l' := { l with mode := m, req := none }
    let l' := if l.mode = 0 && m ≠ 0 then { l' with first := true, uInit := some (if l.wrote then l.lastOut else l.i32 10) } else l'
    (s.setKloop n l').raise 0x0C06 0 [wd n, wd l.mode, wd m]

/-- A sample with a valid source (R369 to R378). -/
def State.kilnValid (s : State) (n : Nat) (pv : Int) (first : Nat) : State :=
  let s := if (s.kloop n).bad then (s.modKloop n (fun l => { l with bad := false })).raiseE 0x0C03 0 [wd n] else s
  let s := s.modKloop n (fun l => { l with forced := s.kilnForced l, pv := pv })
  let s := if !s.tuning n then s
    else if (s.kloop n).forced then s.tuneAbort 6
    else if pv < (s.rd Reg.KILN_TUNE_LO).toInt || (s.rd Reg.KILN_TUNE_HI).toInt < pv then s.tuneAbort 1
    else s
  let l := s.kloop n
  let tus := if l.first then first else min 4000000 ((s.now - l.last).toNat / 1000)
  let l := { l with last := s.now, ts := tus, count := l.count + 1 }
  if l.mode = 0 then s.setKloop n { l with out := none }
  else match s.kiln.tune, s.tuning n with
    | some t, true =>
      let (t, done) := s.tuneSample t (if bit (l.w 0) 8 then pv - l.sp else l.sp - pv) pv
      let d := (s.rd Reg.KILN_TUNE_D).toInt
      let s := s.setKloop n (l.compute pv tus (if t.high == some true then t.u0 + d else t.u0 - d))
      let s := ({ s with kiln := { s.kiln with tune := some t } }).wr Reg.KILN_TUNE_STATUS (tuneStatus 1 t.n 0)
      if done then s.tuneDone t else s
    | _, _ => s.setKloop n (l.compute pv tus 0)

/-- KILN_SAMPLE (R366, R367, R369): the sample of one loop at a start of group `g`. -/
def State.kilnSample (s : State) (g n : Nat) : State :=
  let l := s.kloop n
  let l := match l.pend with
    | some e => if entryGroup e = g || (!entryEn e && entryGroup l.entry = g) then l.take else l
    | none => l
  let s := s.setKloop n l
  if !entryEn l.entry || entryGroup l.entry ≠ g then s else
  let s := (s.kilnMode n).modKloop n (fun l => { l with sp := l.spNew.getD l.sp, spNew := none })
  match s.kilnPv (s.kloop n) with
  | none => s.kilnInvalid n
  | some pv => s.kilnValid n pv (if s.flag (Reg.KILN_GRP_CFG g) 16 then 0 else s.fld (Reg.KILN_GRP_CFG g) 15 0 * 50)

/-! Rate groups. -/

/-- Number of the last start of a time group at or before a corrected time (R365). -/
def State.kilnIdx (s : State) (g : Nat) (t : Nat) : Int :=
  ((t : Int) - s.fld (Reg.KILN_GRP_PHASE g) 23 0 * 1000).fdiv (s.fld (Reg.KILN_GRP_CFG g) 15 0 * 50000)

/-- Starts of a group are lost (R365): counted, and raised once per run. -/
def State.kilnLost (s : State) (g k why : Nat) : State :=
  if k = 0 then s else
  let s := (s.bumpBy (Reg.KILN_GRP_LOST g) k).orW Reg.KILN_FAULTS 2
  let x := s.kgrp g
  if x.lost then s else (s.setKgrp g { x with lost := true }).raise 0x0C01 0 [wd g, wd why]

/-- A start is taken (R366): every enabled loop of the group samples and is computed; the outputs follow 100 µs later. -/
def State.kilnStart (s : State) (g : Nat) : State :=
  let s := s.bumpWrap (Reg.KILN_GRP_COUNT g)
  let s := s.each (s.kiln.loop.map Prod.fst) (fun s n => s.kilnSample g n)
  s.setKgrp g { s.kgrp g with outAt := some (s.now + 100000) }

/-- Scheduler action 2 (R66, R365). -/
def State.kilnAction (s : State) (g : Nat) : State :=
  let c := s.rd (Reg.KILN_GRP_CFG g)
  if !s.kilnRuns || s.pllLost .control || !bit c 16 || !bit c 17 || (s.kgrp g).outAt.isSome then s.kilnLost g 1 0
  else (s.setKgrp g { s.kgrp g with lost := false }).kilnStart g

/-- KILN_GROUP_START (R365, R366): a time group reaches a start, after the output write of its previous one; starts stepped over
are lost. -/
def execKilnGroupStart (g : Nat) (s : State) : Host.Outcome State Fault Refusal :=
  let c := s.rd (Reg.KILN_GRP_CFG g)
  let x := s.kgrp g
  let k := s.kilnIdx g s.now.toNat
  if !s.kilnRuns || s.pllLost .control || bit c 16 || !bit c 17 || x.outAt.isSome || k ≤ x.last then .next s
  else
    let passed := (k - x.last - 1).toNat
    let s := s.setKgrp g { x with last := k, lost := x.lost && passed ≠ 0 }
    .next ((s.kilnLost g passed 1).kilnStart g)

/-- The bytes of an image destination (R374): saturated to its type, with forces applied (R347). -/
def State.kilnBytes (s : State) (l : KLoop) (v : Int) : List (Nat × Byte) :=
  let t := bits (l.w 0) 15 14
  let v := match t with
    | 0 => clampI v (-32768) 32767
    | 1 => clampI v 0 65535
    | _ => v
  let a := imgAt (bits (l.w 2) 31 24) (bits (l.w 2) 23 3)
  let b := natBytes (typeLen t) (v % 2 ^ 32).toNat
  (List.range b.length).map (fun k => (a + k, s.forced (a + k) (b.getD k 0)))

/-- A loop's 64 bytes in a checkpoint (R379). -/
def State.kilnCk (s : State) (n : Nat) : List Byte :=
  let l := s.kloop n
  let t := s.kiln.tune.filter (fun t => t.loop == n)
  let w64 := fun (x : Int) => natBytes 8 (x % 2 ^ 64).toNat
  natBytes 2 n ++ natBytes 1 (l.mode + (t.map Tune.prev).getD 0 * 4) ++ natBytes 1 (l.forced.toNat + l.bad.toNat * 2)
    ++ natBytes 4 (l.u % 2 ^ 32).toNat ++ w64 l.i ++ w64 l.d ++ w64 l.x ++ natBytes 4 (l.sp % 2 ^ 32).toNat
    ++ natBytes 8 l.last.toNat ++ natBytes 4 ((t.map Tune.u0).getD 0 % 2 ^ 32).toNat ++ List.replicate 16 0

/-- One loop's output is written to a setpoint, and recorded (R374, R379). -/
def State.kilnPut (s : State) (n : Nat) : State :=
  let l := s.kloop n
  match l.out with
  | none => s
  | some v =>
    let s := s.setKloop n { l with out := none, wrote := true, lastOut := v }
    let s := if bits (l.w 0) 13 12 = 2 then s.modKloop (bits (l.w 2) 8 0) (fun m => { m with spNew := some v }) else s
    s.modKloop n (fun m => { m with ck := s.kilnCk n })

/-- KILN_OUTPUT_WRITE (R366, R374): 100 µs after the start every loop's output is written. -/
def execKilnOutputWrite (g : Nat) (s : State) : Host.Outcome State Fault Refusal :=
  let x := s.kgrp g
  match x.outAt with
  | none => .next s
  | some t =>
    if !s.kilnRuns || s.pllLost .control || s.now.toNat < t.toNat then .next s else
    let ns := (s.kiln.loop.map Prod.fst).filter (fun n => let l := s.kloop n; entryGroup l.entry == g && l.out.isSome)
    let w := ns.foldl (fun (w : SMap Byte) n =>
      let l := s.kloop n
      if bits (l.w 0) 13 12 = 1 then (s.kilnBytes l (l.out.getD 0)).foldl (fun w e => SMap.insert w e.1 e.2) w else w) ([] : SMap Byte)
    let s := s.each ns State.kilnPut
    let s := s.setKgrp g { x with outAt := none }
    .next (if w = [] then s else s.deliver w true)

/-! Commands. -/

/-- A write of KILN_CMD reaches Kiln. -/
def State.kilnCmd (s : State) (f : Nat → State → Host.Outcome State Fault Refusal) : Host.Outcome State Fault Refusal :=
  match s.dropped Reg.KILN_CMD with
  | some t => .next t
  | none => f (s.fld Reg.KILN_INDEX 8 0) s

/-- Set KILN_RESULT. -/
def State.kilnResult (s : State) (r : Nat) : State := s.wr Reg.KILN_RESULT (wd r)

/-- KILN_CMD_WRITE (R367, R378, R382): the entry of the window waits for the next sample of its group. -/
def execKilnCmdWrite (s : State) : Host.Outcome State Fault Refusal :=
  s.kilnCmd (fun n s =>
    let e := (List.range 13).map (fun k => s.rd (Reg.KILN_W k))
    if s.kilnBad n e then .next (s.hostError 382) else
    let s := if s.tuning n then s.tuneAbort 3 else s
    .next ((s.modKloop n (fun l => { l with pend := some e })).kilnResult 0))

/-- KILN_CMD_READ (R384): entry and state of the loop. -/
def execKilnCmdRead (s : State) : Host.Outcome State Fault Refusal :=
  s.kilnCmd (fun n s =>
    let l := s.kloop n
    let e := padTo 16 0 (l.pend.getD l.entry)
    let lim := decide (l.u ≤ l.i32 8) || decide (l.i32 9 ≤ l.u)
    let s := s.each (List.range 16) (fun s k => s.wr (Reg.KILN_W k) (nthW e k))
    let s := s.wr Reg.KILN_ST0 (wd (l.mode + l.forced.toNat * 4 + l.bad.toNat * 8 + lim.toNat * 16))
    let s := ((s.wr Reg.KILN_ST1 (wi l.pv)).wr Reg.KILN_ST2 (wi l.sp)).wr Reg.KILN_ST3 (wi l.lastOut)
    let s := s.wr64 Reg.KILN_ST4 (BitVec.ofInt 64 l.i)
    .next (((s.wr Reg.KILN_ST6 (wd l.ts)).wr Reg.KILN_ST7 l.count).kilnResult 0))

/-- A mode command (R371, R378): it ends a tune of the loop, and acts at the next sample. -/
def State.kilnReq (s : State) (m : Nat) : Host.Outcome State Fault Refusal :=
  s.kilnCmd (fun n s =>
    let s := if s.tuning n then s.tuneAbort 3 else s
    .next ((s.modKloop n (fun l => { l with req := some m })).kilnResult 0))

/-- KILN_MANUAL (R371). -/
def execKilnManual (s : State) : Host.Outcome State Fault Refusal := s.kilnReq 1

/-- KILN_AUTO (R371). -/
def execKilnAuto (s : State) : Host.Outcome State Fault Refusal := s.kilnReq 2

/-- KILN_OFF (R371). -/
def execKilnOff (s : State) : Host.Outcome State Fault Refusal := s.kilnReq 0

/-- KILN_TUNE_START (R375): refused while another tune runs, for a loop that is OFF, or beyond the output limits. -/
def execKilnTuneStart (s : State) : Host.Outcome State Fault Refusal :=
  s.kilnCmd (fun _ s =>
    let n := s.fld Reg.KILN_TUNE_CFG 8 0
    let l := s.kloop n
    let d := (s.rd Reg.KILN_TUNE_D).toInt
    if s.kiln.tune.isSome then .next (s.kilnResult 1)
    else if !entryEn l.entry || l.mode = 0 then .next (s.kilnResult 2)
    else if l.i32 9 < l.u + d || l.u - d < l.i32 8 then .next (s.kilnResult 3)
    else
      let t : Tune := { loop := n, u0 := l.u, prev := l.mode, start := s.now }
      let s := (s.setKloop n { l with mode := 3, req := none }).wr Reg.KILN_TUNE_STATUS 1
      .next ({ s with kiln := { s.kiln with tune := some t } }.kilnResult 0))

/-- KILN_TUNE_CANCEL (R378). -/
def execKilnTuneCancel (s : State) : Host.Outcome State Fault Refusal :=
  s.kilnCmd (fun _ s => .next ((s.tuneAbort 3).kilnResult 0))

/-- KILN_TUNE_TIMEOUT (R378): KILN_TUNE_LIMIT seconds have passed. -/
def execKilnTuneTimeout (s : State) : Host.Outcome State Fault Refusal :=
  match s.kiln.tune with
  | none => .next s
  | some t => .next (if s.kilnRuns && !s.pllLost .control && decide (t.start.toNat + s.fld Reg.KILN_TUNE_LIMIT 15 0 * 1000000000 ≤ s.now.toNat) then s.tuneAbort 2 else s)

/-- Time groups begin with their first start at or after now (R365, R380). -/
def State.kilnGroups (s : State) : State :=
  s.each (List.range 8) (fun s g => s.setKgrp g { last := s.kilnIdx g (s.now.toNat - 1), outAt := none, lost := false })

/-- KILN_ENABLE (R368): KILN_CTRL.EN goes from 0 to 1; every enabled loop is initialised. -/
def execKilnEnable (s : State) : Host.Outcome State Fault Refusal :=
  .next (s.gated Reg.KILN_CTRL (fun s =>
    if s.flag Reg.KILN_CTRL 0 then s else
    let s := s.setF Reg.KILN_CTRL 0 0 1
    (s.each (s.kiln.loop.map Prod.fst) (fun s n => s.modKloop n (fun l => if entryEn l.entry then l.init else l))).kilnGroups))

/-- Kiln stops (R378, R379): EN is cleared, or the unit demotes; no output write follows. -/
def State.kilnStop (s : State) (reason : Nat) : State :=
  let s := s.tuneAbort reason
  let s := s.each (s.kiln.loop.map Prod.fst) (fun s n => s.modKloop n (fun l => { l with out := none }))
  s.each (List.range 8) (fun s g => s.setKgrp g { s.kgrp g with outAt := none })

/-- Kiln resumes at takeover (R380): the first sample of each loop is a first sample that carries I and D. -/
def State.kilnResume (s : State) : State :=
  let s := s.each (s.kiln.loop.map Prod.fst) (fun s n => s.modKloop n (fun l => { l with first := true, uInit := none }))
  (s.tuneAbort 5).kilnGroups

/-- A loop's state is loaded from its 64 bytes of a checkpoint (R317, R380). -/
def State.kilnLoad (s : State) (b : List Byte) : State :=
  let n := leAt b 0 2 % 512
  let m := leAt b 2 1
  let s := s.modKloop n (fun l =>
    let l := { l with mode := m % 4, forced := bit (wd (leAt b 3 1)) 0, bad := bit (wd (leAt b 3 1)) 1, u := sx 32 (leAt b 4 4) }
    let l := { l with i := sx 64 (leAt b 8 8), d := sx 64 (leAt b 16 8), x := sx 64 (leAt b 24 8), sp := sx 32 (leAt b 32 4) }
    { l with last := BitVec.ofNat 64 (leAt b 36 8), wrote := true, lastOut := sx 32 (leAt b 4 4), ck := b })
  if m % 4 = 3 then
    let t : Tune := { loop := n, u0 := sx 32 (leAt b 44 4), prev := m / 4 % 4 }
    { s with kiln := { s.kiln with tune := some t } }
  else if s.tuning n then { s with kiln := { s.kiln with tune := none } } else s

end Sys2Proof.Machine
end

