-- ==== Sys2Proof/Machine/Cycle.lean ====
section
/-!
DEFINITION. The cycle engine: program images (R334 to R337), periods and output writes (R338 to R340), overrun and watchdog (R341,
R342), compatibility tasks (R343, R344), starts and stops (R351 to R354), forces (R355, R356), on-line change (R357, R358) and
checkpoints (R315 to R317).
-/
namespace Sys2Proof.Machine

/-- Change the engine. -/
def State.modCyc (s : State) (f : Cyc → Cyc) : State := { s with cyc := f s.cyc }
/-- Task `t`'s run. -/
def State.taskRun (s : State) (t : Nat) : TaskRun := s.cyc.task.get {} t
/-- Replace task `t`'s run. -/
def State.setRun (s : State) (t : Nat) (r : TaskRun) : State := s.modCyc (fun c => { c with task := c.task.set {} t r })
/-- Change task `t`'s run. -/
def State.modRun (s : State) (t : Nat) (f : TaskRun → TaskRun) : State := s.setRun t (f (s.taskRun t))

/-- Task entry `t` of a program. -/
def Program.task (p : Program) (t : Nat) : Task := p.tasks.getD t {}
/-- The enabled tasks of a program. -/
def Program.enabled (p : Program) : List Nat := (List.range 24).filter (fun t => (p.task t).en)
/-- P in ns. -/
def Program.ns (p : Program) : Nat := p.period * 10000
/-- The period of a cyclic task in ns. -/
def Program.taskNs (p : Program) (t : Nat) : Nat := (p.task t).mult * p.ns
/-- The core that a task runs on. -/
def Program.coreOf (p : Program) (t : Nat) : Nat := if p.compat then (p.task t).core else t

/-- Number of the last boundary of a task at or before a corrected time (R338). -/
def State.cycIdx (s : State) (p : Program) (t time : Nat) : Int :=
  ((time : Int) - s.fld Reg.CYC_PHASE 23 0 * 1000).fdiv (p.taskNs t)

/-- Corrected time of a boundary of a task. -/
def State.cycTime (s : State) (p : Program) (t : Nat) (k : Int) : DWord :=
  BitVec.ofInt 64 (k * p.taskNs t + s.fld Reg.CYC_PHASE 23 0 * 1000)

/-- The cycle number: core 0's count of cycles started (R337). -/
def State.cycleNo (s : State) : Word := s.rd (Reg.CYC_COUNT 0)

/-- Every core is idle: no logic runs and no output write is due. -/
def State.cycIdle (s : State) : Bool := s.cyc.task.all (fun e => e.2.job.isNone && e.2.outAt.isNone && !e.2.late)

/-- Report a command in CYC_RESULT. -/
def State.cycResult (s : State) (cmd r : Nat) (done : Bool) : State := s.wr Reg.CYC_RESULT (wd (r + cmd * 256 + done.toNat * 4096))

/-! Stopping. -/

/-- A change that cannot take place ends with CHANGE_NO_GAP (R357, R360). -/
def State.changeCancel (s : State) : State :=
  if s.cyc.change.isNone then s
  else ((s.modCyc (fun c => { c with change := none })).cycResult 5 9 true).raise 0x0B07 0 [9]

/-- The cores stop at the current instruction: nothing that they computed is written. -/
def State.coresStop (s : State) : State :=
  s.modCyc (fun c => { c with task := c.task.map (fun e =>
    (e.1, { e.2 with job := none, outs := [], outAt := none, late := false, ovrRun := false })), shared := [], stopReq := false })

/-- The engine enters STOPPED. -/
def State.cycStopped (s : State) : State :=
  ((s.coresStop.modCyc (fun c => { c with state := .stopped, cause := 0 })).raise 0x0B02 0 [s.cycleNo]).loopsStop

/-- A STOP is complete once every core's current cycle has ended (R351). -/
def State.cycStopCheck (s : State) : State := if s.cyc.stopReq && s.cycIdle then s.cycStopped else s

/-- CYC_HALT (R341, R342): every core stops, and the engine enters HALTED. -/
def State.cycHalt (s : State) (cause core : Nat) : State :=
  let s := s.changeCancel.coresStop.modCyc (fun c => { c with state := .halted, cause := cause })
  (s.raise 0x0B03 0 [wd cause, wd core, s.cycleNo]).loopsStop

/-- The engine enters STANDBY at demotion (R322, R360). -/
def State.cycStandby (s : State) : State :=
  s.changeCancel.coresStop.modCyc (fun c => { c with state := .standby, cause := 0, start := none })

/-! Program images. -/

/-- A task entry from its two words. -/
def taskOf (a b : Word) : Task :=
  { core := bits a 1 0, en := bit a 2, event := bit a 3, prio := bits a 7 4, mult := bits a 14 8, ext := bit a 15,
    trig := bits a 23 16, out := bits b 23 0 }

/-- The program that a header declares. -/
def programOf (h : List Word) (rest : List Byte) : Program :=
  let p := bits (nthW h 4) 13 0
  { compat := bit (nthW h 1) 8, ident := dw (nthW h 2) (nthW h 3), period := if p = 0 then 100 else p,
    codeLen := (nthW h 5).toNat, varLen := (nthW h 6).toNat, retLen := (nthW h 7).toNat, timers := bits (nthW h 8) 15 0,
    tasks := (List.range 24).map (fun t => taskOf (nthW h (16 + 2 * t)) (nthW h (17 + 2 * t))), body := rest }

/-- The size checks of R336, order 2. -/
def imageTooLarge (h : List Word) (len : Nat) : Bool :=
  let code := (nthW h 5).toNat
  let vars := (nthW h 6).toNat
  decide (6291456 < code) || decide (2097152 < vars) || decide (524288 < (nthW h 7).toNat) || decide (4096 < bits (nthW h 8) 15 0)
    || decide (len < 256 + code + vars)

/-- TRIG is listed (R343). -/
def trigOk (t : Nat) : Bool := decide (t ≤ 0x23) || (decide (0x41 ≤ t) && decide (t ≤ 0x7F)) || (decide (0x80 ≤ t) && decide (t ≤ 0x87))

/-- The task rules of R337 and R343, and the ranges of R335. -/
def tasksOk (p : Program) : Bool :=
  let t0 := p.task 0
  let cyclic := fun (t : Nat) => let k := p.task t; !k.event && decide (1 ≤ k.mult) && decide (k.mult ≤ 100)
  t0.en && !t0.event && t0.mult == 1 &&
  (if p.compat then p.enabled.all (fun t => if t < 8 then cyclic t else (p.task t).event && trigOk (p.task t).trig)
   else !t0.ext && p.enabled.all (fun t => decide (t < 4) && cyclic t && (p.task t).core == t && decide (10 ≤ (p.task t).out)
     && decide ((p.task t).out * 1000 + 10000 ≤ p.taskNs t)))

/-- The reserved fields and ranges of a header (R335, R336). -/
def headerOk (h : List Word) : Bool :=
  let p := bits (nthW h 4) 13 0
  nthW h 0 == 0x0B646301 && bits (nthW h 1) 7 0 == 1 && nthW h 1 &&& 0xFFFFFE00 == 0 && nthW h 4 &&& 0xFFFFC000 == 0
    && nthW h 8 &&& 0xFFFF0000 == 0 && (p == 0 || (decide (10 ≤ p) && decide (p ≤ 10000))) && decide ((nthW h 7).toNat ≤ (nthW h 6).toNat)
    && (List.range 6).all (fun k => nthW h (10 + k) == 0)
    && (List.range 24).all (fun t => nthW h (16 + 2 * t) &&& 0xFF000000 == 0 && nthW h (17 + 2 * t) &&& 0xFF000000 == 0)

/-- The result of a load (R336): the first check that fails, in table order. -/
def loadResult (h : List Word) (len : Nat) (headerFault restFault : Bool) (rest : List Byte) : Nat :=
  if headerFault then 3
  else if imageTooLarge h len then 0x0A
  else if restFault then 3
  else if !headerOk h || !tasksOk (programOf h rest) || crc32c rest != nthW h 9 then 2
  else 0

/-- A write of CYC_CMD reaches the engine; while a LOAD is in progress it is refused with BUSY (R351). -/
def State.cycCmd (s : State) (cmd : Nat) (f : State → State) : State :=
  s.gated Reg.CYC_CMD (fun s =>
    if s.cyc.loading then
      let s := s.cycResult cmd 1 true
      if cmd = 5 then s.raise 0x0B07 0 [1] else s
    else f s)

/-- CYC_LOAD (R334, R336, R360): the image is read into the pending slot, the 256-byte header first. -/
def execCycLoad (s : State) : Host.Outcome State Fault Refusal :=
  .next (s.cycCmd 1 (fun s =>
    let s := s.changeCancel
    let img := ((s.rd64 Reg.CYC_PRG_ADDR).toNat, s.fld Reg.CYC_PRG_LEN 24 0)
    ((s.modCyc (fun c => { c with loading := true, image := img, pend := none })).cycResult 1 0 false).request .program img.1 256))

/-- The reads of a load (R336): those of the header, and after the size checks those of the rest. -/
def State.loadReads (s : State) (headerFault : Bool) (header : List Word) : State :=
  let s := s.readsDone .program
  let (a, len) := s.cyc.image
  if headerFault || imageTooLarge header len then s else (s.request .program (a + 256) (len - 256)).readsDone .program

/-- CYC_LOAD_DONE (R336): the checks in their order, on the CYC_PRG_LEN bytes of the image; an image that passes them is
pending. -/
def execCycLoadDone (headerFault : Bool) (header : List Word) (restFault : Bool) (rest : List Byte) (s : State) :
    Host.Outcome State Fault Refusal :=
  if !s.cyc.loading || !s.ctlRuns || s.readsWait .program then .next s else
  let len := s.cyc.image.2
  let rest := padTo (len - 256) 0 (rest.take (len - 256))
  let r := loadResult header len headerFault restFault rest
  let p := programOf header rest
  let s := (s.loadReads headerFault header).modCyc (fun c => { c with loading := false, pend := if r = 0 then some p else none })
  let id := if headerFault then 0 else p.ident
  .next ((s.cycResult 1 r true).raise 0x0B05 0 [wd r, lo32 id, hi32 id])

/-- CYC_DISCARD (R363): the pending slot is emptied. -/
def execCycDiscard (s : State) : Host.Outcome State Fault Refusal :=
  .next (s.cycCmd 6 (fun s => (s.changeCancel.modCyc (fun c => { c with pend := none })).cycResult 6 0 true))

/-! Starting and stopping. -/

/-- The timer table of a program, with every timer not running (R352), or as another table holds its keys and types (R358). -/
def timersOf (p : Program) (old : SMap Timer) : SMap Timer :=
  (((Config.timerKeys p.body).take p.timers).foldl (fun (m : SMap Timer × Nat) k =>
    let t : Timer := { w0 := k.1, w1 := wd k.2.toNat }
    let kept := (old.map Prod.snd).find? (fun o => o.w0 == k.1 && bits o.w1 1 0 == k.2.toNat)
    (m.1.set {} m.2 (kept.getD t), m.2 + 1)) (([], 0) : SMap Timer × Nat)).1

/-- The newer valid retained copy (R352, R353). -/
def Cyc.retained (c : Cyc) : Option RetCopy :=
  if c.retLast then (if c.ret1.isSome then c.ret1 else c.ret0) else (if c.ret0.isSome then c.ret0 else c.ret1)

/-- A Station Bus channel breaks the condition of R348 for a program. -/
def State.sbMismatch (s : State) (p : Program) : Bool :=
  [0, 1].any (fun c => s.flag (Reg.SB_CH_CFG c) 0 &&
    !(List.range 16).any (fun m => (m + 1) * s.fld (Reg.SB_CYCLE c) 23 0 == p.ns))

/-- START_COLD and START_WARM (R348, R351, R352). -/
def State.cycStartCmd (s : State) (warm : Bool) : State :=
  let cmd := if warm then 3 else 2
  s.cycCmd cmd (fun s =>
    let c := s.cyc
    if c.state == .running || c.state == .standby then s.cycResult cmd 4 true
    else match (if c.pend.isSome then c.pend else c.prog) with
    | none => s.cycResult cmd 5 true
    | some p =>
      if s.sbMismatch p then s.cycResult cmd 7 true
      else if warm && c.retained.isNone then (s.cycResult cmd 6 true).raise 0x0B09 0 []
      else if warm && c.retained.any (fun r => r.ident != p.ident) then s.cycResult cmd 6 true
      else
        let init := Config.initVars p.body
        let vars := match (if warm then c.retained else none) with
          | some r => r.data ++ init.drop p.retLen
          | none => init
        (s.modCyc (fun c => { c with prog := some p, pend := none, start := some (warm, s.now + 100000), vars := vars,
                                     timers := timersOf p [] })).cycResult cmd 0 true)

/-- CYC_START_COLD (R351, R352). -/
def execCycStartCold (s : State) : Host.Outcome State Fault Refusal := .next (s.cycStartCmd false)

/-- CYC_START_WARM (R351, R352). -/
def execCycStartWarm (s : State) : Host.Outcome State Fault Refusal := .next (s.cycStartCmd true)

/-- CYC_STOP (R351, R360). -/
def execCycStop (s : State) : Host.Outcome State Fault Refusal :=
  .next (s.cycCmd 4 (fun s =>
    match s.cyc.state with
    | .stopped => s.cycResult 4 0 true
    | .standby => s.cycResult 4 4 true
    | .halted => (s.cycResult 4 0 true).cycStopped
    | .running => ((s.changeCancel.cycResult 4 0 true).modCyc (fun c => { c with stopReq := true })).cycStopCheck))

/-- A pending program may replace the running one (R357). -/
def changeOk (p q : Program) : Bool :=
  p.compat == q.compat && p.period == q.period &&
    (List.range 24).all (fun t => let a := p.task t; let b := q.task t
      if (a.en && !a.event) || (b.en && !b.event) then a.en && b.en && a.event == b.event && a.core == b.core && a.mult == b.mult else true)

/-- CYC_CHANGE (R357). -/
def execCycChange (s : State) : Host.Outcome State Fault Refusal :=
  let fail := fun (s : State) (r : Nat) => (s.cycResult 5 r true).raise 0x0B07 0 [wd r]
  .next (s.cycCmd 5 (fun s =>
    match s.cyc.state, s.cyc.prog, s.cyc.pend with
    | .running, some p, some q =>
      if !changeOk p q then fail s 8
      else (s.modCyc (fun c => { c with change := some (s.now, 0) })).cycResult 5 0 false
    | .running, _, _ => fail s 5
    | _, _, _ => fail s 4))

/-! Periods. -/

/-- The engine enters RUNNING with the boundary of core 0 at a corrected time: every task's first boundary is at or after it. -/
def State.cycRun (s : State) (p : Program) (t0 : DWord) : State :=
  let s := s.coresStop.modCyc (fun c => { c with state := .running, cause := 0, start := none, idleAt := s.now })
  let s := s.each [0, 1] (fun s c => s.modSb c (fun b => { b with wrote := [], outs := [] }))
  s.each p.enabled (fun s t =>
    let k := s.cycIdx p t t0.toNat
    s.modRun t (fun r => { r with last := if s.cycTime p t k = t0 then k - 1 else k }))

/-- The engine enters RUNNING (R351, R321): after a START at a boundary of core 0 late enough, or at the first boundary at or
after a takeover. For a takeover the manual gives no ARG0, and it is free (log entry 63). -/
def State.cycEnter (s : State) : State :=
  match s.cyc.prog with
  | none => s
  | some p =>
    let t0 := s.cycTime p 0 (s.cycIdx p 0 s.now.toNat)
    match s.cyc.start with
    | some (warm, from_) =>
      if t0.toNat < from_.toNat then s else (s.cycRun p t0).raise 0x0B01 0 [bw warm, lo32 p.ident, hi32 p.ident]
    | none =>
      if s.cyc.state != .standby || !s.twin.ctrlStart || decide (t0.toNat < s.twin.tookAt.toNat) then s
      else
        let v := lo32 s.free.1
        let s := s.free.2.cycRun p t0
        ({ s with twin := { s.twin with ctrlStart := false } }).raise 0x0B01 0 [v, lo32 p.ident, hi32 p.ident]

/-- CYC_OVERRUN (R341): counted, and raised once per run. -/
def State.cycOverrun (s : State) (t core : Nat) : State :=
  let r := s.taskRun t
  let s := ((s.bump (Reg.CYC_OVR core)).orW Reg.CYC_FAULTS 2).setRun t { r with ovrRun := true }
  if r.ovrRun then s else s.raise 0x0B04 0 [wd t, s.cycleNo]

/-- The changeover (R357, R358): at a boundary of core 0 the new program takes over, or the change waits, or it fails. -/
def State.changeTry (s : State) (p : Program) (k : Int) : State :=
  match s.cyc.change, s.cyc.pend with
  | some (asked, n), some q =>
    let t := s.cycTime p 0 k
    let start := p.enabled.all (fun j => let e := p.task j; e.event || (e.ext && !p.compat) || k % e.mult == 0)
    let need := 1000 + (q.varLen * 5 + 11) / 12
    if decide (asked.toNat + 100000 ≤ t.toNat) && start && s.cycIdle && decide (s.cyc.idleAt.toNat + need ≤ t.toNat) then
      let first := s.cycleNo + 1
      let s := s.modCyc (fun c => { c with prog := some q, pend := none, change := none,
                                           vars := Config.passVars p.body q.body c.vars, timers := timersOf q c.timers })
      ((s.wr Reg.CYC_CHANGE_CYCLE first).cycResult 5 0 true).raise 0x0B06 0 [first, lo32 q.ident, hi32 q.ident]
    else if 16 ≤ n + 1 then s.changeCancel
    else s.modCyc (fun c => { c with change := some (asked, n + 1) })
  | _, _ => s

/-- TWIN_CKPT_LATE (R316): the last checkpoint was not complete at the standby by this boundary. -/
def State.ckptBoundary (s : State) : State :=
  if !s.twin.ckptLate then s else
  let s := { s with twin := { s.twin with ckptLate := false } }
  ((s.bump Reg.TWIN_CKPT_LATE).orW Reg.TWIN_FAULTS 2).raise 0x0A06 0 [s.cycleNo, 0]

/-- A cycle of a native core starts (steps 1 to 3 of R340). -/
def State.cycBegin (s : State) (p : Program) (t : Nat) (at_ : DWord) (stepLate : Bool) : State :=
  let s := s.bumpWrap (Reg.CYC_COUNT t)
  let j : Job := { start := at_, begun := true, inputs := s.inputCopy }
  s.modRun t (fun r => { r with job := some j, outs := [], late := false, stepLate := stepLate,
                                outAt := some (at_ + BitVec.ofNat 64 ((p.task t).out * 1000)) })

/-- Corrected time has stepped forward over a boundary (R338): it lies a tick or more behind the tick on which it falls. -/
def State.steppedOver (s : State) (at_ : DWord) : Bool := decide (at_.toNat + 2 ≤ s.now.toNat)

/-- A period start that a late cycle loses (R341): it is skipped, and the late outputs are due at its φ_out. -/
def State.cycSkip (s : State) (p : Program) (t k : Nat) (at_ : DWord) : State :=
  (s.bumpBy (Reg.CYC_SKIP t) k).modRun t (fun r => { r with outAt := some (at_ + BitVec.ofNat 64 ((p.task t).out * 1000)) })

/-- A boundary of a native core (R338, R341). One that a forward step passed over starts its period at once, marked LATE, and the
further boundaries stepped over are skipped. -/
def State.nativeStart (s : State) (p : Program) (t : Nat) (k : Int) : State :=
  let r := s.taskRun t
  let passed := (k - r.last - 1).toNat
  let at_ := s.cycTime p t k
  if r.late && r.outAt.isNone then
    let s := s.modRun t (fun r => { r with last := k })
    let s := if s.flag Reg.CYC_CFG 0 then s else s.cycSkip p t (passed + 1) at_
    if t = 0 then s.changeTry p k else s
  else if r.job.isSome || r.outAt.isSome then s
  else if s.cyc.stopReq then s.modRun t (fun r => { r with last := k })
  else
    let s := (s.modRun t (fun r => { r with last := k })).bumpBy (Reg.CYC_SKIP t) passed
    let s := if t = 0 then (s.ckptBoundary).changeTry p k else s
    match s.cyc.prog with
    | some q => s.cycBegin q t (if s.steppedOver at_ then s.now else at_) (s.steppedOver at_)
    | none => s

/-! Compatibility tasks. -/

/-- The task that runs on a core (R344): of those ready, the one of highest priority, the earlier activated of several. -/
def State.topTask (s : State) (p : Program) (core : Nat) : Option Nat :=
  (p.enabled.filter (fun t => p.coreOf t == core && (s.taskRun t).job.isSome)).foldl (fun m t =>
    let key := fun (t : Nat) => ((p.task t).prio, ((s.taskRun t).job.map Job.order).getD 0)
    match m with
    | none => some t
    | some u => if (key t).1 < (key u).1 || ((key t).1 == (key u).1 && decide ((key t).2 < (key u).2)) then some t else m) none

/-- The task that runs on a core takes its private copy if it has not started (R344). -/
def State.resched (s : State) (p : Program) (core : Nat) : State :=
  match s.topTask p core with
  | none => s
  | some t => match (s.taskRun t).job with
    | some j => if j.begun then s
        else
          let j : Job := { j with start := s.now, begun := true, inputs := s.inputCopy }
          s.modRun t (fun r => { r with job := some j })
    | none => s

/-- A task becomes ready (R344). -/
def State.activate (s : State) (p : Program) (t : Nat) : State :=
  let j : Job := { start := s.now, order := s.cyc.order }
  let s := (s.modRun t (fun r => { r with job := some j, ovrRun := false })).modCyc (fun c => { c with order := c.order + 1 })
  s.resched p (p.coreOf t)

/-- A boundary of a cyclic task in compatibility mode (R343, R344). -/
def State.compatStart (s : State) (p : Program) (t : Nat) (k : Int) : State :=
  let r := s.taskRun t
  let core := p.coreOf t
  let passed := (k - r.last - 1).toNat
  let s := (s.modRun t (fun r => { r with last := k, stepLate := s.steppedOver (s.cycTime p t k) })).bumpBy (Reg.CYC_SKIP core) passed
  let s := if t = 0 then
      let s := (s.ckptBoundary).changeTry p k
      if s.cyc.stopReq && r.job.isNone then s else s.modRun 0 (fun r => { r with outAt := some (s.cycTime p 0 k + BitVec.ofNat 64 (p.ns / 2)) })
    else s
  if r.job.isSome then
    let s := s.cycOverrun t core
    if s.flag Reg.CYC_CFG 0 then s.modRun t (fun r => { r with late := true }) else s.bump (Reg.CYC_SKIP core)
  else if s.cyc.stopReq then s
  else match s.cyc.prog with
    | some q => (if t = 0 then s.bumpWrap (Reg.CYC_COUNT 0) else s).activate q t
    | none => s

/-- A boundary of a task (R338, R343): nothing for a task set to external start, or without a boundary. -/
def State.cycBoundary (s : State) (t : Nat) : State :=
  if !s.ctlRuns then s else
  let s := s.cycEnter
  match s.cyc.state, s.cyc.prog with
  | .running, some p =>
    let e := p.task t
    if !e.en || e.event || (e.ext && !p.compat) then s else
    let k := s.cycIdx p t s.now.toNat
    if k ≤ (s.taskRun t).last then s
    else if p.compat then s.compatStart p t k else s.nativeStart p t k
  | _, _ => s

/-- A core is set to external start (R66, R339, R343). -/
def State.cycExternal (s : State) (core : Nat) : Bool :=
  s.ctlRuns && s.cyc.prog.any (fun p =>
    if p.compat then p.enabled.any (fun t => (p.task t).event && (p.task t).trig == 0x20 + core)
    else core ≠ 0 && (p.task core).en && (p.task core).ext)

/-- The trigger of an event task (R343): it makes the task ready, or is lost while the task is ready or running. -/
def State.cycTrigger (s : State) (p : Program) (t : Nat) : State :=
  if s.cyc.stopReq then s
  else if (s.taskRun t).job.isSome then s.bump Reg.CYC_EVT_LOST
  else s.activate p t

/-- Scheduler action 1 (R66, R339, R343): on a native core it begins a period, or is an overrun before the previous output write;
the period of the action is then the one skipped, and the outputs are due at its φ_out (log entry 128). In compatibility mode it
triggers the event tasks that name the core. -/
def State.cycAction (s : State) (core : Nat) : State :=
  match s.cyc.state, s.cyc.prog with
  | .running, some p =>
    if !s.cycExternal core then s else
    if p.compat then
      s.each (p.enabled.filter (fun t => (p.task t).event && (p.task t).trig == 0x20 + core)) (fun s t => s.cycTrigger p t) else
    let r := s.taskRun core
    if r.late && r.outAt.isNone then s.cycSkip p core 1 s.now
    else if r.job.isSome || r.outAt.isSome then
      let s := s.cycOverrun core core
      if !s.flag Reg.CYC_CFG 0 then (s.modRun core (fun r => { r with late := true })).cycSkip p core 1 s.now
      else if r.job.isSome then s.modRun core (fun r => { r with late := true, outAt := none })
      else s.cycHalt 1 core
    else if s.cyc.stopReq then s
    else s.cycBegin p core s.now false
  | _, _ => s

/-- CYC_EVENT_TRIGGER (R343, R344): the trigger of an event task. Scheduler action 1 triggers its tasks itself; an edge on a GPIO
ball, a rise of an output flag and a software trigger come with this row (log entry 128). -/
def execCycEventTrigger (t : Nat) (s : State) : Host.Outcome State Fault Refusal :=
  match s.cyc.state, s.cyc.prog with
  | .running, some p =>
    let trig := (p.task t).trig
    if !s.ctlRuns || !p.compat || !(p.task t).en || !(p.task t).event || (decide (0x20 ≤ trig) && decide (trig ≤ 0x23)) then .next s
    else .next (s.cycTrigger p t)
  | _, _ => .next s

/-! Timers. -/

/-- A call of a timer with IN and PT at a corrected time in µs (R350): ET = min(PT, now − START) while it runs, modulo 2^32. Starting
and stopping, and Q, are by the rules of IEC 61131-3 for TON, TOF and TP (PRESUMED, log entry 129). -/
def Timer.call (t : Timer) (now : Word) (inp : Bool) (pt : Word) : Timer :=
  let run := bit t.w1 2
  let prev := bit t.w1 4
  let et := if (now - t.w2).toNat < pt.toNat then now - t.w2 else pt
  let put := fun (run q : Bool) (start et : Word) =>
    ({ t with w1 := wd (bits t.w1 1 0 + run.toNat * 4 + q.toNat * 8 + inp.toNat * 16), w2 := start, w3 := et } : Timer)
  let begin := fun (q : Bool) => put (pt != 0) q now 0
  let keep := put run (bit t.w1 3) t.w2 t.w3
  match bits t.w1 1 0 with
  | 0 =>
    if !inp then put false false t.w2 0 else if !prev then begin (pt == 0)
    else if run then put (et != pt) (et == pt) t.w2 et else keep
  | 1 =>
    if inp then put false true t.w2 0 else if prev then begin (pt != 0)
    else if run then put (et != pt) (et != pt) t.w2 et else keep
  | 2 =>
    if run then put (et != pt) (et != pt) t.w2 (if et == pt && !inp then 0 else et)
    else if inp && !prev then begin (pt != 0) else if !inp then put false false t.w2 0 else keep
  | _ => keep

/-- The timer calls of a logic phase, in their order, on the table of a program (R349, R350). -/
def timerCalls (p : Program) (now : Word) (calls : List (Nat × Bool × Word)) (m : SMap Timer) : SMap Timer :=
  (calls.filter (fun e => decide (e.1 < p.timers))).foldl (fun m e => SMap.set m {} e.1 ((m.get {} e.1).call now e.2.1 e.2.2)) m

/-! The end of logic. -/

/-- A section of a checkpoint, padded to 8 bytes. -/
def ckSection (b : List Byte) : List Byte := b ++ List.replicate ((8 - b.length % 8) % 8) 0

/-- A timer's 16 bytes (R349). -/
def Timer.bytes (t : Timer) : List Byte := wordsBytes [t.w0, t.w1, t.w2, t.w3]

/-- The checkpoint of the cycle that ends (R315; log entry 64). -/
def State.ckptBytes (s : State) (p : Program) (start : DWord) : List Byte :=
  let vars := ckSection s.cyc.vars
  let timers := (List.range p.timers).flatMap (fun k => (s.cyc.timers.get {} k).bytes)
  let loops := (s.kiln.loop.filter (fun e => entryEn e.2.entry)).flatMap (fun e => if e.2.ck = [] then s.kilnCk e.1 else e.2.ck)
  let forces := s.cyc.forces.flatMap (fun f => wordsBytes [wd f.addr, wd f.width, f.value, 0])
  let head := natBytes 8 s.cycleNo.toNat ++ natBytes 8 p.ident.toNat ++ natBytes 8 s.cyc.vars.length ++ natBytes 8 timers.length
    ++ natBytes 8 loops.length ++ natBytes 8 forces.length ++ natBytes 8 start.toNat ++ List.replicate 8 0
  head ++ vars ++ timers ++ loops ++ forces

/-- Bytes as 64-bit blocks. -/
def byteBlocks : List Byte → List DWord
  | a :: b :: c :: d :: e :: f :: g :: h :: r => BitVec.ofNat 64 (bytesNat [a, b, c, d, e, f, g, h]) :: byteBlocks r
  | _ => []

/-- Send the blocks of a checkpoint in CKPT packets of up to 1,021 blocks (R307). -/
def State.ckptSend (s : State) (cycle : Word) : Nat → Nat → List DWord → State
  | 0, _, _ => s
  | _, _, [] => s
  | f + 1, off, bs => (s.twinMsg 2 (dw cycle (wd off) :: bs.take 1021)).ckptSend cycle f (off + 1021) (bs.drop 1021)

/-- TWIN_CHECKPOINT (R315, R316): the active takes and sends checkpoint k. Its transmission takes S / 2.0 GB/s. -/
def State.checkpoint (s : State) (p : Program) (start : DWord) : State :=
  if s.twin.role != .active then s else
  let b := s.ckptBytes p start
  let k := s.cycleNo
  let s := s.wr Reg.TWIN_CKPT_SIZE (wd (b.length / 8))
  if 1048576 < b.length then ((s.bump Reg.TWIN_CKPT_LATE).orW Reg.TWIN_FAULTS 4).raise 0x0A06 0 [k, 1]
  else
    let bs := byteBlocks b
    let s := s.ckptSend k (bs.length + 1) 0 bs
    let s := s.twinMsg 3 [dw k (wd bs.length), dw (crc32c b) 0]
    let s := s.wr Reg.TWIN_CKPT_TIME (wd (b.length / 2000))
    let late := decide (start.toNat + p.ns < s.now.toNat + b.length / 2)
    if late && s.twin.partnerAddr ≠ 0 then { s with twin := { s.twin with ckptLate := true } } else s.wr Reg.TWIN_CKPT_CYCLE k

/-- A retained copy is begun at the end of core 0's logic, or the cycle is passed over (R353). The retained section is the first
RET_LEN bytes of the variables (log entry 65). -/
def State.retainedCopy (s : State) (p : Program) : State :=
  if !s.flag Reg.CYC_CFG 1 then s
  else if s.cyc.retBusy.isSome then s.bump Reg.CYC_RET_SKIP
  else if s.power.pfail then s
  else
    let r : RetCopy := { cycle := s.cycleNo, ident := p.ident, data := s.cyc.vars.take p.retLen }
    s.modCyc (fun c => if c.retLast then { c with retBusy := some r, ret0 := none } else { c with retBusy := some r, ret1 := none })

/-- CYC_RET_COPY_DONE (R353): the copy not last completed is complete. -/
def execCycRetCopyDone (s : State) : Host.Outcome State Fault Refusal :=
  match s.cyc.retBusy with
  | none => .next s
  | some r =>
    let s := s.modCyc (fun c => if c.retLast then { c with ret0 := some r, retLast := false, retBusy := none }
      else { c with ret1 := some r, retLast := true, retBusy := none })
    .next (s.wr Reg.CYC_RET_CYCLE r.cycle)

/-- The output bytes that a program may write: those of the output areas. -/
def outCells (cells : List Cell) : SMap Byte :=
  (cells.filter (fun e => decide (0x81 ≤ e.1 / 2 ^ 21) && decide (e.1 % 2 ^ 21 < areaSize (e.1 / 2 ^ 21)))).foldl
    (fun (m : SMap Byte) e => SMap.insert m e.1 e.2) []

/-- CYC_LOGIC_END (R315, R340, R344, R350, R353): forces act on the outputs; core 0 takes the checkpoint and the retained copy. -/
def execCycLogicEnd (t : Nat) (res : LogicResult) (s : State) : Host.Outcome State Fault Refusal :=
  match s.cyc.state, s.cyc.prog, (s.taskRun t).job with
  | .running, some p, some j =>
    let core := p.coreOf t
    if !s.ctlRuns || !j.begun || (p.compat && s.topTask p core != some t) then .next s else
    let late := (s.taskRun t).late
    let now := wd (j.start.toNat / 1000)
    let s := s.modCyc (fun c => { c with vars := res.vars, timers := timerCalls p now res.calls c.timers })
    let s := s.wr (Reg.CYC_EXEC_LAST core) res.execUs
    let s := if (s.rd (Reg.CYC_EXEC_MAX core)).toNat < res.execUs.toNat then s.wr (Reg.CYC_EXEC_MAX core) res.execUs else s
    let home := if p.compat then 0 else t
    let raw := (outCells res.outs).foldl (fun m e => SMap.insert m e.1 e.2) (if p.compat then s.cyc.shared else [])
    let w := s.outMerge raw
    let s := if p.compat then s.modCyc (fun c => { c with shared := raw }) else s
    let s := (s.modRun t (fun r => { r with job := none })).modRun home (fun r => { r with outs := w })
    let s := if t = 0 then (s.checkpoint p j.start).retainedCopy p else s
    if late && s.flag Reg.CYC_CFG 0 then .next (s.cycHalt 1 core)
    else if p.compat then
      let s := s.resched p core
      .next (if s.cycIdle then s.modCyc (fun c => { c with idleAt := s.now }) else s).cycStopCheck
    else .next s
  | _, _, _ => .next s

/-- CYC_OUTPUT_WRITE (R340, R341, R344): at φ_out the output image is passed on; logic that has not ended is an overrun. The shared
image of compatibility mode keeps what its tasks wrote and is passed on whole each time. -/
def execCycOutputWrite (core : Nat) (s : State) : Host.Outcome State Fault Refusal :=
  let r := s.taskRun core
  match s.cyc.state, s.cyc.prog, r.outAt with
  | .running, some p, some t =>
    if !s.ctlRuns || s.now.toNat < t.toNat || (p.compat && core ≠ 0) then .next s
    else if !p.compat && r.job.isSome then
      .next ((s.cycOverrun core core).modRun core (fun r => { r with late := true, outAt := none }))
    else
      let s := s.setRun core (if p.compat then { r with outAt := none }
        else { r with outs := [], outAt := none, late := false, ovrRun := r.ovrRun && r.late })
      let s := s.deliver r.outs false
      .next (if s.cycIdle then s.modCyc (fun c => { c with idleAt := s.now + 2000 }) else s).cycStopCheck
  | _, _, _ => .next s

/-- The task whose logic runs on a core. -/
def State.logicOn (s : State) (core : Nat) : Option Nat :=
  match s.cyc.state, s.cyc.prog with
  | .running, some p => if p.compat then s.topTask p core else if (s.taskRun core).job.isSome then some core else none
  | _, _ => none

/-- CYC_WATCHDOG (R342, R344): logic, which starts 2 µs after the period start, has run for WDOG periods. -/
def execCycWatchdog (core : Nat) (s : State) : Host.Outcome State Fault Refusal :=
  match s.logicOn core, s.cyc.prog with
  | some t, some p =>
    let from_ := (((s.taskRun t).job.map Job.start).getD 0).toNat + (if p.compat then 0 else 2000)
    let per := if p.compat then p.ns else p.taskNs t
    if !s.ctlRuns || s.now.toNat < from_ + s.fld Reg.CYC_CFG 11 8 * per then .next s
    else .next ((s.orW Reg.CYC_FAULTS 8).cycHalt 2 core)
  | _, _ => .next s

/-- CYC_TRAP (R342): a trap raised by the program. -/
def execCycTrap (core : Nat) (s : State) : Host.Outcome State Fault Refusal :=
  if !s.ctlRuns || (s.logicOn core).isNone then .next s else .next ((s.orW Reg.CYC_FAULTS 4).cycHalt 3 core)

/-! Forces. -/

/-- The level of the FORCE_ACTIVE ball: high while a force is in the table, which is empty with PD7 off (R354, R356, R561). -/
def State.forceActive (s : State) : Bool := s.domOn 7 && !s.cyc.forces.isEmpty

/-- FORCE_CHANGE (R356): the table has changed. -/
def State.forceChange (s : State) (fs : List Force) (args : List Word) : State :=
  if fs = s.cyc.forces then s
  else (s.modCyc (fun c => { c with forces := fs })).raise 0x0B08 0 (args ++ [wd fs.length])

/-- FORCE_SET (R101, R102, R355, R361). A force on the destination of a loop in tune ends the tune (R378). -/
def execForceSet (d : List Word) (s : State) : Host.Outcome State Fault Refusal :=
  if !s.mgmtReady (descOp d == 0x12) then .next s
  else if mgmtReserved d [0xFFFFFFFF, 0xFFFFFFFF, 3] then .next (s.hostError 15)
  else if !s.domOn 7 then .next (s.mgmtDone d 3 0)
  else
    let a := nthW d 2
    let f : Force := { addr := a.toNat, width := bits (nthW d 4) 1 0, value := nthW d 3 }
    let same := fun (g : Force) => g.width == f.width && (if f.width = 0 then g.addr == f.addr else g.base == f.base)
    let keep := s.cyc.forces.filter (fun g => !same g)
    if bits a 31 24 = 7 then .next (s.mgmtDone d 2 2)
    else if !imgOk a (forceLen f.width) false then .next (s.hostError 361)
    else if 1024 ≤ keep.length then .next (s.mgmtDone d 2 3)
    else
      let fs := if s.cyc.forces.any (fun g => same g && g.value == f.value) && s.cyc.forces.getLast? == some f then s.cyc.forces else keep ++ [f]
      let s := s.forceChange fs [a, wd (f.width + 256), f.value]
      let s := match s.kiln.tune with
        | some t => if s.kilnForced (s.kloop t.loop) then s.tuneAbort 6 else s
        | none => s
      .next (s.mgmtDone d 0 0)

/-- A force includes the bit at an address (R355). -/
def Force.includes (f : Force) (a : Nat) : Bool := if f.width = 0 then f.addr == a else f.covers (a / 8)

/-- FORCE_CLEAR (R101, R355, R361): 0xFFFF_FFFF clears all forces. -/
def execForceClear (d : List Word) (s : State) : Host.Outcome State Fault Refusal :=
  if !s.mgmtReady (descOp d == 0x13) then .next s
  else if mgmtReserved d [0xFFFFFFFF] then .next (s.hostError 15)
  else if !s.domOn 7 then .next (s.mgmtDone d 3 0)
  else
    let a := nthW d 2
    if a ≠ 0xFFFFFFFF && !imgOk a 1 false then .next (s.hostError 361)
    else
      let fs := if a = 0xFFFFFFFF then [] else s.cyc.forces.filter (fun f => !f.includes a.toNat)
      let k := s.cyc.forces.length - fs.length
      .next ((s.forceChange fs [a, wd (k * 65536), 0]).mgmtDone d 0 0)

/-! Checkpoints at the standby. -/

/-- A checkpoint that has arrived whole is loaded (R317, R359). -/
def State.ckptLoad (s : State) (cycle : Word) (b : List Byte) : State :=
  let id : DWord := BitVec.ofNat 64 (leAt b 8 8)
  let nv := leAt b 16 8
  let nt := leAt b 24 8
  let nk := leAt b 32 8
  let nf := leAt b 40 8
  let o1 := 64 + (nv + 7) / 8 * 8
  let timers := (List.range (nt / 16)).foldl (fun (m : SMap Timer) k =>
    let w := fun j => wd (leAt b (o1 + 16 * k + 4 * j) 4)
    let x : Timer := { w0 := w 0, w1 := w 1, w2 := w 2, w3 := w 3 }
    SMap.set m {} k x) []
  let forces := (List.range (nf / 16)).map (fun k =>
    let w := fun j => leAt b (o1 + nt + nk + 16 * k + 4 * j) 4
    ({ addr := w 0, width := w 1, value := wd (w 2) } : Force))
  let s := s.modCyc (fun c =>
    let c := { c with vars := (b.drop 64).take nv, timers := timers, forces := forces }
    if c.pend.any (fun p => p.ident == id) && !c.prog.any (fun p => p.ident == id) then { c with prog := c.pend, pend := none } else c)
  let s := s.each (List.range (nk / 64)) (fun s k => s.kilnLoad ((b.drop (o1 + nt + 64 * k)).take 64))
  let s := if s.cyc.prog.any (fun p => p.ident == id) then s else s.orW Reg.TWIN_FAULTS 8
  let s := (s.wr Reg.TWIN_CKPT_CYCLE cycle).wr Reg.TWIN_CKPT_SIZE (wd (b.length / 8))
  { s with twin := { s.twin with loaded := some (cycle, id, s.count) } }

/-- Periods since the loaded checkpoint was loaded. -/
def State.ckptAge (s : State) : Nat :=
  match s.twin.loaded, s.cyc.prog with
  | some (_, _, t), some p => (s.count - t).toNat / p.ns
  | _, _ => 0

/-- CTRL_READY of the unit as standby (R317). -/
def State.ctrlReady (s : State) : Bool :=
  match s.twin.loaded, s.cyc.prog with
  | some (_, id, t), some p => decide ((s.count - t).toNat ≤ 16 * p.ns) && p.ident == id
  | _, _ => false

/-- The engine is cleared (R354): with PD7, or a reset that includes PD1. The retained copies stay. -/
def State.cycClear (s : State) : State :=
  s.modCyc (fun c => { ret0 := c.ret0, ret1 := c.ret1, retLast := c.retLast,
                       state := if s.twin.role == .standby then .standby else .stopped })

end Sys2Proof.Machine
end

