-- ==== Sys2Proof/Machine/StationBus.lean ====
section
/-!
DEFINITION. Station Bus: settings (R392 to R394), cycles (R393), the device's frames (R395, R408), received frames (R391, R397,
R399), the dynamic segment (R398), the star (R400 to R402), clock synchronisation (R403 to R405) and start-up (R407).
-/
namespace Sys2Proof.Machine

/-! Line coding and frames (R389, R390). -/

/-- The data code-groups of IEEE 802.3 Clause 24, by nibble (PRESUMED, log entry 131). -/
def dataGroups : List CodeGroup :=
  [0b11110, 0b01001, 0b10100, 0b10101, 0b01010, 0b01011, 0b01110, 0b01111,
   0b10010, 0b10011, 0b10110, 0b10111, 0b11010, 0b11011, 0b11100, 0b11101]
/-- Code-group I. -/
def cgI : CodeGroup := 0b11111
/-- Code-group J. -/
def cgJ : CodeGroup := 0b11000
/-- Code-group K. -/
def cgK : CodeGroup := 0b10001
/-- Code-group T. -/
def cgT : CodeGroup := 0b01101
/-- Code-group R. -/
def cgR : CodeGroup := 0b00111

/-- The code-groups of bytes, each byte low nibble first. -/
def byteGroups (b : List Byte) : List CodeGroup :=
  b.flatMap (fun x => [dataGroups.getD (x.toNat % 16) 0, dataGroups.getD (x.toNat / 16) 0])

/-- The bytes between J K and T R; none where a code-group is no data code-group or T R does not close them. -/
def groupBytes : List CodeGroup → Option (List Byte)
  | a :: b :: r =>
    if a == cgT && b == cgR then (if r.isEmpty then some [] else none) else
    match dataGroups.idxOf? a, dataGroups.idxOf? b, groupBytes r with
    | some l, some h, some bs => some (BitVec.ofNat 8 (l + 16 * h) :: bs)
    | _, _, _ => none
  | _ => none

/-- Word 0 of a frame's header (R390). -/
def sbWord0 (f : SbFrame) : Word :=
  wd (f.slot.toNat + f.dyn.toNat * 2 ^ 8 + f.null.toNat * 2 ^ 9 + f.sync.toNat * 2 ^ 10 + f.beacon.toNat * 2 ^ 11
    + f.force.toNat * 2 ^ 12 + f.active.toNat * 2 ^ 13 + f.ctrl.toNat * 2 ^ 14 + f.unit.toNat * 2 ^ 15 + f.node.toNat * 2 ^ 16
    + f.payload.length * 2 ^ 24)

/-- Header, payload and CRC-32C of a frame (R390). -/
def sbBytes (f : SbFrame) : List Byte :=
  let b := wordsBytes [sbWord0 f, f.epoch, wd f.cycle.toNat] ++ f.payload
  b ++ wordBytes (crc32c b)

/-- The code-groups of a transmission (R389): preamble, J K, the bytes, T R. -/
def sbGroups (f : SbFrame) : List CodeGroup := [cgI, cgI, cgI, cgJ, cgK] ++ byteGroups (sbBytes f) ++ [cgT, cgR]

/-- The frame that bytes hold; none for a CRC, a LEN, a NULL or a reserved bit that R391 does not allow. -/
def sbParse (b : List Byte) : Option SbFrame :=
  let n := b.length - 4
  let w := leAt b 0 4
  let len := w / 2 ^ 24 % 64
  if b.length < 16 || len > 60 || n ≠ 12 + len || leAt b n 4 ≠ (crc32c (b.take n)).toNat || w / 2 ^ 22 % 4 ≠ 0 || w / 2 ^ 30 ≠ 0
      || leAt b 8 4 / 2 ^ 16 ≠ 0 || (bit (wd w) 9 && len ≠ 0) then none
  else some { slot := BitVec.ofNat 8 w, dyn := bit (wd w) 8, null := bit (wd w) 9, sync := bit (wd w) 10, beacon := bit (wd w) 11,
              force := bit (wd w) 12, active := bit (wd w) 13, ctrl := bit (wd w) 14, unit := bit (wd w) 15,
              node := BitVec.ofNat 6 (w / 2 ^ 16), epoch := wd (leAt b 4 4), cycle := BitVec.ofNat 16 (leAt b 8 4),
              payload := (b.drop 12).take len }

/-- What is received from J on. -/
def fromJ (g : List CodeGroup) : List CodeGroup := g.dropWhile (· == cgI)

/-- The frame that code-groups hold (R389, R391): framed by J K and T R without an invalid code-group. -/
def sbDecode (g : List CodeGroup) : Option SbFrame :=
  match fromJ g with
  | j :: k :: r => if j == cgJ && k == cgK then (groupBytes r).bind sbParse else none
  | _ => none

/-! Settings. -/

/-- T_c in ns. -/
def State.sbTc (s : State) (c : Nat) : Nat := s.fld (Reg.SB_CYCLE c) 23 0
/-- SLOT_LEN in ns. -/
def State.sbSlotLen (s : State) (c : Nat) : Nat := s.fld (Reg.SB_TIMING c) 11 0 * 8
/-- LAUNCH in ns. -/
def State.sbLaunch (s : State) (c : Nat) : Nat := s.fld (Reg.SB_TIMING c) 27 16 * 8
/-- NM, the minislots. -/
def State.sbNm (s : State) (c : Nat) : Nat := s.fld (Reg.SB_DYN c) 9 0
/-- MS_LEN in ns. -/
def State.sbMsLen (s : State) (c : Nat) : Nat := s.fld (Reg.SB_DYN c) 25 16 * 8
/-- G in ns. -/
def State.sbG (s : State) (c : Nat) : Nat := s.fld (Reg.SB_SYNC c) 11 0
/-- NS, the static slots. -/
def State.sbNs (s : State) (c : Nat) : Nat := s.fld (Reg.SB_CH_CFG c) 24 16
/-- The channel's own node number. -/
def State.sbNode (s : State) (c : Nat) : Nat := s.fld (Reg.SB_CH_CFG c) 13 8
/-- ROLE is STAR. -/
def State.sbStar (s : State) (c : Nat) : Bool := s.flag (Reg.SB_CH_CFG c) 1

/-- Length of the static and the dynamic segment in ns. -/
def State.sbSegments (s : State) (c : Nat) : Nat := s.sbNs c * s.sbSlotLen c + s.sbNm c * s.sbMsLen c

/-- The slots selected for synchronisation. -/
def Sb.syncNodes (b : Sb) : List Nat := (b.slot.filter (fun e => bit e.2 4)).map (fun e => bits e.2 13 8)

/-- The conditions of R394. -/
def State.sbOk (s : State) (c : Nat) : Bool :=
  let tc := s.sbTc c
  let l := s.sbLaunch c
  let g := s.sbG c
  let n := (s.sbOf c).syncNodes
  tc % 8 == 0 && decide (50000 ≤ tc) && decide (tc ≤ 10000000) && decide (s.sbSegments c + 10000 ≤ tc) && decide (g + 120 ≤ l)
    && decide (l + g + 1440 ≤ s.sbSlotLen c) && (s.sbNm c == 0 || decide (l + g ≤ s.sbMsLen c)) && decide (n.length ≤ 15)
    && decide n.Nodup

/-- L_max of R395. -/
def State.sbLmax (s : State) (c : Nat) : Nat := min 60 ((s.sbSlotLen c - s.sbLaunch c - s.sbG c - 1440) / 80)

/-- Number of the cycle at a corrected time (R393). -/
def State.sbIdx (s : State) (c time : Nat) : Int := ((time : Int) - s.fld Reg.CYC_PHASE 23 0 * 1000).fdiv (s.sbTc c)

/-- Corrected time of a cycle's start. -/
def State.sbTime (s : State) (c : Nat) (k : Int) : DWord := BitVec.ofInt 64 (k * s.sbTc c + s.fld Reg.CYC_PHASE 23 0 * 1000)

/-! States. -/

/-- LISTEN begins (R407). -/
def State.sbListen (s : State) (c : Nat) : State :=
  let t := s.now + BitVec.ofNat 64 (2 * s.sbTc c + s.sbNode c * 20000)
  s.modSb c (fun b => { b with state := 1, listen := t, heard := false, beacons := 0, sent := [] })

/-- The channel is OFF (R407): what it holds of its cycles is gone; the slot table, what was
received and what is pending stay. -/
def State.sbOff (s : State) (c : Nat) : State :=
  s.modSb c (fun b => { slot := b.slot, rx := b.rx, wrote := b.wrote, outs := b.outs, evtPend := b.evtPend, evtAt := b.evtAt,
                        evtRx := b.evtRx, closed := b.closed, measured := b.measured, ofs := b.ofs, rate := b.rate })

/-- The slot table places one node number on two branches, or another node under the device's own number (R411). -/
def State.sbTwice (s : State) (c : Nat) : Bool :=
  let l := (s.sbOf c).slot.filter (fun e => decide (bits e.2 3 0 < 8))
  l.any (fun e => bits e.2 13 8 == s.sbNode c || l.any (fun f => bits f.2 13 8 == bits e.2 13 8 && bits f.2 3 0 != bits e.2 3 0))

/-- A write of SB_CH_CFG (R16, R394, R411, R414, R415). -/
def State.sbCfg (s : State) (c : Nat) (v : Word) : State :=
  let off := Reg.SB_CH_CFG c
  let old := s.rd off
  if bit old 0 then
    let m : Word := 0x01FF3F02
    let s := if v &&& m ≠ old &&& m then s.orW Reg.SB_FAULTS 1 else s
    if bit v 0 then s else (s.setF off 0 0 0).sbOff c
  else
    let ns := bits v 24 16
    let s := ((s.setF off 1 1 (bits v 1 1)).setF off 13 8 (bits v 13 8)).setF off 24 16 (if ns = 0 || 256 < ns then bits old 24 16 else ns)
    if !bit v 0 then s
    else if s.sbOk c then
      let s := (s.setF off 0 0 1).sbListen c
      let s := if s.sbStar c && s.sbTwice c then s.hostError 411 else s
      s.modSb c (fun b => { b with last := s.sbIdx c s.now.toNat })
    else s.orW Reg.SB_FAULTS 2

/-- SB_CH_ENABLE (R394, R407). -/
def execSbChEnable (c : Nat) (v : Word) (s : State) : Host.Outcome State Fault Refusal :=
  .next (s.gated (Reg.SB_CH_CFG c) (fun s => s.sbCfg c v))

/-- SB_LISTEN_END (R407). -/
def execSbListenEnd (c : Nat) (s : State) : Host.Outcome State Fault Refusal :=
  let b := s.sbOf c
  if !s.busRuns || b.state ≠ 1 || b.heard || decide (s.now.toNat < b.listen.toNat) then .next s
  else .next (s.setSb c { b with heard := true })

/-- What the ended cycle leaves in a slot's status (R397). -/
def SbSlot.nextCycle (r : SbSlot) : SbSlot := { r with valid := r.got == 1, null := r.got == 2, age := min 255 (r.age + 1), got := 0 }

/-- The slot statuses when a cycle has ended (R397). -/
def State.sbSettle (s : State) (c : Nat) (b : Sb) : SMap SbSlot :=
  if b.cyc.isNone then b.rx else
  ((List.range (s.sbNs c)).filter (fun j => decide (b.branch j < 8))).foldl
    (fun (m : SMap SbSlot) j => SMap.set m {} j (m.get {} j).nextCycle) b.rx

/-- SB_CYCLE_START (R393, R397, R402, R407): the ended cycle's slot status and runs of violations settle, closed branches reopen,
and a channel that has listened enters RUN. -/
def execSbCycleStart (c : Nat) (s : State) : Host.Outcome State Fault Refusal :=
  let b := s.sbOf c
  let k := s.sbIdx c s.now.toNat
  if !s.busRuns || b.state = 0 || k ≤ b.last then .next s else
  let rx := s.sbSettle c b
  let run := b.state = 2 || b.heard
  let runs := (List.range 8).foldl (fun (m : SMap Nat) j => if b.viol.getLsbD j then m else m.set 0 j 0) b.violRun
  let b : Sb := { b with state := if run then 2 else 1, heard := false, last := k, cyc := some (k, s.sbTime c k), rx := rx,
                         beacons := if b.state = 2 then min 9 (b.beacons + 1) else run.toNat, sent := [], turns := [], devs := [],
                         corrected := false, closed := b.closed &&& ~~~b.reopen, reopen := 0, viol := 0, violRun := runs }
  .next ((s.setSb c b).wr (Reg.SB_CYCLE_CNT c) (BitVec.ofInt 32 (k % 65536)))

/-! The device's frames. -/

/-- The header fields of the device's own frames (R390, R408). -/
def State.sbOwn (s : State) (c slot : Nat) (k : Int) : SbFrame :=
  { slot := BitVec.ofNat 8 slot, dyn := false, null := false, sync := (s.sbOf c).slot.any (fun e => bits e.2 4 0 == 24), beacon := false,
    force := !s.cyc.forces.isEmpty, active := s.twin.role != .standby, ctrl := true, unit := s.power.unitB,
    node := BitVec.ofNat 6 (s.sbNode c), epoch := s.twin.epoch, cycle := BitVec.ofInt 16 k, payload := [] }

/-- A branch is enabled and not closed (R402). -/
def State.sbOpen (s : State) (c br : Nat) : Bool := s.flag (Reg.SB_STAR_CFG c) br && !(s.sbOf c).closed.getLsbD br

/-- The branches that the device's own frames go to (R385, R386). -/
def State.sbBranches (s : State) (c : Nat) : BitVec 8 :=
  if s.sbStar c then BitVec.ofNat 8 (s.fld (Reg.SB_STAR_CFG c) 7 0) &&& ~~~(s.sbOf c).closed else 1

/-- Send a frame of the device's own. -/
def State.sbSend (s : State) (c : Nat) (f : SbFrame) : State := s.emit (.sbFrame c (s.sbBranches c) (sbGroups f))

/-- A slot's entry as the last output write left it that was complete at a corrected time (R396), from what it holds and the writes
before: a write is complete within 2 µs, and whether one made in the last 2 µs was is a free value (R410, log entry 132). -/
def entryBefore (start : Nat) (flips : Nat) (cur : Option (List Byte)) : List (DWord × Option (List Byte)) → Option (List Byte)
  | [] => cur
  | (t, was) :: r =>
    if t.toNat + 2000 ≤ start || (t.toNat < start && flips.testBit r.length) then cur else entryBefore start flips was r

/-- The payload of an own slot's frame, none while no output write has reached the slot (R395, R396). -/
def State.sbPayload (s : State) (c slot start : Nat) : Option (List Byte) :=
  let b := s.sbOf c
  let cur := if b.wrote.contains slot then some (s.cyc.img.read (imgAt (0x82 + c) (64 * slot)) 64) else none
  (entryBefore start s.free.1.toNat cur (b.outs.get [] slot)).map (fun d => d.take (s.sbLmax c))

/-- SB_SLOT_TX (R395, R396, R407, R408): a frame, or a null frame, in an own slot. -/
def execSbSlotTx (c slot : Nat) (s : State) : Host.Outcome State Fault Refusal :=
  let b := s.sbOf c
  match b.cyc with
  | none => .next s
  | some (k, t) =>
    if !s.busRuns || b.state ≠ 2 || !b.own slot || s.sbNs c ≤ slot || b.sent.contains slot
        || decide (s.now.toNat < t.toNat + slot * s.sbSlotLen c) then .next s
    else
      let data := s.sbPayload c slot (t.toNat + slot * s.sbSlotLen c)
      let null := s.cyc.state != .running || s.twin.role == .standby || !s.domOn 7 || data.isNone
      let f := { s.sbOwn c slot k with null := null, beacon := bit (b.entry slot) 4 && decide (b.beacons ≤ 8),
                                       payload := if null then [] else data.getD [] }
      .next ((s.free.2.setSb c { b with sent := slot :: b.sent }).sbSend c f)

/-- SB_EVT_SEND (R16, R399, R414): a write of SB_EVT_TXCTL. -/
def State.sbEvtCtl (s : State) (c : Nat) (v : Word) : State :=
  let s := if bits v 5 0 ≤ 60 then s.setF (Reg.SB_EVT_TXCTL c) 5 0 (bits v 5 0) else s
  if bit v 8 && !(s.sbOf c).evtPend then s.modSb c (fun b => { b with evtPend := true, evtAt := s.now }) else s

/-- SB_EVT_SEND (R399). -/
def execSbEvtSend (c : Nat) (v : Word) (s : State) : Host.Outcome State Fault Refusal :=
  .next (s.gated (Reg.SB_EVT_TXCTL c) (fun s => s.sbEvtCtl c v))

/-- Minislots of a turn with a frame of `dj` ns from J to the end of R (R389, R398). -/
def State.sbTurn (s : State) (c dj : Nat) : Nat :=
  let m := s.sbMsLen c
  if m = 0 then 0 else (s.sbLaunch c + dj + s.sbG c + m - 1) / m

/-- The place of a node in the rotating order of a cycle (R398). -/
def turnPlace (node : Nat) (k : Int) : Nat := (((node : Int) - k) % 64).toNat

/-- SB_EVT_TX (R398, R399): at the end of the dynamic segment the model knows the turns that lay before the device's own; its
event frame, if pending at its launch point, was sent if its minislots lay in the segment. Every other minislot was empty (log entry 68). -/
def State.sbDynamic (s : State) (c : Nat) (k : Int) (t : DWord) : State :=
  let b := s.sbOf c
  let place := turnPlace (s.sbNode c) k
  let before := ((b.turns.filter (fun t => decide (t.1 < place))).map (fun t => t.2 - 1)).sum + place
  let len := s.fld (Reg.SB_EVT_TXCTL c) 5 0
  let n := s.sbTurn c (1440 + 80 * len)
  let launch := t.toNat + s.sbNs c * s.sbSlotLen c + before * s.sbMsLen c + s.sbLaunch c
  let sends := b.evtPend && b.state == 2 && decide (before + n ≤ s.sbNm c) && decide (b.evtAt.toNat ≤ launch)
  let used := (b.turns.map Prod.snd).sum + (if sends then n else 0)
  let s := s.bumpBy (Reg.SB_EMPTY_MS c) (s.sbNm c - used)
  if !sends then s else
  let data := (wordsBytes ((List.range 15).map (fun j => s.rd (Reg.SB_EVT_TXBUF c j)))).take len
  (s.setSb c { b with evtPend := false }).sbSend c { s.sbOwn c (s.sbNode c) k with dyn := true, payload := data }

/-! Received frames. -/

/-- What a frame must be in a slot or turn of a node (R391). -/
def sbValid (f : SbFrame) (slot node : Nat) (dyn : Bool) (k : Int) : Bool :=
  f.slot.toNat == slot && f.dyn == dyn && f.node.toNat == node && f.cycle == BitVec.ofInt 16 k

/-- The valid frame that a slot or turn brought, if it did (R391). -/
def sbFrameOf (g : List CodeGroup) (slot node : Nat) (dyn : Bool) (k : Int) : Option SbFrame :=
  (sbDecode g).filter (fun f => sbValid f slot node dyn k)

/-- SB_EPOCH_SEEN (R408): the highest epoch of any valid frame. -/
def State.sbEpoch (s : State) (c : Nat) (f : SbFrame) : State :=
  if (f.epoch - s.rd (Reg.SB_EPOCH_SEEN c)).toInt ≤ 0 then s else
  let s := (s.wr (Reg.SB_EPOCH_SEEN c) f.epoch).wr (Reg.SB_EPOCH_NODE c) (wd f.node.toNat)
  if 0 < (f.epoch - s.twin.epoch).toInt then s.raise 0x0D06 0 [wd c, wd f.node.toNat, f.epoch] else s

/-- A controller's frame with an epoch below the device's own is dropped (R408). -/
def State.sbStale (s : State) (f : SbFrame) : Bool := f.ctrl && decide ((f.epoch - s.twin.epoch).toInt < 0)

/-- The star forwards a transmission of an open branch to every other open branch (R386). -/
def State.sbForward (s : State) (c branch : Nat) (g : List CodeGroup) : State :=
  s.emit (.sbForward c (s.sbBranches c &&& ~~~BitVec.ofNat 8 (2 ^ branch)) g)

/-- SB_BRANCH_VIOLATION (R401, R402) of an open branch of a star in RUN. -/
def State.sbViolation (s : State) (c br kind : Nat) : State :=
  let b := s.sbOf c
  let s := s.bump (Reg.SB_BR_VIOL c br)
  if b.viol.getLsbD br then s else
  let n := b.violRun.get 0 br + 1
  let m : BitVec 8 := BitVec.ofNat 8 (2 ^ br)
  let lock := s.fld (Reg.SB_STAR_CFG c) 11 8
  let s := s.setSb c { b with viol := b.viol ||| m, violRun := b.violRun.set 0 br n }
  let s := if n = 1 then s.raise 0x0D03 0 [wd c, wd br, wd kind] else s
  if lock ≠ 0 && lock ≤ n then (s.modSb c (fun b => { b with closed := b.closed ||| m })).raise 0x0D04 0 [wd c, wd br] else s

/-- What the star makes of a transmission on a branch (R386, R400, R401, R407): the state, and what reaches the device's own node.
In RUN a J outside the window [A − G, A + G] is a violation of kind 1 and nothing is forwarded; a transmission that lasts beyond
the cut point, `limit` ns after A, is cut there, a violation of kind 2. In NODE role there is no star. -/
def State.sbEnforce (s : State) (c br : Nat) (arrival limit : Int) (g : List CodeGroup) : State × Option (List CodeGroup) :=
  if !s.sbStar c || 8 ≤ br then (s, some g)
  else if !s.sbOpen c br then (s, none)
  else if (s.sbOf c).state ≠ 2 then (s.sbForward c br g, some g)
  else if s.sbG c < arrival.natAbs then (s.sbViolation c br 1, none)
  else if arrival + 40 * (fromJ g).length ≤ limit then (s.sbForward c br g, some g)
  else
    let g := g.take (g.length - (fromJ g).length + ((limit - arrival) / 40).toNat)
    ((s.sbForward c br g).sbViolation c br 2, some g)

/-- A valid frame of a static slot (R397, R403, R408). -/
def State.sbTake (s : State) (c slot : Nat) (f : SbFrame) (arrival : Int) : State :=
  let s := s.sbEpoch c f
  if s.sbStale f then s.bump (Reg.SB_STALE c) else
  s.modSb c (fun b =>
    let node := bits (b.entry slot) 13 8
    let r := b.rx.get {} slot
    let r : SbSlot := { r with force := f.force, active := f.active, got := if f.null then 2 else 1, age := if f.null then r.age else 0,
                               data := if f.null then r.data else f.payload }
    let devs := if bit (b.entry slot) 4 && !b.devs.any (fun e => e.1 == node) then
        b.devs ++ [(node, arrival - s.fld (Reg.SB_DELAY c) 9 0)] else b.devs
    { b with rx := if b.branch slot < 8 then b.rx.set {} slot r else b.rx, devs := devs })

/-- SB_FRAME_RX (R386, R391, R397, R400, R403, R408). -/
def execSbFrameRx (c slot : Nat) (g : List CodeGroup) (arrival : Int) (s : State) : Host.Outcome State Fault Refusal :=
  let b := s.sbOf c
  if !s.busRuns || b.state = 0 then .next s else
  let (s, got) := s.sbEnforce c (b.branch slot) arrival (s.sbSlotLen c - s.sbLaunch c) g
  match b.cyc, got with
  | some (k, _), some g =>
    match (if b.own slot || s.sbNs c ≤ slot then none else sbFrameOf g slot (bits (b.entry slot) 13 8) false k) with
    | some f => .next (s.sbTake c slot f arrival)
    | none => .next (s.bump (Reg.SB_RX_BAD c))
  | _, _ => .next s

/-- The branch of a node by the slot table. -/
def Sb.nodeBranch (b : Sb) (node : Nat) : Nat :=
  match b.slot.find? (fun e => bits e.2 13 8 == node && decide (bits e.2 3 0 < 8)) with
  | some e => bits e.2 3 0
  | none => 15

/-- A valid event frame (R399, R408). -/
def State.sbEvent (s : State) (c turn : Nat) (f : SbFrame) : State :=
  let s := s.sbEpoch c f
  let b := s.sbOf c
  if s.sbStale f then s.bump (Reg.SB_STALE c)
  else if b.evtRx.length < 16 then s.setSb c { b with evtRx := b.evtRx ++ [(turn, f.payload)] }
  else (s.bump Reg.SB_EVT_RX_LOST).orW Reg.SB_FAULTS 4

/-- SB_EVENT_FRAME_RX (R386, R391, R398 to R400): the transmission in a node's dynamic turn. -/
def execSbEventFrameRx (c turn : Nat) (g : List CodeGroup) (arrival : Int) (s : State) : Host.Outcome State Fault Refusal :=
  let b := s.sbOf c
  if !s.busRuns || b.state = 0 then .next s else
  let (s, got) := s.sbEnforce c (b.nodeBranch turn) arrival (6240 + s.sbG c) g
  match b.cyc, got with
  | some (k, _), some g =>
    let s := s.modSb c (fun b => { b with turns := b.turns ++ [(turnPlace turn k, s.sbTurn c (40 * (fromJ g).length))] })
    match sbFrameOf g turn turn true k with
    | some f => .next (s.sbEvent c turn f)
    | none => .next (s.bump (Reg.SB_RX_BAD c))
  | _, _ => .next s

/-- SB_EVT_RX_POP (R399, R414): a PF0 read of SB_EVT_RXCTL pops the oldest entry into SB_EVT_RXBUF. -/
def execSbEvtRxPop (pf1 : Bool) (c : Nat) (s : State) : Host.Outcome State Fault Refusal :=
  .next (s.reading pf1 (Reg.SB_EVT_RXCTL c) (fun s =>
    let b := s.sbOf c
    match b.evtRx with
    | [] => (s, 0)
    | e :: r =>
      let ws := bytesWords (padTo 60 0 e.2)
      let t := (s.setSb c { b with evtRx := r }).each (List.range 15) (fun s j => s.wr (Reg.SB_EVT_RXBUF c j) (nthW ws j))
      (t, wd (e.1 + e.2.length * 2 ^ 8 + 2 ^ 16 + r.length * 2 ^ 24))))

/-! Synchronisation. -/

/-- Insert a value in ascending order. -/
def insertAsc (x : Int) : List Int → List Int
  | [] => [x]
  | y :: r => if x ≤ y then x :: y :: r else y :: insertAsc x r

/-- The fault-tolerant midpoint (R403). -/
def midpoint (v : List Int) : Int :=
  let w := v.foldl (fun l x => insertAsc x l) []
  let n := w.length
  let k := if n ≤ 2 then 0 else if n ≤ 7 then 1 else 2
  (w.getD k 0 + w.getD (n - 1 - k) 0).fdiv 2

/-- The drift of each sync node over four cycles (R403): the device applies no offsets, so a = 0. -/
def Sb.drifts (b : Sb) (k : Int) : List Int :=
  match b.hist.find? (fun h => h.1 == k - 4) with
  | none => []
  | some h => b.devs.filterMap (fun d => (h.2.find? (fun e => e.1 == d.1)).map (fun e => d.2 - e.2))

/-- The offset and rate terms of a cycle (R403, R405). -/
def State.sbTerms (s : State) (c : Nat) (k : Int) : State :=
  let b := s.sbOf c
  let o := if b.devs = [] then 0 else midpoint (b.devs.map Prod.snd)
  let r := b.drifts k
  let rate := if k % 4 = 3 && r ≠ [] then b.rate + (midpoint r * 1000000000).tdiv (4 * s.sbTc c) else b.rate
  let big := decide (s.fld (Reg.SB_SYNC c) 27 16 < o.natAbs)
  let few := if b.devs = [] then min 9 (b.few + 1) else 0
  let s := s.setSb c { b with ofs := o, rate := rate, measured := b.devs.length, hist := ((k, b.devs) :: b.hist).take 4,
                              few := few, limited := big, limitEp := big }
  let s := if big && !b.limitEp then s.raise 0x0D01 0 [wd c, wi o] else s
  if few = 8 then s.raise 0x0D02 0 [wd c] else s

/-- SB_CORRECTION (R398, R403, R405): the start of the correction gap. -/
def execSbCorrection (c : Nat) (s : State) : Host.Outcome State Fault Refusal :=
  let b := s.sbOf c
  match b.cyc with
  | none => .next s
  | some (k, t) =>
    if !s.busRuns || b.state = 0 || b.corrected || decide (s.now.toNat < t.toNat + s.sbSegments c) then .next s
    else .next (((s.setSb c { b with corrected := true }).sbDynamic c k t).sbTerms c k)

/-! The star. -/

/-- SB_BRANCH_VIOLATION (R401, R402): a transmission in no slot or turn of the branch's own. One that comes with SB_FRAME_RX or
SB_EVENT_FRAME_RX is judged there. -/
def execSbBranchViolation (c br : Nat) (kind : BitVec 2) (s : State) : Host.Outcome State Fault Refusal :=
  if !s.busRuns || !s.sbStar c || (s.sbOf c).state ≠ 2 || !s.sbOpen c br then .next s
  else .next (s.sbViolation c br kind.toNat)

/-- SB_STAR_REOPEN (R402). -/
def execSbStarReopen (c : Nat) (v : Word) (s : State) : Host.Outcome State Fault Refusal :=
  .next (s.gated (Reg.SB_STAR_CMD c) (fun s => s.modSb c (fun b => { b with reopen := b.reopen ||| (BitVec.ofNat 8 v.toNat &&& b.closed) })))

/-- SB_START_COLLISION (R407): two start beacons overlap; neither is forwarded, and both senders are told to stop. -/
def execSbStartCollision (c : Nat) (mask : BitVec 9) (s : State) : Host.Outcome State Fault Refusal :=
  let b := s.sbOf c
  if !s.busRuns || !s.sbStar c || b.state = 0 then .next s else
  let s := (s.emit (.sbAbort c (mask.toNat % 256))).bump (Reg.SB_STAR_COLLIDE c)
  let s := s.raise 0x0D05 0 [wd c, wd mask.toNat]
  .next (if mask.getLsbD 8 then s.sbListen c else s)

/-- SB_ABORT_RX (R407): the node stops and listens again. -/
def execSbAbortRx (c : Nat) (s : State) : Host.Outcome State Fault Refusal :=
  if !s.busRuns || (s.sbOf c).state = 0 then .next s else .next (s.sbListen c)

/-- SB_CYCLE_ABANDONED (R410): a forward step of corrected time; the next cycle starts at the first start after the step. -/
def State.sbAbandon (s : State) : State :=
  s.each [0, 1] (fun s c =>
    let b := s.sbOf c
    match b.cyc with
    | none => s
    | some (k, _) =>
      if b.state = 0 then s else
      let s := (s.setSb c { b with rx := s.sbSettle c b, cyc := none, last := s.sbIdx c s.now.toNat }).bump (Reg.SB_ABANDONED c)
      s.raise 0x0D07 0 [wd c, BitVec.ofInt 32 (k % 65536)])

end Sys2Proof.Machine
end

