-- ==== Sys2Proof/Machine/Twin.lean ====
section
/-!
DEFINITION. Twin pairs: roles and epochs (R301 to R305), the messages of the twin path and how they are judged (R304, R306,
R307), the mirrored dot path (R309 to R313), checkpoints (R316, R317), the heartbeat and the witness (R319, R320), takeover and
demotion (R321 to R323), start-up (R327) and planned swaps (R328, R329).
-/
namespace Sys2Proof.Machine

/-- Change the twin path. -/
def State.modTwin (s : State) (f : Twin → Twin) : State := { s with twin := f s.twin }

/-- One epoch is later than another, as serial numbers (R303). -/
def epochAbove (a b : Word) : Bool := decide (0 < (a - b).toInt)

/-- An epoch has been seen (R303). -/
def State.seeEpoch (s : State) (e : Word) : State := if epochAbove e s.twin.seen then s.modTwin (fun t => { t with seen := e }) else s

/-- The smallest epoch above every epoch seen whose bit 0 is that of a unit (R303). -/
def State.epochFor (s : State) (unitB : Bool) : Word :=
  let m := if epochAbove s.twin.seen s.twin.epoch then s.twin.seen else s.twin.epoch
  if bit (m + 1) 0 == unitB then m + 1 else m + 2

/-! Readiness and heads. -/

/-- CTRL_READY as TWIN_STATUS shows it: on the active the partner's (R333). -/
def State.twinReady (s : State) : Bool :=
  match s.twin.role with
  | .off => false | .standby => s.ctrlReady | .active => s.twin.partnerReady

/-- REDUNDANT (R327). -/
def State.redundant (s : State) : Bool := s.twin.role != .off && s.twin.partner && s.twinReady && s.twin.div == 0

/-- Heads served (R319): DUAL heads whose link has been UP for 1 ms. -/
def State.headsServed (s : State) : List Nat :=
  (List.range 64).filter (fun ch => s.flag (Reg.HL_CAP0 ch) 28 && (s.hlOf ch).state == .up && s.since (s.hlOf ch).since 1000000)

/-- Heads held (R319). -/
def State.headsHeld (s : State) : List Nat := s.headsServed.filter (fun ch => (s.hlOf ch).used == s.power.unitB)

/-- A majority of the heads served (R320). -/
def State.majority (s : State) : Bool :=
  decide (0 < s.headsServed.length) && decide (s.headsServed.length < 2 * s.headsHeld.length)

/-- The heads whose latest report carries KEY_ACTIVE = 1. -/
def State.headsActive (s : State) : List Nat :=
  (List.range 64).filter (fun ch => (s.hlOf ch).state == .up && s.flag (Reg.HL_PORT ch) 3)

/-! Roles. -/

/-- A change of role is counted and dated (R332). -/
def State.roleChanged (s : State) : State :=
  ((s.modTwin (fun t => { t with chgAt := s.count })).wr64 Reg.TWIN_LAST_CHG s.now).bump Reg.TWIN_ROLE_CHG

/-- A TWIN PREF that follows the samples from now on goes on from where its own estimator stands until the first one comes (R56). -/
def State.prefFollow (s : State) (n : Nat) : State :=
  if !s.prefEn n || s.prefSrc n != 9 then s else
  let p := s.prefOf n
  s.setPref n { p with own := false, fstate := s.prefState n, fp := BitVec.ofInt 64 (s.prefOut n s.count),
                       fv := BitVec.ofInt 64 (s.prefVel n), ftk := s.count, sample := none, missed := 0 }

/-- The unit is standby from now on, for a trigger of R331: its cores, Kiln and outputs stop (R318, R322). -/
def State.standbyEnter (s : State) (trigger : Nat) : State :=
  let s := s.each (List.range 4) State.prefFollow
  let s := s.modTwin (fun t => { t with role := .standby, startWait := none, taking := none, postHold := false, ctrlStart := false,
                                        div := 0, join := 0, drains := 0, linkLost := false, loaded := none, stage := none,
                                        swap := none, swapIn := none, noted := [] })
  let s := (s.cycStandby.kilnStop 5).canDemote.loopsUpdate
  let s := s.each (s.host.ring.map Prod.fst) (fun s n => s.setRing n { s.ringOf n with held := [], lost := 0 })
  s.roleChanged.raise 0x0A02 0 [s.twin.epoch, wd trigger]

/-- TWIN_DEMOTE (R322). -/
def State.demote (s : State) (trigger : Nat) : State :=
  if s.twin.role == .active then (s.modTwin (fun t => { t with synced := true })).standbyEnter trigger else s

/-- The cores are to start from the loaded checkpoint, with its cycle number plus 1 (step 4 of R321). -/
def State.ctrlArm (s : State) : State :=
  match s.twin.loaded with
  | some (k, _, _) => (s.modTwin (fun t => { t with ctrlStart := true })).wr (Reg.CYC_COUNT 0) k
  | none => s

/-- The control side at takeover (step 4 of R321). -/
def State.ctrlTake (s : State) (ready : Bool) : State :=
  let s := if s.cyc.state != .standby || s.twin.ctrlStart then s
    else if ready then s.ctrlArm
    else (s.modCyc (fun c => { c with state := .stopped })).raise 0x0A08 0 [wd s.ckptAge]
  s.kilnResume.loopsUpdate.each (List.range 4) State.canStart

/-- The unit takes the active role (R303, R321), for a cause of R331. What it marked DIVERGED as standby is so no more: there is no stream
of an active for it to follow (DESIGN CHOICE, log entry 133). A TWIN PREF that followed samples changes to its own estimator (R56). -/
def State.takeRole (s : State) (cause : Nat) : State :=
  let ready := s.ctrlReady
  let e := s.epochFor s.power.unitB
  let was := s.twin.role
  let k := s.twin.swapIn
  let fol := ((List.range 4).filter (fun n => s.prefEn n && s.prefSrc n == 9 && s.follows n)).map (fun n => (n, s.prefState n))
  let s := s.modTwin (fun t => { t with role := .active, epoch := e, seen := e, taking := none, startWait := none, div := 0, join := 0,
                                        drains := 0, linkLost := false,
                                        postHold := was == .standby, swapIn := none, swap := none, stage := none })
  let s := s.roleChanged.raise 0x0A01 0 [e, wd cause]
  let s := fol.foldl (fun s x => s.prefToOwn x.1 x.2) s
  let s := if was == .standby then (s.ctrlTake ready).each s.ctxNums (fun s n => s.modCtx n Ctx.tabFlush) else s
  match k with
  | some k => if cause = 3 then s.raise 0x0A0A 0 [k, e] else s
  | none => s

/-- The role is taken at the next frame boundary (R320, R321). -/
def State.decideTake (s : State) (cause : Nat) : State :=
  s.modTwin (fun t => { t with taking := some cause, tookAt := s.now })

/-- TWIN_TAKEOVER (step 1 of R321): at a frame boundary the standby takes the role. -/
def execTwinTakeover (s : State) : Host.Outcome State Fault Refusal :=
  match s.twin.taking with
  | some c => .next (if s.twin.role == .standby && s.count + 640 == s.pos.frame.next then s.takeRole c else s)
  | none => .next s

/-- Entries of a completion ring that the old active has posted (R323): those whose PHASE is the one expected. -/
def postedRun (size : Nat) : Nat → Nat → Bool → List Bool → Nat × Bool
  | 0, pi, ph, _ => (pi, ph)
  | _, pi, ph, [] => (pi, ph)
  | f + 1, pi, ph, b :: r =>
    if b != ph then (pi, ph)
    else if pi + 1 = 2 ^ size then postedRun size f 0 (!ph) r else postedRun size f (pi + 1) ph r

/-- Read entries of a completion ring from host memory. -/
def State.ringRead (s : State) (n from_ count : Nat) : State :=
  if count = 0 then s else s.emit (.hostRead ((s.rd64 (Reg.HOST_CQ_BASE n)).toNat + from_ * 64) (count * 64) false)

/-- TWIN_POST_RESUME (R323, step 5 of R321): 300 µs after the decision each ring is scanned and posting resumes. -/
def execTwinPostResume (phases : List (Fin 64 × List Bool)) (s : State) : Host.Outcome State Fault Refusal :=
  if s.twin.role != .active || !s.twin.postHold || decide (s.now.toNat < s.twin.tookAt.toNat + 300000) then .next s else
  let s := s.each ((List.range 64).drop 1) (fun s n =>
    match s.twin.prodIdx.find n with
    | none => s
    | some (pi, ph) =>
      let bs := (phases.filter (fun e => e.1.val == n)).flatMap Prod.snd
      let size := 2 ^ s.cqSize n
      let (pi', ph') := postedRun (s.cqSize n) (size - 1) pi ph bs
      let k := min ((pi' + size - pi) % size + 1) (size - 1)
      let s := s.ringRead n pi (min k (size - pi))
      let s := s.ringRead n 0 (k - (size - pi))
      let (pi, ph) := (pi', ph')
      s.setRing n { s.ringOf n with cqPi := pi, phase := ph })
  let s := s.modTwin (fun t => { t with postHold := false })
  .next (s.each (s.host.ring.map Prod.fst) (fun s n => s.cqDrain n 64))

/-! Heartbeats. -/

/-- The copy index of a context (R309): up to the oldest TILE or TABLE_LOAD that has not been copied whole. -/
def State.copyIndex (s : State) (n : Nat) : Nat :=
  let m := 2 ^ s.sqSize n
  match (s.ctxOf n).flight.find? (fun f => (f.entry.op == 2 || f.entry.op == 4) && f.status.isNone) with
  | some f => (f.entry.sqCi + m - 1) % m
  | none => (s.ringOf n).sqCi

/-- A context index record (R307): on the active bit 17 also tells a joining standby which contexts are not IDLE (R327). -/
def State.hbRecord (s : State) (n : Nat) : Nat :=
  if s.twin.role == .active then
    let r := s.ringOf n
    let d := s.twin.div.getLsbD n || s.twin.join.getLsbD n || (!s.twin.partner && (s.ctxOf n).state != .idle)
    r.cqPi + r.phase.toNat * 2 ^ 16 + d.toNat * 2 ^ 17
  else s.copyIndex n + (s.twin.div.getLsbD n).toNat * 2 ^ 17

/-- The blocks of a HEARTBEAT (R307). -/
def State.hbData (s : State) : List DWord :=
  let b1 := dw s.pairFrame (s.rd Reg.TWIN_CKPT_CYCLE)
  let b2 := s.headsServed.length + s.headsHeld.length * 2 ^ 8 + s.twinReady.toNat * 2 ^ 16 + s.redundant.toNat * 2 ^ 17
    + s.framePhase s.pos.frame.number * 2 ^ 18
  b1 :: BitVec.ofNat 64 b2 :: (List.range 21).map (fun i =>
    BitVec.ofNat 64 (s.hbRecord (3 * i + 1) + s.hbRecord (3 * i + 2) * 2 ^ 21 + s.hbRecord (3 * i + 3) * 2 ^ 42))

/-- TWIN_HB_SEND (R319): every 50 µs. -/
def execTwinHbSend (s : State) : Host.Outcome State Fault Refusal :=
  if !s.flag Reg.TWIN_CFG 0 || !s.since s.twin.hbTx 50000 then .next s
  else .next ((s.twinMsg 1 s.hbData).modTwin (fun t => { t with hbTx := s.count }))

/-- The record of context `n` in a HEARTBEAT. -/
def hbOf (q : Packet) (n : Nat) : Nat := (pktBlock q (3 + (n - 1) / 3)).toNat >>> (21 * ((n - 1) % 3)) % 2 ^ 21

/-- A set of contexts as a word of 64 bits. -/
def ctxSet (p : Nat → Bool) : DWord := BitVec.ofNat 64 (((List.range 64).filter p).foldl (fun m n => m + 2 ^ n) 0)

/-- The active takes a standby's records (R309, R312): copy indices, DIVERGED, and the completions that waited. -/
def State.hbActive (s : State) (q : Packet) : State :=
  let ns := (List.range 64).drop 1
  let s := s.modTwin (fun t => { t with
    copyIdx := ns.foldl (fun m n => SMap.set m 0 n (hbOf q n % 2 ^ 16)) t.copyIdx
    div := ctxSet (fun n => decide (1 ≤ n) && decide (2 ^ 17 ≤ hbOf q n % 2 ^ 18)) })
  s.each s.ctxNums State.settleAll

/-- The standby's numbering follows the active's (R307, R312, R327): learned when it joins, replaced after a jump. -/
def State.hbNumber (s : State) (q : Packet) : State :=
  let f := lo32 (pktBlock q 1)
  let ph := bits (lo32 (pktBlock q 2)) 23 18
  let ns := (List.range 64).drop 1
  let d := (f - s.pairFrame).toInt
  let dp := (ph + 33 - s.framePhase s.pos.frame.number) % 33
  let set := fun (s : State) => s.modTwin (fun t => { t with
    frameOfs := f - lo32 s.pos.frame.number, phaseOfs := (ph + 33 - s.pos.frame.number.toNat % 33) % 33, synced := true })
  if !s.twin.synced then
    set (s.each (ns.filter (fun n => decide (2 ^ 17 ≤ hbOf q n % 2 ^ 18))) (fun s n => s.diverge n 4))
  else if d < -1 || 1 < d || (1 < dp && dp < 32) then set (s.each ns (fun s n => s.diverge n 3))
  else s

/-- The standby takes the active's records (R307, R323). -/
def State.hbStandby (s : State) (q : Packet) : State :=
  (s.hbNumber q).modTwin (fun t => { t with
    prodIdx := ((List.range 64).drop 1).foldl (fun m n => SMap.insert m n (hbOf q n % 2 ^ 16, (hbOf q n).testBit 16)) t.prodIdx })

/-- A HEARTBEAT is accepted (R319, R320, R327). -/
def State.heartbeat (s : State) (q : Packet) : State :=
  let act := (pktBlock q 0).getLsbD 5
  let first := !s.twin.partner
  let lost := s.twin.hbLost
  let busy := ctxSet (fun n => decide (1 ≤ n) && (s.ctxOf n).state != .idle)
  let s := s.modTwin (fun t => { t with
    hbRx := s.count, partner := true, hbLost := false, lostAt := none, linkLost := false,
    taking := if t.taking == some 1 || t.taking == some 2 then none else t.taking,
    partnerReady := (pktBlock q 2).getLsbD 16,
    join := if first && t.role == .active then busy else t.join })
  let s := if lost then s.raise 0x0A04 0 [hi32 (pktBlock q 0)] else s
  match s.twin.role with
  | .active => if act then s else s.hbActive q
  | .standby => if act then s.hbStandby q else s
  | .off =>
    if act then (({ s with twin := { s.twin with synced := false } } : State).standbyEnter 5).hbStandby q
    else if s.power.unitB then ({ s with twin := { s.twin with synced := false } } : State).standbyEnter 5
    else s.takeRole 4

/-! Receiving. -/

/-- Judge a message by its epoch (R304): stale ones are answered, a higher epoch is adopted, an active unit demoting first. -/
def State.twinJudge (s : State) (kind : Nat) (q : Packet) (f : State → State) : State :=
  let e := hi32 (pktBlock q 0)
  if epochAbove s.twin.epoch e then
    (s.bump Reg.TWIN_STALE).twinMsg 7 [dw s.twin.epoch (wd ((s.twin.role == .active).toNat + kind * 16))]
  else if epochAbove e s.twin.epoch then f (((s.seeEpoch e).demote 2).modTwin (fun t => { t with epoch := e }))
  else f s

/-- KIND of a TWIN packet (R306). -/
def twinKind (q : Packet) : Nat := bits (lo32 (pktBlock q 0)) 3 0

/-- A TWIN packet arrives (R301, R306, R307): one of an unlisted KIND, or whose LEN does not match, is discarded; one from the partner is
judged. -/
def State.twinRecv (s : State) (k : Nat) (bs : List Block) (kind : Nat) (len : Packet → Bool) (f : Packet → State → State) : State :=
  s.fabRecv k bs (fun q => q.typ.toNat == 0x20 && (twinKind q == kind || twinKind q == 0 || decide (8 < twinKind q)))
    (fun q => twinKind q == kind && len q) (fun q s =>
      if q.src.toNat ≠ s.twin.partnerAddr || !s.flag Reg.TWIN_CFG 0 || (s.twin.role == .off && (s.twin.startWait.isNone || kind != 1)) then s
      else s.twinJudge kind q (f q))

/-- TWIN_HEARTBEAT_RX (R307, R319). -/
def execTwinHeartbeatRx (k : Nat) (bs : List Block) (s : State) : Host.Outcome State Fault Refusal :=
  .next (s.twinRecv k bs 1 (fun q => q.data.length == 24) (fun q s => s.heartbeat q))

/-- TWIN_CKPT_RX (R317): the standby stages a run of a checkpoint; one of another cycle begins a new stage. -/
def execTwinCkptRx (k : Nat) (bs : List Block) (s : State) : Host.Outcome State Fault Refusal :=
  .next (s.twinRecv k bs 2 (fun q => decide (2 ≤ q.data.length) && decide (q.data.length ≤ 1023)) (fun q s =>
    if s.twin.role != .standby then s else
    let c := lo32 (pktBlock q 1)
    let run := (bits (hi32 (pktBlock q 1)) 16 0, q.data.drop 2)
    s.modTwin (fun t => { t with stage := match t.stage with
      | some (d, l) => if d = c then some (c, l ++ [run]) else some (c, [run])
      | none => some (c, [run]) })))

/-- The blocks of a staged checkpoint from an offset on, as far as they have come. -/
def stageBlocks (l : List (Nat × List DWord)) : Nat → Nat → List DWord
  | 0, _ => []
  | f + 1, off => match l.find? (fun e => e.1 == off && e.2 != []) with
    | some (_, b) => b ++ stageBlocks l f (off + b.length)
    | none => []

/-- TWIN_CKPT_END_RX (R316, R317): a checkpoint that is whole and in time is loaded; a late one is counted and discarded. -/
def execTwinCkptEndRx (k : Nat) (bs : List Block) (s : State) : Host.Outcome State Fault Refusal :=
  .next (s.twinRecv k bs 3 (fun q => q.data.length == 3) (fun q s =>
    match s.twin.role, s.twin.stage with
    | .standby, some (c, l) =>
      let bs := stageBlocks l (l.length + 1) 0
      let b := bs.flatMap (fun d => natBytes 8 d.toNat)
      let s := s.modTwin (fun t => { t with stage := none })
      if c ≠ lo32 (pktBlock q 1) || bs.length ≠ bits (hi32 (pktBlock q 1)) 20 0 || crc32c b ≠ lo32 (pktBlock q 2) then s
      else if s.cyc.prog.any (fun p => decide (leAt b 48 8 + p.ns < s.now.toNat)) then
        ((s.bump Reg.TWIN_CKPT_LATE).orW Reg.TWIN_FAULTS 2).raise 0x0A06 0 [c, 0]
      else s.ckptLoad c b
    | _, _ => s))

/-- A sample of the active's PREF (R56, R58): a following PREF takes it as S_b of its boundary, and the contexts that wait for it do that
boundary's work. -/
def State.twinSample (s : State) (q : Packet) : State :=
  let h := hi32 (pktBlock q 1)
  let b := lo32 (pktBlock q 1)
  let n := bits h 1 0
  if s.twin.role != .standby || !s.dotRuns || !s.prefEn n || s.prefSrc n != 9 then s else
  let x : PSample := { p := pktBlock q 2, v := BitVec.ofInt 64 (sx 40 (pktBlock q 3).toNat), stamp := dw b 0, state := PState.ofCode (bits h 4 2) }
  let s := s.setPref n { s.prefOf n with sample := some x, got := true, missed := 0 }
  if !s.follows n then s else
  let f := s.pos.frame.number - BitVec.ofInt 64 (s.pairFrame - b).toInt
  let s := s.setPref n { s.prefOf n with sp := x.p, sv := x.v, sf := f }
  s.each (s.ctxNums.filter (fun m => s.ctxWaits m && s.fld (Reg.CTX_CFG m) 1 0 == n)) (fun s m => s.ctxBoundary [] f m)

/-- TWIN_SAMPLE_RX (R56, R58). -/
def execTwinSampleRx (k : Nat) (bs : List Block) (s : State) : Host.Outcome State Fault Refusal :=
  .next (s.twinRecv k bs 4 (fun q => q.data.length == 4) (fun q s => s.twinSample q))

/-- TWIN_SEQ_RX (R310, R312): the inputs act eight boundaries after F; a message that has missed that boundary diverges. -/
def execTwinSeqRx (k : Nat) (bs : List Block) (s : State) : Host.Outcome State Fault Refusal :=
  .next (s.twinRecv k bs 5 (fun q => decide (3 ≤ q.data.length) && decide (q.data.length ≤ 10)) (fun q s =>
    if s.twin.role != .standby then s else
    let f := lo32 (pktBlock q 1) + 8
    let n := bits (hi32 (pktBlock q 1)) 5 0
    let c := bits (hi32 (pktBlock q 1)) 13 8
    let codes := (List.range (if c = 0 then 64 else c)).map (fun i => (pktBlock q (2 + i / 8)).toNat >>> (8 * (i % 8)) % 64)
    if (f - s.pairFrame).toInt ≤ 0 then s.diverge n 1
    else s.modTwin (fun t => { t with seqs := t.seqs ++ [{ frame := f, ctx := n, codes := codes }] })))

/-- TWIN_CTX_RX (R311 to R313): a command or a table effect acts at its apply frame, a halt note at the next line boundary. -/
def execTwinCtxRx (k : Nat) (bs : List Block) (s : State) : Host.Outcome State Fault Refusal :=
  .next (s.twinRecv k bs 6 (fun q => q.data.length == 3) (fun q s =>
    if s.twin.role != .standby then s else
    let w := lo32 (pktBlock q 1)
    let x := lo32 (pktBlock q 2)
    let n := bits w 5 0
    let a : TwinAct := { frame := hi32 (pktBlock q 1), ctx := n, kind := bits w 9 8, cmd := bits w 14 12,
                         pi := bits x 15 0, key := bits x 31 16 }
    if a.kind = 1 then
      if (s.ctxOf n).active && !s.twin.div.getLsbD n then
        (s.modTwin (fun t => { t with noted := n :: t.noted.erase n })).haltReq n (bits w 19 16) none
      else s
    else if (a.frame - s.pairFrame).toInt ≤ 0 then s.diverge n 1
    else s.modTwin (fun t => { t with acts := t.acts ++ [a] })))

/-- TWIN_EPOCH_REPLY_RX (R304): the reply is itself judged. -/
def execTwinEpochReplyRx (k : Nat) (bs : List Block) (s : State) : Host.Outcome State Fault Refusal :=
  .next (s.twinRecv k bs 7 (fun q => q.data.length == 2) (fun _ s => s))

/-- TWIN_SWAP_RX (R329): the standby accepts or refuses a request; the active takes the answer. -/
def execTwinSwapRx (k : Nat) (bs : List Block) (s : State) : Host.Outcome State Fault Refusal :=
  .next (s.twinRecv k bs 8 (fun q => q.data.length == 2) (fun q s =>
    let c := bits (lo32 (pktBlock q 1)) 1 0
    let n := hi32 (pktBlock q 1)
    match s.twin.role with
    | .standby =>
      if c ≠ 1 then s
      else if s.ctrlReady then (s.modTwin (fun t => { t with swapIn := some n })).twinMsg 8 [dw 2 n]
      else s.twinMsg 8 [dw 3 n]
    | .active =>
      s.modTwin (fun t => { t with swap := t.swap.map (fun w =>
        if w.sent.isNone then w
        else if c = 2 then { w with accepted := true }
        else if c = 3 then { w with sent := none, refused := true } else w) })
    | .off => s))

/-! Loss of the heartbeat. -/

/-- TWIN_LINK_LOST (R320): a standby that stays standby while a head reports KEY_ACTIVE. -/
def State.linkCheck (s : State) : State :=
  match s.headsActive with
  | [] => s
  | ch :: _ => if s.twin.linkLost then s
    else (s.modTwin (fun t => { t with linkLost := true })).raise 0x0A05 0 [s.rd (Reg.HL_KEY ch)]

/-- TWIN_HB_LOST (R319, R320, R326): at T_L. -/
def execTwinHbLost (s : State) : Host.Outcome State Fault Refusal :=
  let t := s.twin
  if t.role == .off || !t.partner || !s.since t.hbRx (s.fld Reg.TWIN_CFG 5 2 * 50000) then .next s else
  let args := [wd s.headsServed.length, wd s.headsHeld.length]
  let s := s.modTwin (fun t => { t with partner := false, hbLost := true, lostAt := some s.count })
  let s := (s.bump Reg.TWIN_HB_LOST).raise 0x0A03 0 args
  match s.twin.role with
  | .active => .next (if s.majority then s.each s.ctxNums State.settleAll else s.demote 1)
  | _ =>
    if s.majority then .next (s.decideTake 1)
    else .next (s.each (s.ctxNums.filter (fun n => (s.ctxOf n).state != .idle)) (fun s n => s.diverge n 1)).linkCheck

/-- TWIN_HB_DECIDE2 (R320): 100 µs after T_L with the heartbeat still lost. -/
def execTwinHbDecide2 (s : State) : Host.Outcome State Fault Refusal :=
  match s.twin.lostAt with
  | none => .next s
  | some t =>
    if !s.since t 100000 then .next s else
    let s := s.modTwin (fun t => { t with lostAt := none })
    if s.twin.role != .standby || s.twin.taking.isSome then .next s
    else if !s.power.unitB && !s.headsServed.any (fun ch =>
        s.flag (Reg.HL_PORT ch) 3 && epochAbove (s.rd (Reg.HL_KEY ch)) s.twin.epoch) then .next (s.decideTake 2)
    else .next s.linkCheck

/-! Start-up and settings. -/

/-- A unit with EN = 1 waits for its partner (R327). -/
def State.twinWait (s : State) : State :=
  (s.modTwin (fun t => { t with startWait := some s.count })).findPartner

/-- TWIN_START_WAIT_EXPIRE (R327). -/
def execTwinStartWaitExpire (s : State) : Host.Outcome State Fault Refusal :=
  match s.twin.startWait with
  | none => .next s
  | some t =>
    if !s.since t (s.fld Reg.TWIN_CFG 15 8 * 1000000) then .next s
    else .next ((s.orW Reg.TWIN_FAULTS 0x10).takeRole 4)

/-- The twin path takes its reset state; epochs stay (R303, R332). -/
def State.twinClear (s : State) : State := s.modTwin (fun t => { epoch := t.epoch, seen := t.seen })

/-- A write of TWIN_CFG (R16, R332): MODE and SWAP_MIN always, the rest only while EN is 0. Setting EN begins the wait of
R327; before the end of S5 the start-up does. -/
def State.twinCfgWrite (s : State) (v : Word) : State :=
  let was := s.rd Reg.TWIN_CFG
  let min := bits v 26 16
  let w := setBits was 1 1 (bits v 1 1)
  let w := if 1 ≤ min && min ≤ 1440 then setBits w 26 16 min else w
  let u := if 2 ≤ bits v 5 2 && bits v 5 2 ≤ 8 then setBits w 5 2 (bits v 5 2) else w
  let u := if 1 ≤ bits v 15 8 then setBits u 15 8 (bits v 15 8) else u
  let u := setBits u 0 0 (bits v 0 0)
  if bit was 0 then
    let s := s.wr Reg.TWIN_CFG w
    if u = w then s else s.orW Reg.TWIN_FAULTS 1
  else
    let s := s.wr Reg.TWIN_CFG u
    if bit u 0 && s.power.s5Done then s.twinWait else s

/-! Planned swaps. -/

/-- Request a swap (R328). -/
def State.swapReq (s : State) : State :=
  if s.twin.role != .active || s.twin.swap.isSome then s else s.modTwin (fun t => { t with swap := some { since := s.count } })

/-- A write of TWIN_SWAP_CMD (R328, R329). -/
def State.swapCmd (s : State) (now cancel : Bool) : State :=
  let s := if now then s.swapReq else s
  if cancel && s.twin.swap.any (fun w => w.sent.isNone) then s.modTwin (fun t => { t with swap := none }) else s

/-- TWIN_SWAP_TIMER (R328): SWAP mode, SWAP_MIN minutes after the last change of role. -/
def execTwinSwapTimer (s : State) : Host.Outcome State Fault Refusal :=
  if s.flag Reg.TWIN_CFG 1 && s.since s.twin.chgAt (s.fld Reg.TWIN_CFG 26 16 * 60000000000) then .next s.swapReq else .next s

/-- TWIN_SWAP_NOW (R328). -/
def execTwinSwapNow (s : State) : Host.Outcome State Fault Refusal :=
  .next (s.gated Reg.TWIN_SWAP_CMD (fun s => s.swapCmd true false))

/-- TWIN_SWAP_CANCEL (R329). -/
def execTwinSwapCancel (s : State) : Host.Outcome State Fault Refusal :=
  .next (s.gated Reg.TWIN_SWAP_CMD (fun s => s.swapCmd false true))

/-- A MISMATCH was reported in the last 60 s. -/
def State.mismatched (s : State) : Bool := s.twin.mismatch.any (fun t => !s.since t 60000000000)

/-- TWIN_SWAP_DEFERRED (R329): a swap has waited 60 s. -/
def execTwinSwapDeferred (s : State) : Host.Outcome State Fault Refusal :=
  match s.twin.swap with
  | none => .next s
  | some w =>
    if w.deferred || w.sent.isSome || !s.since w.since 60000000000 then .next s else
    let why := if !s.redundant then 2 else if s.mismatched then 3 else if w.refused then 4 else 1
    .next ((s.modTwin (fun t => { t with swap := some { w with deferred := true } })).raiseE 0x0A0B 0 [wd why])

/-- TWIN_SWAP_START (R329): at a page gap the active sends SWAP with the current cycle number. -/
def State.swapStart (s : State) : State :=
  match s.twin.swap with
  | none => s
  | some w =>
    if w.sent.isSome || s.twin.role != .active || !s.redundant || s.mismatched || s.ctxNums.any (fun n => (s.ctxOf n).inPage.isSome) then s
    else
      let k := s.cycleNo
      (s.modTwin (fun t => { t with swap := some { w with sent := some k } })).twinMsg 8 [dw 1 k]

/-- Core 0 has completed its cycle and a boundary of it has come, or no cycle runs. -/
def State.cycleOver (s : State) : Bool :=
  match s.cyc.state, s.cyc.prog with
  | .running, some p =>
    let r := s.taskRun 0
    r.job.isNone && r.outAt.isNone && !r.late && decide (r.last < s.cycIdx p 0 s.now.toNat)
  | _, _ => true

/-- Steps 3 and 4 of R329 at a boundary of core 0: the active demotes, the standby takes the role once checkpoint k is loaded. -/
def State.swapBoundary (s : State) : State :=
  match s.twin.role, s.twin.swap, s.twin.swapIn, s.cyc.prog, s.twin.loaded with
  | .active, some w, _, _, _ =>
    if !w.accepted || !s.cycleOver then s
    else
      let e := s.epochFor (!s.power.unitB)
      (s.demote 4).raise 0x0A0A 0 [w.sent.getD 0, e]
  | .standby, _, some k, some p, some (c, _, t) =>
    let t0 := s.cycTime p 0 (s.cycIdx p 0 s.now.toNat)
    if epochAbove k c || s.twin.taking.isSome || decide ((s.count - t).toNat < (s.now - t0).toNat) then s
    else (s.modTwin (fun x => { x with taking := some 3, tookAt := t0 })).ctrlArm
  | _, _, _, _, _ => s

end Sys2Proof.Machine
end

