-- ==== Sys2Proof/Machine/HeadReturn.lean ====
section
/-!
DEFINITION. Return frames of head links, read from their blocks (R251, R262 to R265), and the two rows that cross blocks: the frame
boundary with the start of a planned swap (R53, R329), and the period start with the end of one (R338, R329).
-/
namespace Sys2Proof.Machine

/-! The blocks of a return frame. -/

/-- A 16-bit field of a block, from bit `lo`. -/
def blkHalf (b : Block) (lo : Nat) : BitVec 16 := BitVec.ofNat 16 (blkField b (lo + 15) lo)

/-- A return frame has its START, and an END at the place that its PHASE gives, whose CRC holds (R251, R263). -/
def returnGood (bs : List Block) : Bool :=
  let start := bs.headD (false, 0)
  let n := frameBlocks (blkField start 37 32)
  let e := bs.getD (n - 1) (false, 0)
  blkType start == some 0x1E && bs.length == n && blkType e == some 0x78 && blkField e 39 8 == (crc32c (blockBytes bs.dropLast)).toNat

/-- What a return frame says (R251). -/
structure ReturnFrame where
  /-- FRAME of the START. -/
  frame     : BitVec 24
  hstate    : BitVec 4
  loaded    : Bool
  keyEpoch  : Word
  keyActive : Bool
  used      : Bool
  p0Valid   : Bool
  p1Valid   : Bool
  mismatch  : Bool
  wiring    : Bool
  dmiss     : Bool
  temp0     : BitVec 16
  temp1     : BitVec 16
  temp2     : BitVec 16
  temp3     : BitVec 16
  supply    : BitVec 16
  hfault    : BitVec 16
  /-- Reports of the HEALTH blocks, in order. -/
  reports   : List (BitVec 16)
  deriving DecidableEq, Repr

/-- PORT, STATUS_T and STATUS_S stand in their places (R251): with an invalid block in one of them the frame says nothing (R229; log
entry 122). -/
def returnLaid (bs : List Block) : Bool := (bs.drop 1).take 3 |>.map blkType |> (· == [some 0xE1, some 0xCC, some 0xD2])

/-- The fields of a return frame (R251). -/
def returnFrame (bs : List Block) : ReturnFrame :=
  let start := bs.headD (true, 0)
  let port := bs.getD 1 (true, 0)
  let temp := bs.getD 2 (true, 0)
  let stat := bs.getD 3 (true, 0)
  { frame := BitVec.ofNat 24 (blkField start 31 8), hstate := BitVec.ofNat 4 (blkField start 41 38), loaded := start.2.getLsbD 42,
    keyEpoch := wd (blkField port 39 8), keyActive := port.2.getLsbD 40, used := port.2.getLsbD 41, p0Valid := port.2.getLsbD 42,
    p1Valid := port.2.getLsbD 43, mismatch := port.2.getLsbD 44, wiring := port.2.getLsbD 45, dmiss := port.2.getLsbD 46,
    temp0 := blkHalf temp 8, temp1 := blkHalf temp 24, temp2 := blkHalf temp 40, temp3 := blkHalf stat 8, supply := blkHalf stat 24,
    hfault := blkHalf stat 40,
    reports := ((bs.drop 4).dropLast.filter (fun b => blkType b == some 0x4B)).flatMap (fun b => [blkHalf b 8, blkHalf b 24, blkHalf b 40]) }

/-! The two rows that cross blocks. -/

/-- FRAME_BOUNDARY (R53): the boundary of the frame grid has come. -/
def execFrameBoundary (ecc : List EccHit) (s : State) : Host.Outcome State Fault Refusal :=
  .next (if s.count.toNat < s.pos.frame.next.toNat then s else (s.boundary ecc).swapStart)

/-- CYC_PERIOD_START (R338, R344): a boundary of a task; at one of core 0 a planned swap takes place. -/
def execCycPeriodStart (t : Fin 24) (s : State) : Host.Outcome State Fault Refusal :=
  .next ((if t = 0 then s.swapBoundary else s).cycBoundary t.val)

/-! What a return frame does. -/

/-- What a report raises (R263): result 1 OK, 2 NO_FIRE, 3 WEAK, 4 DEVIATED against STATE 0 GOOD, 1 WEAK, 2 MISSING, 3 DISABLED. -/
def State.healthEvent (s : State) (ch col res : Nat) (r : Word) : State :=
  let st := bits r 1 0
  if res = 1 then (if st = 1 || st = 2 then s.raiseE 0x0809 0 [wd ch, wd col] else s)
  else if st = 0 || (st = 1 && res ≠ 3) then s.raise 0x0808 0 [wd ch, wd col, wd res]
  else s

/-- One report of a HEALTH block (R263). -/
def State.healthReport (s : State) (ch : Nat) (rep : BitVec 16) : State :=
  let col := rep.toNat % 2 ^ 13
  let res := rep.toNat / 2 ^ 13
  if res = 0 || 5 ≤ res || (s.laneCfg ch).cols ≤ col then s
  else
    let h := s.hlOf ch
    let s := if 64 ≤ h.health.length then s.bump (Reg.HL_HEALTH_LOST ch) else s.setHl ch { h with health := h.health ++ [rep] }
    if !s.flag (Reg.HL_CTRL ch) 8 then s else
    match (s.nozOf ch).active with
    | some t => s.healthEvent ch col res (nthW t.map col)
    | none => s

/-- The key that a head reports, against the unit's own (R262, R305): EPOCH first, then ACTIVE (R259). A standby whose heads report the
active's key has a lower one at every return frame, and raises the event each time (log entry 74). -/
def State.headKey (s : State) (ch : Nat) (e : Word) (active : Bool) : State :=
  let t := s.twin
  let higher := epochAbove e t.epoch || (e == t.epoch && active && t.role != .active)
  let s := s.seeEpoch e
  if !higher then s else
  let s := s.raise 0x0807 0 [wd ch, e]
  match t.role with
  | .active => (s.demote 3).modTwin (fun t => { t with epoch := e })
  | .standby => s.modTwin (fun t => { t with epoch := e })
  | .off => s

/-- MISMATCH of a return frame (R262, R270, R326). -/
def State.headMismatch (s : State) (ch : Nat) (f : ReturnFrame) : State :=
  let run := (s.hlOf ch).mmRun
  let s := s.modHl ch (fun h => { h with mmRun := f.mismatch })
  if !f.mismatch then s else
  let s := ((s.orW (Reg.HL_ERR ch) 0x40).bump (Reg.HL_MISMATCH ch)).raise 0x0805 0 [wd ch, wd f.frame.toNat]
  let s := (s.bump Reg.TWIN_MISMATCH).modTwin (fun t => { t with mismatch := some s.count })
  if run then s else s.raise 0x0A09 0 [wd ch, wd f.frame.toNat]

/-- DMISS and WIRING of a return frame (R262, R264). -/
def State.headErrors (s : State) (ch : Nat) (f : ReturnFrame) : State :=
  let h := s.hlOf ch
  let s := s.setHl ch { h with dmissRun := f.dmiss, wired := h.wired || f.wiring }
  let s := if !f.dmiss then s else
    let s := (s.orW (Reg.HL_ERR ch) 0x20).bump (Reg.HL_DMISS ch)
    if h.dmissRun then s else s.raise 0x080A 0 [wd ch]
  if !f.wiring then s else
  let s := s.orW (Reg.HL_ERR ch) 0x400
  if h.wired then s else s.raise 0x080D 0 [wd ch]

/-- The status words of a return frame (R251, R262, R264). -/
def State.headStatus (s : State) (ch : Nat) (f : ReturnFrame) : State :=
  let pair := fun (a b : BitVec 16) => wd (a.toNat + b.toNat * 2 ^ 16)
  let s := ((s.wr (Reg.HL_TEMP01 ch) (pair f.temp0 f.temp1)).wr (Reg.HL_TEMP23 ch) (pair f.temp2 f.temp3)).wr (Reg.HL_SUPPLY ch)
    (pair f.supply f.hfault)
  let port := f.used.toNat + f.p0Valid.toNat * 2 + f.p1Valid.toNat * 4 + f.keyActive.toNat * 8 + f.wiring.toNat * 16
  let s := (s.wr (Reg.HL_PORT ch) (wd port)).wr (Reg.HL_KEY ch) f.keyEpoch
  let was := (s.hlOf ch).used
  let s := s.modHl ch (fun h => { h with used := f.used, hstate := f.hstate.toNat, loaded := f.loaded, badRun := 0 })
  if was = f.used then s else s.raise 0x0806 0 [wd ch, bw f.used, f.keyEpoch]

/-- HL_RETURN_FRAME (R229, R251, R262 to R265): a frame comes from the head, as its blocks. -/
def execHlReturnFrame (ch : Nat) (blocks : List Block) (s : State) : Host.Outcome State Fault Refusal :=
  let h := s.hlOf ch
  let f := returnFrame blocks
  if h.state == .off then .next s
  else if !returnGood blocks then
    let s := (((s.bump (Reg.HL_RX_BAD ch)).orW (Reg.HL_ERR ch) 2).raiseE 0x080E 0 [wd ch]).setHl ch { h with badRun := h.badRun + 1 }
    .next (if 4 ≤ h.badRun + 1 then s.hlFrameLost ch 2 else s)
  else if !returnLaid blocks then .next (s.setHl ch { h with badRun := 0 })
  else
    let s := ((((s.headStatus ch f).headKey ch f.keyEpoch f.keyActive).headMismatch ch f).headErrors ch f)
    .next (f.reports.foldl (fun s r => s.healthReport ch r) s)

end Sys2Proof.Machine
end

