-- ==== Sys2Proof/Machine/Sched.lean ====
section
/-!
DEFINITION. The event scheduler (R65 to R70, R576) and writes of TB_OFFSET (R62 to R64), whose steps fire the entries they pass.
-/
namespace Sys2Proof.Machine

/-- A scheduler entry. -/
def State.schedOf (s : State) (e : Nat) : SchedEntry := s.pos.sched.get {} e

/-- Replace a scheduler entry. -/
def State.setSched (s : State) (e : Nat) (x : SchedEntry) : State := { s with pos := { s.pos with sched := s.pos.sched.set {} e x } }

/-- EN of an entry. -/
def SchedEntry.en (x : SchedEntry) : Bool := bit x.w3 31
/-- DOM of an entry: true for the position domain. -/
def SchedEntry.dom (x : SchedEntry) : Bool := bit x.w3 30
/-- The time-domain trigger. -/
def SchedEntry.time (x : SchedEntry) : DWord := dw x.w0 x.w1
/-- The position-domain trigger, in 1/65,536 line. -/
def SchedEntry.place (x : SchedEntry) : BitVec 48 := BitVec.ofNat 48 (dw x.w0 x.w1).toNat

/-- An entry as it is written: reserved bits are ignored (R15, R65). -/
def SchedEntry.ofWords (x : SchedEntry) (w0 w1 w2 w3 : Word) : SchedEntry :=
  { x with w0 := w0, w1 := if bit w3 30 then w1 &&& 0xFFFF else w1, w2 := w2, w3 := w3 &&& 0xFF00FFFF, passed := false }

/-- The trigger has been reached (R67); the scheduler runs with the dot clock (R32). -/
def State.schedDue (s : State) (x : SchedEntry) : Bool :=
  s.dotRuns && x.en && (if x.dom then
      let n := bits x.w3 29 28
      (match s.prefState n with | .off | .invalid => false | _ => decide (0 ≤ posDiff (s.prefPos n s.count) x.place))
    else decide (x.time.toNat ≤ s.now.toNat))

/-- The trigger has been passed (R69): one equal to the present value is due, and not passed. -/
def State.schedPassed (s : State) (x : SchedEntry) : Bool :=
  if x.dom then decide (0 < posDiff (s.prefPos (bits x.w3 29 28) s.count) x.place) else decide (x.time.toNat < s.now.toNat)

/-- How many ticks ago a due entry came due (R67, R68), at the rate of corrected time in force, or at the velocity of its PREF since the
last accepted edge. -/
def State.dueFor (s : State) (x : SchedEntry) : Nat :=
  if x.dom then
    let n := bits x.w3 29 28
    let since := (s.count - (if s.follows n then (s.prefOf n).ftk else (s.prefOf n).tk)).toNat
    let v := s.prefVel n
    if v ≤ 0 then since else min since ((wrapPos (s.prefOut n s.count - x.place.toInt * 2 ^ 16) * 2 ^ 16) / v).toNat
  else
    let t := s.tb
    let past := (t.offset + (t.count.toNat : Int) * t.incr.toNat - (x.time.toNat : Int) * 2 ^ 40) * 1000000 + t.slew
    (past / ((t.incr.toNat * 1000000 - (if t.slew = 0 then 0 else s.slewStep) : Nat) : Int)).toNat

/-- It is the turn of a due entry: none came due at an earlier tick, and none of a lower index at the same (R68). -/
def State.schedTurn (s : State) (e : Nat) : Bool :=
  let k := s.dueFor (s.schedOf e)
  s.pos.sched.all (fun y => !s.schedDue y.2 || decide (s.dueFor y.2 < k) || (s.dueFor y.2 == k && decide (e ≤ y.1)))

/-! Actions. -/

/-- Action 5 (R66, R576): clear, set, toggle, or a pulse of 100 ns. -/
def State.gpioAction (s : State) (arg : Nat) : State :=
  let pin := arg % 16
  let level := s.pos.gpio.getLsbD pin
  match arg / 16 % 4 with
  | 0 => s.gpioDrive pin false
  | 1 => s.gpioDrive pin true
  | 2 => s.gpioDrive pin (!level)
  | _ =>
    let s := s.gpioDrive pin (!level)
    let p : Pulse := { back := level, endAt := s.count + 100 }
    { s with pos := { s.pos with pulses := s.pos.pulses.set none pin (some p) } }

/-- The target of an action is absent (R66), or the unit is standby and the action drives outputs (R318). -/
def State.actionAbsent (s : State) (act arg : Nat) : Bool :=
  (s.twin.role == .standby && (act == 1 || act == 2 || act == 3 || act == 5)) ||
  match act with
  | 1 => !s.cycExternal (arg % 4)
  | 2 | 3 | 5 => !s.domOn 7
  | 4 => arg / 256 % 64 == 0
  | 6 => !s.domOn 6
  | _ => false

/-- SCHED_ACTION_ISSUE (R66, R68). -/
def State.schedAction (s : State) (act arg : Nat) : State :=
  if s.actionAbsent act arg then s.bump Reg.SCHED_IGNORED else
  match act with
  | 1 => s.cycAction (arg % 4)
  | 2 => s.kilnAction (arg % 8)
  | 3 => s.each ((List.range 8).filter (fun n => arg.testBit n)) State.loopConvReq
  | 4 => s.seqInput (arg / 256 % 64) (arg % 16)
  | 5 => s.gpioAction arg
  | 6 => s.snapNow (arg % 256)
  | _ => s

/-- An entry after it fires (R69): a periodic trigger advances by PERIOD, a one-shot clears EN. -/
def SchedEntry.fired (x : SchedEntry) (late : Bool) : SchedEntry :=
  let t := if x.dom then (BitVec.ofNat 64 ((x.place + BitVec.ofNat 48 x.w2.toNat).toNat)) else x.time + BitVec.ofNat 64 x.w2.toNat
  let x := { x with firings := x.firings + 1, late := x.late || late, passed := false }
  if x.w2 = 0 then { x with w3 := x.w3 &&& 0x7FFFFFFF } else { x with w0 := lo32 t, w1 := hi32 t }

/-- An entry fires (R69, R70): once, with its action issued. -/
def State.schedFire (s : State) (e : Nat) (late : Bool) : State :=
  let x := s.schedOf e
  let y := x.fired late
  let s := s.setSched e { y with passed := y.en && s.schedPassed y }
  let s := if late then (s.bump Reg.SCHED_LATE_CNT).raiseE 0x020B 0 [wd e] else s
  s.schedAction (bits x.w3 27 24) (bits x.w3 15 0)

/-- SCHED_ENTRY_DUE (R67 to R70): an entry whose trigger is reached fires in its turn, once per command. -/
def execSchedEntryDue (e : Fin 2048) (s : State) : Host.Outcome State Fault Refusal :=
  let x := s.schedOf e.val
  if s.schedDue x && s.schedTurn e.val then .next (s.schedFire e.val x.passed) else .next s

/-- GPIO_PULSE_END (R576). -/
def execGpioPulseEnd (pin : Fin 16) (s : State) : Host.Outcome State Fault Refusal :=
  match s.pos.pulses.get none pin.val with
  | none => .next s
  | some p => if s.count.toNat < p.endAt.toNat then .next s else .next (s.gpioDrive pin.val p.back)

/-! The window. -/

/-- Write an entry, whole (R65, R70). -/
def State.schedWrite (s : State) (e : Nat) (w0 w1 w2 w3 : Word) : State := s.setSched e ((s.schedOf e).ofWords w0 w1 w2 w3)

/-- A write of SCHED_CMD (R76). -/
def State.schedCmd (s : State) (code : Nat) : State :=
  let e := s.fld Reg.SCHED_INDEX 10 0
  let w := fun k => s.rd (Reg.SCHED_W k)
  let x := s.schedOf e
  match code with
  | 1 => s.schedWrite e (w 0) (w 1) (w 2) (w 3)
  | 2 => (((s.wr (Reg.SCHED_W 0) x.w0).wr (Reg.SCHED_W 1) x.w1).wr (Reg.SCHED_W 2) x.w2).wr (Reg.SCHED_W 3) x.w3
  | 3 => s.setSched e { x with w3 := x.w3 &&& 0x7FFFFFFF, passed := false }
  | _ => s

/-- SCHED_WRITE_ENTRY (R65). -/
def execSchedWriteEntry (s : State) : Host.Outcome State Fault Refusal := .next (s.gated Reg.SCHED_CMD (fun s => s.schedCmd 1))

/-- SCHED_READ_ENTRY (R76). -/
def execSchedReadEntry (s : State) : Host.Outcome State Fault Refusal := .next (s.gated Reg.SCHED_CMD (fun s => s.schedCmd 2))

/-- SCHED_CLEAR_EN (R76). -/
def execSchedClearEn (s : State) : Host.Outcome State Fault Refusal := .next (s.gated Reg.SCHED_CMD (fun s => s.schedCmd 3))

/-- MGMT_SCHED_WRITE (R65, R101). -/
def execMgmtSchedWrite (d : List Word) (s : State) : Host.Outcome State Fault Refusal :=
  if !s.mgmtReady (descOp d == 0x11) then .next s
  else if mgmtReserved d [0xFFFFFFFF, if bit (nthW d 5) 30 then 0xFFFF else 0xFFFFFFFF, 0xFFFFFFFF, 0xFF00FFFF, 0x7FF] then
    .next (s.hostError 15)
  else .next ((s.schedWrite (bits (nthW d 6) 10 0) (nthW d 2) (nthW d 3) (nthW d 4) (nthW d 5)).mgmtDone d 0 0)

/-! Writes of TB_OFFSET. -/

/-- The time-domain entry of the skipped interval that fires next: by trigger, ties by index (R63). -/
def State.skippedNext (s : State) (lo hi : DWord) : Option (Nat × Nat) :=
  s.pos.sched.foldl (fun (m : Option (Nat × Nat)) (e : Nat × SchedEntry) =>
    let t := e.2.time.toNat
    if !e.2.en || e.2.dom || t ≤ lo.toNat || hi.toNat ≤ t then m
    else match m with
      | some (u, _) => if t < u then some (t, e.1) else m
      | none => some (t, e.1)) none

/-- How often the entries of a skipped interval fire in it. -/
def State.skippedCount (s : State) (lo hi : DWord) : Nat :=
  (s.pos.sched.map (fun (e : Nat × SchedEntry) =>
    let t := e.2.time.toNat
    if !e.2.en || e.2.dom || t ≤ lo.toNat || hi.toNat ≤ t then 0
    else if e.2.w2 = 0 then 1 else (hi.toNat - 1 - t) / e.2.w2.toNat + 1)).sum

/-- Fire the entries of a skipped interval, each marked LATE (R63). -/
def State.fireSkipped (s : State) (lo hi : DWord) : Nat → State
  | 0 => s
  | f + 1 => match s.skippedNext lo hi with
    | none => s
    | some (_, e) => (s.schedFire e true).fireSkipped lo hi f

/-- TIME_STEP (R63): OFFSET moves by Δ ns, S falls by as much, and what the jump passes fires. -/
def State.timeStep (s : State) (d : Nat) (args : List Word) : State :=
  let lo := s.now
  let s := { s with tb := { s.tb with offset := s.tb.offset + d * 2 ^ 40, slew := s.tb.slew - d * slewUnit } }
  let s := s.raise 0x0207 0 args
  let hi := s.now
  if hi.toNat ≤ lo.toNat then s else (s.fireSkipped lo hi (s.skippedCount lo hi)).sbAbandon

/-- A write of W to TB_OFFSET (R62): a step, a slew, or a refusal, told by the Bool. -/
def State.tbOffset (s : State) (w : DWord) : State × Bool :=
  let d : Int := w.toInt - s.offsetInt
  let limit := (s.rd Reg.TB_JUMP_LIMIT).toNat
  let armed := s.tbArmed
  let s := { s with tb := { s.tb with armed := none } }
  let dv : DWord := BitVec.ofInt 64 d
  let args := [lo32 dv, hi32 dv, lo32 s.now, hi32 s.now]
  if d = 0 then (s, false)
  else if 0 < d && (d ≤ limit || armed) then (s.timeStep d.toNat args, false)
  else if d < 0 && -(limit : Int) ≤ d then
    let t := { s.tb with offset := s.tb.offset + d * 2 ^ 40, slew := s.tb.slew + d.natAbs * slewUnit }
    (({ s with tb := t } : State).raise 0x0208 0 args, false)
  else (((s.orW Reg.TB_STATUS 0x100).bump Reg.TB_REFUSED_CNT).raise 0x0209 0 args, true)

/-- TB_OFFSET_WRITE (R12, R62): both words are written, the low word first. -/
def execTbOffsetWrite (value : DWord) (s : State) : Host.Outcome State Fault Refusal :=
  .next (s.gated Reg.TB_OFFSET (fun s => ((s.dropHold Reg.TB_OFFSET).tbOffset value).1))

end Sys2Proof.Machine
end

