-- ==== Sys2Proof/Machine/Eth.lean ====
section
/-!
DEFINITION. Ethernet and precision time: links and frames (R438 to R441), timestamps and one-step writes (R442, R443), the servo
that steers corrected time (R446 to R448) and PPS_OUT (R450).
-/
namespace Sys2Proof.Machine

/-- Change the block. -/
def State.modEth (s : State) (f : EthPtp → EthPtp) : State := { s with eth := f s.eth }

/-- Change the servo. -/
def State.modServo (s : State) (f : Servo → Servo) : State := s.modEth (fun e => { e with servo := f e.servo })

/-- Change PPS_OUT. -/
def State.modPps (s : State) (f : Pps → Pps) : State := s.modEth (fun e => { e with pps := f e.pps })

/-- LINK of a MAC. -/
def State.ethLink (s : State) (m : Nat) : Bool := s.domOn 6 && s.flag (Reg.ETH_STATUS m) 0

/-! Links. -/

/-- The interface of a MAC is 2500BASE-X, which has no auto-negotiation (R438). -/
def State.eth2500 (s : State) (m : Nat) : Bool := s.fld (Reg.ETH_CTRL m) 2 1 == 2

/-- Auto-negotiation is in use (R438, R455). -/
def State.ethAn (s : State) (m : Nat) : Bool := s.flag (Reg.ETH_CTRL m) 3 && !s.eth2500 m

/-- Speed code of a link (R438, R454, R455): 1000BASE-X and 2500BASE-X have one speed, SGMII the one that is negotiated or forced. -/
def State.ethSpeed (s : State) (m : Nat) (speed : BitVec 2) : Nat :=
  match s.fld (Reg.ETH_CTRL m) 2 1 with
  | 0 => if s.ethAn m then speed.toNat else s.fld (Reg.ETH_CTRL m) 5 4
  | 1 => 2
  | _ => 3

/-- ETH_LINK_UP (R453, R454), with the speed and the remote fault that the partner tells in auto-negotiation. -/
def execEthLinkUp (m : Fin 2) (speed : BitVec 2) (remote : Bool) (s : State) : Host.Outcome State Fault Refusal :=
  let m := m.val
  if !s.domOn 6 || !s.flag (Reg.ETH_CTRL m) 0 || s.ethLink m then .next s else
  let an := s.ethAn m
  let v := s.ethSpeed m speed
  .next ((s.wr (Reg.ETH_STATUS m) (wd (1 + v * 2 + an.toNat * 8 + (an && remote).toNat * 16))).raise 0x0F01 0 [wd m, wd v])

/-- A MAC's link goes down (R453). -/
def State.ethDown (s : State) (m : Nat) : State :=
  if s.flag (Reg.ETH_STATUS m) 0 then (s.wr (Reg.ETH_STATUS m) 0).raise 0x0F02 0 [wd m] else s

/-- ETH_LINK_DOWN (R453). -/
def execEthLinkDown (m : Fin 2) (s : State) : Host.Outcome State Fault Refusal :=
  .next (if s.domOn 6 then s.ethDown m.val else s)

/-! The parser (R440). Multi-byte fields of a frame are big-endian. -/

/-- Byte `i` of a frame. -/
def frameByte (b : List Byte) (i : Nat) : Nat := (b.getD i 0).toNat

/-- The 16 bits at a place of a frame. -/
def frame16 (b : List Byte) (i : Nat) : Nat := frameByte b i * 256 + frameByte b (i + 1)

/-- A number in `k` bytes, most significant first. -/
def bigBytes (k n : Nat) : List Byte := (natBytes k n).reverse

/-- The number that `k` bytes at a place spell, most significant first. -/
def bigAt (b : List Byte) (i k : Nat) : Nat := bytesNat ((b.drop i).take k).reverse

/-- Where the EtherType of a frame stands, behind one VLAN tag at most (R438, R440). -/
def etherAt (b : List Byte) : Nat := if frame16 b 12 = 0x8100 then 16 else 12

/-- The UDP header of a frame, if it carries one over IPv4 or IPv6. -/
def udpAt (b : List Byte) : Option Nat :=
  let o := etherAt b
  let ip := o + 2
  match frame16 b o with
  | 0x0800 => if frameByte b ip / 16 = 4 && frameByte b (ip + 9) = 17 && frame16 b (ip + 6) % 0x2000 = 0 then
      some (ip + frameByte b ip % 16 * 4) else none
  | 0x86DD => if frameByte b ip / 16 = 6 && frameByte b (ip + 6) = 17 then some (ip + 40) else none
  | _ => none

/-- The PTP message of a frame (R440), in one of the three encapsulations, with versionPTP 2. -/
def ptpAt (b : List Byte) : Option Nat :=
  let o := etherAt b
  let at_ := if frame16 b o = 0x88F7 then some (o + 2)
    else match udpAt b with
      | some u => if frame16 b (u + 2) = 319 || frame16 b (u + 2) = 320 then some (u + 8) else none
      | none => none
  at_.filter (fun p => decide (p + 2 ≤ b.length) && frameByte b (p + 1) % 16 == 2)

/-- An event message (R440): messageType 0 to 3. -/
def ptpEvent (b : List Byte) : Bool := match ptpAt b with | some p => decide (frameByte b p % 16 < 4) | none => false

/-- A Clause 31 PAUSE frame and its quanta (R438). -/
def pauseOf (b : List Byte) : Option Nat := if frame16 b 12 = 0x8808 && frame16 b 14 = 1 then some (frame16 b 16) else none

/-- ns of a PAUSE quantum of 512 bits at the speed of a MAC, in tenths. -/
def State.quantum (s : State) (m : Nat) : Nat :=
  match s.fld (Reg.ETH_STATUS m) 2 1 with | 0 => 512000 | 1 => 51200 | 2 => 5120 | _ => 2048

/-- A signed adjustment added to a time (R441). -/
def adjust (t : DWord) (w : Word) (sub : Bool) : DWord := BitVec.ofInt 64 (if sub then t.toNat - w.toInt else t.toNat + w.toInt)

/-- A frame, with its FCS behind it, is good (R438, R454): its length and its FCS are, and it holds no code error. -/
def frameGood (frame : List Byte) (code : Bool) : Bool :=
  !code && decide (64 ≤ frame.length) && decide (frame.length ≤ 9216) && frame.drop (frame.length - 4) == fcsOf (frame.take (frame.length - 4))

/-- ETH_FRAME_RX (R438 to R441) of a frame with its FCS, `code` when its coding is violated: bad frames are counted, a PAUSE is honoured,
the rest goes to firmware with its stamp. -/
def execEthFrameRx (m : Fin 2) (frame : List Byte) (code : Bool) (t : DWord) (s : State) : Host.Outcome State Fault Refusal :=
  let m := m.val
  if !s.ethLink m then .next s
  else if !frameGood frame code then .next (s.bump (Reg.ETH_RX_BAD m))
  else
    let s := s.bumpWrap (Reg.ETH_RX_FRAMES m)
    match (if s.flag (Reg.ETH_CTRL m) 6 then pauseOf frame else none) with
    | some q => .next (s.modEth (fun e => { e with pause := e.pause.set 0 m (s.count.toNat + q * s.quantum m / 10) }))
    | none =>
      let stamp := if s.flag (Reg.ETH_CTRL m) 13 || ptpEvent frame then some (adjust t (s.rd (Reg.ETH_TS_ING_ADJ m)) true) else none
      .next (s.emit (.ethToFirmware m frame stamp))

/-! Departing frames. -/

/-- A stamp is queued with its tag, or lost (R442). -/
def State.txStamp (s : State) (m : Nat) (tag : BitVec 16) (t : DWord) : State :=
  let q := s.eth.txts.get [] m
  if 16 ≤ q.length then ((s.bump (Reg.ETH_TXTS_LOST m)).orW Reg.PTP_FAULTS 2).raise 0x0F08 0 [wd m]
  else s.modEth (fun e => { e with txts := e.txts.set [] m (q ++ [(tag, t)]) })

/-- Bytes of a frame replaced from a place on. -/
def putBytes (b : List Byte) (i : Nat) (v : List Byte) : List Byte := if b.length < i + v.length then b else b.take i ++ v ++ b.drop (i + v.length)

/-- The sum of the 16-bit words of bytes, modulo 65,535. -/
def onesSum : List Byte → Nat
  | [] => 0
  | [a] => a.toNat * 256 % 65535
  | a :: b :: r => (a.toNat * 256 + b.toNat + onesSum r) % 65535

/-- The last two bytes of a UDP payload adjusted so that the checksum stays valid (R443). -/
def fixIpv6 (old new : List Byte) (u : Nat) : List Byte :=
  let len := frame16 new (u + 4)
  let p := u + len - 2
  let d := (onesSum ((old.drop u).take len) + 65535 - onesSum ((new.drop u).take len)) % 65535
  let odd := len % 2 = 1
  let w := if odd then frameByte new p + frameByte new (p + 1) * 256 else frame16 new p
  let v := (w + d) % 65535
  if d = 0 then new else putBytes new p (if odd then natBytes 2 v else bigBytes 2 v)

/-- A frame made consistent after a write (R443), but for its FCS. -/
def fixFrame (old new : List Byte) : List Byte :=
  match udpAt old with
  | none => new
  | some u => if frame16 old (etherAt old) = 0x0800 then putBytes new (u + 6) [0, 0] else fixIpv6 old new u

/-- originTimestamp of a time (R443, R444). -/
def originBytes (t : DWord) : List Byte := bigBytes 6 (t.toNat / 1000000000) ++ bigBytes 4 (t.toNat % 1000000000)

/-- A frame leaves, with its FCS computed over what it now holds (R443). -/
def State.ethSend (s : State) (m : Nat) (frame : List Byte) : State := s.emit (.ethFrame m (frame ++ fcsOf frame))

/-- ETH_FRAME_TX (R442, R443): the frame leaves, written in ONE_STEP, and its stamp is queued. -/
def execEthFrameTx (m : Fin 2) (frame : List Byte) (mode : TxStampMode) (t : DWord) (s : State) : Host.Outcome State Fault Refusal :=
  let m := m.val
  if !s.ethLink m || decide (s.count.toNat < s.eth.pause.get 0 m) then .next s else
  let s := s.bumpWrap (Reg.ETH_TX_FRAMES m)
  let st := adjust t (s.rd (Reg.ETH_TS_EGR_ADJ m)) false
  match mode with
  | .none => .next (s.ethSend m frame)
  | .twoStep tag => .next ((s.ethSend m frame).txStamp m tag st)
  | .oneStepOrigin tag off =>
    .next ((s.ethSend m (fixFrame frame (putBytes frame off (originBytes st)))).txStamp m tag st)
  | .oneStepCorrection tag off tref =>
    let cf := sx 64 (bigAt frame off 8) + ((st.toNat : Int) - tref.toNat) * 65536
    let ovf := decide (cf < -(2 ^ 63)) || decide ((2 ^ 63 - 1 : Int) < cf)
    let v : BitVec 64 := if ovf then 0x7FFFFFFFFFFFFFFF else BitVec.ofInt 64 cf
    let s := if ovf then s.bump (Reg.ETH_ONESTEP_OVF m) else s
    .next ((s.ethSend m (fixFrame frame (putBytes frame off (bigBytes 8 v.toNat)))).txStamp m tag st)

/-- Remove the oldest stamp of a MAC (R454). -/
def State.txtsPop (s : State) (m : Nat) : State := s.modEth (fun e => { e with txts := e.txts.set [] m ((e.txts.get [] m).drop 1) })

/-- ETH_TXTS_POP (R454). -/
def execEthTxtsPop (m : Fin 2) (s : State) : Host.Outcome State Fault Refusal :=
  .next (s.gated (Reg.ETH_TXTS_POP m.val) (fun s => s.txtsPop m.val))

/-! PPS_OUT. -/

/-- Number of the last rising instant at or before now (R450). -/
def State.ppsIdx (s : State) : Int := ((s.now.toNat : Int) - (s.rd Reg.PPS_PHASE).toNat).fdiv 1000000000

/-- Rising instants before now are past. -/
def State.ppsSync (s : State) : State := s.modPps (fun p => { p with last := s.ppsIdx })

/-- PPS_OUT goes low. -/
def State.ppsLow (s : State) : State := if s.eth.pps.high then (s.modPps (fun p => { p with high := false })).emit (.pps false) else s

/-- PPS_OUT may be driven (R450). -/
def State.ppsOk (s : State) : Bool :=
  s.domOn 6 && s.flag Reg.PPS_CTRL 0 && (!s.flag Reg.PPS_CTRL 1 || s.eth.ptp == 3 || s.eth.ptp == 5)

/-- PPS_RISE (R450): one pulse; further instants passed are counted. -/
def execPpsRise (s : State) : Host.Outcome State Fault Refusal :=
  let k := s.ppsIdx
  let p := s.eth.pps
  if !s.ppsOk || k ≤ p.last then .next s else
  let s := s.bumpBy Reg.PPS_SKIP (k - p.last - 1).toNat
  let w := BitVec.ofNat 64 (s.rd Reg.PPS_WIDTH).toNat
  .next ((s.modPps (fun _ => { high := true, fall := s.now + w, last := k })).emit (.pps true))

/-- PPS_FALL (R450). -/
def execPpsFall (s : State) : Host.Outcome State Fault Refusal :=
  .next (if s.eth.pps.high && decide (s.eth.pps.fall.toNat ≤ s.now.toNat) then s.ppsLow else s)

/-! The servo. -/

/-- The servo changes state (R446): LOCKED is entered and left with an event, and PPS_OUT follows LOCK_ONLY. -/
def State.ptpState (s : State) (st : Nat) : State :=
  let was := s.eth.ptp
  let could := s.ppsOk
  let s := s.modEth (fun e => { e with ptp := st })
  let s := s.modServo (fun v => { v with good := 0, bad := 0, expired := v.expired && st == 4 })
  let s := if was = 3 && st ≠ 3 then s.raise 0x0F04 0 [s.rd Reg.PTP_OFFSET] else s
  let s := if st = 3 && was ≠ 3 then s.raise 0x0F03 0 [s.rd Reg.PTP_OFFSET] else s
  if s.ppsOk then (if could then s else s.ppsSync) else s.ppsLow

/-- Firmware writes TB_INCR. -/
def State.servoIncr (s : State) (v : BitVec 48) : State :=
  (s.setIncr v).modServo (fun x => { x with incrs := (v :: x.incrs).take 64 })

/-- Steering through TB_INCR (R446, R447): the value is firmware's, and free within the range that R61 accepts. -/
def State.steer (s : State) : State :=
  let v := s.free.1.toNat
  s.free.2.servoIncr (BitVec.ofNat 48 (0xF333333333 + v % (0x10CCCCCCCCC - 0xF333333333 + 1)))

/-- Firmware may arm a forward step beyond the limit (R447). -/
def State.mayArm (s : State) : Bool :=
  s.eth.ptp == 1 && s.flag Reg.PTP_CFG 4 && !s.ctxNums.any (fun n => (s.ctxOf n).active) && s.cyc.state != .running

/-- A θ is removed through TB_OFFSET (R447), or steered out when the write is refused. -/
def State.jump (s : State) (theta : Int) : State :=
  let far := decide (((s.rd Reg.TB_JUMP_LIMIT).toNat : Int) < theta)
  let s := if far && s.mayArm then { s with tb := { s.tb with armed := some s.tb.count } } else s
  let (s, refused) := s.tbOffset (BitVec.ofInt 64 (s.offsetInt + theta))
  if refused then ((s.modServo (fun v => { v with steering := true })).raise 0x0F07 0 [wi theta]).steer else s

/-- The runs of R446: 16 small θ enter LOCKED, 4 large θ leave it. -/
def State.ptpRuns (s : State) (theta : Nat) : State :=
  let lim := s.fld Reg.PTP_LOCK_NS 15 0
  let v := s.eth.servo
  let good := if theta < lim then v.good + 1 else 0
  let bad := if 4 * lim < theta then v.bad + 1 else 0
  let s := s.modServo (fun v => { v with good := good, bad := bad })
  if s.eth.ptp = 2 && 16 ≤ good then s.ptpState 3
  else if s.eth.ptp = 3 && 4 ≤ bad then s.ptpState 2 else s

/-- Firmware runs the PTP stack: PD6 is on, and the management processors have their clock (R32, R35). -/
def State.ptpOn (s : State) : Bool := s.domOn 6 && s.mgmtRuns

/-- PTP_SYNC_RX (R446, R447): firmware handles a θ. -/
def execPtpSyncRx (theta : Int) (delay : Word) (s : State) : Host.Outcome State Fault Refusal :=
  if !s.ptpOn || s.eth.ptp = 0 || s.eth.ptp = 5 then .next s else
  let s := (s.wr Reg.PTP_OFFSET (wi (clampI theta (-(2 ^ 31)) (2 ^ 31 - 1)))).wr Reg.PTP_DELAY delay
  let s := if s.eth.ptp = 4 then s.ptpState 2 else s
  let v := s.eth.servo
  let small := decide (theta.natAbs < s.fld Reg.PTP_LOCK_NS 15 0)
  let s := if v.steering && !v.first then (if small then s.modServo (fun v => { v with steering := false }) else s).steer
    else if v.first || decide ((s.rd Reg.PTP_STEP_NS).toNat < theta.natAbs) then s.jump theta
    else s.steer
  let s := s.modServo (fun v => { v with first := false })
  .next (if s.eth.ptp = 1 then s.ptpState 2 else s.ptpRuns theta.natAbs)

/-- The mean of the values last written to TB_INCR. -/
def meanIncr (l : List (BitVec 48)) : BitVec 48 := BitVec.ofNat 48 ((l.map BitVec.toNat).sum / l.length)

/-- PTP_HOLDOVER (R446): the announce receipt timeout has expired; INCR is held. -/
def execPtpHoldover (s : State) : Host.Outcome State Fault Refusal :=
  if !s.ptpOn || s.eth.ptp = 0 || 4 ≤ s.eth.ptp then .next s else
  let l := s.eth.servo.incrs
  let s := if l = [] then s else s.setIncr (meanIncr l)
  let s := s.modServo (fun v => { v with holdAt := s.count, steering := false })
  .next ((s.ptpState 4).raise 0x0F05 0 [wd (s.tb.incr.toNat / 2 ^ 16)])

/-- PTP_HOLD_EXPIRE (R446): PTP_HOLD_MS in HOLDOVER. -/
def execPtpHoldExpire (s : State) : Host.Outcome State Fault Refusal :=
  .next (if s.eth.ptp = 4 && s.ptpOn && s.since s.eth.servo.holdAt ((s.rd Reg.PTP_HOLD_MS).toNat * 1000000) then
    s.modServo (fun v => { v with expired := true }) else s)

/-- PTP_MASTER_CHANGE (R446, R448): another master is selected; the own clock, unless SLAVE_ONLY, makes the unit MASTER. The servo returns
to LOCKING from the states that lie behind it; one that is still UNLOCKED stays so until its first θ (R446). -/
def execPtpMasterChange (id : DWord) (s : State) : Host.Outcome State Fault Refusal :=
  if !s.ptpOn || s.eth.ptp = 0 || s.rd64 Reg.PTP_MASTER_ID = id || (id = Config.clockId && s.flag Reg.PTP_CFG 3) then .next s else
  let was := s.eth.ptp
  let s := (s.wr64 Reg.PTP_MASTER_ID id).raise 0x0F06 0 [lo32 id, hi32 id]
  let s := s.modServo (fun v => { v with first := true, steering := false })
  .next (s.ptpState (if id = Config.clockId then 5 else if was = 5 || was = 1 then 1 else 2))

/-! Settings. -/

/-- A write of PTP_CFG (R16, R446, R454). -/
def State.ptpCfgWrite (s : State) (v : Word) : State :=
  let was := s.rd Reg.PTP_CFG
  let v := v &&& 0x00FFFFFF
  let v := if bits v 2 1 = 3 then setBits v 2 1 (bits was 2 1) else v
  let new := if bit was 0 then setBits was 0 0 (bits v 0 0) else v
  let s := s.wr Reg.PTP_CFG new
  let s := if bit was 0 && setBits v 0 0 1 != was then s.orW Reg.PTP_FAULTS 1 else s
  if bit new 0 = bit was 0 then s
  else if bit new 0 then (s.modServo (fun _ => {})).ptpState 1
  else s.ptpState 0

/-- A write of ETH_CTRL (R16, R454). -/
def State.ethCtrlWrite (s : State) (m : Nat) (v : Word) : State :=
  let off := Reg.ETH_CTRL m
  let was := s.rd off
  let v := v &&& 0x00003FFF
  let v := if bits v 2 1 = 3 then setBits v 2 1 (bits was 2 1) else v
  let v := if bits v 5 4 = 3 then setBits v 5 4 (bits was 5 4) else v
  let new := if bit was 0 then setBits was 0 0 (bits v 0 0) else v
  let s := s.wr off new
  let s := if bit was 0 && setBits v 0 0 1 != was then s.orW Reg.PTP_FAULTS 1 else s
  if bit was 0 && !bit new 0 then s.ethDown m else s

/-- The block takes its reset values (R454). -/
def State.ethClear (s : State) : State := { s.ppsLow with eth := {} }

/-- The block loses PD6 (R446, R451, R453): the links go down, and the servo leaves its state. -/
def State.ethOff (s : State) : State := (((s.ethDown 0).ethDown 1).ptpState 0).ethClear

end Sys2Proof.Machine
end

