-- ==== Sys2Proof/Machine/Safe.lean ====
section
/-!
DEFINITION. The safety island (R456 to R487): inputs and encoders, groups and outputs, faults and resets, the parameter block and
its commissioning. Times are counted in strobes of 10 µs.
-/
namespace Sys2Proof.Machine

/-- Change the island. -/
def State.modSafe (s : State) (f : Safe → Safe) : State := { s with safe := f s.safe }

/-! The parameter block (R473). -/

/-- The word at a byte offset of a block. -/
def blkW (b : List Byte) (off : Nat) : Word := wd (leAt b off 4)

/-- MODE of an input pair. -/
def blkMode (b : List Byte) (i : Nat) : Nat := bits (blkW b (64 + 8 * i)) 1 0
/-- FILT of an input pair, at least 1. -/
def blkFilt (b : List Byte) (i : Nat) : Nat := max 1 (bits (blkW b (64 + 8 * i)) 15 8)
/-- T_d of an input pair in strobes (R461). -/
def blkTd (b : List Byte) (i : Nat) : Nat := 10 * bits (blkW b (64 + 8 * i)) 28 16
/-- SUTEST of an input pair in use. -/
def blkSu (b : List Byte) (i : Nat) : Bool := blkMode b i != 0 && bit (blkW b (64 + 8 * i)) 2
/-- KIND of an input pair. -/
def blkKind (b : List Byte) (i : Nat) : Nat := bits (blkW b (68 + 8 * i)) 1 0
/-- GROUPS of an input pair includes a group. -/
def blkIn (b : List Byte) (i g : Nat) : Bool := blkMode b i != 0 && bit (blkW b (64 + 8 * i)) (4 + g)
/-- The word of output pair `k`. -/
def blkOut (b : List Byte) (k : Nat) : Word := blkW b (192 + 8 * k)
/-- Output pair `k` is in use and belongs to group `g`. -/
def blkOutOf (b : List Byte) (k g : Nat) : Bool := bit (blkOut b k) 0 && bits (blkOut b k) 3 2 == g
/-- A group is in use (R465). -/
def blkUsed (b : List Byte) (g : Nat) : Bool := (List.range 8).any (fun k => blkOutOf b k g)
/-- EN of an encoder pair. -/
def blkEnc (b : List Byte) (e : Nat) : Bool := bit (blkW b (256 + 16 * e)) 0
/-- CPM of encoder `n`. -/
def blkCpm (b : List Byte) (n : Nat) : Nat := bits (blkW b (260 + 16 * (n / 2) + 4 * (n % 2))) 23 0
/-- T_SS1 of a group in strobes. -/
def blkSs1 (b : List Byte) (g : Nat) : Nat := 100 * bits (blkW b (416 + 16 * g)) 15 0

/-- The bits of word `w` of a block that are not reserved. -/
def blkMask (w : Nat) : Word :=
  let off := 4 * w
  if off = 0 || off = 8 || off = 12 || off = 388 || off = 392 || off = 396 || off = 1020 then 0xFFFFFFFF
  else if off = 4 then 0xFF
  else if off < 64 then 0
  else if off < 192 then (if off % 8 = 0 then 0x1FFFFFFF else 0x1F)
  else if off < 256 then (if off % 8 = 0 then 0xFF1F else 0)
  else if off < 320 then (if off % 16 = 0 then 3 else 0xFFFFFF)
  else if off < 384 then (if off % 16 = 0 then 0x7F else if off % 16 = 12 then 0 else 0xFFFFFF)
  else if off = 384 then 0x1F
  else if off = 400 then 0xFFFFFF
  else if 416 ≤ off && off < 480 then (if off % 16 = 0 then 0xFFFF else if off % 16 = 4 then 0x3FFFF else 0)
  else 0

/-- The first byte of a word that breaks a code or a range (R462, R473): its place in the word. Ranges hold for entries in use
(log entry 79). -/
def safeField (b : List Byte) (off : Nat) : Option Nat :=
  let v := blkW b off
  let fail := fun (c : Bool) (n : Nat) => if c then some n else none
  if off = 0 then fail (v != 0x5AFEB10C) 0
  else if off = 4 then fail (bits v 7 0 != 1) 0
  else if 64 ≤ off && off < 192 then
    if off % 8 = 4 then fail (bits v 1 0 == 3) 0
    else
      let i := (off - 64) / 8
      let sus := ((List.range i).filter (blkSu b)).length
      let m := bits v 1 0
      if m = 3 || (blkSu b i && decide (4 ≤ sus)) then some 0
      else if m = 0 then none
      else if bits v 15 8 = 0 || 100 < bits v 15 8 then some 1
      else fail (decide (bits v 28 16 < 10) || decide (5000 < bits v 28 16)) 2
  else if 192 ≤ off && off < 256 && off % 8 = 0 then fail (bit v 0 && bit v 4 && (decide (bits v 15 8 < 20) || decide (100 < bits v 15 8))) 1
  else if 256 ≤ off && off < 320 then
    if off % 16 = 12 then fail (decide (50 < bits v 23 16)) 2
    else if off % 16 = 0 then none
    else fail (blkEnc b ((off - 256) / 16) && bits v 23 0 == 0) 0
  else if 320 ≤ off && off < 384 && off % 16 = 0 then fail (bit v 0 && !blkEnc b (bits v 2 1)) 0
  else if off = 384 then
    fail (bit v 0 && (!blkEnc b (bits v 2 1) || ((List.range 16).filter (fun i => blkMode b i != 0 && blkKind b i == 2)).length != 1)) 0
  else if 416 ≤ off && off < 480 && off % 16 = 0 then fail (decide (30000 < bits v 15 0)) 0
  else none

/-- The lowest byte of a word that is not 0. -/
def lowByte (v : Word) : Nat := if bits v 7 0 ≠ 0 then 0 else if bits v 15 8 ≠ 0 then 1 else if bits v 23 16 ≠ 0 then 2 else 3

/-- The first byte offset at which a candidate's form fails (R475). -/
def blkBad (b : List Byte) : Option Nat :=
  (List.range 255).findSome? (fun w =>
    let res := blkW b (4 * w) &&& ~~~blkMask w
    match safeField b (4 * w) with
    | some n => some (4 * w + (if res = 0 then n else min n (lowByte res)))
    | none => if res = 0 then none else some (4 * w + lowByte res))

/-! Input pairs. -/

/-- A pair as logic channel `c` judges it. -/
def State.safePair (s : State) (c i : Nat) : SafePair := s.safe.pair.get {} (16 * c + i)

/-- A level closes the contact: contact B of an ANTIV pair is read inverted (R460). -/
def contact (mode : Nat) (isB level : Bool) : Bool := if isB && mode == 2 then !level else level

/-- CLOSED as one logic channel judges it (R460). -/
def SafePair.closed (p : SafePair) (mode : Nat) : Bool :=
  mode != 0 && contact mode false p.a.level && contact mode true p.b.level && p.epi.isNone && p.su == 0

/-- The contacts of a pair differ. -/
def SafePair.unequal (p : SafePair) (mode : Nat) : Bool := contact mode false p.a.level != contact mode true p.b.level

/-- Pair `i` is CLOSED: both channels judge it so. -/
def State.safeClosed (s : State) (i : Nat) : Bool :=
  match s.safe.block with
  | some b => (s.safePair 0 i).closed (blkMode b i) && (s.safePair 1 i).closed (blkMode b i)
  | none => false

/-- One sample of a filter (R459), and whether it confirms an edge. -/
def SafeFilt.step (f : SafeFilt) (filt : Nat) (x : Bool) : SafeFilt × Bool :=
  if x == f.level then ({ f with run := 0 }, false)
  else if filt ≤ f.run + 1 then ({ level := x, run := 0 }, true)
  else ({ f with run := f.run + 1 }, false)

/-- What a strobe does to a pair: its new state, a fault by return, and k2 − k1 of an episode accepted. -/
structure PairStep where
  p     : SafePair
  fault : Bool := false
  took  : Option Nat := none
deriving DecidableEq, Repr

/-- The start-up test after an accepted episode (R462). -/
def suNext (su : Nat) (closing : Bool) : Nat := if su = 1 && !closing then 2 else if su = 2 && closing then 0 else su

/-- One strobe of a pair (R459 to R462): an edge confirmed now belongs to strobe `e`. -/
def SafePair.step (p : SafePair) (mode filt td e : Nat) (xa xb : Bool) : PairStep :=
  let (a, ea) := p.a.step filt xa
  let (b, eb) := p.b.step filt xb
  let q : SafePair := { p with a := a, b := b }
  let closing := contact mode false a.level
  match p.epi with
  | none =>
    if p.unequal mode || !(ea || eb) then { p := q }
    else if ea && eb then { p := { q with su := suNext p.su closing }, took := some 0 }
    else { p := { q with epi := some (eb, e) } }
  | some (fb, k1) =>
    let other := if fb then ea else eb
    let first := if fb then eb else ea
    if other && e - k1 < td then
      let c := if fb then closing else contact mode true b.level
      { p := { q with epi := if first then some (fb, e) else none, su := suNext p.su c }, took := some (e - k1) }
    else if first then { p := { q with epi := none }, fault := true }
    else { p := q }

/-! Groups and outputs. -/

/-- Group `g`. -/
def State.safeGrp (s : State) (g : Nat) : SafeGroup := s.safe.grp.get {} g

/-- Put a group into a state. -/
def State.setGrp (s : State) (g st : Nat) : State :=
  s.modSafe (fun x => { x with grp := x.grp.set {} g { state := st, since := if st = 1 then x.k else 0 } })

/-- Output pair `k` is commanded on by its group's state (R465). -/
def State.outOn (s : State) (b : List Byte) (k : Nat) : Bool :=
  let w := blkOut b k
  let st := (s.safeGrp (bits w 3 2)).state
  bit w 0 && (st == 3 || (st == 1 && !bit w 1))

/-- Drive the safe outputs as the groups command (R465, R469). -/
def State.safeDrive (s : State) : State :=
  let n := match s.safe.block with
    | some b => if s.safe.state == .operational then ((List.range 8).map (fun k => (s.outOn b k).toNat * 2 ^ k)).sum else 0
    | none => 0
  let o := BitVec.ofNat 8 n
  if o = s.safe.out then s else (s.modSafe (fun x => { x with out := o })).emit (.safeOut o o)

/-- The first demand on a group (R465): what made it, coded as ARG1 of SAFE_GROUP_OFF, and its index. -/
def State.safeDemand (s : State) (b : List Byte) (g : Nat) : Option (Nat × Nat) :=
  let x := s.safe
  if x.state != .operational then some (5, x.index)
  else
    let inst := fun (v : BitVec 4) => (List.range 4).find? (fun f => v.getLsbD f && bits (blkW b (320 + 16 * f)) 4 3 == g)
    match (List.range 16).find? (fun i => blkIn b i g && !s.safeClosed i), inst x.sls, inst x.sdi with
    | some i, _, _ => some (1, i)
    | none, some f, _ => some (2, f)
    | none, none, some f => some (3, f)
    | none, none, none => if x.slp && bits (blkW b 384) 4 3 == g then some (4, 0) else none

/-- Standstill of a STOPPING group (R466): both channels of its encoder pair, where that pair is in use. -/
def State.standstill (s : State) (b : List Byte) (g : Nat) : Bool :=
  let w := blkW b (420 + 16 * g)
  let e := bits w 1 0
  let slow := fun n => decide ((s.safe.enc.get {} n).v.natAbs ≤ bits w 17 2)
  blkEnc b e && slow (2 * e) && slow (2 * e + 1)

/-- A group after an evaluation (R465, R466), and after a restart pulse. -/
def State.grpStep (s : State) (b : List Byte) (g : Nat) (restart : Bool) : State :=
  match (s.safeGrp g).state, s.safeDemand b g with
  | 3, some (why, idx) =>
    let stop := s.safe.state == .operational && blkSs1 b g != 0
    (s.setGrp g (if stop then 1 else 0)).raise 0x1005 0 [wd g, wd why, wd idx]
  | 1, _ => if s.safe.state != .operational || s.standstill b g then s.setGrp g 0 else s
  | 2, some _ => s.setGrp g 0
  | 2, none => if restart then (s.setGrp g 3).raise 0x1006 0 [wd g] else s
  | 0, none =>
    if restart then s
    else if (List.range 16).any (fun i => blkIn b i g && bit (blkW b (64 + 8 * i)) 3) then s.setGrp g 2
    else (s.setGrp g 3).raise 0x1006 0 [wd g]
  | _, _ => s

/-- The groups move on, the outputs follow, and SAFE_STOP and SAFE_RUN cross to the contexts (R465, R481). -/
def State.safeGroups (s : State) (restart : Bool) : State :=
  match s.safe.block with
  | none => s.safeDrive
  | some b =>
    let used := (List.range 4).filter (blkUsed b)
    let on := used.filter (fun g => (s.safeGrp g).state == 3)
    let s := s.each used (fun s g => s.grpStep b g restart)
    let now := used.filter (fun g => (s.safeGrp g).state == 3)
    let s := if on.any (fun g => !now.contains g) then s.seqInputAll 0x23 else s
    let s := if now.length = used.length && on.length < used.length then s.seqInputAll 0x24 else s
    s.safeDrive

/-! Faults. -/

/-- SAFE_LOCKOUT (R471): the island enters LOCKOUT, with every group and output off. CAUSE and INDEX stay while it is locked out,
but for a commit (R483). -/
def State.safeLock (s : State) (cause index : Nat) : State :=
  let was := s.safe.state
  let s := if was == .lockout && cause != 10 then s
    else s.modSafe (fun x => { x with state := .lockout, cause := cause, index := index, faultAt := if cause = 10 then x.faultAt else some x.k,
                                      lockouts := if was == .lockout then x.lockouts else x.lockouts + 1 })
  ((s.raise 0x1001 0 [wd cause, wd index]).safeGroups false)

/-- A fault while the island runs; the self-test judges its own. -/
def State.safeFault (s : State) (cause index : Nat) : State := if s.safe.state == .selftest then s else s.safeLock cause index

/-- An encoder fault, which also ends the reference of SLP on its pair (R468). -/
def State.encFault (s : State) (cause e : Nat) : State :=
  let s := match s.safe.block with
    | some b => if bits (blkW b 384) 2 1 = e then s.modSafe (fun x => { x with ref := none }) else s
    | none => s
  s.safeFault cause e

/-- Make the start-up-test pairs pending (R458, R462). -/
def State.suPending (s : State) : State :=
  match s.safe.block with
  | none => s
  | some b => s.each ((List.range 32).filter (fun j => blkSu b (j % 16))) (fun s j =>
      s.modSafe (fun x => { x with pair := x.pair.set {} j { x.pair.get {} j with su := 1 } }))

/-- A block becomes active: its pairs begin with both contacts open (log entry 78). -/
def State.blkActivate (s : State) (b : List Byte) (copy : Nat) (gen : Word) : State :=
  let start := fun (j : Nat) => ({ b := { level := blkMode b (j % 16) == 2 } } : SafePair)
  let s := s.modSafe (fun x => { x with block := some b, active := some copy, gen := gen, edm := [], mism := [], ref := none, sls := 0,
                                        sdi := 0, slp := false, tested := [],
                                        pair := (List.range 32).foldl (fun m j => SMap.set m {} j (start j)) [] })
  s.wr Reg.SAFE_ACTIVE_GEN gen

/-! Strobes and evaluations. -/

/-- A pair at a strobe, in both channels (R459 to R461). -/
def State.strobePair (s : State) (b : List Byte) (x1 x2 : SafeSample) (i : Nat) : State :=
  let m := blkMode b i
  if m = 0 then
    let raw := fun (x : SafeSample) => ({ a := { level := x.inA.getLsbD i }, b := { level := x.inB.getLsbD i } } : SafePair)
    s.modSafe (fun z => { z with pair := (z.pair.set {} i (raw x1)).set {} (16 + i) (raw x2) })
  else
    let e := s.safe.k + 1 - blkFilt b i
    let go := fun (c : Nat) (x : SafeSample) => (s.safePair c i).step m (blkFilt b i) (blkTd b i) e (x.inA.getLsbD i) (x.inB.getLsbD i)
    let r1 := go 0 x1
    let r2 := go 1 x2
    let was := s.safeClosed i
    let s := s.modSafe (fun z => { z with pair := (z.pair.set {} i r1.p).set {} (16 + i) r2.p })
    let s := match r1.took with | some d => s.wr Reg.SAFE_DISC_LAST (wd (d % 65536 + i * 65536)) | none => s
    let s := if !was && s.safeClosed i && blkKind b i == 2 && bit (blkW b 384) 0 then
        let e := bits (blkW b 384) 2 1
        s.modSafe (fun z => { z with ref := some ((z.enc.get {} (2 * e)).count, (z.enc.get {} (2 * e + 1)).count) })
      else s
    if r1.fault || r2.fault then s.safeFault 1 i else s

/-- SAFE_RESET at a strobe (R472), filtered with FILT = 5. -/
def State.strobeReset (s : State) (x1 x2 : SafeSample) : State :=
  let e := s.safe.k - 4
  let (f1, e1) := s.safe.rst1.step 5 x1.rst
  let (f2, _) := s.safe.rst2.step 5 x2.rst
  s.modSafe (fun z =>
    let z := { z with rst1 := f1, rst2 := f2 }
    if !e1 then z
    else if f1.level then { z with rise := some e }
    else { z with rise := none, pulse := match z.rise with | some r => some (e - r) | none => z.pulse })

/-- SAFE_STROBE (R456, R459): both channels sample every input. -/
def execSafeStrobe (ch1 ch2 : SafeSample) (s : State) : Host.Outcome State Fault Refusal :=
  if !s.domOn 2 then .next s else
  let s := (s.modSafe (fun x => { x with k := x.k + 1 })).strobeReset ch1 ch2
  match s.safe.block with
  | none => .next s
  | some b => .next (s.each (List.range 16) (fun s i => s.strobePair b ch1 ch2 i))

/-- SAFE_DISCREPANCY_TIMEOUT (R461): no accepted edge by strobe k1 + T_d + FILT − 1. -/
def execSafeDiscrepancyTimeout (pair : Fin 16) (s : State) : Host.Outcome State Fault Refusal :=
  let i := pair.val
  match s.safe.block with
  | none => .next s
  | some b =>
    let due := fun (c : Nat) => match (s.safePair c i).epi with
      | some (_, k1) => decide (k1 + blkTd b i + blkFilt b i - 1 ≤ s.safe.k)
      | none => false
    if !s.domOn 2 || !(due 0 || due 1) then .next s
    else
      let shut := fun (m : SMap SafePair) (j : Nat) => m.set {} j { m.get {} j with epi := none }
      .next ((s.modSafe (fun x => { x with pair := shut (shut x.pair i) (16 + i) })).safeFault 1 i)

/-- The channels differ in samples, states or decisions (R471). -/
def State.channelsDiffer (s : State) : Bool :=
  s.safe.rst1.level != s.safe.rst2.level || (List.range 16).any (fun i => s.safePair 0 i != s.safePair 1 i)

/-- One half's readback (R470): 10 consecutive differences are a fault. -/
def State.readback (s : State) (key : Nat) (got : Bool) : State :=
  let n := if got == s.safe.out.getLsbD (key % 8) then 0 else s.safe.bad.get 0 key + 1
  let s := s.modSafe (fun x => { x with bad := x.bad.set 0 key n })
  if n = 10 then s.safeFault 3 (key % 8) else s

/-- An EDM pair against the inverse of its output pair (R471). -/
def State.edmCheck (s : State) (b : List Byte) (i : Nat) : State :=
  if blkMode b i = 0 || blkKind b i ≠ 1 then s
  else
    let o := s.safe.out.getLsbD (bits (blkW b (68 + 8 * i)) 4 2)
    if s.safeClosed i != o then s.modSafe (fun x => { x with edm := x.edm.set none i none })
    else match s.safe.edm.get none i with
      | none => s.modSafe (fun x => { x with edm := x.edm.set none i (some x.k) })
      | some k0 =>
        let fire := decide (k0 + blkTd b i ≤ s.safe.k) && decide (s.safe.evalAt < k0 + blkTd b i)
        if fire then s.safeFault 11 i else s

/-- SLP's position of a channel (R468). -/
def State.slpPos (s : State) (b : List Byte) (c : Nat) (cref : Int) : Int :=
  let e := bits (blkW b 384) 2 1
  let n := 2 * e + c
  let d := (s.safe.enc.get {} n).count - cref
  let d := if bit (blkW b (256 + 16 * e)) 1 then -d else d
  (blkW b 396).toInt + (d * 1000000).tdiv (blkCpm b n)

/-- The view of R481, whole. Its position and CHECK are free where the island has none (log entry 78). -/
def State.safeView (s : State) (readA readB : Byte) : State :=
  let x := s.safe
  let f := s.free.1
  let s := s.free.2
  let mask := fun (p : Nat → Bool) => ((List.range 16).map (fun i => (p i).toNat * 2 ^ i)).sum
  let w0 := (match x.state with | .selftest => 0 | .lockout => 1 | .operational => 2) + x.block.isSome.toNat * 8 + x.cand.isSome.toNat * 16
    + x.cause * 2 ^ 8 + x.index * 2 ^ 16
  let w1 := ((List.range 4).map (fun g => (s.safeGrp g).state * 2 ^ (8 * g))).sum
  let p1 := fun i => s.safePair 0 i
  let w2 := mask s.safeClosed + mask (fun i => (p1 i).epi.isSome) * 2 ^ 16
  let w4 := mask (fun i => (p1 i).a.level) + mask (fun i => (p1 i).b.level) * 2 ^ 16
  let w5 := x.out.toNat + readA.toNat * 2 ^ 8 + readB.toNat * 2 ^ 16
  let pos := match x.block, x.ref with | some b, some r => wi (s.slpPos b 0 r.1) | _, _ => lo32 f
  let w11 := x.sls.toNat + x.sdi.toNat * 2 ^ 4 + x.slp.toNat * 2 ^ 8 + x.ref.isSome.toNat * 2 ^ 9
  let chk := match x.block with | some b => blkW b 1020 | none => hi32 f
  let ws := [wd w0, wd w1, wd w2, wd (mask (fun i => (p1 i).su != 0)), wd w4, wd w5, wi (x.enc.get {} 0).v, wi (x.enc.get {} 2).v,
    wi (x.enc.get {} 4).v, wi (x.enc.get {} 6).v, pos, wd w11, chk, x.lockouts]
  (ws.foldl (fun (m : State × Nat) w => (m.1.wr (Reg.SAFE_VIEW m.2) w, m.2 + 1)) (s, 0)).1

/-- SAFE_EVAL (R456, R465, R470, R471, R481): every 100 µs. -/
def execSafeEval (readA readB : Byte) (clockOk : Bool) (s : State) : Host.Outcome State Fault Refusal :=
  if !s.domOn 2 || s.safe.k < s.safe.evalAt + 10 then .next s else
  let n := if s.channelsDiffer then s.safe.cross + 1 else 0
  let s := s.modSafe (fun x => { x with cross := n, clockBad := !clockOk })
  let s := if n = 3 then s.safeFault 2 0 else s
  let s := if clockOk then s else s.safeFault 8 0
  let s := s.each (List.range 16) (fun s key => s.readback key ((if key < 8 then readA else readB).getLsbD (key % 8)))
  let s := match s.safe.block with | some b => s.each (List.range 16) (fun s i => s.edmCheck b i) | none => s
  let s := s.modSafe (fun x => { x with evalAt := x.k })
  .next ((s.safeGroups false).safeView readA readB)

/-- SAFE_ENC_TRANSITION (R463): ×4 counting, A before B counting up (log entry 26). -/
def execSafeEncTransition (enc : Fin 8) (a b short : Bool) (s : State) : Host.Outcome State Fault Refusal :=
  if !s.domOn 2 then .next s else
  let n := enc.val
  let x := s.safe.enc.get {} n
  let illegal := x.a != a && x.b != b
  let up := (x.a != a && a != x.b) || (x.b != b && b == x.a)
  let d : Int := if illegal || (x.a == a && x.b == b) then 0 else if up then 1 else -1
  let s := s.modSafe (fun z => { z with enc := z.enc.set {} n { x with a := a, b := b, count := x.count + d } })
  let used := match s.safe.block with | some blk => blkEnc blk (n / 2) | none => false
  .next (if used && (illegal || short) then s.encFault 6 (n / 2) else s)

/-- Speed of an encoder at an evaluation (R463), and its history. -/
def State.encSpeed (s : State) (b : List Byte) (n : Nat) : State :=
  let x := s.safe.enc.get {} n
  let d := x.count - (x.hist.getD 7 (x.hist.getLastD x.count))
  let d := if bit (blkW b (256 + 16 * (n / 2))) 1 then -d else d
  let v := sx 32 ((((d * 125000).tdiv (blkCpm b n)) % 2 ^ 32).toNat)
  s.modSafe (fun z => { z with enc := z.enc.set {} n { x with hist := (x.count :: x.hist).take 8, v := if blkEnc b (n / 2) then v else 0 } })

/-- The channels' speeds of a pair agree (R464). -/
def State.encAgree (s : State) (b : List Byte) (e : Nat) : Bool :=
  let v1 := (s.safe.enc.get {} (2 * e)).v
  let v2 := (s.safe.enc.get {} (2 * e + 1)).v
  let w := blkW b (268 + 16 * e)
  decide (100 * (v1 - v2).natAbs ≤ 100 * bits w 15 0 + bits w 23 16 * max v1.natAbs v2.natAbs)

/-- SLS and SDI of instance `f`, on either channel (R467). -/
def State.slsOf (s : State) (b : List Byte) (f : Nat) : Bool × Bool :=
  let w := blkW b (320 + 16 * f)
  let e := bits w 2 1
  let vs := [(s.safe.enc.get {} (2 * e)).v, (s.safe.enc.get {} (2 * e + 1)).v]
  let lim := bits (blkW b (324 + 16 * f)) 23 0
  let tol : Int := bits (blkW b (328 + 16 * f)) 23 0
  (bit w 0 && vs.any (fun v => decide (lim < v.natAbs)),
   bit w 0 && bit w 5 && vs.any (fun v => decide (tol < (if bit w 6 then -v else v))))

/-- SLP violated (R468). -/
def State.slpOf (s : State) (b : List Byte) : Bool :=
  let w := blkW b 384
  let e := bits w 2 1
  bit w 0 && (match s.safe.ref with
    | some (r1, r2) => [s.slpPos b 0 r1, s.slpPos b 1 r2].any (fun p => decide (p < (blkW b 388).toInt) || decide ((blkW b 392).toInt < p))
    | none => [2 * e, 2 * e + 1].any (fun n => decide (bits (blkW b 400) 23 0 < (s.safe.enc.get {} n).v.natAbs)))

/-- SAFE_ENC_EVAL (R463, R464, R467, R468): every 1 ms. -/
def execSafeEncEval (s : State) : Host.Outcome State Fault Refusal :=
  match s.safe.block with
  | none => .next s
  | some b =>
    if !s.domOn 2 || s.safe.k < s.safe.encAt + 100 then .next s else
    let s := s.each (List.range 8) (fun s n => s.encSpeed b n)
    let s := s.each ((List.range 4).filter (blkEnc b)) (fun s e =>
      let n := if s.encAgree b e then 0 else s.safe.mism.get 0 e + 1
      let s := s.modSafe (fun x => { x with mism := x.mism.set 0 e n })
      if n = 20 then s.encFault 5 e else s)
    let v := (List.range 4).map (s.slsOf b)
    let pack := fun (l : List Bool) => BitVec.ofNat 4 (l.foldr (fun c n => c.toNat + 2 * n) 0)
    .next (s.modSafe (fun x => { x with encAt := x.k, sls := pack (v.map Prod.fst), sdi := pack (v.map Prod.snd), slp := s.slpOf b }))

/-! Resets, stops and tests. -/

/-- The fault condition that refuses a lock-out reset (R472), coded as a cause. -/
def State.resetBar (s : State) : Option Nat :=
  let x := s.safe
  match x.block with
  | none => some 9
  | some b =>
    let two := fun (p : Nat → Nat → Bool) => (List.range 16).any (fun i => blkMode b i != 0 && (p 0 i || p 1 i))
    if two (fun c i => (s.safePair c i).epi.isSome || (s.safePair c i).unequal (blkMode b i)) then some 1
    else if x.cross ≠ 0 then some 2
    else if x.bad ≠ [] then some 3
    else if x.mism ≠ [] then some 5
    else if x.bgFail then some 7
    else if x.clockBad then some 8
    else if (List.range 16).any (fun i => match x.edm.get none i with
        | some k0 => decide (k0 + blkTd b i ≤ x.k) | none => false) then some 11
    else none

/-- SAFE_RESET_PULSE (R472, R483): a pulse is judged at its falling edge; a fault found at the same strobe stands. -/
def execSafeResetPulse (s : State) : Host.Outcome State Fault Refusal :=
  match s.safe.pulse with
  | none => .next s
  | some len =>
    if !s.domOn 2 then .next s else
    let s := s.modSafe (fun x => { x with pulse := none })
    if len < 10000 || 300000 < len then .next ((s.bumpWrap Reg.SAFE_RESET_IGN).raise 0x1004 0 [wd (len / 100)])
    else match s.safe.state with
      | .selftest => .next s
      | .operational => .next (s.safeGroups true)
      | .lockout => match (if s.safe.faultAt = some s.safe.k then some s.safe.cause else s.resetBar) with
        | some c => .next (s.raise 0x1003 0 [wd c])
        | none =>
          let c := s.safe.cause
          .next (((s.modSafe (fun x => { x with state := .operational, cause := 0, index := 0 })).raise 0x1002 0 [wd c]).suPending)

/-- SAFE_SS1_EXPIRE (R466): T_SS1 after the demand. -/
def execSafeSs1Expire (g : Fin 4) (s : State) : Host.Outcome State Fault Refusal :=
  match s.safe.block with
  | none => .next s
  | some b =>
    let x := s.safeGrp g.val
    if !s.domOn 2 || x.state ≠ 1 || s.safe.k < x.since + blkSs1 b g.val then .next s else .next (s.setGrp g.val 0).safeDrive

/-- SAFE_TEST_PULSE (R470): one half is driven low and must read low; B is pulsed 500 ms after A. -/
def execSafeTestPulse (pair : Fin 8) (halfB readLow : Bool) (s : State) : Host.Outcome State Fault Refusal :=
  match s.safe.block with
  | none => .next s
  | some b =>
    let k := pair.val
    let x := s.safe
    let ta := x.tested.get none k
    let tb := x.tested.get none (k + 8)
    let due := if halfB then (match ta with
        | some a => decide (a + 50000 ≤ x.k) && (match tb with | some t => decide (t < a) | none => true)
        | none => false)
      else (match ta with | some a => decide (a + 100000 ≤ x.k) | none => true)
    if !s.domOn 2 || !x.out.getLsbD k || !bit (blkOut b k) 4 || !due then .next s
    else
      let o := x.out
      let low := o &&& ~~~(BitVec.ofNat 8 (2 ^ k))
      let s := (s.emit (if halfB then .safeOut o low else .safeOut low o)).emit (.safeOut o o)
      let s := s.modSafe (fun x => { x with tested := x.tested.set none (if halfB then k + 8 else k) (some x.k) })
      .next (if readLow then s else s.safeFault 4 k)

/-- SAFE_BG_TEST (R471, R479): the background ROM and RAM test. -/
def execSafeBgTest (pass : Bool) (s : State) : Host.Outcome State Fault Refusal :=
  if !s.domOn 2 || s.safe.state == .selftest then .next s else
  let s := s.modSafe (fun x => { x with bgFail := !pass })
  .next (if pass then s else s.safeFault 7 0)

/-! Power and self-test. -/

/-- PD2_POWER_ON (R458, R486, R543): the island begins SELFTEST; what MRAM holds stays. -/
def execPd2PowerOn (s : State) : Host.Outcome State Fault Refusal :=
  let s := { s with power := { s.power with on := s.power.on ||| 4 } }
  .next ((s.modSafe (fun x => { copy0 := x.copy0, copy1 := x.copy1, lockouts := x.lockouts })).clearRegs 0x1B000 0x1C000)

/-- SAFE_SUPPLY_LOSS (R469): every output low; the island is without power. -/
def execSafeSupplyLoss (s : State) : Host.Outcome State Fault Refusal :=
  if !s.domOn 2 then .next s else
  let out := s.safe.out
  let s := { s with power := { s.power with on := s.power.on &&& 0xFB } }
  let s := (s.modSafe (fun x => { copy0 := x.copy0, copy1 := x.copy1, lockouts := x.lockouts })).clearRegs 0x1B000 0x1C000
  .next (if out = 0 then s else s.emit (.safeOut 0 0))

/-- The CHECK of a copy matches its bytes (R474). -/
def SafeCopy.checks (c : SafeCopy) : Bool := c.bytes.length == 1024 && crc32c (c.bytes.take 1020) == blkW c.bytes 1020

/-- The copy that becomes active (R474): the valid one of higher generation. -/
def Safe.bestCopy (x : Safe) : Option (Nat × SafeCopy) :=
  let v0 := x.copy0.marker && x.copy0.checks
  let v1 := x.copy1.marker && x.copy1.checks
  if v1 && (!v0 || decide (x.copy0.gen.toNat < x.copy1.gen.toNat)) then some (1, x.copy1)
  else if v0 then some (0, x.copy0) else none

/-- SAFE_SELFTEST_DONE (R458, R474); its duration is counted in strobes (R456). -/
def execSafeSelftestDone (testsPass : Bool) (s : State) : Host.Outcome State Fault Refusal :=
  if !s.domOn 2 || s.safe.state != .selftest then .next s else
  let x := s.safe
  let s := if x.copy0.marker && !x.copy0.checks then s.raise 0x1009 0 [0] else s
  let s := if x.copy1.marker && !x.copy1.checks then s.raise 0x1009 0 [1] else s
  let s := match x.bestCopy with | some (n, c) => s.blkActivate c.bytes n c.gen | none => s
  let s := s.suPending
  let r := if x.bestCopy.isNone then 9 else if testsPass then 0 else 7
  let s := s.modSafe (fun x => { x with bgFail := !testsPass })
  let s := s.raise 0x100A 0 [wd r, wd (x.k / 100)]
  .next (if r = 0 then s.modSafe (fun x => { x with state := .operational }) else s.safeLock r 0)

/-! The mailbox. -/

/-- The result of a mailbox command (R486, R487). -/
def State.mbxDone (s : State) (result detail : Nat) : State := s.wr Reg.SAFE_MBX_STATUS (wd (2 + result * 16 + detail * 65536))

/-- A mailbox command (R483, R487): refused with BUSY while a commit runs. -/
def State.mbx (s : State) (f : State → State) : State :=
  if s.safe.commit.isSome then s.wr Reg.SAFE_MBX_STATUS 0x11 else f s

/-- The offset in SAFE_MBX_ARG, when it is one of R475. -/
def State.mbxOff (s : State) : Option Nat :=
  let a := (s.rd Reg.SAFE_MBX_ARG).toNat
  if a % 32 = 0 && a < 1024 then some a else none

/-- LOAD_BEGIN (R475). What is not written of a candidate is free (log entry 78). -/
def State.mbxBegin (s : State) : State :=
  let c := s.freeCtr
  let b := (List.range 1024).map (fun i => BitVec.ofNat 8 (Config.freeValue (c + i)).toNat)
  ({ s with freeCtr := c + 1024 }.modSafe (fun x => { x with loading := some b, cand := none, confirms := 0 })).mbxDone 0 0

/-- LOAD_WRITE (R475). -/
def State.mbxWrite (s : State) : State :=
  match s.safe.loading, s.mbxOff with
  | none, _ => s.mbxDone 5 0
  | _, none => s.mbxDone 2 0
  | some b, some o =>
    let d := (List.range 8).flatMap (fun k => wordBytes (s.rd (Reg.SAFE_MBX_DATA k)))
    (s.modSafe (fun x => { x with loading := some (b.take o ++ d ++ b.drop (o + 32)) })).mbxDone 0 0

/-- LOAD_END (R475). -/
def State.mbxEnd (s : State) : State :=
  match s.safe.loading with
  | none => s.mbxDone 5 0
  | some b =>
    let s := s.modSafe (fun x => { x with loading := none })
    match blkBad b with
    | some o => s.mbxDone 3 o
    | none =>
      let c := crc32c (b.take 1020)
      let s := s.wr Reg.SAFE_CAND_CHECK c
      if c ≠ blkW b 1020 then s.mbxDone 4 0 else (s.modSafe (fun x => { x with cand := some b, confirms := 0 })).mbxDone 0 0

/-- The copy that a commit writes (R477): the older one. -/
def Safe.older (x : Safe) : Nat := match x.active with | some 0 => 1 | _ => 0

/-- Replace a copy. -/
def Safe.setCopy (x : Safe) (n : Nat) (c : SafeCopy) : Safe := if n = 0 then { x with copy0 := c } else { x with copy1 := c }

/-- CONFIRM (R476, R477). -/
def State.mbxConfirm (s : State) : State :=
  let x := s.safe
  if x.state == .selftest || x.grp.any (fun g => g.2.state == 1 || g.2.state == 3) then s.mbxDone 7 0
  else match x.cand with
    | none => s.mbxDone 5 0
    | some b =>
      if s.rd Reg.SAFE_MBX_ARG ≠ s.rd Reg.SAFE_CAND_CHECK then
        let n := x.confirms + 1
        let s := s.modSafe (fun x => if 3 ≤ n then { x with confirms := 0, cand := none } else { x with confirms := n })
        (s.raise 0x1008 0 [wd n]).mbxDone 6 0
      else
        let n := x.older
        let s := (s.safeLock 10 0).modSafe (fun x =>
          { x.setCopy n { bytes := b, gen := x.gen + 1, marker := false } with commit := some n, confirms := 0 })
        s.wr Reg.SAFE_MBX_STATUS 1

/-- READ_ACTIVE (R487); with no active block the data are free. -/
def State.mbxRead (s : State) : State :=
  match s.mbxOff with
  | none => s.mbxDone 2 0
  | some o =>
    let c := s.freeCtr
    let w := fun (k : Nat) => match s.safe.block with | some b => blkW b (o + 4 * k) | none => lo32 (Config.freeValue (c + k))
    let s := if s.safe.block.isSome then s else { s with freeCtr := c + 8 }
    (s.each (List.range 8) (fun s k => s.wr (Reg.SAFE_MBX_DATA k) (w k))).mbxDone 0 0

/-- DISCARD (R487). -/
def State.mbxDiscard (s : State) : State :=
  if s.safe.cand.isNone && s.safe.loading.isNone then s.mbxDone 5 0
  else (s.modSafe (fun x => { x with cand := none, loading := none, confirms := 0 })).mbxDone 0 0

/-- A write of SAFE_MBX_CMD (R486, R487). -/
def State.mbxCmd (s : State) (code : Nat) : State :=
  s.mbx (fun s =>
    match code with
    | 1 => s.mbxBegin
    | 2 => s.mbxWrite
    | 3 => s.mbxEnd
    | 4 => s.mbxConfirm
    | 5 => s.mbxRead
    | 6 => s.mbxDiscard
    | _ => s.mbxDone 2 0xFFFF)

/-- A mailbox write that reaches the island (R107, R483). -/
def State.mbxGate (s : State) (code : Nat) : State := s.gated Reg.SAFE_MBX_CMD (fun s => if s.domOn 2 then s.mbxCmd code else s)

/-- SAFE_MBX_LOAD_BEGIN (R475). -/
def execSafeMbxLoadBegin (s : State) : Host.Outcome State Fault Refusal := .next (s.mbxGate 1)
/-- SAFE_MBX_LOAD_WRITE (R475). -/
def execSafeMbxLoadWrite (s : State) : Host.Outcome State Fault Refusal := .next (s.mbxGate 2)
/-- SAFE_MBX_LOAD_END (R475). -/
def execSafeMbxLoadEnd (s : State) : Host.Outcome State Fault Refusal := .next (s.mbxGate 3)
/-- SAFE_MBX_CONFIRM (R476). -/
def execSafeMbxConfirm (s : State) : Host.Outcome State Fault Refusal := .next (s.mbxGate 4)
/-- SAFE_MBX_READ_ACTIVE (R487). -/
def execSafeMbxReadActive (s : State) : Host.Outcome State Fault Refusal := .next (s.mbxGate 5)
/-- SAFE_MBX_DISCARD (R487). -/
def execSafeMbxDiscard (s : State) : Host.Outcome State Fault Refusal := .next (s.mbxGate 6)
/-- SAFE_MBX_BAD_CMD (R487): a code that is not listed. -/
def execSafeMbxBadCmd (value : Word) (s : State) : Host.Outcome State Fault Refusal :=
  .next (if 1 ≤ bits value 3 0 && bits value 3 0 ≤ 6 then s else s.mbxGate (bits value 3 0))

/-- SAFE_COMMIT_DONE (R477): read back, sealed, and active; or VERIFY_FAIL. -/
def execSafeCommitDone (readbackOk : Bool) (s : State) : Host.Outcome State Fault Refusal :=
  match s.safe.commit with
  | none => .next s
  | some n =>
    if !s.domOn 2 then .next s else
    let s := s.modSafe (fun x => { x with commit := none })
    if !readbackOk then .next (s.mbxDone 8 0)
    else
      let c := if n = 0 then s.safe.copy0 else s.safe.copy1
      let s := s.modSafe (fun x => { x.setCopy n { c with marker := true } with cand := none })
      .next (((s.blkActivate c.bytes n c.gen).raise 0x1007 0 [blkW c.bytes 1020, c.gen]).mbxDone 0 0)

end Sys2Proof.Machine
end

