-- ==== Sys2Proof/Machine/Trust.lean ====
section
/-!
DEFINITION. What NV images, fuses and keys say (R515, R521 to R526, R535): fields of an image, the entries in force, the keys that may
clear Cask and the enrolled owner.
-/
namespace Sys2Proof.Machine

/-- The bytes of a SHA-512 hash, the first the lowest eight bits of `Config.sha512` (log entry 5). -/
def hashBytes (h : BitVec 512) : List Byte := natBytes 64 h.toNat

/-- A key's fingerprint (R515): bytes 0 to 15 of its hash. -/
def fingerprint (key : List Byte) : List Byte := (hashBytes (Config.sha512 key)).take 16

/-- `n` bytes from an offset of a byte string. -/
def sliceB (b : List Byte) (o n : Nat) : List Byte := (b.drop o).take n

/-- MARKER values of a trailer (R526). -/
abbrev markValid : Word := 0x4E565444
abbrev markWriting : Word := 0x4E565752

/-- ENTRIES of an NV image (R521). -/
def nvCount (b : List Byte) : Nat := leAt b 12 4 % 2 ^ 13

/-- SIGNED of an NV image. -/
def nvSigned (b : List Byte) : Bool := bit (wordAt b 1) 8

/-- Entry `k` of an NV image as its words (R521, R522). -/
def nvEntry (b : List Byte) (k : Nat) : List Word := bytesWords (sliceB b (64 + 32 * k) 32)

/-- The entries of an NV image, in image order. -/
def nvEntries (b : List Byte) : List (List Word) := (List.range (nvCount b)).map (nvEntry b)

/-- NV slot `n`: A is 0. -/
def Sec.slot (x : Sec) (n : Nat) : Slot := if n = 0 then x.slot0 else x.slot1

/-- Replace an NV slot. -/
def Sec.setSlot (x : Sec) (n : Nat) (v : Slot) : Sec := if n = 0 then { x with slot0 := v } else { x with slot1 := v }

/-- Firmware bank `n`. -/
def Sec.fw (x : Sec) (n : Nat) : Slot := if n = 0 then x.bank0 else x.bank1

/-- Replace a firmware bank. -/
def Sec.setFw (x : Sec) (n : Nat) (v : Slot) : Sec := if n = 0 then { x with bank0 := v } else { x with bank1 := v }

/-- The entries of the image in force; none under factory defaults (R524, R527). -/
def Sec.entries (x : Sec) : List (List Word) :=
  if x.factory then [] else match x.active with
    | some n => nvEntries (x.slot n).image
    | none => []

/-- Word 0 of an entry names a kind (R522). -/
def isKind (k : Nat) (e : List Word) : Bool := bits (nthW e 0) 7 0 == k

/-- The fingerprint of CLEAR_KEY entry `i` in force, as its four words (R522, R525): the last entry of an index governs. -/
def Sec.clearKey (x : Sec) (i : Nat) : Option (List Word) :=
  ((x.entries.filter (fun e => isKind 4 e && bits (nthW e 1) 2 0 == i)).getLast?).map (fun e => (e.drop 4).take 4)

/-- The enrolled owner: the lowest slot enrolled and not revoked (R535). -/
def Sec.ownerSlot (x : Sec) : Option Nat :=
  (List.range 4).find? (fun n => let o := x.owner.get {} n; o.enrolled && !o.revoked)

/-- A key is the enrolled owner's. -/
def Sec.isOwner (x : Sec) (key : List Byte) : Bool :=
  match x.ownerSlot with
  | some n => (x.owner.get {} n).hash == Config.sha512 key
  | none => false

/-- A key is the vendor key of the fuses. -/
def isVendor (key : List Byte) : Bool := Config.sha512 key == Config.vendorHash

/-- A key may clear Cask (R525). -/
def Sec.mayClear (x : Sec) (key : List Byte) : Bool :=
  isVendor key || x.isOwner key || (List.range 8).any (fun i => x.clearKey i == some (bytesWords (fingerprint key)))

end Sys2Proof.Machine
end

