-- ==== Sys2Proof/Machine/Cask.lean ====
section
/-!
DEFINITION. The Cask event recorder (R501 to R520): flushes, rate limits, the freeze, reads, the clear, and what power failure and
start-up do to it.
-/
namespace Sys2Proof.Machine

/-- Change the recorder. -/
def State.modCask (s : State) (f : Cask → Cask) : State := { s with cask := f s.cask }

/-- The slot of a SEQ (R502): the first area, then the circulating area from 8,192 up. -/
def caskSlotOf (seq : Nat) : Nat := if seq < 8192 then seq else 8192 + (seq - 8192) % 131072

/-- Write a record to its slot. -/
def caskStore (m : SMap CaskSlot) (r : CaskRec) : SMap CaskSlot := m.set .zero (caskSlotOf r.seq) (.held r)

/-- Records in the first area (R519). -/
def Cask.firstCount (c : Cask) : Nat := min c.wIdx 8192

/-- The lowest SEQ that the circulating area holds: past what a clear erased and what was overwritten (R502, R512). -/
def Cask.oldest (c : Cask) : Nat := max c.circFrom (c.wIdx - 131072)

/-- Records in the circulating area (R519). -/
def Cask.circCount (c : Cask) : Nat := c.wIdx - c.oldest

/-- The record with a SEQ, from staging or from MRAM (R512). -/
def Cask.held (c : Cask) (seq : Nat) : Option CaskRec :=
  match c.staging.find? (fun r => r.seq == seq) with
  | some r => some r
  | none => match c.mram.get .zero (caskSlotOf seq) with
    | .held r => if r.seq = seq && decide (seq < c.wIdx) then some r else none
    | _ => none

/-- The result of a CASK_CMD, or of a freeze write (R519). -/
def State.caskDone (s : State) (result cmd : Nat) : State := s.wr Reg.CASK_RESULT (wd (result + cmd * 16 + 128))

/-- The staged records that a flush takes: all, but for those raised after step 3 of R507. -/
def Cask.flushed (c : Cask) : List CaskRec := c.staging.take (c.staging.length - c.late)

/-- A flush writes the staged records to MRAM, commits the write index and frees staging (R506, R507); an overflow is then reported
(R505). -/
def State.caskFlushAll (s : State) : State :=
  let s := s.modCask (fun c => { c with mram := c.flushed.foldl caskStore c.mram, wIdx := c.wIdx + c.flushed.length,
                                        staging := c.staging.drop c.flushed.length, flushing := false })
  if s.cask.overflow = 0 then s
  else
    let n := s.cask.overflow
    (s.modCask (fun c => { c with overflow := 0 })).raise 0x1203 0 [wd n]

/-- CASK_FLUSH (R506, R516): the flush in progress ends. During a clear records are staged but not flushed, unless PFAIL# pauses it. -/
def execCaskFlush (s : State) : Host.Outcome State Fault Refusal :=
  if !s.cask.flushing || (s.cask.clearing && !s.power.pfail) then .next s
  else
    let cmd := s.cask.flushCmd
    let s := (s.modCask (fun c => { c with flushCmd := false })).caskFlushAll
    .next (if cmd then s.caskDone 0 1 else s)

/-- Start a flush. -/
def State.caskFlushStart (s : State) : State := s.modCask (fun c => { c with flushing := true })

/-- CASK_FLUSH_TIMER (R506): at each multiple of 10^8 of the count, with staging not empty. -/
def execCaskFlushTimer (s : State) : Host.Outcome State Fault Refusal :=
  .next (if s.count.toNat % 100000000 = 0 && !s.cask.staging.isEmpty then s.caskFlushStart else s)

/-- A write of CASK_CMD (R107, R519): refused with BUSY while a FLUSH or a CLEAR of the host runs (log entry 81). -/
def State.caskCmd (s : State) (cmd : Nat) (f : State → State) : State :=
  s.gated Reg.CASK_CMD (fun s =>
    if s.cask.clearing || s.cask.flushCmd then s.caskDone 1 cmd else f (s.wr Reg.CASK_RESULT (wd (cmd * 16))))

/-- FLUSH starts a flush (R506). -/
def State.caskCmdFlushDo (s : State) : State := s.modCask (fun c => { c with flushing := true, flushCmd := true })

/-- CASK_CMD_FLUSH (R506). -/
def execCaskCmdFlush (s : State) : Host.Outcome State Fault Refusal := .next (s.caskCmd 1 State.caskCmdFlushDo)

/-- Sixteen bytes from the random source. -/
def State.random16 (s : State) : List Byte × State :=
  let a := s.free
  let b := a.2.free
  (natBytes 8 a.1.toNat ++ natBytes 8 b.1.toNat, b.2)

/-- NONCE (R514): 16 bytes from the random source become the current nonce. -/
def State.caskCmdNonceDo (s : State) : State :=
  let r := s.random16
  (r.2.modCask (fun c => { c with nonce := some (r.1, s.count) })).caskDone 0 2

/-- CASK_CMD_NONCE (R514). -/
def execCaskCmdNonce (s : State) : Host.Outcome State Fault Refusal := .next (s.caskCmd 2 State.caskCmdNonceDo)

/-- A nonce is 600 s old (R514). -/
def State.nonceOld (s : State) (n : Option (List Byte × DWord)) : Bool :=
  match n with | some (_, t) => s.since t 600000000000 | none => false

/-- CASK_NONCE_EXPIRE (R514): after 600 s. -/
def execCaskNonceExpire (s : State) : Host.Outcome State Fault Refusal :=
  .next (if s.nonceOld s.cask.nonce then s.modCask (fun c => { c with nonce := none }) else s)

/-! Clearing. -/

/-- The bytes of a token in its registers. -/
def State.tokenBytes (s : State) (reg : Nat → Nat) (n : Nat) : List Byte := wordsBytes ((List.range n).map (fun k => s.rd (reg k)))

/-- The magic "CASKCLR1" (R515). -/
def caskMagic : List Byte := [0x43, 0x41, 0x53, 0x4B, 0x43, 0x4C, 0x52, 0x31]

/-- The first check of a CLEAR that fails (R516), as its result. -/
def State.clearCheck (s : State) (t : List Byte) : Option Nat :=
  let key := sliceB t 64 32
  if s.cask.freeze.isSome || s.cask.freezeReq then some 7
  else match s.cask.nonce with
    | none => some 2
    | some (n, _) =>
      if sliceB t 0 64 ≠ caskMagic ++ natBytes 8 Config.serial.toNat ++ n ++ wordBytes s.cask.clearCnt ++ List.replicate 28 0 then some 3
      else if !s.sec.mayClear key then some 5
      else if !Config.ed25519Verify key (sliceB t 0 64) (sliceB t 96 64) then some 4
      else none

/-- CLEAR (R514, R516): the attempt uses up the nonce; a token that passes counts the clear and starts it. -/
def State.caskCmdClearDo (s : State) : State :=
  let t := s.tokenBytes Reg.CASK_TOKEN 40
  let key := sliceB t 64 32
  let fp := if key.all (· == 0) then [0, 0, 0, 0] else bytesWords (fingerprint key)
  let r := s.clearCheck t
  let s := s.modCask (fun c => { c with nonce := none })
  match r with
  | some e => (s.caskDone e 3).raise 0x1205 0 (wd e :: fp)
  | none => s.modCask (fun c => { c with clearCnt := c.clearCnt + 1, marker := some (bytesWords (fingerprint key)), clearing := true })

/-- CASK_CMD_CLEAR (R516). -/
def execCaskCmdClear (s : State) : Host.Outcome State Fault Refusal := .next (s.caskCmd 3 State.caskCmdClearDo)

/-- Steps 3 and 4 of a clear (R516): the circulating area is zeroed, the records staged meanwhile are flushed, CASK_CLEARED is written as a
new record, and the marker goes. -/
def State.caskErase (s : State) (fp : List Word) (atStart : Bool) : State :=
  let n := s.cask.circCount
  let s := s.modCask (fun c => { c with mram := c.mram.dropRange 8192 139264, circFrom := max 8192 c.wIdx, clearing := false })
  ((s.caskFlushAll.raise 0x1204 0 (fp ++ [s.cask.clearCnt, wd n, bw atStart])).caskFlushAll).modCask (fun c => { c with marker := none })

/-- CASK_CLEAR_DONE (R516); a clear is paused while PFAIL# is low (R507). -/
def execCaskClearDone (s : State) : Host.Outcome State Fault Refusal :=
  match s.cask.marker with
  | some fp => .next (if !s.cask.clearing || s.power.pfail then s else (s.caskErase fp false).caskDone 0 3)
  | none => .next s

/-- READ (R512): the record whole, or NOT_PRESENT. -/
def State.caskCmdReadDo (s : State) : State :=
  match s.cask.held (s.rd64 Reg.CASK_RD_SEQ).toNat with
  | none => s.caskDone 6 4
  | some r =>
    let b := r.bytes
    (s.each (List.range 16) (fun s k => s.wr (Reg.CASK_RD_DATA k) (wordAt b k))).caskDone 0 4

/-- CASK_CMD_READ (R512). -/
def execCaskCmdRead (s : State) : Host.Outcome State Fault Refusal := .next (s.caskCmd 4 State.caskCmdReadDo)

/-! Rate limits. -/

/-- RATE of a bucket. -/
def State.bktRate (s : State) (b : Nat) : Nat := s.fld (Reg.CASK_BKT b) 15 0

/-- CASK_TOKEN_GAIN (R510): one token at each multiple of floor(10^9 / RATE), unless the bucket is full. -/
def execCaskTokenGain (bucket : Fin 256) (s : State) : Host.Outcome State Fault Refusal :=
  let k := s.cask.buckets.get {} bucket.val
  let p := 1000000000 / s.bktRate bucket.val
  if s.count.toNat % p ≠ 0 || k.used = 0 || k.gain == some s.count then .next s
  else .next (s.setBucket bucket.val { k with used := k.used - 1, gain := some s.count })

/-- One CASK_SUPPRESSED record for each bucket whose count is not 0, and the counts 0 (R510). -/
def State.caskSummaries (s : State) : State :=
  s.each (List.range 256) (fun s b =>
    let k := s.cask.buckets.get {} b
    if k.suppr = 0 then s
    else (s.setBucket b { k with suppr := 0, first := 0, last := 0 }).raise 0x1201 0 [wd b, wd k.suppr, wd k.first, wd k.last])

/-- CASK_SUPPRESSED (R510, R517): each second; deferred during a freeze. -/
def execCaskSuppressed (s : State) : Host.Outcome State Fault Refusal :=
  if s.count.toNat % 1000000000 ≠ 0 then .next s
  else .next (if s.cask.freeze.isSome then s.modCask (fun c => { c with deferred := true }) else s.caskSummaries)

/-- A write of CASK_BKT (R510, R519): reserved encodings keep their field, and the bucket is full. -/
def State.bktWrite (s : State) (b : Nat) (v : Word) : State :=
  let off := Reg.CASK_BKT b
  let s := if bits v 15 0 = 0 then s else s.setF off 15 0 (bits v 15 0)
  let s := if bits v 26 16 = 0 || 1024 < bits v 26 16 then s else s.setF off 26 16 (bits v 26 16)
  let s := s.setF off 31 31 (bits v 31 31)
  s.setBucket b { s.cask.buckets.get {} b with used := 0 }

/-- CASK_BKT_WRITE (R510). -/
def execCaskBktWrite (bucket : Fin 256) (value : Word) (s : State) : Host.Outcome State Fault Refusal :=
  .next (s.gated (Reg.CASK_BKT bucket.val) (fun s => s.bktWrite bucket.val value))

/-! The freeze. -/

/-- The CASK_MISSED record of a freeze that ended (R511). -/
def State.caskMissed (s : State) (f : Freeze) (way : Nat) : State :=
  s.raise 0x1202 0 [wd f.missed, wd f.first, wd f.last, wd ((s.count - f.since).toNat / 1000000), wd way]

/-- A freeze in force ends (R511): CASK_MISSED, then a summary that fell due meanwhile (R517). -/
def State.freezeEnd (s : State) (way : Nat) : State :=
  match s.cask.freeze with
  | none => s
  | some f =>
    let d := s.cask.deferred
    let s := (s.modCask (fun c => { c with freeze := none, deferred := false })).setF Reg.CASK_FREEZE 0 0 0
    let s := s.caskMissed f way
    if d then s.caskSummaries else s

/-- FREEZE_MAX of a write (R520): 0 and values above 60 keep the field. -/
def State.freezeMaxWrite (s : State) (v : Word) : State :=
  if bits v 13 8 = 0 || 60 < bits v 13 8 then s else s.setF Reg.CASK_FREEZE 13 8 (bits v 13 8)

/-- A write of CASK_FREEZE (R511, R517). -/
def State.freezeWrite (s : State) (v : Word) : State :=
  let s := s.freezeMaxWrite v
  if !bit v 0 then ((s.modCask (fun c => { c with freezeReq := false })).setF Reg.CASK_FREEZE 0 0 0).freezeEnd 0
  else if s.cask.clearing then s.caskDone 1 0
  else
    let s := s.setF Reg.CASK_FREEZE 0 0 1
    if s.cask.freeze.isSome then s else s.modCask (fun c => { c with freezeReq := true, flushing := true })

/-- CASK_FREEZE_WRITE (R511). -/
def execCaskFreezeWrite (value : Word) (s : State) : Host.Outcome State Fault Refusal :=
  .next (s.gated Reg.CASK_FREEZE (fun s => s.freezeWrite value))

/-- The operation that runs asked for the freeze (R513). -/
def State.opFroze (s : State) : Bool := match s.host.op with | some o => o.froze | none => false

/-- CASK_FREEZE_IN_FORCE (R511): after the flush; what was staged since joins it. -/
def execCaskFreezeInForce (s : State) : Host.Outcome State Fault Refusal :=
  if !s.cask.freezeReq || s.cask.flushing || s.cask.clearing then .next s
  else
    let s := s.caskFlushAll.caskFlushAll
    let f : Freeze := { since := s.count, byOp := s.opFroze }
    .next ((s.modCask (fun c => { c with freezeReq := false, freeze := some f })).wr Reg.CASK_MISSED 0)

/-- CASK_FREEZE_TIMEOUT (R511): after FREEZE_MAX seconds. -/
def execCaskFreezeTimeout (s : State) : Host.Outcome State Fault Refusal :=
  match s.cask.freeze with
  | none => .next s
  | some f =>
    let due := decide (s.fld Reg.CASK_FREEZE 13 8 * 1000000000 ≤ (s.count - f.since).toNat)
    .next (if due then s.freezeEnd 1 else s)

/-! Power failure, reset and start-up. -/

/-- Step 1 and 2 of R507: the freeze ends, and so does one that was only asked for; the records of the power failure are staged, and a
flush starts. -/
def State.caskPfail (s : State) : State :=
  let f := s.cask.freeze
  let s := (s.modCask (fun c => { c with freeze := none, freezeReq := false, deferred := false })).setF Reg.CASK_FREEZE 0 0 0
  let s := s.raise 0x1207 0 [0]
  let s := match f with | some f => s.caskMissed f 2 | none => s
  s.caskSummaries.caskFlushStart

/-- PFAIL# rises again (R507): a CASK_POWER_FAIL record still in staging tells it, and what stayed in staging is flushed as any record. -/
def State.caskPfailEnd (s : State) : State :=
  s.modCask (fun c => { c with late := 0, staging := c.staging.map (fun r => if r.code = 0x1207 then { r with args := [1] } else r) })

/-- What a reset that includes PD1 does to the recorder (R514, R517, R544): nonce and freeze end; a clear waits for S1. -/
def State.caskReset (s : State) : State :=
  let s := (s.modCask (fun c => { c with nonce := none, freezeReq := false, clearing := false })).setF Reg.CASK_FREEZE 0 0 0
  s.freezeEnd 0

/-- What MRAM keeps when VAON goes (R502, R508). -/
def Cask.survive (c : Cask) : Cask :=
  { seq := c.wIdx, boot := c.boot, clearCnt := c.clearCnt, mram := c.mram, wIdx := c.wIdx, circFrom := c.circFrom, marker := c.marker }

/-- Power is lost in a flush (R508, R549): the first `n` records of the flush reached MRAM, and the next is torn if `torn`. -/
def Cask.loseAt (c : Cask) (n : Nat) (torn : Bool) : Cask :=
  let m := (c.flushed.take n).foldl caskStore c.mram
  { c with mram := if torn && decide (n < c.flushed.length) then m.set .zero (caskSlotOf (c.wIdx + n)) .torn else m }

/-- Read the slots after the write index (R508): the SEQ expected next, the place, and the torn SEQs found. -/
def caskScan (m : SMap CaskSlot) : Nat → Nat → Nat → List Nat → Nat × List Nat
  | 0, next, _, torn => (next, torn)
  | k + 1, next, at_, torn =>
    match m.get .zero (caskSlotOf at_) with
    | .zero => (next, torn)
    | .held r => if r.seq = next then caskScan m k (next + 1) (at_ + 1) torn else (next, torn)
    | .torn => caskScan m k next (at_ + 1) (torn ++ [at_])

/-- The recorder at S1 (R508): BOOT counts, slots after the write index are adopted, torn ones are discarded and reported, and a
clear marked in progress is completed. -/
def State.caskStart (s : State) : State :=
  let r := caskScan s.cask.mram 1024 s.cask.wIdx s.cask.wIdx []
  let s := s.modCask (fun c =>
    { c with boot := c.boot + 1, wIdx := r.1, seq := max c.seq r.1,
             mram := r.2.foldl (fun (m : SMap CaskSlot) q => m.set .zero (caskSlotOf q) .zero) c.mram })
  let s := s.each r.2 (fun s q => s.raise 0x1206 0 [wd q, wd (q / 2 ^ 32)])
  match s.cask.marker with
  | some fp => s.caskErase fp true
  | none => s

end Sys2Proof.Machine
end

