-- ==== Sys2Proof/Machine/Sec.lean ====
section
/-!
DEFINITION. NV images and their commits, firmware banks and boot, owner enrolment and attestation (R521 to R540).
-/
namespace Sys2Proof.Machine

/-- Change the trust state. -/
def State.modSec (s : State) (f : Sec → Sec) : State := { s with sec := f s.sec }

/-! The form of an NV image (R529). -/

/-- Registers that a REG entry may name (R523), beside the Cask tables. -/
def nvRegs : List Nat :=
  [Reg.FAB_CFG, Reg.TWIN_CFG, Reg.TWIN_PARTNER_SN, Reg.TWIN_PARTNER_SN + 4, Reg.PTP_CFG, Reg.LOOP_CTRL, Reg.CASK_FREEZE]
  ++ (List.range 2).flatMap (fun c => [Reg.SB_CH_CFG c, Reg.SB_CYCLE c, Reg.SB_TIMING c, Reg.SB_DYN c, Reg.SB_SYNC c, Reg.SB_DELAY c,
      Reg.SB_STAR_CFG c, Reg.ETH_CTRL c, Reg.ETH_TS_EGR_ADJ c, Reg.ETH_TS_ING_ADJ c])
  ++ (List.range 4).flatMap (fun n => [Reg.CAN_CTRL n, Reg.CAN_NBT n, Reg.CAN_DBT n, Reg.CAN_TDC n])
  ++ (List.range 8).flatMap (fun n => [Reg.LOOP_CH_CFG n, Reg.LOOP_CH_TRIM n, Reg.LOOP_CH_PRESET n, Reg.LOOP_CH_HRMIN n])

/-- An offset that a REG entry may name (R523). -/
def nvRegOk (off : Nat) : Bool :=
  nvRegs.contains off || (off % 4 == 0 && decide (Reg.CASK_MAP 0 ≤ off) && decide (off < Reg.CASK_MAP 64))
    || (off % 4 == 0 && decide (Reg.CASK_BKT 0 ≤ off) && decide (off < Reg.CASK_BKT 256))

/-- The bits of a register that are fields (R529). -/
def regFields (off : Nat) : Word :=
  match regAt off with
  | some (d, _, k) => if off = Reg.CASK_FREEZE then 0x3F01 else d.rwOf k ||| d.w1c ||| d.rc ||| d.wo
  | none => 0

/-- The bits of words 1 to 7 of an entry that its kind gives a meaning (R522). -/
def nvEntryMask (kind k : Nat) : Word :=
  match kind, k with
  | 1, 1 => 0xFFFFFFFF | 1, 2 => 0xFFFFFFFF | 1, 3 => 0xFFFFFFFF
  | 2, 1 => 0xFF01 | 2, 2 => 0xFFFFFFFF
  | 3, 1 => 0x7F03 | 3, 2 => 0xFFFFFFFF | 3, 3 => 0xFFFFFFFF | 3, 4 => 0xFFFFFFFF
  | 4, 1 => 7 | 4, 4 => 0xFFFFFFFF | 4, 5 => 0xFFFFFFFF | 4, 6 => 0xFFFFFFFF | 4, 7 => 0xFFFFFFFF
  | _, _ => 0

/-- Word `k` of an entry is right (R529). -/
def nvWordOk (e : List Word) (k : Nat) : Bool :=
  let kind := bits (nthW e 0) 7 0
  let w := nthW e k
  if k = 0 then decide (1 ≤ kind) && decide (kind ≤ 4) && bits w 31 8 == 0
  else if w &&& ~~~(nvEntryMask kind k) ≠ 0 then false
  else if kind ≠ 1 then true
  else
    let off := (nthW e 1).toNat
    match k with
    | 1 => nvRegOk off
    | 2 => (w &&& nthW e 3 &&& ~~~(regFields off)) == 0
    | 3 => w != 0 && (off != Reg.CASK_FREEZE || (w &&& ~~~(0x3F00 : Word)) == 0)
    | _ => true

/-- The first word of the entries that is wrong, as its offset in the image. -/
def nvEntriesBad (b : List Byte) : Option Nat :=
  (List.range (nvCount b)).findSome? (fun k =>
    let e := nvEntry b k
    ((List.range 8).find? (fun j => !nvWordOk e j)).map (fun j => 64 + 32 * k + 4 * j))

/-- LENGTH as R521 counts it. -/
def nvLength (b : List Byte) : Nat := 64 + 32 * nvCount b + (if nvSigned b then 128 else 0)

/-- The first wrong item of a header (R521). -/
def nvHeaderBad (b : List Byte) (len : Nat) : Option Nat :=
  let n := nvCount b
  if wordAt b 0 ≠ 0x4E564931 then some 0
  else if wordAt b 1 &&& 0xFFFFFEFF ≠ 1 then some 4
  else if leAt b 8 4 ≠ len || nvLength b ≠ len then some 8
  else if bits (wordAt b 3) 31 13 ≠ 0 then some 12
  else if crc32c (sliceB b 64 (32 * n)) ≠ wordAt b 6 then some 24
  else ((List.range 9).find? (fun k => wordAt b (7 + k) != 0)).map (fun k => 28 + 4 * k)

/-- The first wrong item of the signature block, which a signed image or REQ_OWNER_NV asks for (R529, R534). -/
def Sec.nvSigBad (x : Sec) (b : List Byte) : Option Nat :=
  let e := 64 + 32 * nvCount b
  let key := sliceB b e 32
  if !nvSigned b && !x.reqNv then none
  else if !nvSigned b || !x.isOwner key then some e
  else if sliceB b (e + 32) 32 ≠ List.replicate 32 0 then some (e + 32)
  else if !Config.ed25519Verify key (b.take e) (sliceB b (e + 64) 64) then some (e + 64) else none

/-- The byte offset of the first failing item of an NV image (R528, R529). -/
def Sec.nvBad (x : Sec) (b : List Byte) (len : Nat) : Option Nat :=
  match nvHeaderBad b len with
  | some o => some o
  | none => match nvEntriesBad b with
    | some o => some o
    | none => x.nvSigBad b

/-- A slot is valid (R526). -/
def Sec.slotValid (x : Sec) (n : Nat) : Bool :=
  let v := x.slot n
  v.marker == markValid && v.image.length == v.length && Config.sha512 v.image == v.digest && (x.nvBad v.image v.length).isNone

/-- NV_SLOT_A and NV_SLOT_B (R540). -/
def Sec.slotCode (x : Sec) (n : Nat) : Nat :=
  let m := (x.slot n).marker
  if m = markWriting then 1 else if m ≠ markValid then 0 else if x.slotValid n then 2 else 3

/-- The image of FACTORY_RESTORE (R531): a header with no entries. -/
def restoreImage : List Byte := wordsBytes [0x4E564931, 1, 64, 0, 0, 0, crc32c []] ++ List.replicate 36 0

/-! Selection at S3 (R527). -/

/-- Step 1: a slot whose INTENT is set stages COMMIT_INTERRUPTED, and INTENT is cleared. -/
def State.intentCheck (s : State) (n : Nat) : State :=
  let v := s.sec.slot n
  if !v.intent then s
  else ((s.modSec (fun x => { x.setSlot n { v with intent := false, intentGen := 0, step := 0 } with intentFound := true })).raise
    0x1302 0 [wd n, v.intentGen, wd v.step])

/-- Step 2: the valid slot of higher GEN, A on equal GEN. -/
def Sec.select (x : Sec) : Option Nat :=
  let a := x.slotValid 0
  let b := x.slotValid 1
  if b && (!a || decide (x.slot0.gen.toNat < x.slot1.gen.toNat)) then some 1 else if a then some 0 else none

/-- Steps 2 to 4 of R527. -/
def State.nvSelect (s : State) : State :=
  match s.sec.select with
  | none => (s.modSec (fun x => { x with active := none, gen := 0, factory := true, fallback := false })).raise 0x1304 0 [2]
  | some n =>
    let other := 1 - n
    let fall := !s.sec.slotValid other && decide ((s.sec.slot n).gen.toNat < (s.sec.slot other).gen.toNat)
    let f := (s.sec.slot n).factory
    let s := s.modSec (fun x => { x with active := some n, gen := (x.slot n).gen.toNat, factory := f, fallback := fall })
    let s := if fall then s.raise 0x1303 0 [wd n] else s
    if f then s.raise 0x1304 0 [1] else s

/-- The selection of R527, whole. -/
def State.nvStart (s : State) : State :=
  (((s.modSec (fun x => { x with intentFound := false })).intentCheck 0).intentCheck 1).nvSelect

/-! The commit (R528, R530, R531). -/

/-- The slot that a commit writes: the one not in force; with none in force it is open which (log entry 85). -/
def State.commitTarget (s : State) : Nat × State :=
  match s.sec.active with
  | some 0 => (1, s)
  | some _ => (0, s)
  | none => let r := s.free; (r.1.toNat % 2, r.2)

/-- Step 2 of R528: INTENT is set, with INTENT_GEN = G. -/
def State.commitStart (s : State) (restore : Bool) (len : Nat) : State :=
  let t := s.commitTarget
  let g := s.sec.gen + 1
  t.2.modSec (fun x => { x.setSlot t.1 { x.slot t.1 with intent := true, intentGen := wd g, step := 2 } with
    commit := some { slot := t.1, gen := g, restore := restore, len := len } })

/-- An end of a commit other than step 7: INTENT is cleared, and COMMIT_INTERRUPTED is staged (R528). -/
def State.commitFail (s : State) (c : Commit) (step : Nat) : State :=
  let s := s.modSec (fun x => { x.setSlot c.slot { x.slot c.slot with intent := false, intentGen := 0, step := 0 } with commit := none })
  s.raise 0x1302 0 [wd c.slot, wd c.gen, wd step]

/-- Steps 5 and 6: the slot is WRITING with the image in it. -/
def Commit.written (c : Commit) (v : Slot) (image : List Byte) : Slot :=
  { v with marker := markWriting, gen := wd c.gen, image := image, length := image.length, factory := c.restore,
           digest := Config.sha512 image }

/-- The commit reads, checks and writes the image, and ends (steps 3 to 7 of R528): the result and RESULT0, RESULT1. -/
def State.commitEnd (s : State) (c : Commit) (image : List Byte) (hostFault readbackOk : Bool) : State × Nat × Nat × Nat :=
  if hostFault then (s.commitFail c 3, 5, 0, 0)
  else match s.sec.nvBad image image.length with
    | some o => (s.commitFail c 4, 4, 0, o)
    | none =>
      let w := c.written (s.sec.slot c.slot) image
      if !readbackOk then ((s.modSec (fun x => x.setSlot c.slot w)).commitFail c 6, 4, 0, 0)
      else
        let w := { w with marker := markValid, intent := false, intentGen := 0, step := 0 }
        let s := s.modSec (fun x => { x.setSlot c.slot w with commit := none })
        (s.raise 0x1301 0 [wd c.gen, wd c.slot, wordAt image 4, wordAt image 5], 0, c.gen, 0)

/-- `n` free bytes. -/
def State.freeBytes (s : State) (n : Nat) : List Byte × State :=
  let c := s.freeCtr
  ((List.range n).map (fun i => BitVec.ofNat 8 (Config.freeValue (c + i)).toNat), { s with freeCtr := c + n })

/-- The image of a commit is still being read from host memory (step 3 of R528). -/
def State.opReading (s : State) : Bool := s.host.reads.any (fun r => r.owner == .op)

/-- A commit broken off by a reset, a loss of power or a stop (R530). The step it had reached is open, and so is the image it had
read (log entry 83); one that has reads to make is in step 2 or 3. -/
def State.commitAbort (s : State) (reading : Bool) : State :=
  match s.sec.commit with
  | none => s
  | some c =>
    let unread := s.host.reads.any (fun r => r.owner == .op && !r.sent)
    let k := if reading then 2 + s.free.1.toNat % 2 else 1 + s.free.1.toNat % (if unread then 3 else 8)
    let r := s.free.2.freeBytes c.len
    let image := if c.restore then restoreImage else r.1
    let v := s.sec.slot c.slot
    let w := c.written v image
    let w := if k = 1 then { v with intent := false, intentGen := 0, step := 0 }
      else if k ≤ 4 then { v with step := k }
      else if k ≤ 7 then { w with step := k }
      else { w with marker := markValid, step := 7 }
    r.2.modSec (fun x => { x.setSlot c.slot w with commit := none })

/-! Firmware (R532 to R534). -/

/-- VERSION, SVN and BODY_LEN of a firmware image. -/
def fwVersion (b : List Byte) : Word := wordAt b 1
def fwSvn (b : List Byte) : Nat := leAt b 8 4
def fwBody (b : List Byte) : Nat := leAt b 12 4

/-- Header and body of a firmware image. -/
def fwSigned (b : List Byte) : List Byte := b.take (256 + fwBody b)

/-- The first check of R533 that a firmware image fails, numbered from 1 (log entry 86). -/
def Sec.fwBad (x : Sec) (b : List Byte) : Option Nat :=
  let m := fwSigned b
  let blk := b.drop (256 + fwBody b)
  if wordAt b 0 ≠ 0x46574931 || 2096576 < fwBody b || b.length ≠ 448 + fwBody b || 64 < fwSvn b || (sliceB b 16 240).any (· != 0) then some 1
  else if !isVendor (blk.take 32) || !Config.ed25519Verify (blk.take 32) m (sliceB blk 32 64) then some 2
  else if fwSvn b < x.svnMin then some 3
  else if x.reqFw && !(x.isOwner (sliceB blk 96 32) && Config.ed25519Verify (sliceB blk 96 32) m (sliceB blk 128 64)) then some 4
  else none

/-- The running firmware image. -/
def Sec.running (x : Sec) : Option (List Byte) := x.bank.map (fun n => (x.fw n).image)

/-- The banks in the order the boot ROM tries them (R533): those with a VALID trailer, the higher GEN first. -/
def Sec.bootOrder (x : Sec) : List Nat :=
  let o := if x.bank0.gen.toNat < x.bank1.gen.toNat then [1, 0] else [0, 1]
  o.filter (fun n => (x.fw n).marker == markValid)

/-- The boot ROM tries banks in order (R533). -/
def State.bootTry : List Nat → Nat → State → State
  | [], _, s => s
  | n :: r, k, s =>
    match s.sec.fwBad (s.sec.fw n).image with
    | some e => State.bootTry r (k + 1) (s.raise 0x1306 0 [wd n, wd e])
    | none =>
      let s := s.modSec (fun x => { x with bank := some n })
      if k = 0 then s else s.raise 0x1307 0 [wd n]

/-- The result of a SEC_CMD (R540). -/
def State.secDone (s : State) (result cmd : Nat) : State := s.wr Reg.SEC_RESULT (wd (result + cmd * 16 + 128))

/-- A write of SEC_CMD (R533, R538, R540): BUSY while a stage runs; in recovery FW_STAGE only. -/
def State.secCmd (s : State) (cmd : Nat) (f : State → State) : State :=
  s.gated Reg.SEC_CMD (fun s =>
    if s.sec.staging.isSome then s.secDone 1 cmd
    else if s.power.recovery && cmd != 1 then s.secDone 2 cmd
    else f (s.wr Reg.SEC_RESULT (wd (cmd * 16))))

/-- FW_STAGE (R534): the image is read from host memory, for the bank not running. -/
def State.fwStage (s : State) : State :=
  let len := s.fld Reg.SEC_FW_LEN 20 0
  let t := match s.sec.bank with
    | some n => (1 - n, s)
    | none => (s.free.1.toNat % 2, s.free.2)
  (t.2.modSec (fun x => { x with staging := some (t.1, len) })).request .firmware (s.rd64 Reg.SEC_FW_ADDR).toNat len

/-- SEC_FW_STAGE (R534). -/
def execSecFwStage (s : State) : Host.Outcome State Fault Refusal := .next (s.secCmd 1 State.fwStage)

/-- A staged image that passes is written with the trailer of R526, GEN one above the other bank's (R534); in recovery the bank is
started at once (R533). -/
def State.fwWrite (s : State) (n : Nat) (image : List Byte) (readbackOk : Bool) : State :=
  let v : Slot := { image := image, marker := if readbackOk then markValid else markWriting, gen := (s.sec.fw (1 - n)).gen + 1,
                    length := image.length, digest := Config.sha512 image }
  let s := s.modSec (fun x => x.setFw n v)
  if !readbackOk then s.secDone 3 1
  else
    let s := (s.raise 0x1305 0 [wd n, fwVersion image, wd (fwSvn image)]).secDone 0 1
    if s.power.recovery then { s.modSec (fun x => { x with bank := some n }) with power := { s.power with recovery := false } } else s

/-- FW_STAGE_DONE (R532, R534). -/
def execFwStageDone (image : List Byte) (hostFault readbackOk : Bool) (s : State) : Host.Outcome State Fault Refusal :=
  match s.sec.staging with
  | none => .next s
  | some (n, len) =>
    if (!hostFault && image.length ≠ len) || !s.mgmtRuns || s.readsWait .firmware then .next s
    else
      let s := (s.modSec (fun x => { x with staging := none })).readsDone .firmware
      if hostFault then .next (s.secDone 4 1)
      else match s.sec.fwBad image with
        | some e =>
          let s := s.modSec (fun x => x.setFw n { x.fw n with marker := 0 })
          .next ((s.raise 0x1306 0 [wd n, wd e]).secDone 3 1)
        | none => .next (s.fwWrite n image readbackOk)

/-- SVN_COMMIT (R534): SVN_MIN rises to the SVN of the running firmware. -/
def State.svnCommit (s : State) : State :=
  match s.sec.running with
  | none => s.secDone 2 2
  | some b =>
    let v := fwSvn b
    if v ≤ s.sec.svnMin then s.secDone 0 2
    else ((s.modSec (fun x => { x with svnMin := v })).raise 0x1309 0 [wd v]).secDone 0 2

/-- SEC_SVN_COMMIT (R534). -/
def execSecSvnCommit (s : State) : Host.Outcome State Fault Refusal := .next (s.secCmd 2 State.svnCommit)

/-! Enrolment (R535, R536). -/

/-- NONCE (R536, R514). -/
def State.secNonceDo (s : State) : State :=
  let r := s.random16
  (r.2.modSec (fun x => { x with nonce := some (r.1, s.count) })).secDone 0 3

/-- SEC_NONCE (R536). -/
def execSecNonce (s : State) : Host.Outcome State Fault Refusal := .next (s.secCmd 3 State.secNonceDo)

/-- SEC_NONCE_EXPIRE (R514, R536): after 600 s. -/
def execSecNonceExpire (s : State) : Host.Outcome State Fault Refusal :=
  .next (if s.nonceOld s.sec.nonce then s.modSec (fun x => { x with nonce := none }) else s)

/-- The magic "OWNENRL1" (R536). -/
def enrolMagic : List Byte := [0x4F, 0x57, 0x4E, 0x45, 0x4E, 0x52, 0x4C, 0x31]

/-- The slot that an enrolment must name (R536): 0 with no owner, else the next. -/
def Sec.nextOwner (x : Sec) : Nat := match x.ownerSlot with | none => 0 | some n => n + 1

/-- The first check of an ENROL that fails (R536, in the order of R516), as its result. -/
def State.enrolCheck (s : State) (t : List Byte) : Option Nat :=
  let auth := sliceB t 160 32
  match s.sec.nonce with
  | none => some 5
  | some (n, _) =>
    if 3 < s.sec.nextOwner then some 2
    else if sliceB t 0 32 ≠ enrolMagic ++ natBytes 8 Config.serial.toNat ++ n || leAt t 32 1 ≠ s.sec.nextOwner
      || 3 < leAt t 33 1 || (sliceB t 34 30).any (· != 0) then some 6
    else if !(if s.sec.ownerSlot.isNone then isVendor auth else s.sec.isOwner auth) then some 7
    else if !Config.ed25519Verify (sliceB t 64 32) (t.take 96) (sliceB t 96 64)
      || !Config.ed25519Verify auth (t.take 160) (sliceB t 192 64) then some 8
    else none

/-- What an accepted enrolment does to the fuses (R536): bits are only set. -/
def Sec.enrol (x : Sec) (t : List Byte) : Sec :=
  let n := x.nextOwner
  let own := x.owner.set {} n { x.owner.get {} n with hash := Config.sha512 (sliceB t 64 32), enrolled := true }
  let own := match x.ownerSlot with | some p => own.set {} p { own.get {} p with revoked := true } | none => own
  let p := leAt t 33 1
  { x with owner := own, reqFw := x.reqFw || decide (p % 2 = 1), reqNv := x.reqNv || decide (2 ≤ p) }

/-- POLICY as two bits (R540). -/
def Sec.policy (x : Sec) : Nat := x.reqFw.toNat + 2 * x.reqNv.toNat

/-- ENROL (R536): the attempt uses up the nonce. -/
def State.enrolDo (s : State) : State :=
  let t := s.tokenBytes Reg.SEC_TOKEN 64
  let r := s.enrolCheck t
  let s := s.modSec (fun x => { x with nonce := none })
  match r with
  | some e => s.secDone e 4
  | none =>
    let n := s.sec.nextOwner
    let s := s.modSec (fun x => x.enrol t)
    (s.raise 0x1308 0 ([wd n, wd s.sec.policy] ++ (bytesWords (fingerprint (sliceB t 64 32))).take 2)).secDone 0 4

/-- SEC_ENROL (R536). -/
def execSecEnrol (s : State) : Host.Outcome State Fault Refusal := .next (s.secCmd 4 State.enrolDo)

/-! Attestation (R537). -/

/-- The bytes of a measurement, zeros when there is nothing to measure. -/
def measure (b : Option (List Byte)) : List Byte :=
  match b with | some x => hashBytes (Config.sha512 x) | none => List.replicate 64 0

/-- Bytes 0 to 319 of a quote (R537). -/
def State.quoteBody (s : State) : List Byte :=
  let x := s.sec
  let w60 := 0xB0 + x.ownerSlot.isSome.toNat * 2 ^ 8 + x.policy * 2 ^ 9 + s.power.unitB.toNat * 2 ^ 11 + x.factory.toNat * 2 ^ 12
    + s.power.recovery.toNat * 2 ^ 13
  let nv := match x.active with | some n => hashBytes (x.slot n).digest | none => List.replicate 64 0
  let svn := match x.running with | some b => fwSvn b | none => 0
  [0x54, 0x50, 0x4E, 0x51, 0x55, 0x4F, 0x54, 0x31] ++ natBytes 8 Config.serial.toNat ++ s.tokenBytes Reg.SEC_QNONCE 8
    ++ natBytes 8 s.now.toNat ++ wordBytes s.cask.boot ++ natBytes 4 w60
    ++ measure (x.running.map fwSigned) ++ nv ++ measure s.safe.block
    ++ natBytes 4 svn ++ natBytes 4 x.gen ++ wordBytes (s.rd Reg.SAFE_ACTIVE_GEN) ++ wordBytes s.cask.clearCnt ++ List.replicate 48 0

/-- QUOTE (R537): the quote is signed with the identity key and placed in SEC_QUOTE0 to 95. -/
def State.quoteDo (s : State) : State :=
  let b := s.quoteBody
  let ws := bytesWords (b ++ hashBytes (Config.identitySign b))
  let s := s.each (List.range 96) (fun s k => s.wr (Reg.SEC_QUOTE k) (nthW ws k))
  (s.raiseE 0x130A 0 [s.rd (Reg.SEC_QNONCE 0)]).secDone 0 5

/-- SEC_QUOTE (R537). -/
def execSecQuote (s : State) : Host.Outcome State Fault Refusal := .next (s.secCmd 5 State.quoteDo)

/-- A FW_STAGE broken off (R534, with the trailer steps of R528 and R530): the bank is unchanged, WRITING or VALID; how far it came
and the image read are open (log entry 83). -/
def State.stageAbort (s : State) : State :=
  match s.sec.staging with
  | none => s
  | some (n, len) =>
    let k := s.free.1.toNat % 3
    let r := s.free.2.freeBytes len
    let v : Slot := { image := r.1, marker := if k = 1 then markWriting else markValid, gen := (s.sec.fw (1 - n)).gen + 1, length := len,
                      digest := Config.sha512 r.1 }
    if k = 0 then s.free.2 else r.2.modSec (fun x => x.setFw n v)

/-- What a reset that includes PD1 does to what this chapter holds (R514, R530, R540). -/
def State.secReset (s : State) : State := (s.commitAbort false).stageAbort.modSec (fun x => { x with bank := none, staging := none, nonce := none })

end Sys2Proof.Machine
end

