-- ==== Sys2Proof/Machine/View.lean ====
section
/-!
DEFINITION. What the read-only fields of the TWIN, CYCLE, KILN, SBUS, CAN, ETH/PTP, LOOP, CASK, SEC/NVIMG, OP and GLOBAL regions
show of the state (R331, R363, R384, R414, R437, R455, R500, R519, R540, R552), and what a read of a register through either
function returns (R12, R13, R39, R40, R107, R551).
-/
namespace Sys2Proof.Machine

/-- The TWIN region (R332, R333). -/
def State.peekTwin (s : State) (off : Nat) : Option Word :=
  let t := s.twin
  if off = Reg.TWIN_STATUS then
    some (wd (s.power.unitB.toNat + t.role.code * 2 + t.partner.toNat * 8 + s.redundant.toNat * 16 + s.twinReady.toNat * 32
      + t.linkLost.toNat * 64 + t.swap.isSome.toNat * 128 + s.headsServed.length * 2 ^ 8 + s.headsHeld.length * 2 ^ 16
      + (if t.role == .active then 0 else t.phaseOfs) * 2 ^ 24))
  else if off = Reg.TWIN_EPOCH then some t.epoch
  else if off = Reg.TWIN_PARTNER_ADDR then some (wd t.partnerAddr)
  else if off = Reg.TWIN_DIV then some (lo32 t.div)
  else if off = Reg.TWIN_DIV + 4 then some (hi32 t.div)
  else if off = Reg.TWIN_FRAME_OFS then some t.frameOfs
  else none

/-- The code of the engine's state (R351). -/
def CycState.code : CycState → Nat
  | .stopped => 0 | .running => 1 | .halted => 2 | .standby => 3

/-- The CYCLE region (R363). -/
def State.peekCyc (s : State) (off : Nat) : Option Word :=
  let c := s.cyc
  let id := fun (p : Option Program) => match p with | some x => x.ident | none => 0
  if off = Reg.CYC_STATUS then
    some (wd (c.state.code + (match c.prog with | some p => p.compat.toNat | none => 0) * 4 + c.prog.isSome.toNat * 8
      + c.pend.isSome.toNat * 16 + c.change.isSome.toNat * 32 + s.forceActive.toNat * 64 + c.loading.toNat * 128
      + (if c.state == .halted then c.cause else 0) * 2 ^ 8))
  else if off = Reg.CYC_PRG_ID then some (lo32 (id c.prog))
  else if off = Reg.CYC_PRG_ID + 4 then some (hi32 (id c.prog))
  else if off = Reg.CYC_PEND_ID then some (lo32 (id c.pend))
  else if off = Reg.CYC_PEND_ID + 4 then some (hi32 (id c.pend))
  else if off = Reg.CYC_PERIOD then some (match c.prog with | some p => wd p.period | none => 0)
  else if off = Reg.CYC_FORCES then some (wd c.forces.length)
  else if off = Reg.CYC_TIMERS then some (match c.prog with | some p => wd p.timers | none => 0)
  else if Reg.CYC_CORE_CFG 0 ≤ off && off < Reg.CYC_CORE_CFG 4 then
    let t := match c.prog with | some p => p.task ((off - Reg.CYC_CORE_CFG 0) / 0x20) | none => {}
    match (off - Reg.CYC_CORE_CFG 0) % 0x20 with
    | 0 => some (wd (t.mult + t.ext.toNat * 128 + t.en.toNat * 256))
    | 4 => some (wd t.out)
    | _ => none
  else none

/-- The KILN region (R384). -/
def State.peekKiln (s : State) (off : Nat) : Option Word :=
  if off = Reg.KILN_STATUS then
    let n := (s.kiln.loop.filter (fun e => entryEn e.2.entry)).length
    some (wd (s.kilnRuns.toNat + (s.flag Reg.KILN_CTRL 0 && s.twin.role == .standby).toNat * 2 + s.kiln.tune.isSome.toNat * 4 + n * 2 ^ 16))
  else none

/-- A channel block of the SBUS region (R414). -/
def State.peekSb (s : State) (off : Nat) : Option Word :=
  if off < 0x18100 then none
  else
    let c := (off - 0x18100) / 0x100
    let b := s.sbOf c
    if off = Reg.SB_SLOT_DATA c then some (b.entry (s.fld (Reg.SB_SLOT_SEL c) 7 0))
    else if off = Reg.SB_CH_STATUS c then
      some (wd (b.state + b.limited.toNat * 4 + min b.measured 15 * 8 + b.closed.toNat * 2 ^ 8))
    else if off = Reg.SB_OFS c then some (wi b.ofs)
    else if off = Reg.SB_RATE c then some (wi b.rate)
    else if off = Reg.SB_EVT_TXCTL c then some (setBits (s.rd off &&& 0x3F) 9 9 b.evtPend.toNat)
    else none

/-- A controller's block of the CAN region (R437). -/
def State.peekCan (s : State) (off : Nat) : Option Word :=
  let n := (off - 0x19000) / 0x400
  let c := s.canOf n
  let head := fun (x : CanQ) (k : Nat) => match x.q with | [] => (0 : Word) | r :: _ => nthW r.words k
  let o := (off - 0x19000) % 0x400
  if o = 4 then
    some ((s.rd off &&& 0xFF00) ||| wd (c.state + c.passive.toNat * 4 + c.recover.isSome.toNat * 8 + c.cur.isSome.toNat * 16
      + c.rx.toNat * 32))
  else if o = 0x14 then some (wd (c.tec + c.rec_ * 2 ^ 16))
  else if o = 0x38 || o = 0x3C then
    let b := if o = 0x38 then 0 else 32
    some (wd (((List.range 32).map (fun k => (c.txb (b + k)).req.toNat * 2 ^ k)).sum))
  else if o = 0x48 then
    some (wd (c.q0.q.length + c.q0.shadow.isSome.toNat * 2 ^ 7 + c.q1.q.length * 2 ^ 8 + c.q1.shadow.isSome.toNat * 2 ^ 15
      + c.q0.locked.toNat * 2 ^ 16 + c.q1.locked.toNat * 2 ^ 17))
  else if 0x200 ≤ o && o < 0x250 then some (head c.q0 ((o - 0x200) / 4))
  else if 0x280 ≤ o && o < 0x2D0 then some (head c.q1 ((o - 0x280) / 4))
  else none

/-- The ETH/PTP region (R454, R455). -/
def State.peekEth (s : State) (off : Nat) : Option Word :=
  if off = Reg.PTP_STATUS then
    some (wd (s.eth.ptp + s.eth.servo.expired.toNat * 8 + (s.fld Reg.PTP_CFG 7 6 == 2).toNat * 16))
  else if 0x1A100 ≤ off && off < 0x1A200 then
    let q := s.eth.txts.get [] ((off - 0x1A100) / 0x80)
    match (off - 0x1A100) % 0x80 with
    | 0x10 => some (wd q.length)
    | 0x14 => some (match q with | [] => 0 | e :: _ => wd (e.1.toNat + 65536))
    | 0x18 => some (match q with | [] => 0 | e :: _ => lo32 e.2)
    | 0x1C => some (match q with | [] => 0 | e :: _ => hi32 e.2)
    | _ => none
  else none

/-- The HOLD code of a channel (R500). -/
def LoopRow.hold : LoopRow → Nat
  | .held => 1 | .preset => 2 | .backup => 3 | _ => 0

/-- The LOOP region (R499, R500). -/
def State.peekLoop (s : State) (off : Nat) : Option Word :=
  let mask := fun (p : Nat → Bool) => ((List.range 8).map (fun n => (p n).toNat * 2 ^ n)).sum
  if off = Reg.LOOP_STATUS then some (wd (mask s.loopValid + mask (fun n => (s.loopOf n).low) * 2 ^ 8))
  else if off < 0x1C100 then none
  else
    let n := (off - 0x1C100) / 0x20
    let l := s.loopOf n
    match (off - 0x1C100) % 0x20 with
    | 0x10 => some ((s.rd off &&& 0x300) ||| wd ((s.loopValid n).toNat + l.low.toNat * 2 + l.drive.isSome.toNat * 4 + l.pgate.toNat * 8
        + (s.loopRow n).hold * 16))
    | 0x14 => some (wd (l.current % 65536 + l.headroom * 65536))
    | 0x18 => some (wd (s.loopTarget n l.sp % 65536 + l.sp * 65536))
    | _ => none

/-- The CASK region (R519, R520). -/
def State.peekCask (s : State) (off : Nat) : Option Word :=
  let c := s.cask
  if off = Reg.CASK_STATUS then
    some (wd (c.staging.length + c.flushing.toNat * 2 ^ 11 + c.clearing.toNat * 2 ^ 12 + c.nonce.isSome.toNat * 2 ^ 13
      + (decide (8192 ≤ c.wIdx)).toNat * 2 ^ 14))
  else if off = Reg.CASK_FREEZE then some (setBits (s.rd off) 1 1 c.freeze.isSome.toNat)
  else if off = Reg.CASK_FIRST_CNT then some (wd c.firstCount)
  else if off = Reg.CASK_CIRC_CNT then some (wd c.circCount)
  else if off = Reg.CASK_SEQ then some (wd c.seq)
  else if off = Reg.CASK_SEQ + 4 then some (wd (c.seq / 2 ^ 32))
  else if off = Reg.CASK_CLEAR_CNT then some c.clearCnt
  else if off = Reg.CASK_BOOT then some c.boot
  else if Reg.CASK_NONCE 0 ≤ off && off < Reg.CASK_NONCE 4 then
    some (match c.nonce with | some (b, _) => wordAt b ((off - Reg.CASK_NONCE 0) / 4) | none => 0)
  else none

/-- TAG of the image in force (R521). -/
def Sec.tag (x : Sec) (k : Nat) : Word := match x.active with | some n => wordAt (x.slot n).image (4 + k) | none => 0

/-- The SEC/NVIMG region (R540). -/
def State.peekSec (s : State) (off : Nat) : Option Word :=
  let x := s.sec
  if off = Reg.SEC_STATUS then some (wd (x.staging.isSome.toNat + s.power.recovery.toNat * 2 + x.nonce.isSome.toNat * 4))
  else if off = Reg.SEC_FUSE then
    some (wd ((match x.ownerSlot with | some n => n | none => 0) + x.ownerSlot.isSome.toNat * 4 + x.policy * 8 + x.svnMin * 2 ^ 8))
  else if off = Reg.NV_ACTIVE then
    some (wd ((match x.active with | some n => n | none => 0) + x.factory.toNat * 2 + x.fallback.toNat * 4 + x.intentFound.toNat * 8))
  else if off = Reg.NV_GEN then some (wd x.gen)
  else if off = Reg.NV_SLOT_A then some (wd (x.slotCode 0))
  else if off = Reg.NV_SLOT_B then some (wd (x.slotCode 1))
  else if off = Reg.NV_TAG then some (x.tag 0)
  else if off = Reg.NV_TAG + 4 then some (x.tag 1)
  else if off = Reg.FW_BANK then
    some (match x.bank, x.running with | some n, some b => wd (n + fwSvn b * 2 ^ 8) | _, _ => 0)
  else if off = Reg.FW_VERSION then some (match x.running with | some b => fwVersion b | none => 0)
  else if off = Reg.SEC_SERIAL then some (lo32 Config.serial)
  else if off = Reg.SEC_SERIAL + 4 then some (hi32 Config.serial)
  else if off = Reg.SEC_CLRKEY_DATA then
    some (match x.clearKey (s.fld Reg.SEC_CLRKEY_SEL 2 0) with | some ws => nthW ws (s.fld Reg.SEC_CLRKEY_SEL 5 4) | none => 0)
  else if off = Reg.SEC_CERT_LEN then some (wd Config.certLen.val)
  else if off = Reg.SEC_CERT_DATA then some (Config.certWord (s.fld Reg.SEC_CERT_SEL 7 0))
  else if Reg.SEC_ID_PUB 0 ≤ off && off < Reg.SEC_ID_PUB 8 then
    some (wd (Config.identityPub.toNat >>> (8 * (off - Reg.SEC_ID_PUB 0))))
  else if Reg.SEC_NONCE 0 ≤ off && off < Reg.SEC_NONCE 4 then
    some (match x.nonce with | some (b, _) => wordAt b ((off - Reg.SEC_NONCE 0) / 4) | none => 0)
  else none

/-- The OP region (R118, R119). How far a running operation is, is a measurement that the model does not make: free (log entry 87). -/
def State.peekOp (s : State) (off : Nat) : Option Word :=
  if off = Reg.OP_STATUS then
    some (if s.host.op.isSome then setBits (setBits (s.rd off) 0 0 1) 31 24 (Config.freeValue s.count.toNat).toNat else setBits (s.rd off) 0 0 0)
  else none

/-- The GLOBAL region (R552, R553). -/
def State.peekGlobal (s : State) (off : Nat) : Option Word :=
  let p := s.power
  if off = Reg.GLOBAL_ID then some (if Config.variantAI then 0x02B06463 else 0x01B06463)
  else if off = Reg.GLOBAL_STATUS then
    some (wd (p.phase + p.ready.toNat * 8 + p.recovery.toNat * 16 + p.unitB.toNat * 32 + p.pfail.toNat * 64
      + (p.s4Done && s.safe.state == .lockout && s.domOn 2).toNat * 128))
  else if off = Reg.GLOBAL_PD_CTRL then some (wd (((p.on &&& ~~~p.goingOff) ||| p.goingOn).toNat ||| 7))
  else if off = Reg.GLOBAL_PD_STATUS then some (wd (p.on.toNat + (p.goingOn ||| p.goingOff).toNat * 2 ^ 8))
  else none

/-- LATE and DUE of the entry at SCHED_INDEX (R76). -/
def State.schedEstat (s : State) : Word :=
  let e := s.fld Reg.SCHED_INDEX 10 0
  let x := s.schedOf e
  wd (x.firings.toNat + (s.schedDue x).toNat * 2 ^ 30 + x.late.toNat * 2 ^ 31)

/-- What an offset shows beside its stored word, by region. -/
def State.peek (s : State) (off : Nat) : Option Word :=
  match regionOf off with
  | .global => s.peekGlobal off
  | .twin => s.peekTwin off
  | .cycle => s.peekCyc off
  | .kiln => s.peekKiln off
  | .sbus => s.peekSb off
  | .can => s.peekCan off
  | .eth => s.peekEth off
  | .loop => s.peekLoop off
  | .cask => s.peekCask off
  | .sec => s.peekSec off
  | .op => s.peekOp off
  | .safe => none
  | .timePos => if off = Reg.SCHED_ESTAT then some s.schedEstat else s.peekDot off
  | _ => s.peekDot off

/-- The bits that read 0: write-only bits (R13). -/
def woBits (off : Nat) : Word := match regAt off with | some (d, _, _) => d.wo | none => 0

/-- What an offset holds, without the side effects of a read: 0 while its domain is off (R40), reserved offsets read 0 (R15). -/
def State.see (s : State) (off : Nat) : Word :=
  if (regAt off).isNone || !s.regOn off then 0 else ((s.peek off).getD (s.rd off)) &&& ~~~(woBits off)

/-- Both words of a 64-bit register. -/
def State.see64 (s : State) (off : Nat) : DWord := dw (s.see off) (s.see (off + 4))

/-- The row of an offset is a 64-bit register, and whether the offset is its high word. -/
def pairAt (off : Nat) : Option Bool :=
  match regAt off with
  | some (d, _, k) => if d.pair then some (k % 2 == 1) else none
  | none => none

/-- Word `k` of the MSI-X table of a function (R83). -/
def State.msixWord (s : State) (pf1 : Bool) (k : Nat) : Word :=
  if pf1 then s.host.msix1.get (msixReset k) k else s.host.msix0.get (msixReset k) k

/-- What a read of BAR2 returns (R83, R107): the MSI-X table at 0x8000 and the Pending Bit Array at 0x9000, a long operation or none;
doorbells and other offsets read 0. -/
def State.bar2Read (s : State) (pf1 : Bool) (off : Nat) : Word :=
  if 0x8000 ≤ off && off < 0x8400 then s.msixWord pf1 ((off - 0x8000) / 4)
  else
    let p := if pf1 then s.host.pba1 else s.host.pba0
    if off = 0x9000 then lo32 p else if off = 0x9004 then hi32 p else 0

/-- A PF0 read reaches the registers: no long operation runs (R107). -/
def State.pf0Reads (s : State) (off : Nat) : Bool := s.readable && (s.host.op.isNone || off == Reg.OP_STATUS)

/-- What a read of BAR0 returns (R12, R39, R40, R107): the high word of a 64-bit register comes from its read latch. An offset of 0x20000
and above is one of BAR2 (log entry 99). -/
def State.read (s : State) (pf1 : Bool) (off : Nat) : Word :=
  if !s.readable then 0
  else if 0x20000 ≤ off then (if s.power.recovery then 0 else s.bar2Read pf1 (off - 0x20000))
  else if (pf1 && !mirrored off) || s.mute off then 0
  else if !pf1 && !s.pf0Reads off then 0xB5B5B5B5
  else if pairAt off == some true then
    match s.latch.get none (2 * (off - 4) + pf1.toNat) with
    | some v => hi32 v
    | none => s.see off
  else s.see off

end Sys2Proof.Machine
end

