-- ==== Sys2Proof/Machine/RegField.lean ====
section
/-!
DEFINITION. What a write that reaches a register does, region by region: access codes (R13), reserved bits and encodings (R15,
R16), locks and the effects that the chapters give their registers. GLOBAL and OP follow in `Power` and `RegAccess`.
-/
namespace Sys2Proof.Machine

/-- The outcome of a register write. -/
abbrev Out := Host.Outcome State Fault Refusal

/-- Go on with a further effect unless the first stopped. -/
def andThen (o : Out) (f : State → Out) : Out := match o with | .next s => f s | .fault e => .fault e | .refused r => .refused r

/-- Write the RW bits of a register as given. -/
def State.plain (s : State) (off : Nat) (v : Word) : State :=
  match regAt off with
  | some (d, _, k) => s.wr off ((s.rd off &&& ~~~(d.rwOf k)) ||| (v &&& d.rwOf k))
  | none => s

/-- Write one field when its encoding is not reserved (R16). -/
def State.fldW (s : State) (off hi lo : Nat) (v : Word) (ok : Nat → Bool) : State :=
  if ok (bits v hi lo) then s.setF off hi lo (bits v hi lo) else s

/-- Write all RW bits when the encoding is not reserved. -/
def State.plainIf (s : State) (off : Nat) (v : Word) (ok : Bool) : State := if ok then s.plain off v else s

/-- Clear the W1C bits of a register that are written 1 (R13). -/
def State.w1c (s : State) (off : Nat) (v : Word) : State :=
  match regAt off with
  | some (d, _, _) => s.wr off (s.rd off &&& ~~~(v &&& d.w1c))
  | none => s

/-- Change a field that no reserved encoding bounds. -/
def State.fldA (s : State) (off hi lo : Nat) (v : Word) : State := s.setF off hi lo (bits v hi lo)

/-- A register has bits that software writes and keeps. -/
def settable (off : Nat) : Bool := match regAt off with | some (d, _, k) => d.rwOf k != 0 | none => false

/-- A write while a lock holds is ignored and sets CFG_LOCKED, bit `b` of `faults`. -/
def State.unless (s : State) (locked : Bool) (faults b : Nat) (f : State → State) : State := if locked then s.setF faults b b 1 else f s

/-- A write of a register that a lock covers, if it has bits to write. -/
def State.unlessSet (s : State) (off : Nat) (locked : Bool) (faults b : Nat) (f : State → State) : State :=
  if settable off then s.unless locked faults b f else s

/-- A number within a closed range. -/
def inR (lo hi x : Nat) : Bool := decide (lo ≤ x) && decide (x ≤ hi)

/-! HOST (R87, R88, R117, R120). -/

/-- Context `n` is IDLE. -/
def State.ctxIdle (s : State) (n : Nat) : Bool := (s.ctxOf n).state == .idle

/-- SIZE of a ring is 6 to 16. -/
def sizeOk (x : Nat) : Bool := inR 6 16 x

/-- HOST_MGMT_CTRL (R88). -/
def State.mgmtCtrl (s : State) (v : Word) : State :=
  let off := Reg.HOST_MGMT_CTRL
  let was := s.rd off
  let en := bit was 0
  let s := if en && bits v 5 1 != bits was 5 1 then s.setF Reg.HOST_ERR 8 8 1 else s
  let s := if en then s else s.fldW off 5 1 v sizeOk
  let s := (s.setF off 0 0 (bits v 0 0)).setF off 13 8 (bits v 13 8)
  if en || !bit v 0 then s
  else
    let s := { s with host := { s.host with mgmtPi := 0, mgmtCi := 0 } }
    if s.ringBad then s.hostError 114 else s

/-- HOST_EVT_CTRL (R88, R105). -/
def State.evtCtrl (s : State) (v : Word) : State :=
  let off := Reg.HOST_EVT_CTRL
  let was := s.rd off
  let en := bit was 0
  let s := if en && bits v 5 1 != bits was 5 1 then s.setF Reg.HOST_ERR 8 8 1 else s
  let s := if en then s else s.fldW off 5 1 v sizeOk
  let s := ((s.setF off 0 0 (bits v 0 0)).setF off 13 8 (bits v 13 8)).setF off 31 16 (bits v 31 16)
  if en || !bit v 0 then s
  else
    let s := { s with host := { s.host with evt := { s.host.evt with pi := 0, ci := 0, phase := true, posted := 0, first := none } } }
    s.ringOpens ((s.rd64 Reg.HOST_EVT_BASE).toNat, 64 * 2 ^ s.evtSize) State.evtRecover

/-- The rings of context `n` are enabled (R88): their indices are 0 and the phase is 1. The count of completions that were discarded and not
yet reported stays (R99; log entry 134), and is reported. -/
def State.ringStart (s : State) (n : Nat) : State :=
  let s := s.setRing n { lost := (s.ringOf n).lost }
  s.ringOpens ((s.rd64 (Reg.HOST_CQ_BASE n)).toNat, 64 * 2 ^ s.fld (Reg.HOST_RING_CTRL n) 10 6) (fun s => s.cqDrain n 1)

/-- HOST_RING_CTRL of context `n` (R88, R120). -/
def State.ringCtrl (s : State) (n : Nat) (v : Word) : State :=
  let off := Reg.HOST_RING_CTRL n
  let was := s.rd off
  let en := bit was 0
  let sizes := bits v 10 1 != bits was 10 1
  if !s.ctxIdle n then
    let s := s.setF (Reg.CTX_FAULTS n) 0 0 1
    if en && (sizes || !bit v 0) then s.setF Reg.HOST_ERR 8 8 1 else s
  else
    let s := if en && sizes then s.setF Reg.HOST_ERR 8 8 1 else s
    let s := if en then s else (s.fldW off 5 1 v sizeOk).fldW off 10 6 v sizeOk
    let s := (s.fldA off 24 11 v).fldA off 0 0 v
    if !en && bit v 0 then s.ringStart n else s

/-- Writes of the HOST region. -/
def State.putHost (s : State) (off : Nat) (v : Word) : State :=
  if off < 0x2000 then
    if off = Reg.HOST_RD_CTRL then ((s.fldW off 9 0 v (inR 1 768)).setF off 10 10 (bits v 10 10)).pumpReads
    else if off = Reg.HOST_ERR then s.w1c off v
    else if off = Reg.HOST_MGMT_CTRL then s.mgmtCtrl v
    else if off = Reg.HOST_EVT_CTRL then s.evtCtrl v
    else s.plain off v
  else
    let n := (off - 0x2000) / 0x40
    if off = Reg.HOST_RING_CTRL n then s.ringCtrl n v
    else s.unlessSet off (!s.ctxIdle n) (Reg.CTX_FAULTS n) 0 (fun s => s.plain off v)

/-! CTX, TIME/POS and BUF. -/

/-- MARK_SRC of CTX_CFG (R153). -/
def markOk (x : Nat) : Bool := decide (x ≤ 8) || decide (16 ≤ x)

/-- Writes of the CTX region (R120, R152, R153). -/
def State.putCtx (s : State) (off : Nat) (v : Word) : State :=
  let n := (off - 0x4000) / 0x100
  if off = Reg.CTX_FAULTS n then s.w1c off v
  else s.unlessSet off (!s.ctxIdle n) (Reg.CTX_FAULTS n) 0 (fun s =>
    if off = Reg.CTX_CFG n then (((s.setF off 1 0 (bits v 1 0)).setF off 4 4 (bits v 4 4)).setF off 13 8 (bits v 13 8)).fldW off 20 16 v markOk
    else s.plain off v)

/-- SRC of CAP_CTRL (R80). -/
def capSrcOk (x : Nat) : Bool := decide (x ≤ 9) || decide (16 ≤ x)

/-- Clear LATE of the entry at SCHED_INDEX (R76). -/
def State.estatClear (s : State) (v : Word) : State :=
  if !bit v 31 then s else let e := s.fld Reg.SCHED_INDEX 10 0; s.setSched e { s.schedOf e with late := false }

/-- Writes of a PREF block (R44, R76, R78). -/
def State.putPref (s : State) (n off : Nat) (v : Word) : State :=
  if off = Reg.PREF_CTRL n then s.prefCtrlWrite n v
  else if off = Reg.PREF_N n || off = Reg.PREF_M n then s.unless (s.flag (Reg.PREF_CTRL n) 0) (Reg.PREF_FAULTS n) 2 (fun s => s.plain off v)
  else if off = Reg.PREF_STOP_NS n then s.plainIf off v (inR 1000 1000000000 v.toNat)
  else if off = Reg.PREF_FAULTS n then s.w1c off v
  else s.plain off v

/-- Writes of the TIME/POS region (R76 to R80). -/
def State.putPos (s : State) (off : Nat) (v : Word) : Out :=
  if off = Reg.TB_ARM then execTbArmWrite v s
  else if off = Reg.TB_SLEW then .next (s.fldW off 8 0 v (inR 1 500))
  else if off = Reg.TB_STATUS then .next (s.w1c off v)
  else if 0x8100 ≤ off && off < 0x8200 then .next (s.putPref ((off - 0x8100) / 0x40) off v)
  else if 0x8200 ≤ off && off < 0x8300 && off % 0x20 = 0 then
    let e := (off - 0x8200) / 0x20
    let s := s.plain off v
    .next (if bit v 5 then s else s.setEnc e { s.encOf e with zref := none })
  else if 0x8400 ≤ off && off < 0x8800 then
    match (off - 0x8400) % 0x20 with
    | 0 => .next ((((s.setF off 0 0 (bits v 0 0)).fldW off 5 1 v capSrcOk).fldW off 7 6 v (· != 3)).setF off 9 8 (bits v 9 8))
    | 4 => .next (s.w1c off v)
    | _ => .next (s.plain off v)
  else if off = Reg.SCHED_CMD then .next (s.schedCmd (bits v 1 0))
  else if off = Reg.SCHED_ESTAT then .next (s.estatClear v)
  else if off = Reg.PI_CTRL then .next (s.piCtrlWrite v)
  else .next (s.plain off v)

/-- An allocation register (R137, R154). -/
def State.allocW (s : State) (off : Nat) (v : Word) : State := (s.setF off 13 0 (bits v 13 0)).fldW off 30 16 v (fun x => decide (x ≤ 16384))

/-- Writes of the BUF region (R120, R137, R154). A table region that moves holds no table (log entry 34). -/
def State.putBuf (s : State) (off : Nat) (v : Word) : State :=
  if off = Reg.BUF_FAULTS then s.w1c off v
  else if off < 0x9100 then s.plain off v
  else if off < 0x9300 then
    let n := (off - 0x9100) / 8
    (if s.ctxIdle n then s else s.setF (Reg.CTX_FAULTS n) 0 0 1).unless (!s.ctxIdle n) Reg.BUF_FAULTS 0 (fun s =>
      let t := s.allocW off v
      if off % 8 = 0 && t.rd off != s.rd off then { t with buf := { t.buf with dirs := t.buf.dirs.set [] n [] } } else t)
  else s.unless (s.chLocked ((off - 0x9300) / 4)) Reg.BUF_FAULTS 0 (fun s => s.allocW off v)

/-! MASH, NOZ and HLINK. -/

/-- X0 of a channel lies within −8,192 to 16,777,215 (R202). -/
def x0Ok (v : Word) : Bool := decide (-8192 ≤ v.toInt) && decide (v.toInt ≤ 16777215)

/-- Writes of the MASH region (R201 to R204). -/
def State.putMash (s : State) (off : Nat) (v : Word) : State :=
  if off < 0xA400 then s.w1c off v
  else
    let ch := (off - 0xA400) / 0x20
    s.unlessSet off (s.chLocked ch) Reg.MASH_FAULTS 0 (fun s =>
      if off = Reg.MASH_CH_CFG ch then (s.setF off 3 0 (bits v 3 0)).fldW off 29 16 v (fun x => decide (x ≤ 8192))
      else if off = Reg.MASH_CH_X0 ch then s.plainIf off v (x0Ok v)
      else if off = Reg.MASH_CH_SN ch then s.fldW off 13 0 v (fun x => decide (x ≤ 8192))
      else s.plain off v)

/-- Writes of the NOZ region (R225 to R227). -/
def State.putNoz (s : State) (off : Nat) (v : Word) : Out :=
  if off < 0xC400 then .next (s.w1c off v)
  else
    let ch := (off - 0xC400) / 0x40
    if off = Reg.NOZ_CH_SWCTL ch then (if bit v 0 then execNozSwitchRequest ch v s else execNozSwitchCancel ch v s)
    else if off = Reg.NOZ_CH_SWLINE ch then .next (s.plain off v)
    else if off = Reg.NOZ_CH_STATUS ch then .next (s.w1c off v)
    else .next (s.unlessSet off (s.chLocked ch) Reg.NOZ_FAULTS 0 (fun s =>
      if off = Reg.NOZ_CH_CFG ch then s.fldW off 4 0 v (inR 1 16) else s.plain off v))

/-- Writes of the HLINK region (R244, R271 to R273). -/
def State.putHl (s : State) (off : Nat) (v : Word) : Out :=
  let ch := (off - 0x10000) / 0x100
  if off = Reg.HL_CTRL ch then .next (s.hlCtrlWrite ch v)
  else if off = Reg.HL_TRAIN ch then
    andThen (if bit v 0 then execHlTrainGo ch s else .next s) (fun s => if bit v 1 then execHlTrainCancel ch s else .next s)
  else if off = Reg.HL_ERR ch then .next (s.w1c off v)
  else if off = Reg.HL_WDATA ch then execHlWdataWrite ch v s
  else if off = Reg.HL_WCTL ch then .next (s.wctlWrite ch v)
  else if off = Reg.HL_WADDR ch || off = Reg.HL_WSWLINE ch then
    .next (s.unless (s.flag (Reg.HL_WCTL ch) 0) (Reg.HL_ERR ch) 8 (fun s => s.plain off v))
  else .next (s.plain off v)

/-! FABRIC and TWIN. -/

/-- A port whose EN is cleared leaves the fabric (R276, R299). -/
def State.portCtrl (s : State) (v : Word) : State :=
  let was := s.rd Reg.FAB_PORT_CTRL
  let s := s.plain Reg.FAB_PORT_CTRL v
  s.each ((List.range 8).filter (fun k => bit was k && !bit v k)) State.portLost

/-- Writes of the FABRIC region (R299, R300). -/
def State.putFab (s : State) (off : Nat) (v : Word) : State :=
  if off = Reg.FAB_CFG then ((s.setF off 1 0 (bits v 1 0)).fldW off 15 8 v (· != 255)).fldW off 23 16 v (· != 0)
  else if off = Reg.FAB_PORT_CTRL then s.portCtrl v
  else if off = Reg.FAB_SNAP_CMD then s.snapCmdWrite v
  else if off = Reg.FAB_SNAP_STATUS || off = Reg.FAB_ZRX_STATUS || off = Reg.FAB_FAULTS then s.w1c off v
  else if 0x14100 ≤ off then s.unless (s.chLocked ((off - 0x14100) % 0x100 / 4)) Reg.FAB_FAULTS 0 (fun s => s.plain off v)
  else s.plain off v

/-- Writes of the TWIN region (R332). -/
def State.putTwin (s : State) (off : Nat) (v : Word) : State :=
  if off = Reg.TWIN_CFG then s.twinCfgWrite v
  else if off = Reg.TWIN_SWAP_CMD then s.swapCmd (bit v 0) (bit v 1)
  else if off = Reg.TWIN_FAULTS then s.w1c off v
  else s.plain off v

/-! CYCLE and KILN. -/

/-- CYC_CFG and CYC_PHASE (R363): a phase of P or above is reserved. -/
def State.cycSet (s : State) (off : Nat) (v : Word) : State :=
  s.unless (s.cyc.state != .stopped && s.cyc.state != .halted) Reg.CYC_FAULTS 0 (fun s =>
    if off = Reg.CYC_CFG then (s.setF off 1 0 (bits v 1 0)).fldW off 11 8 v (inR 2 15)
    else match s.cyc.prog with
      | some p => s.fldW off 23 0 v (fun x => decide (x * 1000 < p.ns))
      | none => s.setF off 23 0 (bits v 23 0))

/-- A write of CYC_CMD (R363). -/
def State.cycCmdWrite (s : State) (code : Nat) : Out :=
  match code with
  | 1 => execCycLoad s | 2 => execCycStartCold s | 3 => execCycStartWarm s | 4 => execCycStop s | 5 => execCycChange s
  | 6 => execCycDiscard s | _ => .next s

/-- Writes of the CYCLE region (R363). -/
def State.putCyc (s : State) (off : Nat) (v : Word) : Out :=
  if off = Reg.CYC_CFG || off = Reg.CYC_PHASE then .next (s.cycSet off v)
  else if off = Reg.CYC_CMD then s.cycCmdWrite (bits v 2 0)
  else if off = Reg.CYC_FAULTS then .next (s.w1c off v)
  else .next (s.plain off v)

/-- A write of KILN_CMD (R384). -/
def State.kilnCmdWrite (s : State) (code : Nat) : Out :=
  match code with
  | 1 => execKilnCmdWrite s | 2 => execKilnCmdRead s | 3 => execKilnManual s | 4 => execKilnAuto s | 5 => execKilnOff s
  | 6 => execKilnTuneStart s | 7 => execKilnTuneCancel s | _ => .next s

/-- KILN_CTRL (R368, R379). -/
def State.kilnCtrl (s : State) (v : Word) : Out :=
  if bit v 0 then execKilnEnable s
  else .next (if s.flag Reg.KILN_CTRL 0 then (s.kilnStop 3).setF Reg.KILN_CTRL 0 0 0 else s)

/-- A group's settings (R384). -/
def State.kilnGrpSet (s : State) (off : Nat) (v : Word) : State :=
  let g := (off - 0x17100) / 0x10
  s.unless (s.flag Reg.KILN_CTRL 0) Reg.KILN_FAULTS 0 (fun s =>
    if off = Reg.KILN_GRP_CFG g then (s.fldW off 15 0 v (2 ≤ ·)).setF off 17 16 (bits v 17 16)
    else s.fldW off 23 0 v (fun x => x % 50 == 0 && decide (x < s.fld (Reg.KILN_GRP_CFG g) 15 0 * 50)))

/-- The settings of a tune (R384). -/
def State.kilnTuneSet (s : State) (off : Nat) (v : Word) : State :=
  s.unless s.kiln.tune.isSome Reg.KILN_FAULTS 0 (fun s =>
    if off = Reg.KILN_TUNE_CFG then 
      (((s.fldA off 8 0 v).fldW off 12 9 v (4 ≤ ·)).fldW off 15 13 v (· != 6)).fldA off 16 16 v
    else if off = Reg.KILN_TUNE_LIMIT then s.fldW off 15 0 v (1 ≤ ·)
    else s.plain off v)

/-- Writes of the KILN region (R384). -/
def State.putKiln (s : State) (off : Nat) (v : Word) : Out :=
  if off = Reg.KILN_CTRL then s.kilnCtrl v
  else if off = Reg.KILN_CMD then s.kilnCmdWrite (bits v 2 0)
  else if off = Reg.KILN_FAULTS then .next (s.w1c off v)
  else if off < 0x17100 then .next (s.plain off v)
  else if off < 0x17200 then .next (s.kilnGrpSet off v)
  else .next (s.kilnTuneSet off v)

/-! SBUS, CAN and ETH/PTP. -/

/-- A slot-table entry (R16, R413). -/
def State.sbSlotPut (s : State) (c slot : Nat) (v : Word) : State :=
  let w := v &&& 0x3F1F
  let w := if inR 9 14 (bits w 3 0) then setBits w 3 0 (bits ((s.sbOf c).entry slot) 3 0) else w
  s.unless (s.flag (Reg.SB_CH_CFG c) 0) Reg.SB_FAULTS 0 (fun s => s.modSb c (fun b => { b with slot := b.slot.set 0xF slot w }))

/-- Writes of the SBUS region (R414, R415). -/
def State.putSb (s : State) (off : Nat) (v : Word) : Out :=
  if off < 0x18100 then .next (s.w1c off v)
  else
    let c := (off - 0x18100) / 0x100
    let en := s.flag (Reg.SB_CH_CFG c) 0
    if off = Reg.SB_CH_CFG c then .next (s.sbCfg c v)
    else if off = Reg.SB_SLOT_DATA c then .next (s.sbSlotPut c (s.fld (Reg.SB_SLOT_SEL c) 7 0) v)
    else if off = Reg.SB_STAR_CMD c then execSbStarReopen c v s
    else if off = Reg.SB_EVT_TXCTL c then .next (s.sbEvtCtl c v)
    else if off = Reg.SB_DYN c then
      .next (s.unless en Reg.SB_FAULTS 0 (fun s => (s.setF off 9 0 (bits v 9 0)).fldW off 25 16 v (1 ≤ ·)))
    else if off = Reg.SB_CYCLE c || off = Reg.SB_TIMING c || off = Reg.SB_SYNC c || off = Reg.SB_DELAY c then
      .next (s.unless en Reg.SB_FAULTS 0 (fun s => s.plain off v))
    else .next (s.plain off v)

/-- A write of CAN_TXB_CMD with GO (R422, R436). -/
def State.canTxbCmd (s : State) (n : Nat) (v : Word) : Out :=
  if !bit v 15 then .next s
  else match bits v 9 8 with
    | 0 => execCanTxbWrite n (bits v 5 0) s
    | 1 => execCanTxbRead n (bits v 5 0) s
    | 2 => execCanTxbRequest n (bits v 5 0) s
    | _ => execCanTxbCancel n (bits v 5 0) s

/-- The bit timing of a controller (R16, R436): fields outside their ranges keep their values. -/
def State.canTimingPut (s : State) (n off : Nat) (v : Word) : State :=
  if off = Reg.CAN_NBT n then
    (((s.fldW off 8 0 v (inR 1 256)).fldW off 15 9 v (1 ≤ ·)).fldW off 23 16 v (2 ≤ ·)).fldW off 30 24 v (1 ≤ ·)
  else if off = Reg.CAN_DBT n then
    (((s.fldW off 5 0 v (inR 1 32)).fldW off 12 8 v (inR 1 16)).fldW off 21 16 v (inR 1 32)).fldW off 28 24 v (inR 1 16)
  else s.plain off v

/-- Writes of the CAN region (R436). -/
def State.putCan (s : State) (off : Nat) (v : Word) : Out :=
  let n := (off - 0x19000) / 0x400
  if off = Reg.CAN_CTRL n then .next (s.canCtrl n v)
  else if off = Reg.CAN_NBT n || off = Reg.CAN_DBT n || off = Reg.CAN_TDC n then
    .next (s.unless ((s.canOf n).state != 0) (Reg.CAN_FAULTS n) 0 (fun s => s.canTimingPut n off v))
  else if off = Reg.CAN_FAULTS n || off = Reg.CAN_TX_DONE n || off = Reg.CAN_TX_DONE n + 4 then .next (s.w1c off v)
  else if off = Reg.CAN_TXB_CMD n then s.canTxbCmd n v
  else if off = Reg.CAN_RXQ0_POP n then (if bit v 0 then execCanRxqPop n 0 s else .next s)
  else if off = Reg.CAN_RXQ1_POP n then (if bit v 0 then execCanRxqPop n 1 s else .next s)
  else if off = Reg.CAN_FLT_CMD n then
    (match bits v 1 0 with | 1 => execCanFltWrite n s | 2 => execCanFltRead n s | _ => .next s)
  else .next (s.plain off v)

/-- Writes of the ETH/PTP region (R454, R455). -/
def State.putEth (s : State) (off : Nat) (v : Word) : State :=
  if off = Reg.PTP_CFG then s.ptpCfgWrite v
  else if off = Reg.PTP_SLEW_PPM then s.fldW off 15 0 v (inR 1 50000)
  else if off = Reg.PPS_CTRL then (s.plain off v).ppsSync
  else if off = Reg.PPS_WIDTH then s.plainIf off v (inR 100 999999900 v.toNat)
  else if off = Reg.PPS_PHASE then (if v.toNat < 1000000000 then (s.plain off v).ppsSync else s)
  else if off = Reg.PTP_FAULTS then s.w1c off v
  else if off < 0x1A100 then s.plain off v
  else
    let m := (off - 0x1A100) / 0x80
    if off = Reg.ETH_CTRL m then s.ethCtrlWrite m v
    else if off = Reg.ETH_TXTS_POP m then (if bit v 0 then s.txtsPop m else s)
    else s.plain off v

/-! SAFE, LOOP, CASK and SEC/NVIMG. -/

/-- Writes of the SAFE region (R486): the mailbox, while the island has power. -/
def State.putSafe (s : State) (off : Nat) (v : Word) : State :=
  if !s.domOn 2 then s
  else if off = Reg.SAFE_MBX_CMD then s.mbxCmd (bits v 3 0)
  else s.plain off v

/-- LOOP_CH_CFG (R497, R499). -/
def State.loopCfg (s : State) (n : Nat) (v : Word) : State :=
  let off := Reg.LOOP_CH_CFG n
  let was := s.rd off
  let s :=
    if bit was 0 then (if bits v 3 1 != bits was 3 1 then s.setF Reg.LOOP_FAULTS 0 0 1 else s).setF off 0 0 (bits v 0 0)
    else s.setF off 3 0 (bits v 3 0)
  if bit v 0 == bit was 0 then s else s.loopEnWrite n

/-- LOOP_CH_TRIM (R495): ZERO within ±1,000 and SPAN within −2,048 to 2,047. -/
def State.loopTrimW (s : State) (n : Nat) (v : Word) : State :=
  let off := Reg.LOOP_CH_TRIM n
  ((s.fldW off 15 0 v (fun x => decide ((sx 16 x).natAbs ≤ 1000))).fldW off 31 16 v
    (fun x => decide (-2048 ≤ sx 16 x) && decide (sx 16 x ≤ 2047))).loopUpdate n

/-- Writes of the LOOP region (R499). -/
def State.putLoop (s : State) (off : Nat) (v : Word) : State :=
  if off = Reg.LOOP_FAULTS then s.w1c off v
  else if off < 0x1C100 then s.plain off v
  else
    let n := (off - 0x1C100) / 0x20
    match (off - 0x1C100) % 0x20 with
    | 0x00 => s.loopCfg n v
    | 0x04 => s.loopTrimW n v
    | 0x08 => (s.fldW off 15 0 v (inR 8000 40000)).loopUpdate n
    | 0x10 => s.w1c off v
    | _ => s.plain off v

/-- A write of CASK_CMD (R519). -/
def State.caskCmdWrite (s : State) (code : Nat) : Out :=
  match code with
  | 1 => execCaskCmdFlush s | 2 => execCaskCmdNonce s | 3 => execCaskCmdClear s | 4 => execCaskCmdRead s | _ => .next s

/-- Writes of the CASK region (R519). -/
def State.putCask (s : State) (off : Nat) (v : Word) : Out :=
  if off = Reg.CASK_FREEZE then .next (s.freezeWrite v)
  else if off = Reg.CASK_CMD then s.caskCmdWrite (bits v 2 0)
  else if Reg.CASK_BKT 0 ≤ off then .next (s.bktWrite ((off - Reg.CASK_BKT 0) / 4) v)
  else .next (s.plain off v)

/-- A write of SEC_CMD (R540). -/
def State.secCmdWrite (s : State) (code : Nat) : Out :=
  match code with
  | 1 => execSecFwStage s | 2 => execSecSvnCommit s | 3 => execSecNonce s | 4 => execSecEnrol s | 5 => execSecQuote s | _ => .next s

/-- Writes of the SEC/NVIMG region (R540). -/
def State.putSec (s : State) (off : Nat) (v : Word) : Out :=
  if off = Reg.SEC_CMD then s.secCmdWrite (bits v 2 0) else .next (s.plain off v)

/-- What a 32-bit write that reaches its register does, outside GLOBAL and OP. -/
def State.putReg (s : State) (off : Nat) (v : Word) : Out :=
  match regionOf off with
  | .global => .next s
  | .op => .next s
  | .host => .next (s.putHost off v)
  | .ctx => .next (s.putCtx off v)
  | .timePos => s.putPos off v
  | .buf => .next (s.putBuf off v)
  | .mash => .next (s.putMash off v)
  | .noz => s.putNoz off v
  | .hlink => s.putHl off v
  | .fabric => .next (s.putFab off v)
  | .twin => .next (s.putTwin off v)
  | .cycle => s.putCyc off v
  | .kiln => s.putKiln off v
  | .sbus => s.putSb off v
  | .can => s.putCan off v
  | .eth => .next (s.putEth off v)
  | .safe => .next (s.putSafe off v)
  | .loop => .next (s.putLoop off v)
  | .cask => s.putCask off v
  | .sec => s.putSec off v

/-- Write both words of a 64-bit register with RW fields. -/
def State.plain64 (s : State) (base : Nat) (v : DWord) : State := (s.plain base (lo32 v)).plain (base + 4) (hi32 v)

/-- What a 64-bit write that reaches its register does (R12), with the locks of R88, R120 and R332. -/
def State.putReg64 (s : State) (base : Nat) (v : DWord) : Out :=
  let f := fun (s : State) => s.plain64 base v
  if base = Reg.TB_INCR then execTbIncrWrite v s
  else if base = Reg.TB_OFFSET then execTbOffsetWrite v s
  else if base = Reg.HOST_MGMT_BASE then .next (s.unless (s.flag Reg.HOST_MGMT_CTRL 0) Reg.HOST_ERR 8 f)
  else if base = Reg.HOST_EVT_BASE then .next (s.unless (s.flag Reg.HOST_EVT_CTRL 0) Reg.HOST_ERR 8 f)
  else if base = Reg.TWIN_PARTNER_SN then .next (s.unless (s.flag Reg.TWIN_CFG 0) Reg.TWIN_FAULTS 0 f)
  else match regionOf base with
    | .host =>
      let n := (base - 0x2000) / 0x40
      let s := if s.flag (Reg.HOST_RING_CTRL n) 0 then s.setF Reg.HOST_ERR 8 8 1 else s
      .next (if !s.ctxIdle n then s.setF (Reg.CTX_FAULTS n) 0 0 1 else if s.flag (Reg.HOST_RING_CTRL n) 0 then s else f s)
    | .ctx => let n := (base - 0x4000) / 0x100; .next (s.unless (!s.ctxIdle n) (Reg.CTX_FAULTS n) 0 f)
    | .can => .next ((s.w1c base (lo32 v)).w1c (base + 4) (hi32 v))
    | _ => .next (f s)

/-! NV image entries (R522 to R524). -/

/-- The state that a write leaves. -/
def outState (o : Out) (s : State) : State := match o with | .next t => t | _ => s

/-- A write of one word of a 64-bit register (R12): held, or applied with the held low word. -/
def State.pairPut (s : State) (off : Nat) (v : Word) (high : Bool) : Out :=
  if !high then .next { s with hold := s.hold.set none off (some v) }
  else
    let base := off - 4
    let low := match s.hold.get none base with
      | some w => w
      | none => if base = Reg.CAN_TX_DONE ((base - 0x19000) / 0x400) then 0 else s.see base
    andThen (s.putReg64 base (dw low v)) (fun t => .next { t with hold := t.hold.set none base none })

/-- An entry of the image in force, as the register writes that it stands for. -/
def State.nvPut (s : State) (e : List Word) : State :=
  let w1 := nthW e 1
  match bits (nthW e 0) 7 0 with
  | 1 =>
    let off := w1.toNat
    let m := nthW e 3
    let v := (s.see off &&& ~~~m) ||| (nthW e 2 &&& m)
    outState (match pairAt off with | some high => s.pairPut off v high | none => s.putReg off v) s
  | 2 => s.sbSlotPut (bits w1 0 0) (bits w1 15 8) (nthW e 2)
  | 3 => s.canFltPut (bits w1 1 0) (bits w1 14 8) (nthW e 2) (nthW e 3) (nthW e 4)
  | _ => s

/-- The region that an entry belongs to. -/
def nvRegion (e : List Word) : Region :=
  match bits (nthW e 0) 7 0 with
  | 1 => regionOf (nthW e 1).toNat
  | 2 => .sbus
  | 3 => .can
  | _ => .sec

/-- NV_IMAGE_APPLY (R524): the entries of the image in force for some regions, in image order. -/
def State.nvApply (s : State) (rs : List Region) : State :=
  (s.sec.entries.filter (fun e => rs.contains (nvRegion e))).foldl State.nvPut s

end Sys2Proof.Machine
end

