-- ==== Sys2Proof/Machine/Op.lean ====
section
/-!
DEFINITION. The PCI Express link, its errors and Function Level Resets (R84 to R86, R106), and the operation port (R107 to R113).
-/
namespace Sys2Proof.Machine

/-! The operation port. -/

/-- The address in OP_ARG0 and OP_ARG1. -/
def State.opAddr (s : State) : Nat := (dw (s.rd (Reg.OP_ARG 0)) (s.rd (Reg.OP_ARG 1))).toNat

/-- A commit is not allowed (R528): a standby, or a generation that would reach 2^32. -/
def State.commitBarred (s : State) : Bool := s.twin.role == .standby || decide (2 ^ 32 ≤ s.sec.gen + 1)

/-- The start checks (R109, R110): the result of the first that fails; BAD_ARG is judged before NOT_ALLOWED (log entry 88). -/
def State.opCheck (s : State) (code : Nat) : Option Nat :=
  let len := (s.rd (Reg.OP_ARG 2)).toNat
  let badAddr := s.opAddr % 64 != 0
  let chans := dw (s.rd (Reg.OP_ARG 0)) (s.rd (Reg.OP_ARG 1))
  let fail := fun (bad barred : Bool) => if bad then some 2 else if barred then some 3 else none
  match code with
  | 1 => fail (badAddr || !inR 64 262016 len || len % 32 != 0) s.commitBarred
  | 2 => fail false (!s.domOn 6)
  | 3 => fail false (!s.domOn 5 || (List.range 64).any (fun ch => chans.getLsbD ch && !s.domOn (chDom ch)))
  | 4 => fail (s.rd (Reg.OP_ARG 0) != 0xFD0F) s.commitBarred
  | 5 => fail (badAddr || len % 64 != 0 || bits (s.rd (Reg.OP_ARG 3)) 1 0 == 0) false
  | _ => some 1

/-- The operation has host-memory transfers to make. -/
def opTransfers (code : Nat) : Bool := code == 1 || code == 5

/-- The running operation. -/
def State.opRun (s : State) : OpRun := s.host.op.getD {}

/-- Change the running operation. -/
def State.modOp (s : State) (f : OpRun → OpRun) : State := { s with host := { s.host with op := s.host.op.map f } }

/-- What an operation that passed its checks begins with. -/
def State.opWork (s : State) (code : Nat) : State :=
  match code with
  | 1 => (s.commitStart false (s.rd (Reg.OP_ARG 2)).toNat).request .op s.opAddr (s.rd (Reg.OP_ARG 2)).toNat
  | 2 => { s with fab := { s.fab with opEnded := false } }.startDisc
  | 4 => s.commitStart true 64
  | 5 =>
    if s.cask.freeze.isSome || s.cask.freezeReq then s.modOp (fun o => { o with seqEnd := s.cask.seq })
    else (s.modOp (fun o => { o with seqEnd := s.cask.seq, froze := true })).modCask (fun c => { c with freezeReq := true, flushing := true })
  | _ => s

/-- A write of OP_CMD (R107, R112): the port is BUSY, OP_START is raised, and the start checks are made. Transfers that PF0 cannot
make stop the operation at once (R85); a CASK_EXPORT so stopped still freezes, and its end stages CASK_MISSED (R513). -/
def State.opBegin (s : State) (v : Word) : State :=
  let code := bits v 3 0
  let fail := match s.opCheck code with
    | some r => some r
    | none => if opTransfers code && !s.pf0Can then some 6 else none
  let run : OpRun := { start := s.count, irq := bit v 15, vec := bits v 13 8, fail := fail, transfers := fail.isNone && opTransfers code }
  let s := ({ s with host := { s.host with op := some run } }.setF Reg.OP_STATUS 11 8 code).raise 0x0307 0 [wd code]
  if fail.isNone || (fail == some 6 && code == 5) then s.opWork code else s

/-- Code of the running or last operation. -/
def State.opCode (s : State) : Nat := s.fld Reg.OP_STATUS 11 8

/-- An operation's write of OP_CMD, when it names the row's code. -/
def State.opCmd (s : State) (v : Word) (ok : Nat → Bool) : Out :=
  if !ok (bits v 3 0) then .next s else .next (s.gated Reg.OP_CMD (fun s => s.opBegin v))

/-- OP_NV_COMMIT (R528). -/
def execOpNvCommit (value : Word) (s : State) : Host.Outcome State Fault Refusal := s.opCmd value (· == 1)
/-- OP_FABRIC_REDISCOVER (R285). -/
def execOpFabricRediscover (value : Word) (s : State) : Host.Outcome State Fault Refusal := s.opCmd value (· == 2)
/-- OP_NOZ_VERIFY (R222). -/
def execOpNozVerify (value : Word) (s : State) : Host.Outcome State Fault Refusal := s.opCmd value (· == 3)
/-- OP_FACTORY_RESTORE (R531). -/
def execOpFactoryRestore (value : Word) (s : State) : Host.Outcome State Fault Refusal := s.opCmd value (· == 4)
/-- OP_CASK_EXPORT (R513). -/
def execOpCaskExport (value : Word) (s : State) : Host.Outcome State Fault Refusal := s.opCmd value (· == 5)
/-- OP_BAD_OP (R107): a code that R109 does not list. -/
def execOpBadOp (value : Word) (s : State) : Host.Outcome State Fault Refusal := s.opCmd value (fun c => c == 0 || decide (6 ≤ c))

/-- The end of an operation (R108, R112): results, RESULT, BUSY and DONE, OP_END with the µs that it took, and the vector asked for. -/
def State.opFinish (s : State) (result : Nat) (r0 r1 : Option Word) : State :=
  let o := s.opRun
  let elapsed := wd ((s.count - o.start).toNat / 1000)
  let code := s.opCode
  let s := match r0 with | some w => s.wr Reg.OP_RESULT0 w | none => s
  let s := match r1 with | some w => s.wr Reg.OP_RESULT1 w | none => s
  let s := ((s.setF Reg.OP_STATUS 31 16 (0xFF00 + result)).setF Reg.OP_STATUS 1 1 1).wr Reg.OP_ELAPSED elapsed
  let s := { s with host := { s.host with op := none } }.raise 0x0308 0 [wd code, wd result, elapsed]
  if o.irq then s.irq false o.vec else s

/-- The freeze that CASK_EXPORT made ends (R513). -/
def State.exportThaw (s : State) (way : Nat) : State :=
  if !s.opRun.froze then s
  else if s.cask.freezeReq then
    (s.modCask (fun c => { c with freezeReq := false })).caskMissed { since := s.count } way
  else match s.cask.freeze with
    | some f => if f.byOp then s.freezeEnd way else s
    | none => s

/-- The SEQs that CASK_EXPORT copies (R513): the selected first-area records, then the selected circulating ones, of those held at
its start. -/
def State.exportSeqs (s : State) : List Nat :=
  let a := s.rd (Reg.OP_ARG 3)
  let e := s.opRun.seqEnd
  let first := if bit a 0 then List.range (min 8192 e) else []
  let lo := s.cask.oldest
  let circ := if bit a 1 then (List.range (e - lo)).map (· + lo) else []
  first ++ circ

/-- CASK_EXPORT writes its records, up to `limit`, and tells how many. -/
def State.exportWrite (s : State) (limit : Nat) : State × Nat :=
  let recs := (s.exportSeqs.filterMap s.cask.held).take (min limit ((s.rd (Reg.OP_ARG 2)).toNat / 64))
  (s.hostWrite s.opAddr (recs.flatMap CaskRec.bytes), recs.length)

/-- OP_END (R108): the running operation ends. The image is that of NV_COMMIT, which ends on an error completion only while it reads. -/
def execOpEnd (image : List Byte) (hostFault readbackOk : Bool) (s : State) : Host.Outcome State Fault Refusal :=
  match s.host.op with
  | none => .next s
  | some o =>
    if !s.mgmtRuns || s.readsWait .op then .next s else
    let hostFault := hostFault && s.opReading
    let s := s.readsDone .op
    match o.fail, s.sec.commit, s.opCode with
    | some r, some c, _ => .next ((s.commitFail c 3).opFinish r none none)
    | some r, none, code => .next ((s.exportThaw 3).opFinish r (if r = 6 && code = 5 then some 0 else none) none)
    | none, some c, _ =>
      if !c.restore && !hostFault && image.length ≠ c.len then .next s
      else
        let x := s.commitEnd c (if c.restore then restoreImage else image) (hostFault && !c.restore) readbackOk
        .next (x.1.opFinish x.2.1 (some (wd x.2.2.1)) (some (wd x.2.2.2)))
    | none, none, 2 =>
      if s.domOn 6 && s.flag Reg.FAB_CFG 0 && !s.fab.opEnded then .next s
      else .next (s.opFinish 0 (some (wd (s.fab.addr + s.fab.nodes * 2 ^ 8))) none)
    | none, none, 3 =>
      let r := s.verifyAll (dw (s.rd (Reg.OP_ARG 0)) (s.rd (Reg.OP_ARG 1))) (s.fld (Reg.OP_ARG 2) 3 0)
      .next (s.opFinish (if r.1 = 0 then 0 else 4) (some r.1) (some r.2))
    | none, none, _ =>
      let w := s.exportWrite 139264
      .next ((w.1.exportThaw 3).opFinish 0 (some (wd w.2)) none)

/-- An operation stopped before its end (R113): a commit is broken off (`reading`: while it reads its image), a discovery goes on over the
fabric with the routes as they are until its T_sw, an export has written a number of whole records that is open; host memory beyond them
stays as it was (log entry 135). -/
def State.opBreak (s : State) (way : Nat) (reading : Bool) : State × Option Word :=
  match s.host.op with
  | none => (s, none)
  | some _ =>
    match s.opCode with
    | 2 => (s, none)
    | 5 =>
      let f := s.free
      let w := f.2.exportWrite (f.1.toNat % 139265)
      (w.1.exportThaw way, some (wd w.2))
    | _ => ((s.commitAbort reading).dropReads (· == .op), none)

/-- The running operation ends with STOPPED (R110, R113). -/
def State.opStop (s : State) (reading : Bool) : State :=
  if s.host.op.isNone then s
  else
    let b := s.opBreak 3 reading
    b.1.opFinish 6 b.2 none

/-- PF0 can no longer transfer (R85): an operation that still has transfers to make is stopped. CASK_EXPORT has them until its end, and
NV_COMMIT while a read request has not been issued; whether answers to those that have are still to come is open (log entry 89). -/
def State.opCutOff (s : State) : State :=
  if s.host.op.isNone || !s.opRun.transfers then s
  else if s.opCode = 5 then s.opStop false
  else if !s.opReading then s
  else if s.readsWait .op || s.free.1.getLsbD 0 then s.free.2.opStop true else s.free.2.readsDone .op

/-! The link. -/

/-- What the configuration space of a function shows of itself (R82). -/
structure PciFunction where
  device    : BitVec 16
  classCode : BitVec 16
  bar0      : Nat := 0x20000
  bar2      : Nat := 0x10000
  vectors   : Nat := 64
deriving DecidableEq, Repr

/-- The two functions (R82): their BARs are 64-bit memory BARs, not prefetchable. -/
def pciFunction (pf1 : Bool) : PciFunction :=
  if pf1 then { device := 0x6464, classCode := 0x1180 } else { device := 0x6463, classCode := 0x0880 }

/-- No context is ARMED, RUNNING or DRAINING. -/
def State.noneActive (s : State) : Bool := s.ctxNums.all (fun n => !(s.ctxOf n).active)

/-- The device may request entry to L1 (R81). -/
def State.mayL1 (s : State) : Bool := s.noneActive

/-- Send what is pending and no longer masked (MSI-X), for one function. -/
def State.msixFlush (s : State) (pf1 : Bool) : State :=
  if !(if pf1 then s.pf1Can else s.pf0Can) then s
  else s.each (List.range 64) (fun s vec =>
    let k := vec * 4 + 3
    let w := if pf1 then s.host.msix1.get (msixReset k) k else s.host.msix0.get (msixReset k) k
    let p := if pf1 then s.host.pba1 else s.host.pba0
    if !p.getLsbD vec || bit w 0 then s
    else
      let q := p &&& ~~~(BitVec.ofNat 64 (1 <<< vec))
      let s := if pf1 then { s with host := { s.host with pba1 := q } } else { s with host := { s.host with pba0 := q } }
      s.emit (.msix pf1 vec))

/-- Requests that the link took down with it are issued anew when it is up (log entry 136). -/
def State.readsLost (s : State) : State := { s with host := { s.host with reads := s.host.reads.map (fun r => { r with sent := false }) } }

/-- HOST_LINK_UP (R81, R84): the link reaches L0 at a supported speed and width, with Max_Payload_Size up to 512 bytes and
Max_Read_Request_Size up to 4,096. -/
def execHostLinkUp (speed : BitVec 3) (width : BitVec 5) (tag10 : Bool) (mps : Fin 3) (mrrs : Fin 6) (s : State) :
    Host.Outcome State Fault Refusal :=
  let sp := speed.toNat
  let w := width.toNat
  if sp = 0 || 5 < sp || (w != 8 && w != 16) || s.linkUp then .next s
  else
    let s := s.wr Reg.HOST_LINK (wd (sp + w * 2 ^ 8 + tag10.toNat * 2 ^ 13 + mps.val * 2 ^ 14 + mrrs.val * 2 ^ 17 + 2 ^ 20))
    let s := { s with host := { s.host with bmeOff0 := false, bmeOff1 := false } }
    let s := ((s.msixFlush false).msixFlush true).evtRecover
    let s := if sp < 5 || w < 16 then s.raise 0x0304 0 [wd (sp + w * 2 ^ 8)] else s
    .next (s.each s.ctxNums (fun s n => s.cqDrain n 34)).pumpReads

/-- The link goes down (R85). -/
def State.linkDown (s : State) : State := if !s.linkUp then s else ((s.setF Reg.HOST_LINK 20 20 0).raise 0x0303 0 []).opCutOff.readsLost

/-- HOST_LINK_DOWN (R85). -/
def execHostLinkDown (s : State) : Host.Outcome State Fault Refusal :=
  .next s.linkDown

/-- HOST_BME_OFF (R85): Bus Master Enable of a function is cleared. -/
def execHostBmeOff (pf1 : Bool) (s : State) : Host.Outcome State Fault Refusal :=
  if (if pf1 then s.host.bmeOff1 else s.host.bmeOff0) then .next s
  else
    let s := if pf1 then { s with host := { s.host with bmeOff1 := true } } else { s with host := { s.host with bmeOff0 := true } }
    let s := s.raise 0x0305 0 [wd pf1.toNat]
    .next (if pf1 then s else s.opCutOff)

/-- The bit of HOST_ERR of an error kind (R117). -/
def pcieBit : PcieErr → Nat
  | .unsupported => 0 | .completerAbort => 1 | .timeout => 2 | .poisoned => 3

/-- What an error completion does to the request that it belonged to (R86); the rest of what failed is read no more. -/
def State.readFailed (s : State) (t : FaultTarget) : State :=
  match t with
  | .submitDesc n => if s.descReady n.val [0x100] true then s.descEnd n.val [0x100] 0 5 else s
  | .mgmtDesc => if s.mgmtReady true then s.mgmtDone [] 5 0 else s
  | .tileData n =>
    match (s.ctxOf n.val).arriving with
    | some (t, _) => ((s.dropReads (· == .tile n.val t.id)).modCtx n.val (fun c => c.modTile t.id (fun t => { t with state := .failed }))).finish n.val t.id 5
    | none => s
  | .tableData n =>
    match (s.ctxOf n.val).copies with
    | t :: r => ((s.dropReads (· == .table n.val t.id)).modCtx n.val (fun c => { c with copies := r })).finish n.val t.id 5
    | [] => s
  | .operation => s.modOp (fun o => if s.opReading then { o with fail := some (o.fail.getD 5) } else o)
  | .other => s

/-- An error completion (R86). -/
def State.pcieError (s : State) (kind : PcieErr) (addr : DWord) (t : FaultTarget) : State :=
  let s := (s.setF Reg.HOST_ERR (pcieBit kind) (pcieBit kind) 1).emit (.aer kind)
  (s.raise 0x0306 0 [lo32 addr, hi32 addr, wd (pcieBit kind)]).readFailed t

/-- HOST_PCIE_ERROR (R86). -/
def execHostPcieError (kind : PcieErr) (addr : DWord) (target : FaultTarget) (s : State) : Host.Outcome State Fault Refusal :=
  .next (s.pcieError kind addr target)

/-- COMPLETION_TIMEOUT (R86). -/
def execCompletionTimeout (addr : DWord) (target : FaultTarget) (s : State) : Host.Outcome State Fault Refusal :=
  .next (s.pcieError .timeout addr target)

/-! Function Level Resets (R106). -/

/-- A Function Level Reset of PF0: MSI-X table, management and event ring, a running operation. -/
def State.flr0 (s : State) : State :=
  let s := s.opStop false
  let s := { s with host := { s.host with msix0 := [], pba0 := 0 } }
  (s.setF Reg.HOST_MGMT_CTRL 0 0 0).setF Reg.HOST_EVT_CTRL 0 0 0

/-- A Function Level Reset of PF1: active contexts halt at their next line boundary, held completions are discarded, the rings'
ENs are cleared. -/
def State.flr1 (s : State) : State :=
  let s := s.each s.ctxNums (fun s n => s.haltReq n 8 none)
  let s := s.each ((List.range 63).map (· + 1)) (fun s n =>
    (s.setRing n { s.ringOf n with held := [] }).setF (Reg.HOST_RING_CTRL n) 0 0 0)
  { s with host := { s.host with msix1 := [], pba1 := 0 } }

/-- FLR_PF0 (R106). -/
def execFlrPf0 (s : State) : Host.Outcome State Fault Refusal := .next s.flr0

/-- FLR_PF1 (R106). -/
def execFlrPf1 (s : State) : Host.Outcome State Fault Refusal := .next s.flr1

/-- PF1_D3_TO_D0 (R106): the effects of a Function Level Reset of PF1. -/
def execPf1D3ToD0 (s : State) : Host.Outcome State Fault Refusal := .next s.flr1

end Sys2Proof.Machine
end

