-- ==== Sys2Proof/Machine/Clock.lean ====
section
/-!
DEFINITION. The clocks: loss and return of REFCLK, the PLLs, and SYSREF (R32, R33, R35, R36).
-/
namespace Sys2Proof.Machine

/-- A PLL's loss of lock, or its domain, is over. -/
def State.pllBack (s : State) (p : Pll) : State := { s with pos := { s.pos with unlocked := s.pos.unlocked.filter (fun q => q != p) } }

/-- Steps 2 and 3 of R35: kill symbols on every active link, and every active context halts at once. -/
def State.clockStop (s : State) : State := s.killAll.haltNow s.ctxNums 7

/-- CLK_REF_LOST (R35). -/
def execClkRefLost (s : State) : Host.Outcome State Fault Refusal :=
  if s.power.refLost then .next s
  else
    let s := { s with tb := { s.tb with holdover := true }, power := { s.power with refLost := true } }
    .next (s.clockStop.raise 0x0101 0 [])

/-- CLK_REF_RESTORED (R35). -/
def execClkRefRestored (s : State) : Host.Outcome State Fault Refusal :=
  if !s.power.refLost then .next s
  else
    let s := { s with tb := { s.tb with holdover := false }, power := { s.power with refLost := false } }
    .next (s.raise 0x0102 0 [])

/-- The number of a PLL in PLL_UNLOCK (R36). -/
def pllCode : Pll → Nat
  | .dot => 1 | .buffer => 2 | .management => 3 | .control => 4 | .bus => 5

/-- The domain of a PLL (R32). -/
def pllDom : Pll → Nat
  | .dot => 1 | .buffer => 5 | .management => 1 | .control => 7 | .bus => 6

/-- The dot clock stops (R35): kill symbols, halts, and the streams of the links break off; positions stand as they are. -/
def State.dotHalt (s : State) : State :=
  let s := s.clockStop.each (List.range 64) State.hlCut
  { s with pos := { s.pos with dotStop := s.count } }

/-- PLL_UNLOCK (R35): the blocks that the PLL feeds stop until lock returns. -/
def execPllUnlock (pll : Pll) (s : State) : Host.Outcome State Fault Refusal :=
  if s.pllLost pll || !s.domOn (pllDom pll) then .next s
  else
    let s := if pll == .dot then s.dotHalt else s
    let s := { s with pos := { s.pos with unlocked := pll :: s.pos.unlocked } }
    .next (s.raise 0x0104 0 [wd (pllCode pll)])

/-- PLL_RELOCK (R35): the blocks run again; the ring engines post what waited (log entry 107). -/
def execPllRelock (pll : Pll) (s : State) : Host.Outcome State Fault Refusal :=
  let s := s.pllBack pll
  .next (if pll == .management then s.evtRecover.each s.ctxNums (fun s n => s.cqDrain n 34) else s)

/-- How far a SYSREF edge, `sub` sixths of a ns behind the tick of now, lies behind the frame boundary next to it, in sixths of a ns; a
dot-clock cycle is five of them (R32, R33). -/
def State.sysrefDev (s : State) (sub : Nat) : Int :=
  let d := 6 * ((s.count - s.pos.frame.next).toInt) + sub - s.pos.frame.phase
  if d.natAbs ≤ (d + 3840).natAbs then d else d + 3840

/-- A link that is UP when the grid moves enters FAULT and retrains (R268). R265 lists no cause for it: ARG1 of HL_DOWN is open (log
entry 93). -/
def State.hlRealign (s : State) (ch : Nat) : State :=
  let s := s.modHl ch (fun h => { h with txq := [], kills := [] })
  if (s.hlOf ch).state != .up then s
  else ((s.free.2.bump (Reg.HL_RETRAINS ch)).raise 0x0802 0 [wd ch, lo32 s.free.1]).hlTrain ch

/-- The frame counter and the dividers are aligned to this edge (R33), from which frames are counted (R232): the boundary that it marks has
still to be taken when the edge is early or that boundary is due. -/
def State.alignGrid (s : State) (sub : Nat) : State :=
  let f := s.pos.frame
  let due := decide (s.sysrefDev sub < 0) || decide (f.next.toNat ≤ s.count.toNat)
  let s := { s with pos := { s.pos with frame :=
    { number := if due then -1 else 0, next := if due then s.count else s.count + 640, phase := sub, aligned := true, realign := false } } }
  s.each (s.hl.map Prod.fst) State.hlRealign

/-- SYSREF_EDGE (R33), `sub` sixths of a ns behind the tick of now: the first edge before head-link training aligns the grid; each later one
is checked, and one that follows a slip realigns it while no context is active. -/
def execSysrefEdge (sub : Fin 6) (s : State) : Host.Outcome State Fault Refusal :=
  let f := s.pos.frame
  if !f.aligned && decide (s.power.phase < 6) then .next (s.alignGrid sub.val)
  else
    let d := s.sysrefDev sub.val
    let slip := decide (5 < d.natAbs)
    let t := if slip then s.raise 0x0103 0 [wi (d.tdiv 5)] else s
    if f.realign && s.noneActive then .next (t.alignGrid sub.val)
    else .next { t with pos := { t.pos with frame := { t.pos.frame with realign := slip && s.noneActive } } }

end Sys2Proof.Machine
end

