-- ==== Sys2Proof/Machine/Power.lean ====
section
/-!
DEFINITION. Power domains, resets, power failure and start-up (R29, R541 to R556).
-/
namespace Sys2Proof.Machine

/-- Change the power state. -/
def State.modPower (s : State) (f : Power → Power) : State := { s with power := f s.power }

/-- The bit of a domain. -/
def domBit (d : Nat) : BitVec 8 := BitVec.ofNat 8 (1 <<< d)

/-! What a domain loses (R547). -/

/-- PD3 or PD4 goes: the channels' lanes, nozzle tables and links, and the registers of their blocks. Registers that both domains
share go with the second. -/
def State.dotOff (s : State) (d : Nat) : State :=
  let lo := (d - 3) * 32
  let hi := lo + 32
  let s := { s with lane := s.lane.dropRange lo hi, noz := s.noz.dropRange lo hi, hl := s.hl.dropRange lo hi }
  let s := ((s.clearRegs (0xA400 + lo * 0x20) (0xA400 + hi * 0x20)).clearRegs (0xC400 + lo * 0x40) (0xC400 + hi * 0x40)).clearRegs
    (0x10000 + lo * 0x100) (0x10000 + hi * 0x100)
  if s.domOn (7 - d) then s else (s.clearRegs 0xA000 0xA400).clearRegs 0xC000 0xC400

/-- PD5 goes: all buffer content. -/
def State.bufOff (s : State) : State := ({ s with buf := {} }.clearRegs 0x9000 0xA000).pllBack .buffer

/-- PD6 goes: ports, routes and address, Station Bus, CAN and MACs. The twin decision follows R320, so role and twin registers stay
until PD6 is on again (R332). -/
def State.netOff (s : State) : State :=
  let s := s.each ((List.range 8).filter s.portUp) (fun s k => s.raise 0x0902 0 [wd k])
  let s := { s.ethOff with fab := {}, sb := [], can := [] }
  ((s.clearRegs 0x14000 0x15000).clearRegs 0x18000 0x1B000).pllBack .bus

/-- A current-loop channel stops driving (R497). -/
def State.loopStop (s : State) (n : Nat) : State := if (s.loopOf n).drive.isSome then s.emit (.loopDrive n none) else s

/-- What PD7 and the resets leave of the current-loop channels: the levels of the PGATE balls, which come from outside. -/
def State.loopPins (s : State) : SMap Loop :=
  (s.loop.filter (fun e => e.2.pgate)).map (fun e => (e.1, ({ pgate := true } : Loop)))

/-- PD7 goes: the engine and Kiln stop at once, program store, timers and forces are cleared, loops stop driving, GPIO is released. -/
def State.ctlOff (s : State) : State :=
  let s := s.each (List.range 8) State.loopStop
  let s := { s.cycClear with kiln := {}, loop := s.loopPins, trim := none, pos := { s.pos with gpio := 0, pulses := [] } }
  ((s.clearRegs 0x16000 0x18000).clearRegs 0x1C000 0x1D000).pllBack .control

/-- The losses of a domain. -/
def State.domLose (s : State) (d : Nat) : State :=
  match d with
  | 3 => s.dotOff 3 | 4 => s.dotOff 4 | 5 => s.bufOff | 6 => s.netOff | 7 => s.ctlOff | _ => s

/-- A domain is on (R546): its registers hold their reset values, the NV entries of its regions are applied (R524), PD_ON is raised. -/
def State.domUp (s : State) (d : Nat) : State :=
  let s := s.modPower (fun p => { p with on := p.on ||| domBit d, goingOn := p.goingOn &&& ~~~(domBit d) })
  let s := match d with
    | 5 => { s with buf := { ready := true } }
    | 6 =>
      let s := s.twinClear.clearRegs 0x15000 0x16000
      let s := if s.cyc.state == CycState.standby then s.modCyc (fun c => { c with state := .stopped }) else s
      s.nvApply [.fabric, .twin, .sbus, .can, .eth]
    | 7 => s.nvApply [.loop]
    | _ => s
  s.raise 0x1403 0 [wd d]

/-! Switching at run time (R545, R546). -/

/-- Domains in the order in which they are switched off, and on (R545). -/
def offOrder : List Nat := [3, 4, 7, 6, 5]
def onOrder : List Nat := [5, 6, 7, 3, 4]

/-- A refused change (R545). -/
def State.pdRefused (s : State) (d why : Nat) : State := (s.setF Reg.GLOBAL_FAULTS 0 0 1).raise 0x1402 0 [wd d, wd why]

/-- Contexts that are active and have a channel in a domain. -/
def State.activeIn (s : State) (d : Nat) : List Nat :=
  s.ctxNums.filter (fun n => (s.ctxOf n).active && (s.chans n).any (fun ch => chDom ch == d))

/-- The contexts of PD3 or PD4 are to halt with cause 9 before it goes off (R546). A context that the switch-off of the other already
halts counts there (log entry 95). -/
def State.haltDom (s : State) (d : Nat) : State :=
  let ns := (s.activeIn d).filter (fun n => match (s.ctxOf n).halt with | some h => h.cause != 9 | none => true)
  let s := s.modPower (fun p => { p with halted := p.halted.set 0 d (p.halted.get 0 d + ns.length) })
  s.each (s.activeIn d) (fun s n => s.haltReq n 9 none)

/-- A write that only cancels pending switch-offs of PD3 or PD4 (R546): what it sets. PD5, waiting to go off too, then cannot. -/
def State.pdCancel (s : State) (bitsOn : BitVec 8) : State :=
  let s := s.modPower (fun p => { p with goingOff := p.goingOff &&& ~~~bitsOn })
  let s := s.each [3, 4] (fun s d =>
    if bitsOn.getLsbD d then s.modPower (fun p => { p with halted := p.halted.set 0 d 0 }) else s)
  if s.power.goingOff.getLsbD 5 then
    (s.modPower (fun p => { p with goingOff := p.goingOff &&& ~~~(domBit 5) })).pdRefused 5 2
  else s

/-- A new set of domains (R545): changes that would break R29 are refused, and the others begin. -/
def State.pdStart (s : State) (want : BitVec 8) : State :=
  let cur := s.power.on
  let keep5 := cur.getLsbD 5 && !want.getLsbD 5 && ((cur &&& want).getLsbD 3 || (cur &&& want).getLsbD 4)
  let want := if keep5 then want ||| domBit 5 else want
  let s := if keep5 then s.pdRefused 5 2 else s
  let bad := [3, 4].filter (fun d => !cur.getLsbD d && want.getLsbD d && !want.getLsbD 5)
  let s := s.each bad (fun s d => s.pdRefused d 1)
  let want := bad.foldl (fun w d => w &&& ~~~(domBit d)) want
  let s := s.modPower (fun p => { p with goingOff := cur &&& ~~~want &&& 0xF8, goingOn := want &&& ~~~cur &&& 0xF8, halted := [] })
  s.each [3, 4] (fun s d => if s.power.goingOff.getLsbD d then s.haltDom d else s)

/-- A write of GLOBAL_PD_CTRL (R545). -/
def State.pdCtrl (s : State) (v : Word) : State :=
  let p := s.power
  let want : BitVec 8 := BitVec.ofNat 8 v.toNat ||| 7
  let cur := (p.on &&& ~~~p.goingOff) ||| p.goingOn
  if p.goingOn ||| p.goingOff = 0 then s.pdStart want
  else
    let diff := want ^^^ cur
    if diff ≠ 0 && diff &&& ~~~(p.goingOff &&& want &&& 0x18) = 0 then s.pdCancel diff
    else s.setF Reg.GLOBAL_FAULTS 1 1 1

/-- GLOBAL_PD_CTRL_WRITE (R545). -/
def execGlobalPdCtrlWrite (value : Word) (s : State) : Host.Outcome State Fault Refusal :=
  .next (s.gated Reg.GLOBAL_PD_CTRL (fun s => s.pdCtrl value))

/-- It is a domain's turn in an order. -/
def turnOf (order : List Nat) (pend : BitVec 8) (d : Nat) : Bool := order.find? (fun k => pend.getLsbD k) == some d

/-- PD_ON (R546): in its turn, a domain has switched on. -/
def execPdOn (d : Nat) (s : State) : Host.Outcome State Fault Refusal :=
  if s.power.goingOff ≠ 0 || !turnOf onOrder s.power.goingOn d then .next s else .next (s.domUp d)

/-- PD_OFF (R546): in its turn, a domain has switched off, once no context that uses it is active. -/
def execPdOff (d : Nat) (s : State) : Host.Outcome State Fault Refusal :=
  if !turnOf offOrder s.power.goingOff d then .next s
  else if s.activeIn d ≠ [] then .next (s.haltDom d)
  else
    let n := s.power.halted.get 0 d
    let s := (s.domLose d).modPower (fun p => { p with on := p.on &&& ~~~(domBit d), goingOff := p.goingOff &&& ~~~(domBit d),
                                                       halted := p.halted.set 0 d 0 })
    .next (s.raise 0x1404 0 [wd d, wd n])

/-! Resets (R543, R544, R552). -/

/-- Registers that a device reset gives their reset values: all but GLOBAL_RESET_CAUSE and GLOBAL_TJ, the TB_ registers (R75), those of the
island and those of Cask. -/
def State.resetRegs (s : State) : State :=
  ((((((s.clearRegs 0 0x18).clearRegs 0x1C 0x28).clearRegs 0x2C 0x8000).clearRegs 0x8038 0x1B000).clearRegs 0x1C000 0x1D000).clearRegs
    0x1E000 0x20000)

/-- The power state after a device reset: PD3 to PD7 are off, start-up is before S1. -/
def Power.afterReset (p : Power) : Power :=
  { on := (p.on &&& 0x04) ||| 0x03, started := p.started, unitB := p.unitB, pfail := p.pfail, refLost := p.refLost, pfailAt := p.pfailAt, tjHigh := p.tjHigh }

/-- What a device reset does to PD1 and the domains beneath it (R544). -/
def State.resetBlocks (s : State) : State :=
  let s := s.each (List.range 8) State.loopStop
  let s := s.ethClear.twinClear.cycClear
  { s with
    latch := [], hold := [], host := {}, ctx := [], buf := {}, lane := [], noz := [], hl := [], fab := {}, kiln := {}, sb := [], can := [],
    loop := s.loopPins, trim := none, pos := { frame := { number := s.pos.frame.number, next := s.pos.frame.next } } }

/-- DEVICE_RESET (R544): `cause` is the bit of GLOBAL_RESET_CAUSE. A trigger that comes while the part is still held in a reset is one
more of that reset's triggers (log entry 96). Unpredictable behaviour ends (R20), and start-up is timed from here (R550). -/
def State.deviceReset (s : State) (cause : Nat) : State :=
  let held := !s.power.started
  let was := s.rd Reg.GLOBAL_RESET_CAUSE
  let s := { s with host := { s.host with reads := s.host.reads.filter (fun r => r.owner == RdOwner.op) } }
  let b := s.opBreak 0 false
  let s := { b.1 with host := { b.1.host with op := none } }
  let s := s.caskReset.secReset.resetBlocks.resetRegs
  let s := { s with upset := none }.modPower (fun p => { p.afterReset with startAt := s.count })
  s.wr Reg.GLOBAL_RESET_CAUSE (if held then was ||| wd cause else wd cause)

/-- RESET_PIN (R543). -/
def execResetPin (s : State) : Host.Outcome State Fault Refusal := .next (s.deviceReset 2)

/-- PWRGD_LOW (R543): the reset is held until PWRGD rises. -/
def execPwrgdLow (s : State) : Host.Outcome State Fault Refusal :=
  .next ((s.deviceReset 4).modPower (fun p => { p with started := false }))

/-- PWRGD_RISE (R550): start-up begins, and is timed from here. -/
def execPwrgdRise (s : State) : Host.Outcome State Fault Refusal :=
  .next (if s.power.started then s else s.modPower (fun p => { p with started := true, startAt := s.count }))

/-- PERST_ASSERT (R543): a device reset, or with PERST_SCOPE = 1 Function Level Resets of both functions, and the link retrains. -/
def execPerstAssert (s : State) : Host.Outcome State Fault Refusal :=
  .next (if s.flag Reg.GLOBAL_CFG 0 then s.flr0.flr1.linkDown else s.deviceReset 8)

/-- A write of GLOBAL_RESET_CMD (R552): the second key within 1 ms of the first requests a device reset. -/
def State.resetCmd (s : State) (v : Word) : State :=
  if v = 0xD3E5 then s.modPower (fun p => { p with resetKey := some s.count })
  else
    let due := match s.power.resetKey with | some t => v == 0x2B7A && decide ((s.count - t).toNat ≤ 1000000) | none => false
    if due then s.deviceReset 0x10 else s.modPower (fun p => { p with resetKey := none })

/-- GLOBAL_RESET_CMD (R551, R552): accepted before S7 too; dropped while the operation port is busy (R107). -/
def execGlobalResetCmd (value : Word) (s : State) : Host.Outcome State Fault Refusal :=
  if !s.power.started then .next s
  else if s.host.op.isSome then .next (s.bump Reg.OP_DROPPED)
  else .next (s.resetCmd value)

/-- MGMT_WATCHDOG (R543). -/
def execMgmtWatchdog (s : State) : Host.Outcome State Fault Refusal := .next (s.deviceReset 0x20)

/-- What MRAM and the fuses keep of the trust state. -/
def Sec.survive (x : Sec) : Sec :=
  { slot0 := x.slot0, slot1 := x.slot1, bank0 := x.bank0, bank1 := x.bank1, owner := x.owner, reqFw := x.reqFw, reqNv := x.reqNv, svnMin := x.svnMin }

/-- Everything but PD2, MRAM and fuses is at its reset value (R543). -/
def State.pd0Reset (s : State) : State :=
  { pending := s.pending, out := s.out, hostMem := s.hostMem, freeCtr := s.freeCtr, safe := s.safe,
    regs := (s.regs.dropRange 0 0x1B000).dropRange 0x1C000 0x20000,
    cask := s.cask.survive, sec := s.sec.survive,
    cyc := { ret0 := s.cyc.ret0, ret1 := s.cyc.ret1, retLast := s.cyc.retLast },
    power := { on := (s.power.on &&& 0x04) ||| 0x03 } }

/-- PD0_POWER_ON (R543). -/
def execPd0PowerOn (s : State) : Host.Outcome State Fault Refusal := .next (s.commitAbort false).stageAbort.pd0Reset

/-- POWER_LOSS (R507, R508, R530, R549): staged records are lost, but for those that a flush in progress has written, how many is open, and
all of that flush from step 4 of R507 on; a record in writing may be torn; commits are broken off. -/
def execPowerLoss (torn : Bool) (s : State) : Host.Outcome State Fault Refusal :=
  let t :=
    if !s.cask.flushing || s.cask.flushed.isEmpty then s
    else if s.power.pfail && decide (1200000 ≤ (s.count - s.power.pfailAt).toNat) then s.caskFlushAll
    else s.free.2.modCask (fun c => c.loseAt (s.free.1.toNat % (s.cask.flushed.length + 1)) torn)
  .next (t.commitAbort false).stageAbort.pd0Reset

/-! PFAIL# (R507, R548). -/

/-- PFAIL_ASSERT (R548): the flush of R507 starts and a retained copy in progress is abandoned; nothing else acts on it. -/
def execPfailAssert (s : State) : Host.Outcome State Fault Refusal :=
  if s.power.pfail then .next s
  else .next (((s.modPower (fun p => { p with pfail := true, pfailAt := s.count })).caskPfail).modCyc (fun c => { c with retBusy := none }))

/-- PFAIL_DEASSERT (R507). -/
def execPfailDeassert (s : State) : Host.Outcome State Fault Refusal :=
  if !s.power.pfail then .next s else .next ((s.modPower (fun p => { p with pfail := false })).caskPfailEnd)

/-! Start-up (R550). -/

/-- Time since start-up began, in µs (R550, R552). -/
def State.startUs (s : State) : Word := wd ((s.count - s.power.startAt).toNat / 1000)

/-- A phase ends: its time is recorded, and the next begins. -/
def State.phaseEnd (s : State) (k : Nat) : State := (s.wr (Reg.GLOBAL_PHASE_END k) s.startUs).modPower (fun p => { p with phase := k + 1 })

/-- START_S1 (R72, R508, R550): straps are latched, the Cask actions run, and a PRINT_INHIBIT# that is low sets the latch. It does not end
while PFAIL# is low or REFCLK is absent. -/
def execStartS1 (twinSel inhibitLow : Bool) (s : State) : Host.Outcome State Fault Refusal :=
  if !s.power.started || s.power.phase ≠ 1 || s.power.pfail || s.power.refLost then .next s
  else
    let s := (s.modPower (fun p => { p with unitB := twinSel })).caskStart
    let s := if inhibitLow then { s with pos := { s.pos with pi := { s.pos.pi with low := true, resumed := false } } }.setLatch else s
    .next (s.phaseEnd 1)

/-- START_S2 (R533): a firmware bank is verified and started; with neither valid the part stays here in recovery, until a staged bank
starts. -/
def execStartS2 (s : State) : Host.Outcome State Fault Refusal :=
  if s.power.phase ≠ 2 || s.power.recovery then .next s
  else
    let s := if s.sec.bank.isSome then s else s.bootTry s.sec.bootOrder 0
    .next (if s.sec.bank.isSome then s.phaseEnd 2 else s.modPower (fun p => { p with recovery := true }))

/-- START_S3 (R524, R527, R550): the NV image is selected, its CASK entries are applied, and PD5, PD6, PD7, PD3, PD4 switch on. The wait of
R327 belongs to S5. -/
def execStartS3 (s : State) : Host.Outcome State Fault Refusal :=
  if s.power.phase ≠ 3 then .next s
  else
    let s := (s.nvStart).nvApply [.cask]
    let s := s.each onOrder State.domUp
    .next ((s.modTwin (fun t => { t with startWait := none })).phaseEnd 3)

/-- START_S4 (R550): the island has ended its self-test, and its result is in the view. -/
def execStartS4 (s : State) : Host.Outcome State Fault Refusal :=
  if s.power.phase ≠ 4 || s.safe.state == .selftest then .next s
  else .next ((s.modPower (fun p => { p with s4Done := true })).phaseEnd 4)

/-- START_S5 (R327, R550): ports have trained and discovery has ended, or no port reached UP; a unit of a pair now waits for its partner.
Skipped when FAB_CFG.EN is 0. -/
def execStartS5 (s : State) : Host.Outcome State Fault Refusal :=
  if s.power.phase ≠ 5 || s.power.s5Done || s.fab.disc.isSome then .next s
  else
    let s := (s.wr (Reg.GLOBAL_PHASE_END 5) s.startUs).modPower (fun p => { p with s5Done := true })
    .next (if s.flag Reg.FAB_CFG 0 && s.flag Reg.TWIN_CFG 0 then s.twinWait else s)

/-- START_S6 (R33, R252, R550): the role is decided; EN of every channel is set and its link trains. -/
def execStartS6 (s : State) : Host.Outcome State Fault Refusal :=
  if s.power.phase ≠ 5 || !s.power.s5Done || s.twin.startWait.isSome then .next s
  else
    let s := s.phaseEnd 5
    .next (s.each (List.range 64) (fun s ch => (s.setF (Reg.HL_CTRL ch) 0 0 1).hlTrain ch))

/-- NV slot in START_DONE (R556). -/
def State.slotArg (s : State) : Nat := match s.sec.active with | some n => n | none => 0xFF

/-- START_S7 (R550, R556): every link is UP or OFF; READY sets and START_DONE is raised. -/
def execStartS7 (s : State) : Host.Outcome State Fault Refusal :=
  if s.power.phase ≠ 6 || !(List.range 64).all (fun ch => (s.hlOf ch).state == .up || (s.hlOf ch).state == .off) then .next s
  else
    let us := s.startUs
    let s := (s.phaseEnd 6).wr (Reg.GLOBAL_PHASE_END 7) us
    let s := s.modPower (fun p => { p with ready := true })
    .next (s.raise 0x1401 0 [us, s.rd Reg.GLOBAL_RESET_CAUSE, wd ((match s.sec.bank with | some n => n | none => 0) + s.slotArg * 2 ^ 8)])

/-! Junction temperature (R554). -/

/-- Maximum operating junction temperature of the variant (R1), 1/16 °C. -/
def tjMax : Int := if Config.variantAI then 1760 else 1680

/-- TJ_UPDATE (R554). -/
def execTjUpdate (t : BitVec 16) (s : State) : Host.Outcome State Fault Refusal :=
  let s := s.wr Reg.GLOBAL_TJ (wd t.toNat)
  if tjMax < t.toInt then
    if s.power.tjHigh then .next s
    else .next (((s.modPower (fun p => { p with tjHigh := true })).setF Reg.GLOBAL_FAULTS 2 2 1).raise 0x1405 0 [wd t.toNat])
  else if t.toInt ≤ tjMax - 80 then .next (s.modPower (fun p => { p with tjHigh := false }))
  else .next s

end Sys2Proof.Machine
end

