-- ==== Sys2Proof/Machine/RegAccess.lean ====
section
/-!
DEFINITION. Reads and writes of registers that have no row of their own (R12 to R16, R39, R40, R83, R107, R551): 64-bit registers, W1C
and RC fields, the MSI-X tables, and plain writes.
-/
namespace Sys2Proof.Machine

/-- Writes of the GLOBAL and OP regions that reach their register (R107, R118, R552). -/
def State.putTop (s : State) (off : Nat) (v : Word) : State :=
  if off = Reg.GLOBAL_PD_CTRL then s.pdCtrl v
  else if off = Reg.GLOBAL_FAULTS || off = Reg.OP_STATUS then s.w1c off v
  else if off = Reg.OP_CMD then s.opBegin v
  else s.plain off v

/-- What a write that reaches its register does, in every region. -/
def State.putWord (s : State) (off : Nat) (v : Word) : Out :=
  if (regAt off).isNone then .next s
  else match pairAt off with
    | some high => s.pairPut off v high
    | none => match regionOf off with
      | .global => .next (s.putTop off v)
      | .op => .next (s.putTop off v)
      | _ => s.putReg off v

/-- A write of a word of an MSI-X table (R83): word 3 has the mask bit alone, and what waits unmasked is sent. -/
def State.msixWrite (s : State) (pf1 : Bool) (k : Nat) (v : Word) : State :=
  let v := if k % 4 = 3 then v &&& 1 else v
  let h := s.host
  let h := if pf1 then { h with msix1 := h.msix1.set (msixReset k) k v } else { h with msix0 := h.msix0.set (msixReset k) k v }
  { s with host := h }.msixFlush pf1

/-- A write of BAR2 (R83): doorbells, and the MSI-X table at 0x8000. -/
def State.bar2Write (s : State) (pf1 : Bool) (off : Nat) (v : Word) : Out :=
  if 0x8000 ≤ off && off < 0x8400 then .next (s.msixWrite pf1 ((off - 0x8000) / 4) v)
  else if pf1 then
    let n : Fin 64 := Fin.ofNat 64 (off / 0x100)
    if 0x4000 ≤ off then .next s
    else if off % 0x100 = 0 then execCtxSqDoorbell n.val v s
    else if off % 0x100 = 4 then execCtxCqDoorbell n.val v s
    else .next s
  else if off = 0 then execMgmtDoorbell v s
  else if off = 4 then execEvtDoorbell v s
  else .next s

/-- What an aligned 32-bit write does: through PF1 BAR0 it is ignored (R39). An offset of 0x20000 and above is one of BAR2 (log entry 99). -/
def State.busWrite (s : State) (pf1 : Bool) (off : Nat) (value : Word) : Out :=
  if 0x20000 ≤ off then s.bar2Write pf1 (off - 0x20000) value
  else if pf1 then .next s
  else if off = Reg.GLOBAL_RESET_CMD then execGlobalResetCmd value s
  else match s.dropped off with
    | some t => .next t
    | none => s.putWord off value

/-- An access that R11 does not allow: of other than 32 bits, or not aligned. -/
def badAccess (off width : Nat) : Bool := width != 4 || off % 4 != 0

/-- REGISTER_WRITE (R11, R13, R114). -/
def execRegisterWrite (pf1 : Bool) (off width : Nat) (value : Word) (s : State) : Host.Outcome State Fault Refusal :=
  if badAccess off width then .next (s.hostError (if 0x20000 ≤ off && off < 0x28000 then 114 else 11)) else s.busWrite pf1 off value

/-- REG64_LOW_WRITE (R12): held, without effect by itself. -/
def execReg64LowWrite (pf1 : Bool) (off : Nat) (value : Word) (s : State) : Host.Outcome State Fault Refusal :=
  if badAccess off 4 then .next (s.hostError 11) else if pairAt off == some false then s.busWrite pf1 off value else .next s

/-- REG64_HIGH_WRITE (R12): the whole value takes effect, with the held low word or the current one. -/
def execReg64HighWrite (pf1 : Bool) (off : Nat) (value : Word) (s : State) : Host.Outcome State Fault Refusal :=
  if badAccess off 4 then .next (s.hostError 11) else if pairAt off == some true then s.busWrite pf1 off value else .next s

/-- The W1C bits of a register. -/
def w1cBits (off : Nat) : Word := match regAt off with | some (d, _, _) => d.w1c | none => 0

/-- The hardware sets W1C bits in the clock of a write: they read 1 afterwards (R13). LATE in SCHED_ESTAT is the entry's (R76). -/
def State.hwSet (s : State) (off : Nat) (hw : Word) : State :=
  if !s.regOn off then s
  else if off = Reg.SCHED_ESTAT then
    if bit hw 31 then let e := s.fld Reg.SCHED_INDEX 10 0; s.setSched e { s.schedOf e with late := true } else s
  else s.orW off (hw &&& w1cBits off)

/-- W1C_WRITE (R13). -/
def execW1cWrite (pf1 : Bool) (off : Nat) (value hwSets : Word) (s : State) : Host.Outcome State Fault Refusal :=
  if badAccess off 4 then .next (s.hostError 11)
  else if w1cBits off = 0 then .next s
  else andThen (s.busWrite pf1 off value) (fun t => .next (t.hwSet off hwSets))

/-- REG64_LOW_READ (R12): all 64 bits are latched for the function, and the low word is returned. -/
def execReg64LowRead (pf1 : Bool) (off : Nat) (s : State) : Host.Outcome State Fault Refusal :=
  if badAccess off 4 then .next (s.hostError 11)
  else if pairAt off != some false then .next s
  else if off = Reg.FAB_ZRX_TIME then execFabZrxTimeRead pf1 s
  else if 0x8400 ≤ off && off < 0x8600 && (off - 0x8400) % 0x20 = 8 then execCapTimeLoRead pf1 ((off - 0x8400) / 0x20) s
  else .next (s.reading pf1 off (fun s => (s.latch64 pf1 off (s.see64 off), s.see off)))

/-- The RC bits of a register. -/
def rcBits (off : Nat) : Word := match regAt off with | some (d, _, _) => d.rc | none => 0

/-- What an RC register holds once the hardware's event of the same clock is kept: counters add and saturate, CTX_SLACK_MIN keeps the least,
CYC_EXEC_MAX the greatest (log entry 99). -/
def rcKeep (off : Nat) (cur arrive : Word) : Word :=
  match regionOf off with
  | .ctx => if off % 0x100 = 0x1C then (if arrive.toNat < cur.toNat then arrive else cur) else satAdd cur arrive.toNat
  | .cycle => if 0x16100 ≤ off && off % 0x20 = 0x18 then (if cur.toNat < arrive.toNat then arrive else cur) else satAdd cur arrive.toNat
  | .timePos =>
    if 0x8200 ≤ off && off < 0x8400 then
      wd (min 65535 (bits cur 15 0 + bits arrive 15 0) + min 65535 (bits cur 31 16 + bits arrive 31 16) * 2 ^ 16)
    else satAdd cur arrive.toNat
  | _ => satAdd cur arrive.toNat

/-- A PF0 read of HL_HEALTH removes the oldest report; one that arrives in the same clock joins the queue. -/
def State.healthPop (s : State) (ch : Nat) (arrive : Word) : State :=
  let h := s.hlOf ch
  s.setHl ch { h with health := h.health.drop 1 ++ (if bit arrive 16 then [BitVec.ofNat 16 arrive.toNat] else []) }

/-- A PF0 read of an RC register clears it; an event of the same clock is kept (R13). -/
def State.rcTake (s : State) (off : Nat) (arrive : Word) : State × Word :=
  if regionOf off = .hlink && off % 0x100 = 0x64 then
    let ch := (off - 0x10000) / 0x100
    (s.healthPop ch arrive, s.see off)
  else (s.wr off (rcKeep off (resetWord off) arrive), s.see off)

/-- An event frame that arrives in the clock of a read of SB_EVT_RXCTL joins the queue (R13, R399): `arrive` tells its node and LEN as the
register shows them; its bytes are free (log entry 99). -/
def State.sbEvtArrive (s : State) (c : Nat) (arrive : Word) : State :=
  if !bit arrive 16 || !s.domOn 6 then s
  else
    let r := s.freeBytes (bits arrive 13 8)
    let b := r.2.sbOf c
    if b.evtRx.length < 16 then r.2.setSb c { b with evtRx := b.evtRx ++ [(bits arrive 5 0, r.1)] }
    else (r.2.bump Reg.SB_EVT_RX_LOST).orW Reg.SB_FAULTS 4

/-- RC_READ (R11, R13, R39): a read through the PF1 mirror does not clear. -/
def execRcRead (pf1 : Bool) (off width : Nat) (arrive : Word) (s : State) : Host.Outcome State Fault Refusal :=
  if badAccess off width then .next (s.hostError 11)
  else if rcBits off = 0 then .next s
  else if off = Reg.SB_EVT_RXCTL 0 then andThen (execSbEvtRxPop pf1 0 s) (fun t => .next (t.sbEvtArrive 0 arrive))
  else if off = Reg.SB_EVT_RXCTL 1 then andThen (execSbEvtRxPop pf1 1 s) (fun t => .next (t.sbEvtArrive 1 arrive))
  else .next (s.reading pf1 off (fun s =>
    if pf1 then (s.wr off (rcKeep off (s.rd off) arrive), s.see off) else s.rcTake off arrive))

end Sys2Proof.Machine
end

