-- ==== Sys2Proof/Machine/Dispatch.lean ====
section
/-!
DEFINITION. The command dispatch: one arm per row of the table of commands.
-/
namespace Sys2Proof.Machine

/-- What a command does to everything but the queue. -/
def exec (i : Instr) (s : State) : Host.Outcome State Fault Refusal :=
  match i with
  | .reg64LowRead pf1 off => Sys2Proof.Machine.execReg64LowRead pf1 off s
  | .reg64LowWrite pf1 off value => Sys2Proof.Machine.execReg64LowWrite pf1 off value s
  | .reg64HighWrite pf1 off value => Sys2Proof.Machine.execReg64HighWrite pf1 off value s
  | .registerWrite pf1 off width value => Sys2Proof.Machine.execRegisterWrite pf1 off width value s
  | .w1cWrite pf1 off value hwSets => Sys2Proof.Machine.execW1cWrite pf1 off value hwSets s
  | .rcRead pf1 off width arrive => Sys2Proof.Machine.execRcRead pf1 off width arrive s
  | .clkRefLost => Sys2Proof.Machine.execClkRefLost s
  | .clkRefRestored => Sys2Proof.Machine.execClkRefRestored s
  | .pllUnlock pll => Sys2Proof.Machine.execPllUnlock pll s
  | .pllRelock pll => Sys2Proof.Machine.execPllRelock pll s
  | .sysrefEdge sub => Sys2Proof.Machine.execSysrefEdge sub s
  | .encAbEdge enc a b run sub => Sys2Proof.Machine.execEncAbEdge enc a b run sub s
  | .encZEdge enc z run sub => Sys2Proof.Machine.execEncZEdge enc z run sub s
  | .prefEnable n value => Sys2Proof.Machine.execPrefEnable n value s
  | .prefResync n value => Sys2Proof.Machine.execPrefResync n value s
  | .prefStop n => Sys2Proof.Machine.execPrefStop n s
  | .prefInvalid n => Sys2Proof.Machine.execPrefInvalid n s
  | .prefSampleLoss n => Sys2Proof.Machine.execPrefSampleLoss n s
  | .prefSrcSwitch n => Sys2Proof.Machine.execPrefSrcSwitch n s
  | .frameBoundary ecc => Sys2Proof.Machine.execFrameBoundary ecc s
  | .tbIncrWrite value => Sys2Proof.Machine.execTbIncrWrite value s
  | .tbOffsetWrite value => Sys2Proof.Machine.execTbOffsetWrite value s
  | .timeSlewEnd => Sys2Proof.Machine.execTimeSlewEnd s
  | .tbArmWrite value => Sys2Proof.Machine.execTbArmWrite value s
  | .tbArmExpire => Sys2Proof.Machine.execTbArmExpire s
  | .schedWriteEntry => Sys2Proof.Machine.execSchedWriteEntry s
  | .schedReadEntry => Sys2Proof.Machine.execSchedReadEntry s
  | .schedClearEn => Sys2Proof.Machine.execSchedClearEn s
  | .schedEntryDue e => Sys2Proof.Machine.execSchedEntryDue e s
  | .gpioPulseEnd pin => Sys2Proof.Machine.execGpioPulseEnd pin s
  | .capEdge u src rising run sub => Sys2Proof.Machine.execCapEdge u src rising run sub s
  | .capTimeLoRead pf1 u => Sys2Proof.Machine.execCapTimeLoRead pf1 u s
  | .inhibitAssert => Sys2Proof.Machine.execInhibitAssert s
  | .inhibitRelease => Sys2Proof.Machine.execInhibitRelease s
  | .piResume value => Sys2Proof.Machine.execPiResume value s
  | .hostLinkUp speed width tag10 mps mrrs => Sys2Proof.Machine.execHostLinkUp speed width tag10 mps mrrs s
  | .hostLinkDown => Sys2Proof.Machine.execHostLinkDown s
  | .hostBmeOff pf1 => Sys2Proof.Machine.execHostBmeOff pf1 s
  | .hostPcieError kind addr target => Sys2Proof.Machine.execHostPcieError kind addr target s
  | .completionTimeout addr target => Sys2Proof.Machine.execCompletionTimeout addr target s
  | .mgmtDoorbell value => Sys2Proof.Machine.execMgmtDoorbell value s
  | .evtDoorbell value => Sys2Proof.Machine.execEvtDoorbell value s
  | .ctxSqDoorbell ctx value => Sys2Proof.Machine.execCtxSqDoorbell ctx value s
  | .ctxCqDoorbell ctx value => Sys2Proof.Machine.execCtxCqDoorbell ctx value s
  | .descNop ctx d => Sys2Proof.Machine.execDescNop ctx d s
  | .descPage ctx d => Sys2Proof.Machine.execDescPage ctx d s
  | .descTile ctx d => Sys2Proof.Machine.execDescTile ctx d s
  | .descBlank ctx d => Sys2Proof.Machine.execDescBlank ctx d s
  | .descTableLoad ctx d => Sys2Proof.Machine.execDescTableLoad ctx d s
  | .descMark ctx d => Sys2Proof.Machine.execDescMark ctx d s
  | .descInvalidOp ctx d => Sys2Proof.Machine.execDescInvalidOp ctx d s
  | .tableLoadCopyDone ctx data => Sys2Proof.Machine.execTableLoadCopyDone ctx data s
  | .cqModTimer ctx => Sys2Proof.Machine.execCqModTimer ctx s
  | .evtModTimer => Sys2Proof.Machine.execEvtModTimer s
  | .mgmtNop d => Sys2Proof.Machine.execMgmtNop d s
  | .mgmtInvalidOp d => Sys2Proof.Machine.execMgmtInvalidOp d s
  | .ctxArm d => Sys2Proof.Machine.execCtxArm d s
  | .ctxStart d => Sys2Proof.Machine.execCtxStart d s
  | .ctxDrain d => Sys2Proof.Machine.execCtxDrain d s
  | .ctxHalt d => Sys2Proof.Machine.execCtxHalt d s
  | .ctxReset d => Sys2Proof.Machine.execCtxReset d s
  | .mgmtSchedWrite d => Sys2Proof.Machine.execMgmtSchedWrite d s
  | .forceSet d => Sys2Proof.Machine.execForceSet d s
  | .forceClear d => Sys2Proof.Machine.execForceClear d s
  | .flrPf0 => Sys2Proof.Machine.execFlrPf0 s
  | .flrPf1 => Sys2Proof.Machine.execFlrPf1 s
  | .pf1D3ToD0 => Sys2Proof.Machine.execPf1D3ToD0 s
  | .opNvCommit value => Sys2Proof.Machine.execOpNvCommit value s
  | .opFabricRediscover value => Sys2Proof.Machine.execOpFabricRediscover value s
  | .opNozVerify value => Sys2Proof.Machine.execOpNozVerify value s
  | .opFactoryRestore value => Sys2Proof.Machine.execOpFactoryRestore value s
  | .opCaskExport value => Sys2Proof.Machine.execOpCaskExport value s
  | .opBadOp value => Sys2Proof.Machine.execOpBadOp value s
  | .opEnd image hostFault readbackOk => Sys2Proof.Machine.execOpEnd image hostFault readbackOk s
  | .ctxDrainDone ctx => Sys2Proof.Machine.execCtxDrainDone ctx s
  | .ctxHaltTake ctx => Sys2Proof.Machine.execCtxHaltTake ctx s
  | .bufScrub word flip => Sys2Proof.Machine.execBufScrub word flip s
  | .tileFetch ctx => Sys2Proof.Machine.execTileFetch ctx s
  | .lineScreen ch ecc => Sys2Proof.Machine.execLineScreen ch ecc s
  | .lineCompensate ch ecc => Sys2Proof.Machine.execLineCompensate ch ecc s
  | .nozSwitchRequest ch value => Sys2Proof.Machine.execNozSwitchRequest ch value s
  | .nozSwitchCancel ch value => Sys2Proof.Machine.execNozSwitchCancel ch value s
  | .nozPendingReady ch ecc => Sys2Proof.Machine.execNozPendingReady ch ecc s
  | .nozArmLoadDone ctx ecc => Sys2Proof.Machine.execNozArmLoadDone ctx ecc s
  | .hlEnable ch value => Sys2Proof.Machine.execHlEnable ch value s
  | .hlDisable ch value => Sys2Proof.Machine.execHlDisable ch value s
  | .hlTrainGo ch => Sys2Proof.Machine.execHlTrainGo ch s
  | .hlTrainCancel ch => Sys2Proof.Machine.execHlTrainCancel ch s
  | .hlBlockLock ch => Sys2Proof.Machine.execHlBlockLock ch s
  | .hlCapRx ch cap0 cap1 cap2 cap3 => Sys2Proof.Machine.execHlCapRx ch cap0 cap1 cap2 cap3 s
  | .hlCalRx ch seq r ht => Sys2Proof.Machine.execHlCalRx ch seq r ht s
  | .hlTrainTimeout ch => Sys2Proof.Machine.execHlTrainTimeout ch s
  | .hlLoadDone ch => Sys2Proof.Machine.execHlLoadDone ch s
  | .hlLockLost ch => Sys2Proof.Machine.execHlLockLost ch s
  | .hlNoReturn ch => Sys2Proof.Machine.execHlNoReturn ch s
  | .hlRetrainTimer ch => Sys2Proof.Machine.execHlRetrainTimer ch s
  | .hlReturnFrame ch blocks => Sys2Proof.Machine.execHlReturnFrame ch blocks s
  | .hlLatCheck ch r ht => Sys2Proof.Machine.execHlLatCheck ch r ht s
  | .hlWdataWrite ch value => Sys2Proof.Machine.execHlWdataWrite ch value s
  | .hlWaveArm ch value => Sys2Proof.Machine.execHlWaveArm ch value s
  | .hlWaveCancel ch value => Sys2Proof.Machine.execHlWaveCancel ch value s
  | .hlWaveClear ch value => Sys2Proof.Machine.execHlWaveClear ch value s
  | .fabBlockLock port => Sys2Proof.Machine.execFabBlockLock port s
  | .fabPortUp port link0 link1 => Sys2Proof.Machine.execFabPortUp port link0 link1 s
  | .fabPortDown port => Sys2Proof.Machine.execFabPortDown port s
  | .fabHelloRx port blocks => Sys2Proof.Machine.execFabHelloRx port blocks s
  | .fabBeaconRx port blocks => Sys2Proof.Machine.execFabBeaconRx port blocks s
  | .fabDiscReqRx port blocks => Sys2Proof.Machine.execFabDiscReqRx port blocks s
  | .fabRouteRx port blocks => Sys2Proof.Machine.execFabRouteRx port blocks s
  | .fabRouteAckRx port blocks => Sys2Proof.Machine.execFabRouteAckRx port blocks s
  | .fabDoneRx port blocks => Sys2Proof.Machine.execFabDoneRx port blocks s
  | .fabTopoChangeRx port blocks => Sys2Proof.Machine.execFabTopoChangeRx port blocks s
  | .fabSampleRx port blocks => Sys2Proof.Machine.execFabSampleRx port blocks s
  | .fabZedgeRx port blocks => Sys2Proof.Machine.execFabZedgeRx port blocks s
  | .fabSnapRx port blocks => Sys2Proof.Machine.execFabSnapRx port blocks s
  | .fabImageRx port blocks => Sys2Proof.Machine.execFabImageRx port blocks s
  | .fabHelloTimer => Sys2Proof.Machine.execFabHelloTimer s
  | .fabCoordElect => Sys2Proof.Machine.execFabCoordElect s
  | .fabRouteRepeat => Sys2Proof.Machine.execFabRouteRepeat s
  | .fabRouteSwitch => Sys2Proof.Machine.execFabRouteSwitch s
  | .fabDiscTimeout => Sys2Proof.Machine.execFabDiscTimeout s
  | .fabBeaconTimer => Sys2Proof.Machine.execFabBeaconTimer s
  | .fabCoordLost => Sys2Proof.Machine.execFabCoordLost s
  | .fabHoldExpire => Sys2Proof.Machine.execFabHoldExpire s
  | .fabSnapSend value => Sys2Proof.Machine.execFabSnapSend value s
  | .fabSnapRelease value => Sys2Proof.Machine.execFabSnapRelease value s
  | .fabSnapLatch => Sys2Proof.Machine.execFabSnapLatch s
  | .fabZrxTimeRead pf1 => Sys2Proof.Machine.execFabZrxTimeRead pf1 s
  | .twinHbSend => Sys2Proof.Machine.execTwinHbSend s
  | .twinHeartbeatRx port blocks => Sys2Proof.Machine.execTwinHeartbeatRx port blocks s
  | .twinCkptRx port blocks => Sys2Proof.Machine.execTwinCkptRx port blocks s
  | .twinCkptEndRx port blocks => Sys2Proof.Machine.execTwinCkptEndRx port blocks s
  | .twinSampleRx port blocks => Sys2Proof.Machine.execTwinSampleRx port blocks s
  | .twinSeqRx port blocks => Sys2Proof.Machine.execTwinSeqRx port blocks s
  | .twinCtxRx port blocks => Sys2Proof.Machine.execTwinCtxRx port blocks s
  | .twinEpochReplyRx port blocks => Sys2Proof.Machine.execTwinEpochReplyRx port blocks s
  | .twinSwapRx port blocks => Sys2Proof.Machine.execTwinSwapRx port blocks s
  | .twinHbLost => Sys2Proof.Machine.execTwinHbLost s
  | .twinHbDecide2 => Sys2Proof.Machine.execTwinHbDecide2 s
  | .twinTakeover => Sys2Proof.Machine.execTwinTakeover s
  | .twinPostResume phases => Sys2Proof.Machine.execTwinPostResume phases s
  | .twinStartWaitExpire => Sys2Proof.Machine.execTwinStartWaitExpire s
  | .twinSwapTimer => Sys2Proof.Machine.execTwinSwapTimer s
  | .twinSwapNow => Sys2Proof.Machine.execTwinSwapNow s
  | .twinSwapCancel => Sys2Proof.Machine.execTwinSwapCancel s
  | .twinSwapDeferred => Sys2Proof.Machine.execTwinSwapDeferred s
  | .cycLoad => Sys2Proof.Machine.execCycLoad s
  | .cycLoadDone headerFault header restFault rest => Sys2Proof.Machine.execCycLoadDone headerFault header restFault rest s
  | .cycStartCold => Sys2Proof.Machine.execCycStartCold s
  | .cycStartWarm => Sys2Proof.Machine.execCycStartWarm s
  | .cycStop => Sys2Proof.Machine.execCycStop s
  | .cycChange => Sys2Proof.Machine.execCycChange s
  | .cycDiscard => Sys2Proof.Machine.execCycDiscard s
  | .cycPeriodStart task => Sys2Proof.Machine.execCycPeriodStart task s
  | .cycLogicEnd task r => Sys2Proof.Machine.execCycLogicEnd task r s
  | .cycOutputWrite core => Sys2Proof.Machine.execCycOutputWrite core s
  | .cycWatchdog core => Sys2Proof.Machine.execCycWatchdog core s
  | .cycTrap core => Sys2Proof.Machine.execCycTrap core s
  | .cycEventTrigger task => Sys2Proof.Machine.execCycEventTrigger task s
  | .cycRetCopyDone => Sys2Proof.Machine.execCycRetCopyDone s
  | .kilnCmdWrite => Sys2Proof.Machine.execKilnCmdWrite s
  | .kilnCmdRead => Sys2Proof.Machine.execKilnCmdRead s
  | .kilnManual => Sys2Proof.Machine.execKilnManual s
  | .kilnAuto => Sys2Proof.Machine.execKilnAuto s
  | .kilnOff => Sys2Proof.Machine.execKilnOff s
  | .kilnTuneStart => Sys2Proof.Machine.execKilnTuneStart s
  | .kilnTuneCancel => Sys2Proof.Machine.execKilnTuneCancel s
  | .kilnEnable => Sys2Proof.Machine.execKilnEnable s
  | .kilnGroupStart g => Sys2Proof.Machine.execKilnGroupStart g s
  | .kilnOutputWrite g => Sys2Proof.Machine.execKilnOutputWrite g s
  | .kilnTuneTimeout => Sys2Proof.Machine.execKilnTuneTimeout s
  | .sbChEnable ch value => Sys2Proof.Machine.execSbChEnable ch value s
  | .sbListenEnd ch => Sys2Proof.Machine.execSbListenEnd ch s
  | .sbCycleStart ch => Sys2Proof.Machine.execSbCycleStart ch s
  | .sbSlotTx ch slot => Sys2Proof.Machine.execSbSlotTx ch slot s
  | .sbFrameRx ch slot groups arrival => Sys2Proof.Machine.execSbFrameRx ch slot groups arrival s
  | .sbEventFrameRx ch turn groups arrival => Sys2Proof.Machine.execSbEventFrameRx ch turn groups arrival s
  | .sbEvtSend ch value => Sys2Proof.Machine.execSbEvtSend ch value s
  | .sbEvtRxPop pf1 ch => Sys2Proof.Machine.execSbEvtRxPop pf1 ch s
  | .sbCorrection ch => Sys2Proof.Machine.execSbCorrection ch s
  | .sbBranchViolation ch branch kind => Sys2Proof.Machine.execSbBranchViolation ch branch kind s
  | .sbStarReopen ch value => Sys2Proof.Machine.execSbStarReopen ch value s
  | .sbStartCollision ch mask => Sys2Proof.Machine.execSbStartCollision ch mask s
  | .canTxbWrite n buf => Sys2Proof.Machine.execCanTxbWrite n buf s
  | .canTxbRead n buf => Sys2Proof.Machine.execCanTxbRead n buf s
  | .canTxbRequest n buf => Sys2Proof.Machine.execCanTxbRequest n buf s
  | .canTxbCancel n buf => Sys2Proof.Machine.execCanTxbCancel n buf s
  | .canFltWrite n => Sys2Proof.Machine.execCanFltWrite n s
  | .canFltRead n => Sys2Proof.Machine.execCanFltRead n s
  | .canRxqHeadRead pf1 n q => Sys2Proof.Machine.execCanRxqHeadRead pf1 n q s
  | .canRxqPop n q => Sys2Proof.Machine.execCanRxqPop n q s
  | .canModeWrite n value => Sys2Proof.Machine.execCanModeWrite n value s
  | .canIntegrated n => Sys2Proof.Machine.execCanIntegrated n s
  | .canFrameRx n f sof => Sys2Proof.Machine.execCanFrameRx n f sof s
  | .canTxSuccess n sof tdcv => Sys2Proof.Machine.execCanTxSuccess n sof tdcv s
  | .canArbLost n => Sys2Proof.Machine.execCanArbLost n s
  | .canError n kind dataPhase transmitting tec rec => Sys2Proof.Machine.execCanError n kind dataPhase transmitting tec rec s
  | .canRecover n => Sys2Proof.Machine.execCanRecover n s
  | .canBusOffRecovered n => Sys2Proof.Machine.execCanBusOffRecovered n s
  | .canProtocolException n id => Sys2Proof.Machine.execCanProtocolException n id s
  | .ethLinkUp m speed remote => Sys2Proof.Machine.execEthLinkUp m speed remote s
  | .ethLinkDown m => Sys2Proof.Machine.execEthLinkDown m s
  | .ethFrameRx m frame code t => Sys2Proof.Machine.execEthFrameRx m frame code t s
  | .ethFrameTx m frame mode t => Sys2Proof.Machine.execEthFrameTx m frame mode t s
  | .ethTxtsPop m => Sys2Proof.Machine.execEthTxtsPop m s
  | .ptpSyncRx theta delay => Sys2Proof.Machine.execPtpSyncRx theta delay s
  | .ptpHoldover => Sys2Proof.Machine.execPtpHoldover s
  | .ptpHoldExpire => Sys2Proof.Machine.execPtpHoldExpire s
  | .ptpMasterChange id => Sys2Proof.Machine.execPtpMasterChange id s
  | .ppsRise => Sys2Proof.Machine.execPpsRise s
  | .ppsFall => Sys2Proof.Machine.execPpsFall s
  | .safeStrobe ch1 ch2 => Sys2Proof.Machine.execSafeStrobe ch1 ch2 s
  | .safeDiscrepancyTimeout pair => Sys2Proof.Machine.execSafeDiscrepancyTimeout pair s
  | .safeEval readA readB clockOk => Sys2Proof.Machine.execSafeEval readA readB clockOk s
  | .safeEncEval => Sys2Proof.Machine.execSafeEncEval s
  | .safeResetPulse => Sys2Proof.Machine.execSafeResetPulse s
  | .safeSs1Expire g => Sys2Proof.Machine.execSafeSs1Expire g s
  | .safeTestPulse pair halfB readLow => Sys2Proof.Machine.execSafeTestPulse pair halfB readLow s
  | .safeBgTest pass => Sys2Proof.Machine.execSafeBgTest pass s
  | .pd2PowerOn => Sys2Proof.Machine.execPd2PowerOn s
  | .safeSelftestDone testsPass => Sys2Proof.Machine.execSafeSelftestDone testsPass s
  | .safeMbxLoadBegin => Sys2Proof.Machine.execSafeMbxLoadBegin s
  | .safeMbxLoadWrite => Sys2Proof.Machine.execSafeMbxLoadWrite s
  | .safeMbxLoadEnd => Sys2Proof.Machine.execSafeMbxLoadEnd s
  | .safeMbxConfirm => Sys2Proof.Machine.execSafeMbxConfirm s
  | .safeCommitDone readbackOk => Sys2Proof.Machine.execSafeCommitDone readbackOk s
  | .safeMbxReadActive => Sys2Proof.Machine.execSafeMbxReadActive s
  | .safeMbxDiscard => Sys2Proof.Machine.execSafeMbxDiscard s
  | .safeMbxBadCmd value => Sys2Proof.Machine.execSafeMbxBadCmd value s
  | .loopConvStart n => Sys2Proof.Machine.execLoopConvStart n s
  | .loopConvDone n current headroom => Sys2Proof.Machine.execLoopConvDone n current headroom s
  | .loopTrimPress sel up dn => Sys2Proof.Machine.execLoopTrimPress sel up dn s
  | .loopTrimRepeat => Sys2Proof.Machine.execLoopTrimRepeat s
  | .loopTrimRelease => Sys2Proof.Machine.execLoopTrimRelease s
  | .loopPgateFall n => Sys2Proof.Machine.execLoopPgateFall n s
  | .caskFlush => Sys2Proof.Machine.execCaskFlush s
  | .caskFlushTimer => Sys2Proof.Machine.execCaskFlushTimer s
  | .caskCmdFlush => Sys2Proof.Machine.execCaskCmdFlush s
  | .caskCmdNonce => Sys2Proof.Machine.execCaskCmdNonce s
  | .caskNonceExpire => Sys2Proof.Machine.execCaskNonceExpire s
  | .caskCmdClear => Sys2Proof.Machine.execCaskCmdClear s
  | .caskClearDone => Sys2Proof.Machine.execCaskClearDone s
  | .caskCmdRead => Sys2Proof.Machine.execCaskCmdRead s
  | .caskTokenGain bucket => Sys2Proof.Machine.execCaskTokenGain bucket s
  | .caskSuppressed => Sys2Proof.Machine.execCaskSuppressed s
  | .caskBktWrite bucket value => Sys2Proof.Machine.execCaskBktWrite bucket value s
  | .caskFreezeWrite value => Sys2Proof.Machine.execCaskFreezeWrite value s
  | .caskFreezeInForce => Sys2Proof.Machine.execCaskFreezeInForce s
  | .caskFreezeTimeout => Sys2Proof.Machine.execCaskFreezeTimeout s
  | .secFwStage => Sys2Proof.Machine.execSecFwStage s
  | .fwStageDone image hostFault readbackOk => Sys2Proof.Machine.execFwStageDone image hostFault readbackOk s
  | .secSvnCommit => Sys2Proof.Machine.execSecSvnCommit s
  | .secNonce => Sys2Proof.Machine.execSecNonce s
  | .secNonceExpire => Sys2Proof.Machine.execSecNonceExpire s
  | .secEnrol => Sys2Proof.Machine.execSecEnrol s
  | .secQuote => Sys2Proof.Machine.execSecQuote s
  | .pd0PowerOn => Sys2Proof.Machine.execPd0PowerOn s
  | .resetPin => Sys2Proof.Machine.execResetPin s
  | .pwrgdLow => Sys2Proof.Machine.execPwrgdLow s
  | .pwrgdRise => Sys2Proof.Machine.execPwrgdRise s
  | .perstAssert => Sys2Proof.Machine.execPerstAssert s
  | .globalResetCmd value => Sys2Proof.Machine.execGlobalResetCmd value s
  | .mgmtWatchdog => Sys2Proof.Machine.execMgmtWatchdog s
  | .globalPdCtrlWrite value => Sys2Proof.Machine.execGlobalPdCtrlWrite value s
  | .pdOn d => Sys2Proof.Machine.execPdOn d s
  | .pdOff d => Sys2Proof.Machine.execPdOff d s
  | .pfailAssert => Sys2Proof.Machine.execPfailAssert s
  | .pfailDeassert => Sys2Proof.Machine.execPfailDeassert s
  | .startS1 twinSel inhibitLow => Sys2Proof.Machine.execStartS1 twinSel inhibitLow s
  | .startS2 => Sys2Proof.Machine.execStartS2 s
  | .startS3 => Sys2Proof.Machine.execStartS3 s
  | .startS4 => Sys2Proof.Machine.execStartS4 s
  | .startS5 => Sys2Proof.Machine.execStartS5 s
  | .startS6 => Sys2Proof.Machine.execStartS6 s
  | .startS7 => Sys2Proof.Machine.execStartS7 s
  | .tjUpdate t => Sys2Proof.Machine.execTjUpdate t s
  | .tileCopyDone ctx data => Sys2Proof.Machine.execTileCopyDone ctx data s
  | .printInhibitRise => Sys2Proof.Machine.execPrintInhibitRise s
  | .markSourceEdge pin => Sys2Proof.Machine.execMarkSourceEdge pin s
  | .loopPgateRise n => Sys2Proof.Machine.execLoopPgateRise n s
  | .sbAbortRx ch => Sys2Proof.Machine.execSbAbortRx ch s
  | .safeSupplyLoss => Sys2Proof.Machine.execSafeSupplyLoss s
  | .powerLoss torn => Sys2Proof.Machine.execPowerLoss torn s
  | .safeEncTransition enc a b short => Sys2Proof.Machine.execSafeEncTransition enc a b short s
  | .fabCreditRx port block => Sys2Proof.Machine.execFabCreditRx port block s

end Sys2Proof.Machine
end

