-- ==== Sys2Proof/Safety.lean ====
section
/-!
DEFINITION. What a safe run is: no host error has been made on it, and the invariants that every state of the part is to have.
-/
namespace Sys2Proof.Machine

/-- A step from a state goes on: it leads to a state in which no host error is in force. -/
def State.goesOn (s : State) : Bool := match step s with | .next t => t.upset.isNone | _ => false

/-- `k` steps from a state, and where they lead. -/
def State.run (s : State) : Nat → Option State
  | 0 => some s
  | k + 1 => match step s with | .next t => t.run k | _ => none

/-- A run of `k` steps is safe when every one of them goes on. -/
def State.safeRun (s : State) (k : Nat) : Bool := (List.range k).all (fun n => ((s.run n).map State.goesOn).getD false)

/-! What counts as a packet of the fabric that reaches this device. -/

/-- The state once a port has taken a packet: room made in the TC0 buffer, or its credits returned (R275, R280); a broadcast is noted in its window,
goes on, and holds its TC0 room until it has left (R287, R288). -/
def State.arrives (s : State) (k : Nat) (q : Packet) : State :=
  let r := if q.tc = 0 then (s.tc0Fits k q).1 else s.giveCredit k q
  if q.dest = 255 then
    let v := ((r.newSeq q).getD r).forward q k
    if q.tc = 0 then v.tc0Hold k q else v
  else r

/-- Blocks on a port spell a packet that is handed to this device: the port is up, the packet is whole, its CRC holds and it fits, its TYPE belongs to
its class, the device takes part in the fabric, and the packet is for its address, or is a broadcast that has not come before (R278 to
R280, R286, R288). -/
def State.handsOver (s : State) (k : Nat) (bs : List Block) (q : Packet) (typ : Nat) : Bool :=
  let r := if q.tc = 0 then (s.tc0Fits k q).1 else s.giveCredit k q
  s.portUp k && packetOf bs == some q && !q.bad && decide (q.typ.toNat = typ) && typeOk typ q.tc.toNat && s.fabOn && (s.fab.addr != 0 || q.tc == 3) &&
    (if q.tc = 0 then (s.tc0Fits k q).2 else true) &&
    (if q.dest = 255 then (r.newSeq q).isSome else q.dest.toNat == s.fab.addr)

/-- A message of the twin path is handed over and is from the partner, with the epoch in force: it acts on the state it arrives in (R301,
R304, R306). -/
def State.twinHands (s : State) (k : Nat) (bs : List Block) (q : Packet) (kind : Nat) : Bool :=
  s.handsOver k bs q 0x20 && twinKind q == kind && q.src.toNat == (s.arrives k q).twin.partnerAddr &&
    (s.arrives k q).flag Reg.TWIN_CFG 0 && hi32 (pktBlock q 0) == (s.arrives k q).twin.epoch &&
    ((s.arrives k q).twin.role != .off || ((s.arrives k q).twin.startWait.isSome && kind == 1))

/-! Which commands act on the island, and what fuses are. -/

/-- A write of the island's mailbox command register, which acts as the mailbox rows do (R483). -/
def mailboxWrite : Instr → Bool
  | .safeMbxLoadBegin | .safeMbxLoadWrite | .safeMbxLoadEnd | .safeMbxConfirm | .safeMbxReadActive | .safeMbxDiscard | .safeMbxBadCmd _ => true
  | .registerWrite _ off width _ => off == Reg.SAFE_MBX_CMD && width == 4
  | _ => false

/-- An event of the island's own: its samples, clocks, pulses, tests and supply (R456 to R479). -/
def islandEvent : Instr → Bool
  | .safeStrobe _ _ | .safeDiscrepancyTimeout _ | .safeEval _ _ _ | .safeEncTransition _ _ _ _ | .safeEncEval | .safeResetPulse
  | .safeSs1Expire _ | .safeTestPulse _ _ _ | .safeBgTest _ | .pd2PowerOn | .safeSupplyLoss | .safeSelftestDone _ | .safeCommitDone _ => true
  | _ => false

/-- Nothing that one trust state has in its fuses is missing in another: SVN_MIN, the POLICY bits, and each owner slot's ENROLLED and REVOKED
(R535, R536). -/
def Sec.fusesWithin (x y : Sec) : Prop :=
  x.svnMin ≤ y.svnMin ∧ (x.reqFw = true → y.reqFw = true) ∧ (x.reqNv = true → y.reqNv = true) ∧
  ∀ n, ((x.owner.get {} n).enrolled = true → (y.owner.get {} n).enrolled = true) ∧ ((x.owner.get {} n).revoked = true → (y.owner.get {} n).revoked = true)

end Sys2Proof.Machine
end

