-- ==== Sys2Proof/Certificates/Slice0/Obligations.lean ====
section
/-!
DEFINITION. The statements about the part: what one step does, what every command does where it has its own effect, and what every step
keeps. A statement about a command's completion has for its hypotheses conditions on the state and the operands alone. A write's
hypothesis `s.dropped off = none` says that it reaches its register: start-up is over, no long operation runs and the register's domain
is on (R40, R107, R551). An equation `t = { s with … }` says that the fields it names are all that may differ between s and t.
-/
open Sys2Proof Sys2Proof.Machine

/-- A step with a command at the front of the queue is that command run on the state with the queue's rest (the block form of the model,
NOTES.md). -/
def Obligations.StepRunsTheFrontCommand : Prop :=
  ∀ (c : Instr) (r : List Instr) (s : State), step { s with pending := c :: r } = exec c { s with pending := r }

/-- With no command waiting one tick of the 1 GHz time-base clock passes, and while no host error is in force nothing but the time base changes:
COUNT is one more (R59), and S falls by SLEW_PPM parts per million of an increment, but not below 0 (R64). That the idle step is one tick, and
that the state after a host error is disturbed anew at each, is the model's choice (log entries 1 and 10). -/
def Obligations.EmptyQueueLetsOneTickPass : Prop :=
  (∀ s : State, s.pending = [] → s.upset = none →
    step s = .next { s with tb := { s.tb with count := s.tb.count + 1,
                                              slew := s.tb.slew - s.tb.incr.toNat * s.fld Reg.TB_SLEW 8 0 } }) ∧
  (∀ (s : State) (n : Nat), s.pending = [] → s.upset = some n →
    step s = .next ({ s with tb := { s.tb with count := s.tb.count + 1,
                                               slew := s.tb.slew - s.tb.incr.toNat * s.fld Reg.TB_SLEW 8 0 } } : State).disturb)

/-- What the PD0 power-on reset leaves: every register its reset value, no command waiting, every context IDLE, every link OFF, the cycle
engine STOPPED, no twin role, and PD0 to PD2 alone on. The register values named are those of the register maps. -/
def Obligations.ResetLeavesEveryPartAtRest : Prop :=
  (∀ off, State.reset.rd off = resetWord off) ∧ State.reset.rd Reg.HOST_RD_CTRL = 0x500 ∧
  (∀ n, 1 ≤ n → n ≤ 63 → State.reset.rd (Reg.HOST_RING_CTRL n) = 0x18C) ∧ State.reset.pending = [] ∧
  (∀ n, (State.reset.ctxOf n).state = .idle) ∧ (∀ ch, (State.reset.hlOf ch).state = .off) ∧
  State.reset.cyc.state = .stopped ∧ State.reset.twin.role = .off ∧ State.reset.power.on = 0x07 ∧ State.reset.out = []

/-- REG64_LOW_READ, CAP_TIME_LO_READ and FAB_ZRX_TIME_READ (R12, R39, R71, R284): a read of a low word that reaches its register latches all 64 bits for
the function it came through and returns the low word; a PF0 read of CAP_TIME_LO also latches the position of the pair, and clears VALID,
and a PF0 read of FAB_ZRX_TIME_LO clears the VALID of FAB_ZRX_STATUS. One that does not reach its register (`readMiss`: R39, R40, R107, R533)
returns the word that says so, and changes nothing.
REG64_LOW_WRITE and REG64_HIGH_WRITE (R12): a low-word write that reaches its register is held, has no effect by itself, and replaces
what was held; a high-word write empties the holding word, and the base of the event ring takes the whole value, or the new high word with its
current low word when nothing is held; its bits 11:0 are reserved and read 0 (R117). -/
def Obligations.SixtyFourBitRegistersKeepTheirHalves : Prop :=
  (∀ (s : State) (pf1 : Bool) (off : Nat), pairAt off = some false → off ≠ Reg.FAB_ZRX_TIME → (∀ u : Fin 16, off ≠ Reg.CAP_TIME u) →
    off % 4 = 0 → s.readable = true → s.readMiss pf1 off = none →
    exec (.reg64LowRead pf1 off) s = .next ((s.latch64 pf1 off (s.see64 off)).emit (.readData pf1 off (s.see off)))) ∧
  (∀ (s : State) (u : Fin 16), s.readable = true → s.readMiss false (Reg.CAP_TIME u) = none →
    ∃ t, exec (.capTimeLoRead false u) s = .next t ∧ t = { s with pos := t.pos, latch := t.latch, out := t.out } ∧
      t.out = .readData false (Reg.CAP_TIME u) (lo32 (s.capOf u).time) :: s.out ∧
      t.latch.get none (2 * Reg.CAP_TIME u) = some (s.capOf u).time ∧
      (t.capOf u).rpos = (s.capOf u).pos ∧ (t.capOf u).valid = false ∧ (t.capOf u).pos = (s.capOf u).pos ∧ (∀ k, k ≠ u.val → t.capOf k = s.capOf k)) ∧
  (∀ (s : State) (u : Fin 16), s.readable = true → s.readMiss true (Reg.CAP_TIME u) = none →
    exec (.capTimeLoRead true u) s =
      .next ((s.latch64 true (Reg.CAP_TIME u) (s.capOf u).time).emit (.readData true (Reg.CAP_TIME u) (lo32 (s.capOf u).time)))) ∧
  (∀ s : State, s.readable = true → s.readMiss false Reg.FAB_ZRX_TIME = none →
    exec (.fabZrxTimeRead false) s = .next (((s.latch64 false Reg.FAB_ZRX_TIME (s.rd64 Reg.FAB_ZRX_TIME)).setF Reg.FAB_ZRX_STATUS 0 0 0).emit
      (.readData false Reg.FAB_ZRX_TIME (s.rd Reg.FAB_ZRX_TIME)))) ∧
  (∀ (s : State) (pf1 : Bool) (off : Nat) (w : Word), pairAt off = some false → off % 4 = 0 → s.readable = true → s.readMiss pf1 off = some w →
    exec (.reg64LowRead pf1 off) s = .next (s.emit (.readData pf1 off w))) ∧
  (∀ (s : State) (off : Nat) (v : Word), off < 0x20000 → off % 4 = 0 → pairAt off = some false → s.dropped off = none →
    exec (.reg64LowWrite false off v) s = .next { s with hold := s.hold.set none off (some v) }) ∧
  (∀ (s : State) (v low : Word), s.dropped (Reg.HOST_EVT_BASE + 4) = none → s.flag Reg.HOST_EVT_CTRL 0 = false →
    s.hold.get none Reg.HOST_EVT_BASE = some low →
    ∃ t, exec (.reg64HighWrite false (Reg.HOST_EVT_BASE + 4) v) s = .next t ∧ t = { s with regs := t.regs, hold := t.hold } ∧
      t.rd64 Reg.HOST_EVT_BASE = dw low v &&& 0xFFFFFFFFFFFFF000 ∧ t.hold.get none Reg.HOST_EVT_BASE = none ∧
      (∀ a, a ≠ Reg.HOST_EVT_BASE → a ≠ Reg.HOST_EVT_BASE + 4 → t.rd a = s.rd a)) ∧
  (∀ (s : State) (v : Word), s.dropped (Reg.HOST_EVT_BASE + 4) = none → s.flag Reg.HOST_EVT_CTRL 0 = false →
    s.hold.get none Reg.HOST_EVT_BASE = none →
    ∃ t, exec (.reg64HighWrite false (Reg.HOST_EVT_BASE + 4) v) s = .next t ∧ t = { s with regs := t.regs, hold := t.hold } ∧
      t.rd64 Reg.HOST_EVT_BASE = dw (s.see Reg.HOST_EVT_BASE) v &&& 0xFFFFFFFFFFFFF000)

/-- REGISTER_WRITE (R11, R13, R39, R40, R107, R120, R551): a 32-bit write that reaches an RW register stores it; a context's slack
hysteresis is locked while the context is not IDLE, and the attempt sets CTX_FAULTS.CFG_LOCKED. A write through BAR0 of PF1, and one to a domain
that is off, changes nothing; one before start-up has ended, and one during a long operation, is counted and does nothing else. An access of another
width, or one that is not aligned, is a host error.
W1C_WRITE (R13): a 1 clears its bit, a 0 leaves it, and a bit that the hardware sets in the same clock reads 1 afterwards.
RC_READ (R13, R39, R272): a PF0 read of HOST_EVT_LOST returns it and leaves what the hardware counts in the same clock; a read through
the mirror of PF1 returns it and clears nothing; a PF0 read of HL_HEALTH removes the oldest report. -/
def Obligations.RegisterAccessesFollowTheirCodes : Prop :=
  (∀ (s : State) (k : Nat) (v : Word), k < 8 → s.dropped (Reg.HOST_EVT_MASK k) = none →
    exec (.registerWrite false (Reg.HOST_EVT_MASK k) 4 v) s = .next (s.wr (Reg.HOST_EVT_MASK k) v)) ∧
  (∀ (s : State) (n : Nat) (v : Word), 1 ≤ n → n ≤ 63 → s.dropped (Reg.CTX_SLACK_HYST n) = none →
    exec (.registerWrite false (Reg.CTX_SLACK_HYST n) 4 v) s =
      .next (if (s.ctxOf n).state = .idle then s.wr (Reg.CTX_SLACK_HYST n) v else s.setF (Reg.CTX_FAULTS n) 0 0 1)) ∧
  (∀ (s : State) (off : Nat) (v : Word), off < 0x20000 → off % 4 = 0 → exec (.registerWrite true off 4 v) s = .next s) ∧
  (∀ (s : State) (off : Nat) (v : Word), off < 0x20000 → off % 4 = 0 → off ≠ Reg.GLOBAL_RESET_CMD → s.power.ready = false →
    s.power.recovery = false → exec (.registerWrite false off 4 v) s = .next (s.bump Reg.GLOBAL_EARLY_WR)) ∧
  (∀ (s : State) (off : Nat) (v : Word), off < 0x20000 → off % 4 = 0 → off ≠ Reg.GLOBAL_RESET_CMD → s.power.ready = true →
    s.host.op.isSome = true → exec (.registerWrite false off 4 v) s = .next (s.bump Reg.OP_DROPPED)) ∧
  (∀ (s : State) (off : Nat) (v : Word), off < 0x20000 → off % 4 = 0 → off ≠ Reg.GLOBAL_RESET_CMD → s.power.ready = true → s.host.op = none →
    s.regOn off = false → exec (.registerWrite false off 4 v) s = .next s) ∧
  (∀ (s : State) (pf1 : Bool) (off width : Nat) (v : Word), off < 0x20000 → (width ≠ 4 ∨ off % 4 ≠ 0) →
    exec (.registerWrite pf1 off width v) s = .next (s.hostError 11)) ∧
  (∀ (s : State) (n : Nat) (v hw : Word), 1 ≤ n → n ≤ 63 → s.dropped (Reg.CTX_FAULTS n) = none →
    ∃ t, exec (.w1cWrite false (Reg.CTX_FAULTS n) v hw) s = .next t ∧ t = { s with regs := t.regs } ∧
      (∀ a, a ≠ Reg.CTX_FAULTS n → t.rd a = s.rd a) ∧
      t.rd (Reg.CTX_FAULTS n) = (s.rd (Reg.CTX_FAULTS n) &&& ~~~(v &&& w1cBits (Reg.CTX_FAULTS n))) ||| (hw &&& w1cBits (Reg.CTX_FAULTS n))) ∧
  (∀ (s : State) (arrive : Word), s.readable = true → s.readMiss false Reg.HOST_EVT_LOST = none →
    exec (.rcRead false Reg.HOST_EVT_LOST 4 arrive) s =
      .next ((s.wr Reg.HOST_EVT_LOST arrive).emit (.readData false Reg.HOST_EVT_LOST (s.rd Reg.HOST_EVT_LOST)))) ∧
  (∀ (s : State) (arrive : Word), s.readable = true → s.readMiss true Reg.HOST_EVT_LOST = none →
    exec (.rcRead true Reg.HOST_EVT_LOST 4 arrive) s =
      .next ((s.wr Reg.HOST_EVT_LOST (satAdd (s.rd Reg.HOST_EVT_LOST) arrive.toNat)).emit
        (.readData true Reg.HOST_EVT_LOST (s.rd Reg.HOST_EVT_LOST)))) ∧
  (∀ (s : State) (ch : Nat), ch < 64 → s.readable = true → s.readMiss false (Reg.HL_HEALTH ch) = none →
    ∃ t, exec (.rcRead false (Reg.HL_HEALTH ch) 4 0) s = .next t ∧ t = { s with hl := t.hl, out := t.out } ∧
      t.out = .readData false (Reg.HL_HEALTH ch) (match (s.hlOf ch).health with | [] => 0 | r :: _ => wd (r.toNat + 65536)) :: s.out ∧
      (t.hlOf ch).health = (s.hlOf ch).health.drop 1 ∧ (∀ k, k ≠ ch → t.hlOf k = s.hlOf k))

/-- CLK_REF_LOST, CLK_REF_RESTORED, PLL_UNLOCK and PLL_RELOCK (R35): the loss of the reference puts the time base into holdover, sends kill
symbols and halts the active contexts, and is reported; the return ends the holdover, halts nothing and is reported; a PLL that loses lock is reported
and stays noted as without lock until lock returns, and the dot PLL stops printing like the loss of the reference. When the management PLL locks
again the rings post what waited (the model's choice: log entry 107).
SYSREF_EDGE (R33): the first edge before head-link training aligns the grid; a later one that lies more than one dot-clock cycle (five sixths of a
ns, R32) from its frame boundary raises SYSREF_SLIP, and the grid is then realigned at the next edge that comes while no context is active. -/
def Obligations.ClocksStopPrintingAndSysrefAligns : Prop :=
  (∀ s : State, s.power.refLost = false → exec .clkRefLost s =
    .next (({ s with tb := { s.tb with holdover := true }, power := { s.power with refLost := true } } : State).clockStop.raise 0x0101 0 [])) ∧
  (∀ s : State, s.clockStop = s.killAll.haltNow s.ctxNums 7) ∧
  (∀ s : State, s.power.refLost = true → exec .clkRefRestored s =
    .next (({ s with tb := { s.tb with holdover := false }, power := { s.power with refLost := false } } : State).raise 0x0102 0 [])) ∧
  (∀ (s : State) (p : Pll), s.pllLost p = false → s.domOn (pllDom p) = true → p ≠ .dot → exec (.pllUnlock p) s =
    .next (({ s with pos := { s.pos with unlocked := p :: s.pos.unlocked } } : State).raise 0x0104 0 [wd (pllCode p)])) ∧
  (∀ (s t : State), s.pllLost .dot = false → s.domOn (pllDom .dot) = true → t = s.clockStop.each (List.range 64) State.hlCut →
    exec (.pllUnlock .dot) s =
      .next (({ t with pos := { t.pos with dotStop := t.count, unlocked := .dot :: t.pos.unlocked } } : State).raise 0x0104 0 [wd (pllCode .dot)])) ∧
  (∀ (s : State) (p : Pll), ∃ t : State, t.pllLost p = false ∧ (∀ q, q ≠ p → t.pllLost q = s.pllLost q) ∧
    t = { s with pos := { s.pos with unlocked := t.pos.unlocked } } ∧ (p ≠ .management → exec (.pllRelock p) s = .next t) ∧
    (p = .management → exec (.pllRelock p) s = .next (t.evtRecover.each t.ctxNums (fun s n => s.cqDrain n 34)))) ∧
  (∀ (s : State) (d : Fin 6), s.pos.frame.aligned = false → s.power.phase < 6 →
    exec (.sysrefEdge d) s = .next (s.alignGrid d.val) ∧ (s.alignGrid d.val).pos.frame.aligned = true) ∧
  (∀ (s : State) (d : Fin 6), (s.pos.frame.aligned = true ∨ 6 ≤ s.power.phase) → s.pos.frame.realign = false → (s.sysrefDev d.val).natAbs ≤ 5 →
    exec (.sysrefEdge d) s = .next { s with pos := { s.pos with frame := { s.pos.frame with realign := false } } }) ∧
  (∀ (s : State) (d : Fin 6), (s.pos.frame.aligned = true ∨ 6 ≤ s.power.phase) → s.pos.frame.realign = false → 5 < (s.sysrefDev d.val).natAbs →
    exec (.sysrefEdge d) s = .next { s.raise 0x0103 0 [wi ((s.sysrefDev d.val).tdiv 5)] with
      pos := { s.pos with frame := { s.pos.frame with realign := s.noneActive } } }) ∧
  (∀ (s : State) (d : Fin 6), (s.pos.frame.aligned = true ∨ 6 ≤ s.power.phase) → s.pos.frame.realign = true → s.noneActive = true →
    ((s.sysrefDev d.val).natAbs ≤ 5 → exec (.sysrefEdge d) s = .next (s.alignGrid d.val)) ∧
    (5 < (s.sysrefDev d.val).natAbs →
      exec (.sysrefEdge d) s = .next ((s.raise 0x0103 0 [wi ((s.sysrefDev d.val).tdiv 5)]).alignGrid d.val)))

/-- ENC_AB_EDGE and ENC_Z_EDGE (R41, R42, R43): levels that have stood for no more than FILT samples, or that are the accepted ones, do nothing; one
edge of A or B counts up when A leads and down when B leads, and every PREF on the encoder takes it with the time-base count of the tick of the
run's first sample; both at once leave the count, add to the illegal transitions and raise ENC_ILLEGAL, and are a source fault of those PREFs; a
rise of Z latches the count, and none counts while ZGATE is 1 and A or B is low; with ZCHK it is checked against ENC_ZCOUNT. -/
def Obligations.EncoderEdgesCount : Prop :=
  (∀ (s : State) (e : Fin 8) (a b : Bool) (run : Nat) (sub : Fin 6), run ≤ s.fld (Reg.ENC_CTRL e.val) 3 0 →
    exec (.encAbEdge e a b run sub) s = .next s ∧ exec (.encZEdge e a run sub) s = .next s) ∧
  (∀ (s : State) (e : Fin 8) (run : Nat) (sub : Fin 6),
    exec (.encAbEdge e (s.encOf e.val).a (s.encOf e.val).b run sub) s = .next s ∧ exec (.encZEdge e (s.encOf e.val).z run sub) s = .next s) ∧
  (∀ (s : State) (e : Fin 8) (a b up : Bool) (run : Nat) (sub : Fin 6), s.dotRuns = true → s.fld (Reg.ENC_CTRL e.val) 3 0 < run →
    ((s.encOf e.val).a != a) ≠ ((s.encOf e.val).b != b) →
    up = decide ((quadPos (s.encOf e.val).a (s.encOf e.val).b + 1) % 4 = quadPos a b) →
    exec (.encAbEdge e a b run sub) s = .next ((s.setEnc e.val { s.encOf e.val with
        a := a, b := b, count := if up then (s.encOf e.val).count + 1 else (s.encOf e.val).count - 1,
        movedUp := (s.encOf e.val).movedUp || up, movedDn := (s.encOf e.val).movedDn || !up }).each
      (s.prefsOn e.val) (fun s n => s.prefEdge n up (BitVec.ofInt 64 (((s.count.toNat : Int) * 6 + sub.val - 5 * ((run : Int) - 1)).fdiv 6))))) ∧
  (∀ (s : State) (e : Fin 8) (a b : Bool) (run : Nat) (sub : Fin 6), s.dotRuns = true → s.fld (Reg.ENC_CTRL e.val) 3 0 < run →
    (s.encOf e.val).a ≠ a → (s.encOf e.val).b ≠ b →
    ∃ u : State, exec (.encAbEdge e a b run sub) s = .next ((u.raise 0x0201 0 [wd e.val, (s.encOf e.val).count]).each
        (s.prefsOn e.val) (fun s n => s.sourceFault n (some e.val))) ∧
      u = { s with pos := u.pos, regs := u.regs } ∧ u.encOf e.val = { s.encOf e.val with a := a, b := b } ∧
      u.fld (Reg.ENC_ERR e.val) 15 0 = min 65535 (s.fld (Reg.ENC_ERR e.val) 15 0 + 1) ∧
      (∀ a, a ≠ Reg.ENC_ERR e.val → u.rd a = s.rd a)) ∧
  (∀ (s : State) (e : Fin 8) (run : Nat) (sub : Fin 6), s.dotRuns = true → s.fld (Reg.ENC_CTRL e.val) 3 0 < run →
    (s.encOf e.val).z = true → exec (.encZEdge e false run sub) s = .next (s.setEnc e.val { s.encOf e.val with z := false })) ∧
  (∀ (s : State) (e : Fin 8) (run : Nat) (sub : Fin 6), s.dotRuns = true → s.fld (Reg.ENC_CTRL e.val) 3 0 < run → (s.encOf e.val).z = false →
    bit (s.rd (Reg.ENC_CTRL e.val)) 4 = true → ((s.encOf e.val).a && (s.encOf e.val).b) = false →
    (∀ k ∈ s.ctxNums, s.fld (Reg.CTX_CFG k) 20 16 ≠ e.val + 1) →
    exec (.encZEdge e true run sub) s = .next (s.setEnc e.val { s.encOf e.val with z := true })) ∧
  (∀ (s : State) (e : Fin 8) (run : Nat) (sub : Fin 6), s.dotRuns = true → s.fld (Reg.ENC_CTRL e.val) 3 0 < run → (s.encOf e.val).z = false →
    (∀ k ∈ s.ctxNums, s.fld (Reg.CTX_CFG k) 20 16 ≠ e.val + 1) →
    (bit (s.rd (Reg.ENC_CTRL e.val)) 4 = true → (s.encOf e.val).a = true ∧ (s.encOf e.val).b = true) →
    bit (s.rd (Reg.ENC_CTRL e.val)) 5 = false → bit (s.rd (Reg.ENC_CTRL e.val)) 6 = false →
    ∃ t, exec (.encZEdge e true run sub) s = .next t ∧ t = { s with pos := t.pos, regs := t.regs } ∧
      t.encOf e.val = { s.encOf e.val with z := true, zref := none, movedUp := false, movedDn := false } ∧
      t.rd (Reg.ENC_ZPOS e.val) = (s.encOf e.val).count ∧ (∀ a, a ≠ Reg.ENC_ZPOS e.val → t.rd a = s.rd a)) ∧
  (∀ (s : State) (e : Fin 8) (run : Nat) (sub : Fin 6) (z : Word), s.dotRuns = true → s.fld (Reg.ENC_CTRL e.val) 3 0 < run →
    (s.encOf e.val).z = false → (∀ k ∈ s.ctxNums, s.fld (Reg.CTX_CFG k) 20 16 ≠ e.val + 1) →
    (bit (s.rd (Reg.ENC_CTRL e.val)) 4 = true → (s.encOf e.val).a = true ∧ (s.encOf e.val).b = true) →
    bit (s.rd (Reg.ENC_CTRL e.val)) 5 = true → bit (s.rd (Reg.ENC_CTRL e.val)) 6 = false →
    (s.encOf e.val).zref = some z → ((s.encOf e.val).movedUp && (s.encOf e.val).movedDn) = false →
    (((s.encOf e.val).count - z).toInt.natAbs + 1 < s.fld (Reg.ENC_ZCOUNT e.val) 23 0 ∨
      s.fld (Reg.ENC_ZCOUNT e.val) 23 0 + 1 < ((s.encOf e.val).count - z).toInt.natAbs) →
    ∃ u : State, exec (.encZEdge e true run sub) s = .next
        ((u.raise 0x0202 0 [wd e.val, wd ((s.encOf e.val).count - z).toInt.natAbs]).each (s.prefsOn e.val)
          (fun s n => s.sourceFault n (some e.val))) ∧
      u = { s with pos := u.pos, regs := u.regs } ∧ u.rd (Reg.ENC_ZPOS e.val) = (s.encOf e.val).count ∧
      (u.encOf e.val).zref = some (s.encOf e.val).count ∧
      u.fld (Reg.ENC_ERR e.val) 31 16 = min 65535 (s.fld (Reg.ENC_ERR e.val) 31 16 + 1))

/-- PREF_ENABLE, PREF_RESYNC, PREF_STOP, PREF_INVALID, PREF_SAMPLE_LOSS and PREF_SRC_SWITCH (R44 to R46, R49, R50, R52, R56 to R58): setting EN
with a valid N and M enters ACQUIRE1 at the preset, and with an invalid one leaves EN 0; RESYNC takes an INVALID PREF on an encoder to ACQUIRE1; no
edge for PREF_STOP_NS stops a tracking PREF at its clamped output; a PREF in COAST whose distance is used up becomes INVALID; four missed frames of a
FABRIC source are a source fault, and of a TWIN source a change to the unit's own estimator (for TWIN the count of four is the model's: log entry 110). -/
def Obligations.PositionReferencesChangeState : Prop :=
  (∀ (s : State) (n : Fin 4) (v : Word), s.dropped (Reg.PREF_CTRL n.val) = none → s.flag (Reg.PREF_CTRL n.val) 0 = false → bit v 0 = true →
    bit v 11 = false → (s.prefNM n.val).1 ≠ 0 → (s.prefNM n.val).2 ≠ 0 → (s.prefNM n.val).1 ≤ 16 * (s.prefNM n.val).2 →
    ∃ t, exec (.prefEnable n v) s = .next t ∧ t = { s with pos := t.pos, regs := t.regs } ∧ (t.prefOf n.val).state = .acquire1 ∧
      (t.prefOf n.val).pos = BitVec.ofNat 48 (s.rd64 (Reg.PREF_PRESET n.val)).toNat ∧ t.flag (Reg.PREF_CTRL n.val) 0 = true ∧
      (∀ a, a ≠ Reg.PREF_CTRL n.val → t.rd a = s.rd a) ∧ (∀ k, k ≠ n.val → t.prefOf k = s.prefOf k)) ∧
  (∀ (s : State) (n : Fin 4) (v : Word), s.dropped (Reg.PREF_CTRL n.val) = none → s.flag (Reg.PREF_CTRL n.val) 0 = false → bit v 0 = true →
    bit v 11 = false → ((s.prefNM n.val).1 = 0 ∨ (s.prefNM n.val).2 = 0 ∨ 16 * (s.prefNM n.val).2 < (s.prefNM n.val).1) →
    ∃ t, exec (.prefEnable n v) s = .next t ∧ t = { s with regs := t.regs } ∧ t.flag (Reg.PREF_CTRL n.val) 0 = false) ∧
  (∀ (s : State) (n : Fin 4) (v : Word), s.dropped (Reg.PREF_CTRL n.val) = none → s.flag (Reg.PREF_CTRL n.val) 0 = true → bit v 0 = true →
    bit v 11 = true → s.prefSrc n.val < 8 → (s.prefOf n.val).state = .invalid →
    ∃ t, exec (.prefResync n v) s = .next t ∧ t = { s with pos := t.pos, regs := t.regs } ∧ (t.prefOf n.val).state = .acquire1 ∧
      (∀ a, a ≠ Reg.PREF_CTRL n.val → a ≠ Reg.PREF_FAULTS n.val → t.rd a = s.rd a) ∧ (∀ k, k ≠ n.val → t.prefOf k = s.prefOf k)) ∧
  (∀ (s : State) (n : Fin 4), s.dotRuns = true → (s.prefOf n.val).state = .tracking →
    (s.rd (Reg.PREF_STOP_NS n.val)).toNat ≤ (s.count - (s.prefOf n.val).tk).toNat →
    exec (.prefStop n) s = .next (s.setPref n.val { s.prefOf n.val with
      state := .stopped, p := BitVec.ofInt 64 ((s.prefOf n.val).est (s.countLen n.val) s.count), v := 0 })) ∧
  (∀ (s : State) (n : Fin 4), s.dotRuns = true → s.prefState n.val = .coast → s.follows n.val = false → 0 < (s.prefOf n.val).v.toInt →
    (s.fld (Reg.PREF_COAST n.val) 7 0 : Int) * 2 ^ 32 ≤ wrapPos (s.prefOut n.val s.count - (s.prefOf n.val).mlast.toInt) →
    exec (.prefInvalid n) s = .next (s.invalidate n.val)) ∧
  (∀ (s : State) (n : Fin 4), s.dotRuns = true → s.prefState n.val ≠ .off → s.prefState n.val ≠ .invalid → s.prefSrc n.val = 8 →
    (s.prefOf n.val).lossCoast = false → 4 ≤ (s.prefOf n.val).missed →
    exec (.prefSampleLoss n) s = .next (((s.orW (Reg.PREF_FAULTS n.val) 2).raise 0x0205 0 [wd n.val]).sourceFault n.val none)) ∧
  (∀ (s : State) (n : Fin 4), s.dotRuns = true → s.prefEn n.val = true → s.prefSrc n.val = 9 → s.follows n.val = true →
    (s.prefOf n.val).fstate ≠ .invalid → (s.prefOf n.val).state ≠ .invalid → 4 ≤ (s.prefOf n.val).missed → s.count + 640 = s.pos.frame.next →
    exec (.prefSrcSwitch n) s = .next ((s.setPref n.val { s.prefOf n.val with own := true }).raise 0x0206 0 [wd n.val])) ∧
  (∀ (s : State) (n : Fin 4), s.dotRuns = true → s.prefEn n.val = true → s.prefSrc n.val = 9 → s.follows n.val = true →
    (s.prefOf n.val).fstate ≠ .invalid → (s.prefOf n.val).state = .invalid → 4 ≤ (s.prefOf n.val).missed → s.count + 640 = s.pos.frame.next →
    ∃ u : State, u = (s.setPref n.val { s.prefOf n.val with own := true }).raise 0x0206 0 [wd n.val] ∧
      exec (.prefSrcSwitch n) s = .next ((u.raise 0x0204 0 [wd n.val, wd (s.prefState n.val).code]).haltNow (u.boundTo n.val) 6))

/-- TB_INCR_WRITE, TB_OFFSET_WRITE, TIME_SLEW_END, TB_ARM_WRITE and TB_ARM_EXPIRE (R12, R60 to R64): each write of both words leaves the holding word
empty; INCR within 0.95 to 1.05 takes effect without a step of corrected time and is refused outside; a step backwards within the limit moves OFFSET
and adds as much to S, one beyond the limit is refused, and a step forwards within the limit is made; the two keys arm one step, until it expires. -/
def Obligations.TimeBaseIsSteered : Prop :=
  (∀ (s : State) (v : DWord), s.dropped Reg.TB_INCR = none → 0xF333333333 ≤ v.toNat % 2 ^ 48 → v.toNat % 2 ^ 48 ≤ 0x10CCCCCCCCC →
    ∃ t, exec (.tbIncrWrite v) s = .next t ∧ t = { s with tb := t.tb, hold := t.hold } ∧ t.tb.incr = BitVec.ofNat 48 v.toNat ∧ t.now = s.now ∧
      t.count = s.count ∧ t.tb.slew = s.tb.slew ∧ t.hold.get none Reg.TB_INCR = none) ∧
  (∀ (s : State) (v : DWord), s.dropped Reg.TB_INCR = none → (v.toNat % 2 ^ 48 < 0xF333333333 ∨ 0x10CCCCCCCCC < v.toNat % 2 ^ 48) →
    exec (.tbIncrWrite v) s = .next (((s.dropHold Reg.TB_INCR).orW Reg.TB_STATUS 0x200).raise 0x020A 0
      [lo32 (BitVec.ofNat 64 (v.toNat % 2 ^ 48)), hi32 (BitVec.ofNat 64 (v.toNat % 2 ^ 48))])) ∧
  (∀ (s : State) (v : DWord), s.dropped Reg.TB_OFFSET = none → v.toInt < s.offsetInt →
    s.offsetInt - v.toInt ≤ ((s.rd Reg.TB_JUMP_LIMIT).toNat : Int) →
    ∃ u : State, exec (.tbOffsetWrite v) s = .next (u.raise 0x0208 0 [lo32 (BitVec.ofInt 64 (v.toInt - s.offsetInt)),
        hi32 (BitVec.ofInt 64 (v.toInt - s.offsetInt)), lo32 s.now, hi32 s.now]) ∧
      u = { s with tb := u.tb, hold := u.hold } ∧ u.tb.offset = s.tb.offset + (v.toInt - s.offsetInt) * 2 ^ 40 ∧
      u.tb.slew = s.tb.slew + (v.toInt - s.offsetInt).natAbs * slewUnit ∧ u.now = s.now ∧ u.count = s.count ∧
      u.tb.armed = none ∧ u.hold.get none Reg.TB_OFFSET = none) ∧
  (∀ (s : State) (v : DWord), s.dropped Reg.TB_OFFSET = none → (s.rd Reg.TB_JUMP_LIMIT).toNat < v.toInt - s.offsetInt → s.tb.armed = none →
    exec (.tbOffsetWrite v) s = .next ((((s.dropHold Reg.TB_OFFSET).orW Reg.TB_STATUS 0x100).bump Reg.TB_REFUSED_CNT).raise 0x0209 0
      [lo32 (BitVec.ofInt 64 (v.toInt - s.offsetInt)), hi32 (BitVec.ofInt 64 (v.toInt - s.offsetInt)), lo32 s.now, hi32 s.now])) ∧
  (∀ (s : State) (v : DWord), s.dropped Reg.TB_OFFSET = none → s.offsetInt < v.toInt →
    v.toInt - s.offsetInt ≤ ((s.rd Reg.TB_JUMP_LIMIT).toNat : Int) →
    ∃ u : State, exec (.tbOffsetWrite v) s = .next (u.timeStep (v.toInt - s.offsetInt).toNat [lo32 (BitVec.ofInt 64 (v.toInt - s.offsetInt)),
        hi32 (BitVec.ofInt 64 (v.toInt - s.offsetInt)), lo32 s.now, hi32 s.now]) ∧
      u = { s with tb := u.tb, hold := u.hold } ∧ u.tb = { s.tb with armed := none } ∧ u.hold.get none Reg.TB_OFFSET = none) ∧
  (∀ s : State, 0 < s.tb.slew → s.tb.slew ≤ s.slewStep → s.upset = none →
    ∃ t, exec .timeSlewEnd s = .next t ∧ t = { s with tb := t.tb } ∧ t.tb.slew = 0 ∧ t.count = s.count + 1) ∧
  (∀ s : State, s.dropped Reg.TB_ARM = none → exec (.tbArmWrite 0x7A3C) s = .next { s with tb := { s.tb with armKey := some s.count, armed := none } }) ∧
  (∀ (s : State) (k : DWord), s.dropped Reg.TB_ARM = none → s.tb.armKey = some k → (s.count - k).toNat ≤ 1000000 →
    exec (.tbArmWrite 0xC5E1) s = .next { s with tb := { s.tb with armKey := none, armed := some s.count } }) ∧
  (∀ (s : State) (k : DWord), s.tb.armed = some k → 10000000 ≤ (s.count - k).toNat →
    ∃ t, exec .tbArmExpire s = .next t ∧ t = { s with tb := t.tb } ∧ t.tb.armed = none ∧ t.now = s.now ∧ t.count = s.count)

/-- R61 whole, TB_INCR_WRITE: OFFSET moves by COUNT × (INCR_old − INCR_new), so corrected time does not step; a value outside 0.95 to 1.05 is refused:
INCR keeps its value, TB_STATUS.INCR_REFUSED is set and INCR_REFUSED is raised. -/
def Obligations.IncrementWritesContinueTime : Prop :=
  (∀ (s : State) (v : DWord), s.dropped Reg.TB_INCR = none → 0xF333333333 ≤ v.toNat % 2 ^ 48 → v.toNat % 2 ^ 48 ≤ 0x10CCCCCCCCC →
    ∃ t, exec (.tbIncrWrite v) s = .next t ∧ t.now = s.now ∧
      t = { s with hold := t.hold,
                   tb := { s.tb with incr := BitVec.ofNat 48 v.toNat,
                                     offset := s.tb.offset + (s.count.toNat : Int) * ((s.tb.incr.toNat : Int) - (v.toNat % 2 ^ 48 : Nat)) } }) ∧
  (∀ (s : State) (v : DWord), s.dropped Reg.TB_INCR = none → (v.toNat % 2 ^ 48 < 0xF333333333 ∨ 0x10CCCCCCCCC < v.toNat % 2 ^ 48) →
    ∃ (t : State) (a : List Word), exec (.tbIncrWrite v) s = .next t ∧
      t = ((s.dropHold Reg.TB_INCR).orW Reg.TB_STATUS 0x200).raise 0x020A 0 a ∧ t.tb = s.tb ∧ t.flag Reg.TB_STATUS 9 = true)

/-- R59 whole: the counter starts from 0 at the PD0 power-on reset, counts every tick, with the holdover oscillator too, and is 64 bits wide; no
command but the PD0 power-on reset, and the loss of power that precedes it, stops it or writes it. TIME_SLEW_END is itself a tick. That a tick is the
step on an empty queue is the model's choice (log entry 1). -/
def Obligations.TimeBaseCountsEveryTick : Prop :=
  (∀ s : State, ∃ t, exec .pd0PowerOn s = .next t ∧ t.count = (0 : BitVec 64)) ∧
  (∀ s : State, s.pending = [] → ∃ t, step s = .next t ∧ t.count = s.count + 1) ∧
  (∀ (c : Instr) (s t : State), exec c s = .next t → c ≠ .pd0PowerOn → (∀ torn, c ≠ .powerLoss torn) →
    t.count = s.count ∨ (c = .timeSlewEnd ∧ t.count = s.count + 1))

/-- MGMT_DOORBELL, EVT_DOORBELL, CTX_SQ_DOORBELL and CTX_CQ_DOORBELL (R87 to R90): a doorbell of an enabled ring carries the new index, which
is taken when it lies in the ring and passes no entry of the other side; a submit index beyond the ring is a host error (R114), and a doorbell of a
ring whose EN is 0 is ignored and counted.
A completion that falls due (R97, R99, R103): while EN is 1, nothing is held or lost, the ring has space and PF1 can write, its 64
bytes are written at the producer index, every other byte of host memory stays, and the producer index advances. -/
def Obligations.DoorbellsMoveIndicesAndCompletionsArePosted : Prop :=
  (∀ (s : State) (v : Word), s.power.ready = true → s.host.op = none → s.flag Reg.HOST_MGMT_CTRL 0 = true →
    bits v 15 0 < 2 ^ s.fld Reg.HOST_MGMT_CTRL 5 1 →
    ringCount s.host.mgmtPi s.host.mgmtCi (s.fld Reg.HOST_MGMT_CTRL 5 1) +
      (bits v 15 0 + 2 ^ s.fld Reg.HOST_MGMT_CTRL 5 1 - s.host.mgmtPi) % 2 ^ s.fld Reg.HOST_MGMT_CTRL 5 1 < 2 ^ s.fld Reg.HOST_MGMT_CTRL 5 1 →
    exec (.mgmtDoorbell v) s = .next { s with host := { s.host with mgmtPi := bits v 15 0 } }) ∧
  (∀ (s : State) (v : Word), s.power.ready = true → s.host.op = none → s.flag Reg.HOST_EVT_CTRL 0 = true → bits v 15 0 < 2 ^ s.evtSize →
    (bits v 15 0 + 2 ^ s.evtSize - s.host.evt.ci) % 2 ^ s.evtSize ≤ ringCount s.host.evt.pi s.host.evt.ci s.evtSize → s.host.evt.lost = 0 →
    exec (.evtDoorbell v) s = .next { s with host := { s.host with evt := { s.host.evt with ci := bits v 15 0 } } }) ∧
  (∀ (s : State) (n : Fin 64) (v : Word), n ≠ 0 → s.power.ready = true → s.flag (Reg.HOST_RING_CTRL n.val) 0 = true →
    bits v 15 0 < 2 ^ s.sqSize n.val →
    ringCount (s.ringOf n.val).sqPi (s.ringOf n.val).sqCi (s.sqSize n.val) +
      (bits v 15 0 + 2 ^ s.sqSize n.val - (s.ringOf n.val).sqPi) % 2 ^ s.sqSize n.val < 2 ^ s.sqSize n.val →
    exec (.ctxSqDoorbell n v) s = .next (s.setRing n.val { s.ringOf n.val with sqPi := bits v 15 0 })) ∧
  (∀ (s : State) (n : Fin 64) (v : Word), n ≠ 0 → s.power.ready = true → s.flag (Reg.HOST_RING_CTRL n.val) 0 = true →
    bits v 15 0 < 2 ^ s.cqSize n.val →
    (bits v 15 0 + 2 ^ s.cqSize n.val - (s.ringOf n.val).cqCi) % 2 ^ s.cqSize n.val ≤
      ringCount (s.ringOf n.val).cqPi (s.ringOf n.val).cqCi (s.cqSize n.val) →
    exec (.ctxCqDoorbell n v) s = .next ((s.setRing n.val { s.ringOf n.val with cqCi := bits v 15 0 }).cqDrain n.val 34)) ∧
  (∀ (s : State) (n : Fin 64) (v : Word), n ≠ 0 → s.power.ready = true → s.flag (Reg.HOST_RING_CTRL n.val) 0 = false →
    exec (.ctxSqDoorbell n v) s = .next (s.bump Reg.HOST_DB_IGNORED) ∧
    exec (.ctxCqDoorbell n v) s = .next (s.bump Reg.HOST_DB_IGNORED)) ∧
  (∀ (s : State) (n : Fin 64) (v : Word), n ≠ 0 → s.power.ready = true → s.flag (Reg.HOST_RING_CTRL n.val) 0 = true →
    2 ^ s.sqSize n.val ≤ bits v 15 0 → exec (.ctxSqDoorbell n v) s = .next (s.hostError 114)) ∧
  (∀ (s : State) (n : Nat) (e : Compl), s.flag (Reg.HOST_RING_CTRL n) 0 = true → s.twin.role ≠ .standby → (s.ringOf n).held = [] →
    (s.ringOf n).lost = 0 → s.cqSpace n = true →
    (∀ k, k < 64 → ((s.complDue n e).hostMem.byte ((s.rd64 (Reg.HOST_CQ_BASE n)).toNat + (s.ringOf n).cqPi * 64 + k)) =
      (complEntry e (s.ringOf n).phase (s.ctxOf n).slack s.now 0).getD k 0) ∧
    (∀ a, a < (s.rd64 (Reg.HOST_CQ_BASE n)).toNat + (s.ringOf n).cqPi * 64 ∨
        (s.rd64 (Reg.HOST_CQ_BASE n)).toNat + (s.ringOf n).cqPi * 64 + 64 ≤ a → (s.complDue n e).hostMem.byte a = s.hostMem.byte a) ∧
    ((s.complDue n e).ringOf n).cqPi = (if (s.ringOf n).cqPi + 1 = 2 ^ s.cqSize n then 0 else (s.ringOf n).cqPi + 1) ∧
    ((s.complDue n e).ringOf n).phase = (if (s.ringOf n).cqPi + 1 = 2 ^ s.cqSize n then !(s.ringOf n).phase else (s.ringOf n).phase))

/-- A raised event (R97, R104, R105, R504, R505): while its class is unmasked, EN is 1 and the ring has space, its 64 bytes are
written at the producer index with the next SEQ and every other byte of host memory stays; without space it is counted; a masked
event writes nothing. Whatever the mask, an event that is recorded takes the next SEQ of Cask when no freeze holds, its bucket has a token and staging has
room. -/
def Obligations.RaisedEventIsPostedAndStaged : Prop :=
  (∀ (s : State) (code n : Nat) (args : List Word), s.flag Reg.HOST_EVT_CTRL 0 = true →
    s.flag (Reg.HOST_EVT_MASK (code / 256 / 32)) (code / 256 % 32) = true → s.evtSpace = true →
    (∀ k, k < 64 → (s.offerEvt code n args).hostMem.byte ((s.rd64 Reg.HOST_EVT_BASE).toNat + s.host.evt.pi * 64 + k) =
      (evtEntry code n s.host.evt.phase s.now args s.host.evt.seq).getD k 0) ∧
    (∀ a, a < (s.rd64 Reg.HOST_EVT_BASE).toNat + s.host.evt.pi * 64 ∨ (s.rd64 Reg.HOST_EVT_BASE).toNat + s.host.evt.pi * 64 + 64 ≤ a →
      (s.offerEvt code n args).hostMem.byte a = s.hostMem.byte a) ∧
    (s.offerEvt code n args).host.evt.seq = s.host.evt.seq + 1 ∧
    (s.offerEvt code n args).host.evt.pi = (if s.host.evt.pi + 1 = 2 ^ s.evtSize then 0 else s.host.evt.pi + 1) ∧
    (s.offerEvt code n args).regs = s.regs) ∧
  (∀ (s : State) (code n : Nat) (args : List Word), s.flag Reg.HOST_EVT_CTRL 0 = true →
    s.flag (Reg.HOST_EVT_MASK (code / 256 / 32)) (code / 256 % 32) = true → s.evtSpace = false →
    (s.offerEvt code n args).host.evt.lost = s.host.evt.lost + 1 ∧ (s.offerEvt code n args).host.evt.seq = s.host.evt.seq + 1 ∧
    (s.offerEvt code n args).hostMem = s.hostMem ∧ (s.offerEvt code n args).rd Reg.HOST_EVT_LOST = satInc (s.rd Reg.HOST_EVT_LOST)) ∧
  (∀ (s : State) (code n : Nat) (args : List Word), (s.flag Reg.HOST_EVT_CTRL 0 = false ∨
    s.flag (Reg.HOST_EVT_MASK (code / 256 / 32)) (code / 256 % 32) = false) → s.offerEvt code n args = s) ∧
  (∀ (s : State) (code n : Nat) (args : List Word), s.cask.freeze = none →
    (neverLimited code = true ∨ (s.cask.buckets.get {} (s.bucketOf code)).used < s.burst (s.bucketOf code)) → s.cask.staging.length < 1024 →
    (s.caskStage code n args).cask.seq = s.cask.seq + 1 ∧
    ∃ r : CaskRec, (s.caskStage code n args).cask.staging = s.cask.staging ++ [r] ∧ r.seq = s.cask.seq ∧ r.code = code ∧ r.ctx = n ∧
      r.args = args ∧ r.time = s.now ∧ r.boot = s.cask.boot)

/-- DESC_NOP, DESC_MARK and DESC_INVALID_OP (R94 to R96, R156): a descriptor without work completes OK, one whose OPCODE is not listed with INVALID_OP;
the consumer index advances, and the pages read before it are closed.
DESC_PAGE and DESC_BLANK (R92, R95, R129, R130, R157): a context that is not draining from ARMED takes the page or the blank lines as its next item,
behind those it holds, and closes the pages before it; while it fires no lines nothing else of it changes, and no other context or ring. Of a
LINE_COUNT of 0 the manual gives no result: the item then holds some number of lines from 1 to 2^31 − 1 (the model's choice: log entry 30).
MGMT_NOP, MGMT_INVALID_OP and MGMT_SCHED_WRITE (R65, R101, R102): a management descriptor that is read writes its STATUS into word 1 of its entry,
whatever its kind, and the consumer index advances; every byte of host memory outside that word stays. -/
def Obligations.DescriptorsAreTakenInTheirTurn : Prop :=
  (∀ (s : State) (n : Fin 64) (d : List Word),
    (s.descReady n.val d true = true → descReserved d [] = false → descOp d = 0 → exec (.descNop n d) s = .next (s.descEnd n.val d 0 0)) ∧
    (s.descReady n.val d true = true → descReserved d [] = false → descOp d = 5 → exec (.descMark n d) s = .next (s.descEnd n.val d 0 0)) ∧
    (s.descReady n.val d true = true → 6 ≤ descOp d → exec (.descInvalidOp n d) s = .next (s.descEnd n.val d 0 1)) ∧
    (∀ st : Nat, ((s.descTake n.val d 0).2.ringOf n.val).sqCi = ((s.ringOf n.val).sqCi + 1) % 2 ^ s.sqSize n.val ∧
      (descOp d ≠ 2 →
        s.descEnd n.val d 0 st = (((s.descTake n.val d 0).2.modCtx n.val (fun c => c.closePages none)).finish n.val (s.descTake n.val d 0).1 st)))) ∧
  (∀ (s : State) (n : Fin 64) (d : List Word), s.descReady n.val d true = true → descOp d = 1 →
    descReserved d [0, 0xFFFFFFFF, 0xFFFFFFFF, 0xFFFFFFFF, 0xFFFFFF, 0x10F] = false → nthW d 3 ≠ 0 → bit (nthW d 3) 31 = false →
    bits (nthW d 5) 23 0 ≠ 0 → (bit (nthW d 6) 8 = true ∨
      ∀ q, ((s.ctxOf n.val).items.filter (fun i => i.page && !i.anchored)).getLast? = some q → 0 ≤ ldiff (nthW d 2) q.start) →
    (s.ctxOf n.val).drainArmed = false →
    ∃ (u : State) (i : Item) (c : Ctx), exec (.descPage n d) s = .next (u.setItems n.val (Ctx.place { c with items := c.items ++ [i] })) ∧
      u = (s.descTake n.val d (nthW d 4)).2 ∧ c = (u.ctxOf n.val).closePages none ∧
      i = { id := (s.descTake n.val d (nthW d 4)).1, page := true, start := nthW d 2, count := (nthW d 3).toNat, pageId := nthW d 4,
            width := bits (nthW d 5) 23 0, tset := bits (nthW d 6) 3 0, anchored := bit (nthW d 6) 8 }) ∧
  (∀ (s : State) (n : Fin 64) (d : List Word), s.descReady n.val d true = true → descOp d = 3 → descReserved d [0, 0xFFFFFFFF] = false →
    nthW d 2 ≠ 0 → bit (nthW d 2) 31 = false → (s.ctxOf n.val).drainArmed = false →
    ∃ (u : State) (i : Item) (c : Ctx), exec (.descBlank n d) s = .next (u.setItems n.val (Ctx.place { c with items := c.items ++ [i] })) ∧
      u = (s.descTake n.val d 0).2 ∧ c = (u.ctxOf n.val).closePages none ∧
      i = { id := (s.descTake n.val d 0).1, page := false, count := (nthW d 2).toNat, closed := true }) ∧
  (∀ (s : State) (n : Fin 64) (d : List Word), s.descReady n.val d true = true → descOp d = 3 → descReserved d [0, 0xFFFFFFFF] = false →
    nthW d 2 = 0 → (s.ctxOf n.val).drainArmed = false → (s.ctxOf n.val).firing = false →
    ∃ (t : State) (i : Item), exec (.descBlank n d) s = .next t ∧ (t.ctxOf n.val).items.getLast? = some i ∧ 1 ≤ i.count ∧ i.count < 2 ^ 31) ∧
  (∀ (s : State) (n : Nat) (d : List Word) (p : Word) (i : Item) (u t : State) (c : Ctx), (s.ctxOf n).firing = false →
    u = (s.descTake n d p).2 → c = (u.ctxOf n).closePages none → t = u.setItems n (Ctx.place { c with items := c.items ++ [i] }) →
    t = { s with host := t.host, ctx := t.ctx } ∧ (t.ringOf n).sqCi = ((s.ringOf n).sqCi + 1) % 2 ^ s.sqSize n ∧
    (t.ctxOf n).items.length = (s.ctxOf n).items.length + 1 ∧ (∀ k, k ≠ n → t.ctxOf k = s.ctxOf k ∧ t.ringOf k = s.ringOf k)) ∧
  (∀ (s : State) (d : List Word), s.mgmtReady true = true → descOp d = 0 → mgmtReserved d [] = false →
    exec (.mgmtNop d) s = .next (s.mgmtDone d 0 0)) ∧
  (∀ (s : State) (d : List Word), s.mgmtReady true = true → mgmtListed d = false → exec (.mgmtInvalidOp d) s = .next (s.mgmtDone d 1 0)) ∧
  (∀ (s : State) (d : List Word), s.mgmtReady true = true → descOp d = 0x11 →
    mgmtReserved d [0xFFFFFFFF, if bit (nthW d 5) 30 then 0xFFFF else 0xFFFFFFFF, 0xFFFFFFFF, 0xFF00FFFF, 0x7FF] = false →
    exec (.mgmtSchedWrite d) s =
      .next ((s.schedWrite (bits (nthW d 6) 10 0) (nthW d 2) (nthW d 3) (nthW d 4) (nthW d 5)).mgmtDone d 0 0)) ∧
  (∀ (s : State) (d : List Word) (st detail : Nat),
    (s.mgmtDone d st detail).host.mgmtCi = (s.host.mgmtCi + 1) % 2 ^ s.fld Reg.HOST_MGMT_CTRL 5 1 ∧
    (∀ k, k < 4 → (s.mgmtDone d st detail).hostMem.byte ((s.rd64 Reg.HOST_MGMT_BASE).toNat + s.host.mgmtCi * 64 + 4 + k) =
      (wordBytes (wd (st + detail * 256 + 2 ^ 31))).getD k 0) ∧
    (∀ a, a < (s.rd64 Reg.HOST_MGMT_BASE).toNat + s.host.mgmtCi * 64 + 4 ∨ (s.rd64 Reg.HOST_MGMT_BASE).toNat + s.host.mgmtCi * 64 + 8 ≤ a →
      (s.mgmtDone d st detail).hostMem.byte a = s.hostMem.byte a) ∧
    s.mgmtDone d st detail = { s with hostMem := (s.mgmtDone d st detail).hostMem, host := (s.mgmtDone d st detail).host,
                                      out := (s.mgmtDone d st detail).out })

/-- DESC_TILE, TILE_FETCH and TILE_COPY_DONE (R81, R96, R139, R157, R160, R168, R169): a tile of the open page whose LENGTH is right joins the tiles of
its context, and one of no open page completes NO_PAGE; the next tile to fetch is requested from host memory once its space is free and no context with
less slack comes first; a tile that arrives with a header and format that pass every check is written to the ingest area and completes OK, one that
fails one is reported by GRIST_TILE_ERROR and completes TILE_ERROR. -/
def Obligations.TilesAreReadFetchedAndChecked : Prop :=
  (∀ (s : State) (n : Fin 64) (d : List Word) (i : Item), s.descReady n.val d true = true → descOp d = 2 →
    descReserved d [0, 0xFFFFFFFF, 0xFFFFFFFF, 0x1FFFFF, 0x1F0F, 0xFFFFFF, 0xFFFFFFFF, 0xFFFFFFFF] = false →
    (s.ctxOf n.val).openPage = some i → i.pageId = nthW d 8 → 32 ≤ bits (nthW d 4) 20 0 → bits (nthW d 4) 20 0 ≤ 263200 →
    (nthW d 2).toNat % 64 = 0 → s.bufMeets ((dw (nthW d 2) (nthW d 3)).toNat, bits (nthW d 4) 20 0) = false →
    bits (nthW d 4) 20 0 ≤ (s.alloc (Reg.BUF_CTX_ING n.val)).2 → i.lastY0 ≤ (nthW d 7).toNat →
    ∃ t, exec (.descTile n d) s = .next t ∧ t = { s with host := t.host, ctx := t.ctx } ∧
      (t.ringOf n.val).sqCi = ((s.ringOf n.val).sqCi + 1) % 2 ^ s.sqSize n.val ∧
      (∃ u : Tile, (t.ctxOf n.val).tiles = (s.ctxOf n.val).tiles ++ [u] ∧ u.addr = dw (nthW d 2) (nthW d 3) ∧ u.len = bits (nthW d 4) 20 0 ∧
        u.y0 = (nthW d 7).toNat ∧ u.x0 = bits (nthW d 6) 23 0 ∧ u.item = i.id ∧ u.state = .waiting)) ∧
  (∀ (s : State) (n : Fin 64) (d : List Word), s.descReady n.val d true = true → descOp d = 2 →
    descReserved d [0, 0xFFFFFFFF, 0xFFFFFFFF, 0x1FFFFF, 0x1F0F, 0xFFFFFF, 0xFFFFFFFF, 0xFFFFFFFF] = false →
    (s.ctxOf n.val).openPage.filter (fun i => i.pageId == nthW d 8) = none → 32 ≤ bits (nthW d 4) 20 0 → bits (nthW d 4) 20 0 ≤ 263200 →
    exec (.descTile n d) s = .next (s.descEnd n.val d (nthW d 8) 3)) ∧
  (∀ (s : State) (n : Fin 64) (t : Tile) (o : Nat), s.nextFetch n.val = some (t, o) → s.pf1Can = true → s.bufRuns = true →
    s.fetchesFirst n.val = false → exec (.tileFetch n) s = .next ((s.modCtx n.val (fun c => c.modTile t.id (fun t =>
      { t with state := .fetching, off := o, size := (t.len + 63) / 64 * 64 }))).request (.tile n.val t.id) t.addr.toNat t.len)) ∧
  (∀ (s : State) (n : Fin 64) (data : List Byte) (t : Tile) (i : Item) (r : Nat), (s.ctxOf n.val).arriving = some (t, i) → s.pf1Can = true →
    s.pllLost .buffer = false → r ≠ 0 →
    arrivalCheck (padTo t.len 0 data) t.len t.format t.x0 t.y0 i.width i.count (s.fmtEntry n.val i.tset t.format) = some r →
    exec (.tileCopyDone n data) s = .next ((((s.readsDone (.tile n.val t.id)).modCtx n.val (fun c => c.modTile t.id (fun t =>
      { t with state := .failed, hdr := bytesWords ((padTo t.len 0 data).take 32) }))).raise 0x0501 n.val
        [wd (r + t.plane * 256 + t.format * 65536), i.pageId, wd t.x0, wd t.y0]).finish n.val t.id 4)) ∧
  (∀ (s : State) (n : Fin 64) (data : List Byte) (t v : Tile) (i : Item) (h f : List Word), (s.ctxOf n.val).arriving = some (t, i) → s.pf1Can = true →
    s.pllLost .buffer = false → h = bytesWords ((padTo t.len 0 data).take 32) → f = (s.fmtEntry n.val i.tset t.format).getD [] →
    arrivalCheck (padTo t.len 0 data) t.len t.format t.x0 t.y0 i.width i.count (s.fmtEntry n.val i.tset t.format) = some 0 →
    hdrReserved h = false →
    v = { t with state := .resident, hdr := h, fmt := f, mplane := planeMap f t.plane, dec := { mode := bits (nthW h 0) 27 26 } } →
    i.planes.any (fun p => p.1 == v.mplane && p.2 != (bits (nthW f 0) 3 1 == 4)) = false → i.areas.any (tilesClash v.area) = false →
    ∃ u : State, exec (.tileCopyDone n data) s = .next (u.finish n.val t.id 0) ∧
      u = { s with out := u.out, host := { s.host with reads := u.host.reads }, ctx := u.ctx, buf := u.buf } ∧
      u.buf = (s.ingestWrite n.val t.off (padTo t.len 0 data)).buf ∧
      (u.ctxOf n.val).tiles = (s.ctxOf n.val).tiles.map (fun x => if x.id == t.id then v else x) ∧ (∀ k, k ≠ n.val → u.ctxOf k = s.ctxOf k))

/-- DESC_TABLE_LOAD and TABLE_LOAD_COPY_DONE (R81, R96, R136, R150): a table that lies in its context's table region and meets no table in use is requested from
host memory; a length, destination or end outside the region completes BAD_LENGTH; the table that arrives well formed stands in the buffer at its
destination, with every other byte of the buffer unchanged, and the load completes OK. -/
def Obligations.TablesAreLoadedIntoTheirRegion : Prop :=
  (∀ (s : State) (n : Fin 64) (d : List Word), s.descReady n.val d true = true → descOp d = 4 →
    descReserved d [0, 0xFFFFFFFF, 0xFFFFFFFF, 0x7FFFFF, 0xFFFFF, 0x3FFFFFF] = false → 0 < bits (nthW d 4) 22 0 →
    bits (nthW d 4) 22 0 ≤ 4194304 → bits (nthW d 4) 22 0 % 64 = 0 → bits (nthW d 6) 25 0 % 64 = 0 →
    bits (nthW d 6) 25 0 + bits (nthW d 4) 22 0 ≤ (s.alloc (Reg.BUF_CTX_TBL n.val)).2 → (nthW d 2).toNat % 64 = 0 →
    s.bufMeets ((dw (nthW d 2) (nthW d 3)).toNat, bits (nthW d 4) 22 0) = false →
    1 ≤ bits (nthW d 5) 7 0 → bits (nthW d 5) 7 0 ≤ 9 → 16384 ≤ bits (nthW d 6) 25 0 →
    s.tabInUse n.val (bits (nthW d 6) 25 0) (bits (nthW d 4) 22 0) = false → (s.tabKeys n.val).length < 1024 →
    ∃ (u : State) (c : TableCopy), exec (.descTableLoad n d) s =
        .next (u.request (.table n.val c.id) (dw (nthW d 2) (nthW d 3)).toNat (bits (nthW d 4) 22 0)) ∧
      u = { s with host := u.host, ctx := u.ctx } ∧ (u.ringOf n.val).sqCi = ((s.ringOf n.val).sqCi + 1) % 2 ^ s.sqSize n.val ∧
      (u.ctxOf n.val).copies = (s.ctxOf n.val).copies ++ [c] ∧ c.kind = bits (nthW d 5) 7 0 ∧ c.inst = bits (nthW d 5) 15 8 ∧
      c.tset = bits (nthW d 5) 19 16 ∧ c.dest = bits (nthW d 6) 25 0 ∧ c.len = bits (nthW d 4) 22 0) ∧
  (∀ (s : State) (n : Fin 64) (d : List Word), s.descReady n.val d true = true → descOp d = 4 →
    descReserved d [0, 0xFFFFFFFF, 0xFFFFFFFF, 0x7FFFFF, 0xFFFFF, 0x3FFFFFF] = false →
    (bits (nthW d 4) 22 0 = 0 ∨ 4194304 < bits (nthW d 4) 22 0 ∨ bits (nthW d 4) 22 0 % 64 ≠ 0 ∨ bits (nthW d 6) 25 0 % 64 ≠ 0 ∨
      (s.alloc (Reg.BUF_CTX_TBL n.val)).2 < bits (nthW d 6) 25 0 + bits (nthW d 4) 22 0) →
    exec (.descTableLoad n d) s = .next (s.descEnd n.val d 0 2)) ∧
  (∀ (s : State) (n : Fin 64) (data : List Byte) (c : TableCopy) (r : List TableCopy), (s.ctxOf n.val).copies = c :: r → s.pf1Can = true →
    s.pllLost .buffer = false → tableBad c.kind c.inst c.tset (padTo c.len 0 data) = none →
    ∃ u : State, exec (.tableLoadCopyDone n data) s = .next (u.finish n.val c.id 0) ∧ 
      u = { s with out := u.out, host := { s.host with reads := u.host.reads }, ctx := u.ctx, buf := u.buf } ∧
      u.buf.mem = s.buf.mem.write ((s.alloc (Reg.BUF_CTX_TBL n.val)).1 + c.dest) (padTo c.len 0 data) ∧
      (∀ a, a < (s.alloc (Reg.BUF_CTX_TBL n.val)).1 + c.dest ∨ (s.alloc (Reg.BUF_CTX_TBL n.val)).1 + c.dest + c.len ≤ a →
        u.buf.mem.byte a = s.buf.mem.byte a))

/-- CTX_ARM, CTX_START, CTX_DRAIN, CTX_HALT and CTX_RESET on a single device (R101, R123 to R127, R30): where the table of R123 gives a state or no
change, the command completes OK with that effect; ARM with a channel or the buffer in a domain that is off is REFUSED.
What the states of a context become (R123 to R127): ARM enters ARMED; RESET of a halted context enters IDLE; a halt requested by the host waits with
cause 1 for its line boundary unless another halt came first; CTX_HALT_TAKE and CTX_DRAIN_DONE make the transition when it is due. -/
def Obligations.ContextCommandsChangeContextState : Prop :=
  (∀ (s : State) (d : List Word) (n : Nat), s.mgmtReady true = true → descOp d = 0x10 → mgmtReserved d [0x73F] = false →
    n = bits (nthW d 2) 5 0 → n ≠ 0 → s.twin.role = .off → bits (nthW d 2) 10 8 = 0 → (s.ctxOf n).state = .idle →
    (s.armRefused n = true → exec (.ctxArm d) s = .next (s.mgmtDone d 2 1)) ∧
    (s.armRefused n = false → s.armError n = none → exec (.ctxArm d) s = .next ((s.doArm n).mgmtDone d 0 0))) ∧
  (∀ (s : State) (d : List Word) (n : Nat), s.mgmtReady true = true → descOp d = 0x10 → mgmtReserved d [0x73F] = false →
    n = bits (nthW d 2) 5 0 → n ≠ 0 → s.twin.role = .off → bits (nthW d 2) 10 8 = 1 →
    ((s.ctxOf n).state = .armed → exec (.ctxStart d) s = .next ((s.setCtx n { s.ctxOf n with
      startPend := true, startAt := s.pos.frame.number + 1 }).mgmtDone d 0 0)) ∧
    ((s.ctxOf n).state = .running → exec (.ctxStart d) s = .next (s.mgmtDone d 0 0))) ∧
  (∀ (s : State) (d : List Word) (n : Nat), s.mgmtReady true = true → descOp d = 0x10 → mgmtReserved d [0x73F] = false →
    n = bits (nthW d 2) 5 0 → n ≠ 0 → s.twin.role = .off → bits (nthW d 2) 10 8 = 2 →
    ((s.ctxOf n).state = .armed ∨ (s.ctxOf n).state = .running →
      exec (.ctxDrain d) s = .next ((s.doDrain n (s.ringOf n).sqPi).mgmtDone d 0 0))) ∧
  (∀ (s : State) (d : List Word) (n : Nat), s.mgmtReady true = true → descOp d = 0x10 → mgmtReserved d [0x73F] = false →
    n = bits (nthW d 2) 5 0 → n ≠ 0 → s.twin.role = .off → bits (nthW d 2) 10 8 = 3 →
    ((s.ctxOf n).active = true → exec (.ctxHalt d) s = .next ((s.haltReq n 1 none).mgmtDone d 0 0)) ∧
    ((s.ctxOf n).state = .idle ∨ (s.ctxOf n).state = .halted → exec (.ctxHalt d) s = .next (s.mgmtDone d 0 0))) ∧
  (∀ (s : State) (d : List Word) (n : Nat), s.mgmtReady true = true → descOp d = 0x10 → mgmtReserved d [0x73F] = false →
    n = bits (nthW d 2) 5 0 → n ≠ 0 → s.twin.role = .off → bits (nthW d 2) 10 8 = 4 →
    ((s.ctxOf n).state = .halted → exec (.ctxReset d) s = .next ((s.doReset n).mgmtDone d 0 0)) ∧
    ((s.ctxOf n).state = .idle → exec (.ctxReset d) s = .next (s.mgmtDone d 0 0))) ∧
  (∀ (s : State) (n : Nat), ((s.doArm n).ctxOf n).state = .armed) ∧
  (∀ (s : State) (n : Nat), ((s.doReset n).ctxOf n).state = .idle) ∧
  (∀ (s : State) (n : Nat), (s.ctxOf n).active = true → (s.ctxOf n).halt = none →
    ((s.haltReq n 1 none).ctxOf n).halt = some { cause := 1, since := s.count, pageEnd := none } ∧
    (∀ k, k ≠ n → (s.haltReq n 1 none).ctxOf k = s.ctxOf k) ∧ s.haltReq n 1 none = { s with ctx := (s.haltReq n 1 none).ctx }) ∧
  (∀ (s : State) (n : Fin 64) (h : HaltReq), (s.ctxOf n.val).halt = some h → (s.ctxOf n.val).active = true → s.atBoundary = true → s.haltStands n.val = true →
    ∃ t, exec (.ctxHaltTake n) s = .next t ∧ (t.ctxOf n.val).state = .halted ∧ (t.ctxOf n.val).cause = h.cause) ∧
  (∀ (s : State) (n : Fin 64), (s.ctxOf n.val).state = .draining → (s.ctxOf n.val).drain = some (s.ringOf n.val).sqCi →
    (s.ctxOf n.val).flight = [] → (s.ringOf n.val).held = [] → s.divergedHere n.val = false →
    ∃ t, exec (.ctxDrainDone n) s = .next t ∧ (t.ctxOf n.val).state = .idle)

/-- HOST_LINK_UP, HOST_LINK_DOWN and HOST_BME_OFF (R81, R84, R85): a link that comes up at a speed and width that the part supports shows them in HOST_LINK,
and contexts, buffer, links and positions stay as they are; one that goes down, or a Bus Master Enable that is cleared, raises its event, and of PF0
cuts off an operation that still has transfers to make, if one runs.
HOST_PCIE_ERROR and COMPLETION_TIMEOUT (R86): the error's bit of HOST_ERR is set, the error is reported by Advanced Error Reporting and by
HOST_PCIE_ERROR with the request's address, and the request that failed fails its descriptor: that of a submit or management descriptor, or that whose
tile was read, completes HOST_FAULT. -/
def Obligations.HostLinkChangesAndErrorsAreReported : Prop :=
  (∀ (s : State) (sp : BitVec 3) (w : BitVec 5) (tag10 : Bool) (mps : Fin 3) (mrrs : Fin 6), 1 ≤ sp.toNat → sp.toNat ≤ 5 → (w.toNat = 8 ∨ w.toNat = 16) →
    s.linkUp = false → ∃ t, exec (.hostLinkUp sp w tag10 mps mrrs) s = .next t ∧
      t.rd Reg.HOST_LINK = wd (sp.toNat + w.toNat * 2 ^ 8 + tag10.toNat * 2 ^ 13 + mps.val * 2 ^ 14 + mrrs.val * 2 ^ 17 + 2 ^ 20) ∧
      t.ctx = s.ctx ∧ t.buf = s.buf ∧ t.hl = s.hl ∧ t.pos = s.pos ∧ t.power = s.power) ∧
  (∀ s : State, s.linkUp = true → exec .hostLinkDown s = .next ((s.setF Reg.HOST_LINK 20 20 0).raise 0x0303 0 []).opCutOff.readsLost) ∧
  (∀ s : State, s.host.op = none → s.opCutOff = s) ∧
  (∀ s : State, s.host.bmeOff1 = false → exec (.hostBmeOff true) s =
    .next (({ s with host := { s.host with bmeOff1 := true } } : State).raise 0x0305 0 [1])) ∧
  (∀ s : State, s.host.bmeOff0 = false → exec (.hostBmeOff false) s =
    .next (({ s with host := { s.host with bmeOff0 := true } } : State).raise 0x0305 0 [0]).opCutOff) ∧
  (∀ (s : State) (k : PcieErr) (addr : DWord), exec (.hostPcieError k addr .other) s =
    .next (((s.setF Reg.HOST_ERR (pcieBit k) (pcieBit k) 1).emit (.aer k)).raise 0x0306 0 [lo32 addr, hi32 addr, wd (pcieBit k)])) ∧
  (∀ (s : State) (addr : DWord), exec (.completionTimeout addr .other) s =
    .next (((s.setF Reg.HOST_ERR 2 2 1).emit (.aer .timeout)).raise 0x0306 0 [lo32 addr, hi32 addr, 2])) ∧
  (∀ (s : State) (k : PcieErr) (addr : DWord), ∃ u : State,
    u = ((s.setF Reg.HOST_ERR (pcieBit k) (pcieBit k) 1).emit (.aer k)).raise 0x0306 0 [lo32 addr, hi32 addr, wd (pcieBit k)] ∧
    (u.mgmtReady true = true → exec (.hostPcieError k addr .mgmtDesc) s = .next (u.mgmtDone [] 5 0)) ∧
    (∀ n : Fin 64, u.descReady n.val [0x100] true = true →
      exec (.hostPcieError k addr (.submitDesc n)) s = .next (u.descEnd n.val [0x100] 0 5)) ∧
    (∀ (n : Fin 64) (t : Tile) (i : Item), (u.ctxOf n.val).arriving = some (t, i) → exec (.hostPcieError k addr (.tileData n)) s =
      .next (((u.dropReads (· == .tile n.val t.id)).modCtx n.val (fun c => c.modTile t.id (fun t => { t with state := .failed }))).finish n.val t.id 5)))

/-- CQ_MOD_TIMER and EVT_MOD_TIMER (R100, R105): the time set after the first entry not yet signalled, the interrupt is raised and the count of entries
not signalled begins again.
FLR_PF0, FLR_PF1 and PF1_D3_TO_D0 (R106): a Function Level Reset of PF0 clears its MSI-X table and the ENs of the management and event ring; one of
PF1 requests a halt of cause 8 from every active context, discards held completions and clears the ENs of the rings, and so does a return to D0. -/
def Obligations.ModerationAndFunctionResets : Prop :=
  (∀ (s : State) (n : Fin 64) (t0 : DWord), (s.ringOf n.val).first = some t0 → s.fld (Reg.HOST_RING_MOD n.val) 15 0 ≠ 0 → s.mgmtRuns = true →
    t0.toNat + s.fld (Reg.HOST_RING_MOD n.val) 15 0 * 1000 ≤ s.now.toNat →
    exec (.cqModTimer n) s = .next ((s.setRing n.val { s.ringOf n.val with posted := 0, first := none }).irq true
      (s.fld (Reg.HOST_RING_CTRL n.val) 16 11))) ∧
  (∀ (s : State) (t0 : DWord), s.host.evt.first = some t0 → s.fld Reg.HOST_EVT_CTRL 31 24 ≠ 0 → s.mgmtRuns = true →
    t0.toNat + s.fld Reg.HOST_EVT_CTRL 31 24 * 10000 ≤ s.now.toNat →
    exec .evtModTimer s = .next (({ s with host := { s.host with evt := { s.host.evt with posted := 0, first := none } } } : State).irq false
      (s.fld Reg.HOST_EVT_CTRL 13 8))) ∧
  (∀ s : State, s.host.op = none → ∃ t, exec .flrPf0 s = .next t ∧ t = { s with host := t.host, regs := t.regs } ∧
    t.flag Reg.HOST_MGMT_CTRL 0 = false ∧ t.flag Reg.HOST_EVT_CTRL 0 = false ∧ t.host.msix0 = [] ∧ t.host.pba0 = 0 ∧
    (∀ a, a ≠ Reg.HOST_MGMT_CTRL → a ≠ Reg.HOST_EVT_CTRL → t.rd a = s.rd a)) ∧
  (∀ s : State, ∃ t, exec .flrPf1 s = .next t ∧ exec .pf1D3ToD0 s = .next t ∧ t = { s with host := t.host, regs := t.regs, ctx := t.ctx } ∧
    (∀ n, 1 ≤ n → n ≤ 63 → t.flag (Reg.HOST_RING_CTRL n) 0 = false ∧ (t.ringOf n).held = []) ∧ t.host.msix1 = [] ∧ t.host.pba1 = 0 ∧
    (∀ n, (t.ctxOf n).state = (s.ctxOf n).state) ∧
    (∀ n ∈ s.ctxNums, (s.ctxOf n).active = true → (s.ctxOf n).halt = none →
      (t.ctxOf n).halt = some { cause := 8, since := s.count, pageEnd := none }))

/-- OP_NV_COMMIT, OP_FABRIC_REDISCOVER, OP_NOZ_VERIFY, OP_FACTORY_RESTORE, OP_CASK_EXPORT and OP_BAD_OP (R107, R109, R112): a write of OP_CMD that
reaches the port makes it BUSY with its code and raises OP_START; a code that is not listed does no work and will end BAD_OP.
OP_END (R108, R110, R112, R222): the port leaves BUSY with RESULT and the µs since the write of OP_CMD, and raises OP_END; NOZ_VERIFY ends with what its
check of the maps gave, and an operation that failed a start check with that result. -/
def Obligations.LongOperationsRunFromBusyToDone : Prop :=
  (∀ (s : State) (v : Word), s.dropped Reg.OP_CMD = none →
    (bits v 3 0 = 1 → exec (.opNvCommit v) s = .next (s.opBegin v)) ∧
    (bits v 3 0 = 2 → exec (.opFabricRediscover v) s = .next (s.opBegin v)) ∧
    (bits v 3 0 = 3 → exec (.opNozVerify v) s = .next (s.opBegin v)) ∧
    (bits v 3 0 = 4 → exec (.opFactoryRestore v) s = .next (s.opBegin v)) ∧
    (bits v 3 0 = 5 → exec (.opCaskExport v) s = .next (s.opBegin v)) ∧
    (bits v 3 0 = 0 ∨ 6 ≤ bits v 3 0 → exec (.opBadOp v) s = .next (s.opBegin v) ∧
      s.opBegin v = ((({ s with host := { s.host with op := some { start := s.count, irq := bit v 15, vec := bits v 13 8, fail := some 1, transfers := false } } } : State).setF
        Reg.OP_STATUS 11 8 (bits v 3 0)).raise 0x0307 0 [wd (bits v 3 0)]))) ∧
  (∀ (s : State) (v : Word), bits v 3 0 = 3 → s.opCheck 3 = none →
    s.opBegin v = ((({ s with host := { s.host with op := some { start := s.count, irq := bit v 15, vec := bits v 13 8, fail := none, transfers := false } } } : State).setF
        Reg.OP_STATUS 11 8 3).raise 0x0307 0 [3])) ∧
  (∀ (s u : State) (img : List Byte) (hf rb : Bool) (o : OpRun), s.host.op = some o → s.mgmtRuns = true → s.readsWait .op = false →
    o.fail = none → s.sec.commit = none → s.opCode = 3 → u = s.readsDone .op →
    exec (.opEnd img hf rb) s = .next (u.opFinish
      (if (u.verifyAll (dw (s.rd (Reg.OP_ARG 0)) (s.rd (Reg.OP_ARG 1))) (s.fld (Reg.OP_ARG 2) 3 0)).1 = 0 then 0 else 4)
      (some (u.verifyAll (dw (s.rd (Reg.OP_ARG 0)) (s.rd (Reg.OP_ARG 1))) (s.fld (Reg.OP_ARG 2) 3 0)).1)
      (some (u.verifyAll (dw (s.rd (Reg.OP_ARG 0)) (s.rd (Reg.OP_ARG 1))) (s.fld (Reg.OP_ARG 2) 3 0)).2))) ∧
  (∀ (s : State) (img : List Byte) (hf rb : Bool) (o : OpRun) (r : Nat), s.host.op = some o → s.mgmtRuns = true → s.readsWait .op = false →
    o.fail = some r → s.sec.commit = none → o.froze = false → r ≠ 6 →
    exec (.opEnd img hf rb) s = .next ((s.readsDone .op).opFinish r none none)) ∧
  (∀ (s : State) (r : Nat) (o : OpRun), r < 256 → s.host.op = some o →
    (s.opFinish r none none).host.op = none ∧ (s.opFinish r none none).fld Reg.OP_STATUS 31 16 = 0xFF00 + r ∧
    (s.opFinish r none none).flag Reg.OP_STATUS 1 = true ∧
    (s.opFinish r none none).rd Reg.OP_ELAPSED = wd ((s.count - o.start).toNat / 1000) ∧
    (∀ a, a ≠ Reg.OP_STATUS → a ≠ Reg.OP_ELAPSED → a ≠ Reg.HOST_EVT_LOST → a ≠ Reg.CASK_OVERFLOW → a ≠ Reg.CASK_MISSED → a ≠ Reg.CASK_SUPPR →
      (s.opFinish r none none).rd a = s.rd a))

/-- R111 whole: a write of OP_CMD while BUSY is 1 is dropped and counted; the running operation and its arguments stay. -/
def Obligations.OperationWritesWhileBusyAreDropped : Prop :=
  ∀ (s : State) (v : Word), s.power.ready = true → s.host.op.isSome = true →
    (bits v 3 0 = 1 → exec (.opNvCommit v) s = .next (s.bump Reg.OP_DROPPED)) ∧
    (bits v 3 0 = 2 → exec (.opFabricRediscover v) s = .next (s.bump Reg.OP_DROPPED)) ∧
    (bits v 3 0 = 3 → exec (.opNozVerify v) s = .next (s.bump Reg.OP_DROPPED)) ∧
    (bits v 3 0 = 4 → exec (.opFactoryRestore v) s = .next (s.bump Reg.OP_DROPPED)) ∧
    (bits v 3 0 = 5 → exec (.opCaskExport v) s = .next (s.bump Reg.OP_DROPPED)) ∧
    (bits v 3 0 = 0 ∨ 6 ≤ bits v 3 0 → exec (.opBadOp v) s = .next (s.bump Reg.OP_DROPPED)) ∧
    exec (.registerWrite false Reg.OP_CMD 4 v) s = .next (s.bump Reg.OP_DROPPED) ∧
    (s.bump Reg.OP_DROPPED).host.op = s.host.op ∧ (∀ k, k < 4 → (s.bump Reg.OP_DROPPED).rd (Reg.OP_ARG k) = s.rd (Reg.OP_ARG k)) ∧
    (s.bump Reg.OP_DROPPED).rd Reg.OP_DROPPED = satAdd (s.rd Reg.OP_DROPPED) 1

/-- LINE_SCREEN and LINE_COMPENSATE (R180, R190, R195, R210, R221, R236): a channel of a context that has a line to screen, and whose lane may begin it,
screens that line and no other; one whose line's codes are complete compensates it. No other lane changes, nor the safety block or the power domains,
and screening leaves the head links as they are.
FRAME_BOUNDARY (R31, R53): before the boundary the row changes nothing; at it, the grid moves on by one frame of 640 ns, and then the work of the
boundary and a planned swap follow, which leave the time base's count and the safety block as they are. -/
def Obligations.LinesAreScreenedAndFramesFollow : Prop :=
  (∀ (s : State) (ch : Fin 64) (ecc : List EccHit) (n : Nat) (lw : LineWork), s.ownerOf ch.val = some n →
    (s.ctxOf n).lines.find? (fun l => !l.late && !l.codes.any (fun e => e.1 == ch.val)) = some lw → s.laneRuns ch.val = true →
    s.seamReady n ch.val lw.line = true →
    ∃ t, exec (.lineScreen ch ecc) s = .next t ∧ (t.laneOf ch.val).last = some lw.line ∧ (∀ k, k ≠ ch.val → t.laneOf k = s.laneOf k) ∧
      t.safe = s.safe ∧ t.power = s.power ∧ t.hl = s.hl) ∧
  (∀ (s : State) (ch : Fin 64) (ecc : List EccHit) (n : Nat) (lw : LineWork), s.ownerOf ch.val = some n → (∀ l ∈ (s.ctxOf n).lines, l.late = false) →
    (s.ctxOf n).lines.find? (fun l => !l.late && !l.comp.contains ch.val) = some lw → s.laneRuns ch.val = true → s.codesDone n ch.val lw = true →
    ∃ t, exec (.lineCompensate ch ecc) s = .next t ∧ (∀ w ∈ (t.ctxOf n).lines, w.line = lw.line → w.comp.contains ch.val = true) ∧
      (∀ k, k ≠ ch.val → t.laneOf k = s.laneOf k) ∧ t.safe = s.safe ∧ t.power = s.power) ∧
  (∀ (s : State) (ecc : List EccHit), s.pos.frame.next.toNat ≤ s.count.toNat →
    ∃ u t : State, exec (.frameBoundary ecc) s = .next t ∧ t = (u.boundaryWork ecc).swapStart ∧
      u = { s with pos := { s.pos with frame := { s.pos.frame with number := s.pos.frame.number + 1, next := s.pos.frame.next + 640 } } } ∧
      t.count = s.count ∧ t.safe = s.safe) ∧
  (∀ (s : State) (ecc : List EccHit), s.count.toNat < s.pos.frame.next.toNat → exec (.frameBoundary ecc) s = .next s)

/-- NOZ_SWITCH_REQUEST, NOZ_SWITCH_CANCEL, NOZ_PENDING_READY and NOZ_ARM_LOAD_DONE (R208 to R211, R246, R578): a request of a map that the directory holds fetches it into the
pending copy and queues its fractions for the other trim bank; without the tables the switch fails with its reason; a cancel drops what was armed; a
pending copy whose fractions have been sent becomes READY, or fails when the row-delay area is too short; a context whose channels' maps
load ends its load with their active copies, and one whose tables break a rule makes the host error that the rule lists. -/
def Obligations.NozzleMapsSwitch : Prop :=
  (∀ (s : State) (ch : Fin 64) (v : Word) (n : Nat) (refs : List DirEntry), s.dropped (Reg.NOZ_CH_SWCTL ch.val) = none → s.tableCtx ch.val = some n →
    s.nozFind n ch.val (bits v 7 4) (s.buf.dirs.get [] n) = .ok refs →
    ∃ t, exec (.nozSwitchRequest ch v) s = .next t ∧ t = { s with regs := t.regs, noz := t.noz, hl := t.hl } ∧
      t.flag (Reg.NOZ_CH_SWCTL ch.val) 0 = true ∧ (t.nozOf ch.val).fetch = some (refs, n, bits v 7 4) ∧ (t.nozOf ch.val).ready = false ∧
      (t.nozOf ch.val).pending.isSome = true ∧ (t.nozOf ch.val).maps = (s.nozOf ch.val).maps) ∧
  (∀ (s : State) (ch : Fin 64) (v : Word), s.dropped (Reg.NOZ_CH_SWCTL ch.val) = none → s.tableCtx ch.val = none →
    exec (.nozSwitchRequest ch v) s = .next (((s.cancelSwitch ch.val).wr (Reg.NOZ_CH_SWCTL ch.val) (v &&& 0xF0)).switchFault ch.val 1)) ∧
  (∀ (s : State) (ch : Fin 64) (v : Word), s.dropped (Reg.NOZ_CH_SWCTL ch.val) = none →
    ∃ t, exec (.nozSwitchCancel ch v) s = .next t ∧ t = { s with regs := t.regs, noz := t.noz, hl := t.hl } ∧ (t.nozOf ch.val).pending = none ∧
      (t.nozOf ch.val).maps = (s.nozOf ch.val).maps ∧ t.rd (Reg.NOZ_CH_SWCTL ch.val) = v &&& 0xF0) ∧
  (∀ (s : State) (ch : Fin 64) (p : NozTabs) (refs : List DirEntry) (n k : Nat), (s.nozOf ch.val).pending = some p →
    (s.nozOf ch.val).fetch = some (refs, n, k) → (s.nozOf ch.val).ready = false → (s.hlOf ch.val).uploads.any (fun u => u.forSwitch) = false →
    s.domOn (chDom ch.val) = true → s.nozBad n ch.val refs p = none → s.mapDmax ch.val p.map + 5 ≤ s.rowCap ch.val →
    ∃ t, exec (.nozPendingReady ch []) s = .next t ∧ t = { s with regs := t.regs, noz := t.noz } ∧ (t.nozOf ch.val).ready = true ∧
      (t.nozOf ch.val).pending = some p ∧ t.flag (Reg.NOZ_CH_STATUS ch.val) 4 = true) ∧
  (∀ (s u : State) (n : Fin 64) (ecc : List EccHit), (s.ctxOf n.val).nozLoad = true →
    u = (s.setCtx n.val { s.ctxOf n.val with nozLoad := false, nozRefs := [] }).eccHits ecc none →
    (∀ t, State.armLoad n.val (s.ctxOf n.val).nozRefs (s.chans n.val) u = .ok t → exec (.nozArmLoadDone n ecc) s = .next t) ∧
    (∀ r, State.armLoad n.val (s.ctxOf n.val).nozRefs (s.chans n.val) u = .error r → exec (.nozArmLoadDone n ecc) s = .next (u.hostError r))) ∧
  (∀ (s : State) (n ch : Nat) (dir refs : List DirEntry) (x : Nat) (p : NozTabs), (s.ctxOf n).nozTsets.find? (fun e => e.1 == ch) = some (ch, x) →
    s.receives ch = false → s.nozFind n ch x dir = .ok refs → p = s.nozRead n ch x (s.hlOf ch).bank refs → s.nozBad n ch refs p = none →
    s.mapDmax ch p.map + 5 ≤ s.rowCap ch →
    ∃ t, s.armLoadCh n ch dir = .ok t ∧ t = { s with regs := t.regs, noz := t.noz, hl := t.hl } ∧ (t.nozOf ch).maps = [(none, p)] ∧
      (t.hlOf ch).uploads.any (fun u => u.arm) = true ∧ (t.hlOf ch).trimReady = false)

/-- HL_ENABLE, HL_DISABLE, HL_TRAIN_GO and HL_TRAIN_CANCEL (R252, R265, R271, R272): setting EN of a link that is OFF or in FAULT, or GO in any state, starts the
training sequence (GO outside OFF is DEDUCED: log entry 101); clearing EN of a link in UP enters FAULT with cause 4 and lets it go OFF at the next frame
boundary; CANCEL ends a training with RESULT CANCELLED and no event.
HL_BLOCK_LOCK, HL_CAP_RX, HL_CAL_RX, HL_LOAD_DONE, HL_TRAIN_TIMEOUT and HL_RETRAIN_TIMER (R252 to R255, R267): the steps of training. A head whose capabilities pass enters
calibration, one that fails ends with CAP_MISMATCH; an exchange is counted once, by its SEQ; a loaded link enters UP at once when its channel
belongs to no context that is not IDLE; no lock within 200 µs ends with NO_LOCK, no CAP within 300 µs with NO_CAP; a link
in FAULT for 10 µs with EN and AUTO_RETRAIN trains again. -/
def Obligations.HeadLinksTrain : Prop :=
  (∀ (s : State) (ch : Fin 64) (v : Word), s.dropped (Reg.HL_CTRL ch.val) = none → s.chLocked ch.val = false → s.flag (Reg.HL_CTRL ch.val) 0 = false →
    bit v 0 = true → ((s.hlOf ch.val).state = .off ∨ (s.hlOf ch.val).state = .fault) →
    ∃ t, exec (.hlEnable ch v) s = .next t ∧ t = { s with regs := t.regs, hl := t.hl } ∧ (t.hlOf ch.val).state = .train ∧
      (t.hlOf ch.val).since = s.count ∧ t.rd (Reg.HL_CTRL ch.val) = v &&& 0x1FF ∧ t.fld (Reg.HL_TRAIN ch.val) 11 8 = 0 ∧
      (∀ k, k ≠ ch.val → t.hlOf k = s.hlOf k)) ∧
  (∀ (s : State) (ch : Fin 64) (v : Word), s.dropped (Reg.HL_CTRL ch.val) = none → s.chLocked ch.val = false → s.flag (Reg.HL_CTRL ch.val) 0 = true →
    bit v 0 = false → (s.hlOf ch.val).state = .up →
    ∃ u : State, exec (.hlDisable ch v) s = .next ((u.raise 0x0802 0 [wd ch.val, 4]).modHl ch.val (fun h => { h with leaving := true })) ∧
      u = { s with regs := u.regs, hl := u.hl } ∧ (u.hlOf ch.val).state = .fault ∧ u.rd (Reg.HL_CTRL ch.val) = v &&& 0x1FF ∧
      u.rd (Reg.HL_RETRAINS ch.val) = satInc (s.rd (Reg.HL_RETRAINS ch.val))) ∧
  (∀ (s : State) (ch : Fin 64), s.dropped (Reg.HL_TRAIN ch.val) = none →
    ∃ t, exec (.hlTrainGo ch) s = .next t ∧ t = { s with regs := t.regs, hl := t.hl } ∧ (t.hlOf ch.val).state = .train ∧
      (t.hlOf ch.val).since = s.count ∧ t.fld (Reg.HL_TRAIN ch.val) 11 8 = 0 ∧ (∀ k, k ≠ ch.val → t.hlOf k = s.hlOf k) ∧
      (∀ a, a ≠ Reg.HL_TRAIN ch.val → t.rd a = s.rd a)) ∧
  (∀ (s : State) (ch : Fin 64), s.dropped (Reg.HL_TRAIN ch.val) = none →
    ((s.hlOf ch.val).state = .train ∨ (s.hlOf ch.val).state = .cal ∨ (s.hlOf ch.val).state = .load) →
    ∃ t, exec (.hlTrainCancel ch) s = .next t ∧ t = { s with regs := t.regs, hl := t.hl } ∧ (t.hlOf ch.val).state = .off ∧
      t.fld (Reg.HL_TRAIN ch.val) 11 8 = 6 ∧ (∀ k, k ≠ ch.val → t.hlOf k = s.hlOf k)) ∧
  (∀ (s : State) (ch : Fin 64), (s.hlOf ch.val).state ≠ .off → exec (.hlBlockLock ch) s = .next (s.modHl ch.val (fun h => { h with lock := true }))) ∧
  (∀ (s : State) (ch : Fin 64) (c0 c1 c2 c3 : DWord), (s.hlOf ch.val).state = .train → (s.hlOf ch.val).lock = true →
    ∃ u : State, u = { s with regs := u.regs, hl := u.hl } ∧
      (u.capCheck ch.val = true → exec (.hlCapRx ch c0 c1 c2 c3) s = .next (u.modHl ch.val (fun h =>
        { h with state := .cal, badRun := 0, hfix := c0.toNat / 2 ^ 33 % 1024, cal := [], calSeq := h.calSeq + 1 }))) ∧
      (u.capCheck ch.val = false → exec (.hlCapRx ch c0 c1 c2 c3) s = .next (u.hlTrainFail ch.val 4)) ∧
      u.fld (Reg.HL_CAP1 ch.val) 9 0 = c0.toNat / 2 ^ 33 % 1024 ∧ u.fld (Reg.HL_CAP0 ch.val) 13 0 = c0.toNat / 2 ^ 10 % 2 ^ 14) ∧
  (∀ (s : State) (ch : Fin 64) (q : Byte) (r ht : Word), (s.hlOf ch.val).state = .cal → (s.hlOf ch.val).upPend = false →
    q.toNat = (s.hlOf ch.val).calSeq % 256 → (s.hlOf ch.val).cal.length + 1 < 256 →
    exec (.hlCalRx ch q r ht) s = .next (s.setHl ch.val { s.hlOf ch.val with
      cal := (r.toNat - ht.toNat : Int) :: (s.hlOf ch.val).cal, calSeq := (s.hlOf ch.val).calSeq + 1 })) ∧
  (∀ (s : State) (ch : Fin 64), (s.hlOf ch.val).state = .load → (s.hlOf ch.val).reload = none →
    (s.hlOf ch.val).uploads.any (fun u => !u.forSwitch) = false →
    (s.hlOf ch.val).loaded = true → s.chLocked ch.val = false →
    exec (.hlLoadDone ch) s = .next (s.hlUp ch.val) ∧ ((s.hlUp ch.val).hlOf ch.val).state = .up) ∧
  (∀ (s : State) (ch : Fin 64), (s.hlOf ch.val).state = .train →
    ((s.hlOf ch.val).lock = false → 200000 ≤ (s.count - (s.hlOf ch.val).since).toNat → exec (.hlTrainTimeout ch) s = .next (s.hlTrainFail ch.val 2)) ∧
    ((s.hlOf ch.val).lock = true → 300000 ≤ (s.count - (s.hlOf ch.val).since).toNat → exec (.hlTrainTimeout ch) s = .next (s.hlTrainFail ch.val 3))) ∧
  (∀ (s : State) (ch : Fin 64), (s.hlOf ch.val).state = .fault → s.fld (Reg.HL_CTRL ch.val) 1 0 = 3 →
    10000 ≤ (s.count - (s.hlOf ch.val).since).toNat → exec (.hlRetrainTimer ch) s = .next (s.hlTrain ch.val))

/-- HL_LOCK_LOST, HL_NO_RETURN, HL_LAT_CHECK and HL_RETURN_FRAME (R229, R251, R256, R263 to R265): a link in UP that loses lock or gets no return START enters FAULT with its
cause; a mean that drifts from D by more than 0.5 ns is reported; a return frame that fails its check is counted, raises HL_RX_CRC and is
discarded; a good one gives temperatures, key and state, read from its blocks. One whose blocks 1 to 3 are not PORT, STATUS_T and STATUS_S says nothing
(the model's choice: log entry 122).
HL_WDATA_WRITE, HL_WAVE_ARM, HL_WAVE_CANCEL and HL_WAVE_CLEAR (R241, R242, R244, R273): while ARM is 0 a data write joins the staged set at the address of HL_WADDR; while
ARM is 1, or with 32 staged, it is refused and reported; ARM arms the set, clearing it drops the set, and CLEAR empties the staged set. -/
def Obligations.HeadLinkFaultsAndWaveforms : Prop :=
  (∀ (s : State) (ch : Fin 64), (s.hlOf ch.val).lock = true → (s.hlOf ch.val).state = .up →
    exec (.hlLockLost ch) s = .next ((s.setHl ch.val { s.hlOf ch.val with lock := false }).hlFault ch.val 1)) ∧
  (∀ (s : State) (ch : Fin 64), (s.hlOf ch.val).state = .up → exec (.hlNoReturn ch) s = .next (s.hlFault ch.val 3)) ∧
  (∀ (s : State) (ch : Fin 64) (cause : Nat), (s.hlOf ch.val).state = .up → ∃ u : State, s.hlFault ch.val cause = u.raise 0x0802 0 [wd ch.val, wd cause] ∧
    u = { s with regs := u.regs, hl := u.hl } ∧ (u.hlOf ch.val).state = .fault ∧ (u.hlOf ch.val).since = s.count ∧
    (∀ k, k ≠ ch.val → u.hlOf k = s.hlOf k)) ∧
  (∀ (s : State) (ch : Fin 64) (r ht : Word), (s.hlOf ch.val).state = .up → (s.hlOf ch.val).latOut = true → (s.hlOf ch.val).lat = [] →
    16 < (r.toNat - ht.toNat : Int) - 2 * (s.hlOf ch.val).d →
    exec (.hlLatCheck ch r ht) s = .next (((s.setHl ch.val { s.hlOf ch.val with lat := [(r.toNat - ht.toNat : Int)], latOut := false }).orW
      (Reg.HL_ERR ch.val) 0x200).raise 0x080C 0 [wd ch.val, wi (divHalfUp (r.toNat - ht.toNat : Int) 2)])) ∧
  (∀ (s : State) (ch : Fin 64) (bs : List Block), (s.hlOf ch.val).state ≠ .off → returnGood bs = false → (s.hlOf ch.val).badRun < 3 →
    ∃ t, exec (.hlReturnFrame ch bs) s = .next t ∧ (t.hlOf ch.val) = { s.hlOf ch.val with badRun := (s.hlOf ch.val).badRun + 1 } ∧
      (∀ k, k ≠ ch.val → t.hlOf k = s.hlOf k) ∧ t.ctx = s.ctx ∧ t.twin = s.twin) ∧
  (∀ (s : State) (ch : Fin 64) (bs : List Block), (s.hlOf ch.val).state ≠ .off → returnGood bs = true → returnLaid bs = false →
    exec (.hlReturnFrame ch bs) s = .next (s.setHl ch.val { s.hlOf ch.val with badRun := 0 })) ∧
  (∀ (s : State) (ch : Fin 64) (bs : List Block) (f : ReturnFrame), (s.hlOf ch.val).state ≠ .off → returnGood bs = true → returnLaid bs = true →
    f = returnFrame bs → f.reports = [] → f.mismatch = false → f.dmiss = false → f.wiring = false → f.used = (s.hlOf ch.val).used →
    epochAbove f.keyEpoch s.twin.epoch = false → f.keyActive = false → s.twin.role = .off →
    ∃ t, exec (.hlReturnFrame ch bs) s = .next t ∧ t.rd (Reg.HL_KEY ch.val) = f.keyEpoch ∧
      t.rd (Reg.HL_TEMP01 ch.val) = wd (f.temp0.toNat + f.temp1.toNat * 2 ^ 16) ∧ (t.hlOf ch.val).loaded = f.loaded ∧
      (t.hlOf ch.val).state = (s.hlOf ch.val).state ∧ (t.hlOf ch.val).badRun = 0) ∧
  (∀ (s : State) (ch : Fin 64) (v : Word), s.dropped (Reg.HL_WDATA ch.val) = none →
    exec (.hlWdataWrite ch v) s = .next (
      if s.flag (Reg.HL_WCTL ch.val) 0 = true then s.orW (Reg.HL_ERR ch.val) 0x100
      else if 32 ≤ (s.hlOf ch.val).wstage.length then s.orW (Reg.HL_ERR ch.val) 0x80
      else s.setHl ch.val { s.hlOf ch.val with wstage := (s.hlOf ch.val).wstage ++ [(s.fld (Reg.HL_WADDR ch.val) 6 0, v)] })) ∧
  (∀ (s : State) (ch : Fin 64), s.dropped (Reg.HL_WCTL ch.val) = none →
    (s.flag (Reg.HL_WCTL ch.val) 0 = false →
      exec (.hlWaveArm ch 1) s = .next ((s.modHl ch.val (fun h => { h with wlate := false })).setF (Reg.HL_WCTL ch.val) 0 0 1)) ∧
    (s.flag (Reg.HL_WCTL ch.val) 0 = true → exec (.hlWaveArm ch 1) s = .next (s.setF (Reg.HL_WCTL ch.val) 0 0 1))) ∧
  (∀ (s : State) (ch : Fin 64), s.dropped (Reg.HL_WCTL ch.val) = none → s.flag (Reg.HL_WCTL ch.val) 0 = true →
    exec (.hlWaveCancel ch 0) s = .next ((s.setF (Reg.HL_WCTL ch.val) 0 0 0).modHl ch.val (fun h => { h with wstage := [], wnext := 0 }))) ∧
  (∀ (s : State) (ch : Fin 64), s.dropped (Reg.HL_WCTL ch.val) = none → s.flag (Reg.HL_WCTL ch.val) 0 = false →
    exec (.hlWaveClear ch 2) s = .next (s.modHl ch.val (fun h => { h with wstage := [], wnext := 0 })))

/-- SCHED_WRITE_ENTRY, SCHED_READ_ENTRY, SCHED_CLEAR_EN and SCHED_ENTRY_DUE (R65, R67, R69, R70, R76): the window writes the entry of
SCHED_INDEX whole, its reserved bits ignored, reads it back, or clears its EN; an entry of the time domain whose trigger is reached fires once in its turn,
drives the pin of its action, and advances by PERIOD or clears EN; one that is not reached, not enabled, or whose turn it is not (R68), does nothing. -/
def Obligations.SchedulerEntriesAreWrittenAndFire : Prop :=
  (∀ s : State, s.dropped Reg.SCHED_CMD = none →
    exec .schedWriteEntry s = .next (s.setSched (s.fld Reg.SCHED_INDEX 10 0) { s.schedOf (s.fld Reg.SCHED_INDEX 10 0) with
      w0 := s.rd (Reg.SCHED_W 0), w1 := if bit (s.rd (Reg.SCHED_W 3)) 30 then s.rd (Reg.SCHED_W 1) &&& 0xFFFF else s.rd (Reg.SCHED_W 1),
      w2 := s.rd (Reg.SCHED_W 2), w3 := s.rd (Reg.SCHED_W 3) &&& 0xFF00FFFF, passed := false })) ∧
  (∀ s : State, s.dropped Reg.SCHED_CMD = none →
    ∃ t, exec .schedReadEntry s = .next t ∧ t = { s with regs := t.regs } ∧
      t.rd (Reg.SCHED_W 0) = (s.schedOf (s.fld Reg.SCHED_INDEX 10 0)).w0 ∧ t.rd (Reg.SCHED_W 1) = (s.schedOf (s.fld Reg.SCHED_INDEX 10 0)).w1 ∧
      t.rd (Reg.SCHED_W 2) = (s.schedOf (s.fld Reg.SCHED_INDEX 10 0)).w2 ∧ t.rd (Reg.SCHED_W 3) = (s.schedOf (s.fld Reg.SCHED_INDEX 10 0)).w3 ∧
      (∀ a, (∀ k, k < 4 → a ≠ Reg.SCHED_W k) → t.rd a = s.rd a)) ∧
  (∀ s : State, s.dropped Reg.SCHED_CMD = none →
    exec .schedClearEn s = .next (s.setSched (s.fld Reg.SCHED_INDEX 10 0) { s.schedOf (s.fld Reg.SCHED_INDEX 10 0) with
      w3 := (s.schedOf (s.fld Reg.SCHED_INDEX 10 0)).w3 &&& 0x7FFFFFFF, passed := false })) ∧
  (∀ (s : State) (e : Fin 2048), (s.schedOf e.val).en = true → (s.schedOf e.val).dom = false → (s.schedOf e.val).time.toNat ≤ s.now.toNat →
    s.dotRuns = true → s.schedTurn e.val = true → (s.schedOf e.val).passed = false → bits (s.schedOf e.val).w3 27 24 = 5 → s.domOn 7 = true → s.twin.role ≠ .standby →
    ∃ t, exec (.schedEntryDue e) s = .next t ∧ t = { s with pos := t.pos, out := t.out } ∧
      (t.schedOf e.val).firings = (s.schedOf e.val).firings + 1 ∧ (∀ k, k ≠ e.val → t.schedOf k = s.schedOf k) ∧
      ((s.schedOf e.val).w2 = 0 → (t.schedOf e.val).w3 = (s.schedOf e.val).w3 &&& 0x7FFFFFFF ∧ (t.schedOf e.val).time = (s.schedOf e.val).time) ∧
      ((s.schedOf e.val).w2 ≠ 0 → (t.schedOf e.val).w3 = (s.schedOf e.val).w3 ∧
        (t.schedOf e.val).time = (s.schedOf e.val).time + BitVec.ofNat 64 (s.schedOf e.val).w2.toNat) ∧
      t.pos.gpio.getLsbD (bits (s.schedOf e.val).w3 15 0 % 16) = (match bits (s.schedOf e.val).w3 15 0 / 16 % 4 with
        | 0 => false | 1 => true | _ => !s.pos.gpio.getLsbD (bits (s.schedOf e.val).w3 15 0 % 16)) ∧
      (∀ k, k < 16 → k ≠ bits (s.schedOf e.val).w3 15 0 % 16 → t.pos.gpio.getLsbD k = s.pos.gpio.getLsbD k)) ∧
  (∀ (s : State) (e : Fin 2048), ((s.schedOf e.val).en = false ∨ ((s.schedOf e.val).dom = false ∧ s.now.toNat < (s.schedOf e.val).time.toNat) ∨
      s.schedTurn e.val = false) →
    exec (.schedEntryDue e) s = .next s)

/-- GPIO_PULSE_END and CAP_EDGE (R71, R576): 100 ns after a pulse began its pin returns to the level from before; a change that an enabled
capture unit takes, while its VALID is 0, latches the corrected time and the position of its stamp; one that comes while VALID is 1 sets
OVERRUN and latches nothing; a unit takes an edge of the source and the direction that CAP_CTRL selects, and no other.
INHIBIT_ASSERT, PRINT_INHIBIT_RISE, PI_RESUME and INHIBIT_RELEASE (R72, R73): the input low for 2 ns sets the inhibit latch, counts it, kills the links that
carry codes and raises the event; the rise of the input alone changes no latch; the latch clears at a frame boundary once
the input has been high for 1,280 ns and AUTO_RESUME or RESUME permits it.
MARK_SOURCE_EDGE and BUF_SCRUB (R132, R146, R147, R149): an edge on a GPIO that MARK_SRC of a context selects is its input 0x20, and changes nothing where no
context selects the pin; a scrub step reads its word, advances by one word and counts a pass at the end; a word with 1 to 3 bad symbols is
counted and is whole from then on; a whole word changes nothing else; a word that decodes to another codeword counts as corrected and has
the data of that codeword. -/
def Obligations.PinsAndInhibitAct : Prop :=
  (∀ (s : State) (pin : Fin 16) (p : Pulse), s.pos.pulses.get none pin.val = some p → p.endAt.toNat ≤ s.count.toNat →
    ∃ t, exec (.gpioPulseEnd pin) s = .next t ∧ t = { s with pos := t.pos, out := t.out } ∧ t.pos.gpio.getLsbD pin.val = p.back ∧
      t.pos.pulses.get none pin.val = none ∧ (∀ k : Fin 16, k ≠ pin → t.pos.gpio.getLsbD k.val = s.pos.gpio.getLsbD k.val) ∧
      t.pos.sched = s.pos.sched ∧ t.pos.pref = s.pos.pref ∧ t.pos.pi = s.pos.pi) ∧
  (∀ (s : State) (u : Fin 16) (src : Fin 32) (rising : Bool) (run : Nat) (sub : Fin 6), s.dotRuns = true →
    s.capTakes (s.rd (Reg.CAP_CTRL u.val)) src.val rising run = true → (s.capOf u.val).valid = false →
    exec (.capEdge u src rising run sub) s = .next (s.setCap u.val { s.capOf u.val with
      valid := true, time := s.timeAt (s.runStamp run sub), pos := s.prefPos (s.fld (Reg.CAP_CTRL u.val) 9 8) (s.runStamp run sub) })) ∧
  (∀ (s : State) (u : Fin 16) (src : Fin 32) (rising : Bool) (run : Nat) (sub : Fin 6), s.dotRuns = true →
    s.capTakes (s.rd (Reg.CAP_CTRL u.val)) src.val rising run = true → (s.capOf u.val).valid = true →
    exec (.capEdge u src rising run sub) s =
      .next ((s.wr (Reg.CAP_STATUS u.val) (s.rd (Reg.CAP_STATUS u.val) ||| 2)).raiseE 0x020E 0 [wd u.val])) ∧
  (∀ (s : State) (u : Fin 16) (src : Fin 32) (rising : Bool) (run : Nat) (sub : Fin 6),
    (s.flag (Reg.CAP_CTRL u.val) 0 = false ∨ s.fld (Reg.CAP_CTRL u.val) 5 1 ≠ src.val ∨
      (s.fld (Reg.CAP_CTRL u.val) 7 6 = 0 ∧ rising = false) ∨ (s.fld (Reg.CAP_CTRL u.val) 7 6 = 1 ∧ rising = true)) →
    exec (.capEdge u src rising run sub) s = .next s) ∧
  (∀ (s : State) (ctl : Word) (src : Nat) (rising : Bool) (run : Nat), bit ctl 0 = true → bits ctl 5 1 = src →
    (bits ctl 7 6 = 0 → rising = true) → (bits ctl 7 6 = 1 → rising = false) →
    (src = 0 → s.capTakes ctl src rising run = true) ∧
    (1 ≤ src → src ≤ 8 → s.capTakes ctl src rising run = decide (s.fld (Reg.ENC_CTRL (src - 1)) 3 0 < run)) ∧
    (16 ≤ src → s.capTakes ctl src rising run = s.domOn 7)) ∧
  (∀ s : State, s.pos.pi.low = false → s.pos.pi.latch = false →
    ∃ u : State, exec .inhibitAssert s = .next ((u.seqInputAll 0x21).raise 0x020C 0 []) ∧ u = { s with pos := u.pos, regs := u.regs, hl := u.hl } ∧
      u.pos.pi.latch = true ∧ u.pos.pi.low = true ∧ u.pos.pi.setAt = s.count ∧ u.rd Reg.PI_COUNT = satInc (s.rd Reg.PI_COUNT) ∧
      u.pos = { s.pos with pi := u.pos.pi } ∧
      (∀ ch, (s.hlOf ch).carries = false → u.hlOf ch = s.hlOf ch) ∧
      (∀ ch, ch < 64 → (s.hlOf ch).carries = true → u.hlOf ch = { s.hlOf ch with kills := (s.hlOf ch).kills ++ [s.count] } ∧
        u.rd (Reg.HL_KILLS ch) = satInc (s.rd (Reg.HL_KILLS ch)))) ∧
  (∀ s : State, s.pos.pi.low = false → s.pos.pi.latch = true →
    exec .inhibitAssert s = .next { s with pos := { s.pos with pi := { s.pos.pi with low := true, resumed := false } } }) ∧
  (∀ s : State, s.pos.pi.low = true → exec .printInhibitRise s =
    .next { s with pos := { s.pos with pi := { s.pos.pi with low := false, riseAt := s.count, resumed := false } } }) ∧
  (∀ (s : State) (v : Word), s.dropped Reg.PI_CTRL = none →
    ∃ t, exec (.piResume v) s = .next t ∧ t = { s with regs := t.regs, pos := { s.pos with pi := { s.pos.pi with resumed := t.pos.pi.resumed } } } ∧
      t.rd Reg.PI_CTRL = v &&& 1 ∧ (∀ a, a ≠ Reg.PI_CTRL → t.rd a = s.rd a) ∧
      t.pos.pi.resumed = (s.pos.pi.resumed || (bit v 1 && !s.pos.pi.low))) ∧
  (∀ s : State, s.dotRuns = true → s.pos.pi.latch = true → s.pos.pi.low = false → 1280 ≤ (s.count - s.pos.pi.riseAt).toNat →
    (s.flag Reg.PI_CTRL 0 = true ∨ s.pos.pi.resumed = true) → s.count = s.pos.frame.next →
    ∃ u : State, exec .inhibitRelease s = .next ((u.seqInputAll 0x22).raise 0x020D 0 []) ∧ u = { s with pos := { s.pos with pi := u.pos.pi } } ∧
      u.pos.pi.latch = false ∧ u.pos.pi.low = false ∧ u.pos.pi.resumed = false) ∧
  (∀ s : State, (s.pos.pi.latch = false ∨ s.pos.pi.low = true ∨ (s.count - s.pos.pi.riseAt).toNat < 1280 ∨
      (s.flag Reg.PI_CTRL 0 = false ∧ s.pos.pi.resumed = false) ∨ s.count ≠ s.pos.frame.next) → exec .inhibitRelease s = .next s) ∧
  (∀ (s : State) (pin : Fin 16), s.domOn 7 = true →
    exec (.markSourceEdge pin) s = .next ((s.ctxNums.filter (fun n => s.fld (Reg.CTX_CFG n) 20 16 == 16 + pin.val)).foldl (fun s n => s.seqInput n 0x20) s)) ∧
  (∀ (s : State) (pin : Fin 16), (∀ n ∈ s.ctxNums, s.fld (Reg.CTX_CFG n) 20 16 ≠ 16 + pin.val) → exec (.markSourceEdge pin) s = .next s) ∧
  (∀ (s : State) (w : Fin 2097152) (flip e : Code304), s.bufRuns = true → s.buf.ready = true → s.flag Reg.BUF_SCRUB_CTRL 0 = true → w.val = s.buf.scrub →
    e = s.buf.flips.get 0 w.val ^^^ flip →
    (e = 0 → w.val + 1 < 2097152 →
      exec (.bufScrub w flip) s = .next { s with buf := { s.buf with scrub := w.val + 1, flips := s.buf.flips.set 0 w.val 0 } }) ∧
    (e = 0 → w.val + 1 = 2097152 → exec (.bufScrub w flip) s =
      .next (({ s with buf := { s.buf with scrub := 0, flips := s.buf.flips.set 0 w.val 0 } } : State).wr Reg.BUF_SCRUB_PASS
        (s.rd Reg.BUF_SCRUB_PASS + 1))) ∧
    (1 ≤ symbols e → symbols e ≤ 3 → w.val + 1 < 2097152 → exec (.bufScrub w flip) s =
      .next (({ s with buf := { s.buf with scrub := w.val + 1, flips := (s.buf.flips.set 0 w.val e).set 0 w.val 0 } } : State).wr Reg.BUF_CORR_CNT
        (satInc (s.rd Reg.BUF_CORR_CNT)))) ∧
    (4 ≤ symbols e → w.val + 1 < 2097152 → ∃ t u : State, exec (.bufScrub w flip) s = .next t ∧
      u = { s with buf := { s.buf with scrub := w.val + 1, flips := s.buf.flips.set 0 w.val e } } ∧
      match miscorrects e with
      | none => t = u.eccUncorr w.val (u.useOf w.val).1 (u.useOf w.val).2.1
      | some c => t = { s with buf := t.buf, regs := t.regs } ∧ t.buf = { u.buf with mem := t.buf.mem, flips := t.buf.flips } ∧
        t.buf.mem = s.buf.mem.write (w.val * 32) (natBytes 32 (s.wordData w.val ^^^ c.extractLsb' 0 256).toNat) ∧
        t.buf.flips.get 0 w.val = 0 ∧ t.rd Reg.BUF_CORR_CNT = satInc (s.rd Reg.BUF_CORR_CNT)))

/-- FAB_BLOCK_LOCK, FAB_PORT_UP, FAB_PORT_DOWN and FAB_CREDIT_RX (R275, R276, R280, R285, R287, R289): a port of an enabled lane gains lock and sends its LINK
pair; one whose LINK pairs name another serial is UP, floods TOPO_CHANGE, and starts discovery on a device that has no coordinator; one whose pairs
name the own serial is in LOOP; each is reported; a port that was not UP goes down without a report, one that was UP with one, and its
unicast packets take another route; credits add to those of their class, in units of 8 blocks.
What a packet on a port of the fabric meets (R278 to R280, R287, R288): one whose type and class do not belong together, or whose length is not that of
its type, is discarded and counted; a TC3 packet with a wrong CRC is counted and discarded; a TC0 packet without room is counted and reported; a
broadcast that has come before hands this device nothing; a packet for another address goes on; one that is handed over acts on the state it
arrives in. -/
def Obligations.FabricPortsComeUpAndCheckPackets : Prop :=
  (∀ (s : State) (k : Fin 8), s.domOn 6 = true → s.portEn k.val = true → (s.portOf k.val).lock = false →
    exec (.fabBlockLock k) s = .next ((s.setPort k.val { lock := true }).emit (.fabBlocks k.val (linkPair k.val Config.serial)))) ∧
  (∀ (s : State) (k : Fin 8) (a b : Block) (sn : DWord), s.domOn 6 = true → s.portEn k.val = true → (s.portOf k.val).lock = true →
    (s.portOf k.val).up = false → (s.portOf k.val).loop = false → linkSerial a b = some sn →
    (sn = Config.serial →
      exec (.fabPortUp k a b) s = .next ((s.setPort k.val { s.portOf k.val with loop := true, nbr := sn }).raise 0x0903 0 [wd k.val])) ∧
    (sn ≠ Config.serial → ∃ u v : State, u = (s.setPort k.val { lock := true, up := true, nbr := sn }).raise 0x0901 0 [wd k.val, lo32 sn] ∧
      u.portUp k.val = true ∧ v = u.topoChange ∧
      exec (.fabPortUp k a b) s = .next (if v.fab.coord.isNone && v.fab.disc.isNone then v.startDisc else v))) ∧
  (∀ (s : State) (k : Fin 8) (a b : Block), linkSerial a b = none → exec (.fabPortUp k a b) s = .next s) ∧
  (∀ (s : State) (k : Fin 8), s.domOn 6 = true →
    (((s.portPump k.val).portOf k.val).up = false → exec (.fabPortDown k) s = .next ((s.portPump k.val).setPort k.val {})) ∧
    (((s.portPump k.val).portOf k.val).up = true → exec (.fabPortDown k) s =
      .next ((((s.portPump k.val).portOf k.val).wait.filter (fun e => e.1.dest != 255)).foldl (fun s e => s.route e.1 e.2)
        ((((s.portPump k.val).setPort k.val {}).raise 0x0902 0 [wd k.val]).topoChange)))) ∧
  (∀ (s : State) (k : Fin 8) (b : Block), s.portUp k.val = true → blkType b = some 0x4B → blkField b 9 8 ≠ 0 →
    exec (.fabCreditRx k b) s =
      .next (s.portGive k.val (fun p => p.setCredit (blkField b 9 8) (p.credit (blkField b 9 8) + blkField b 31 16 * 8))) ∧
    ((s.portOf k.val).wait0 = [] → (s.portOf k.val).cur = [] → (s.portOf k.val).ctl = [] → (s.portOf k.val).wait = [] →
      ∃ t, exec (.fabCreditRx k b) s = .next t ∧ t = { s with fab := t.fab } ∧
        (t.portOf k.val).credit (blkField b 9 8) = (s.portOf k.val).credit (blkField b 9 8) + blkField b 31 16 * 8 ∧
        (∀ c, 1 ≤ c → c ≤ 3 → c ≠ blkField b 9 8 → (t.portOf k.val).credit c = (s.portOf k.val).credit c) ∧
        (∀ j, j ≠ k.val → t.portOf j = s.portOf j))) ∧
  (∀ (s : State) (k : Nat) (bs : List Block) (q : Packet) (mine ok : Packet → Bool) (f : Packet → State → State),
    s.handsOver k bs q q.typ.toNat = true → mine q = true → ok q = true → s.fabRecv k bs mine ok f = f q (s.arrives k q)) ∧
  (∀ (s : State) (k : Nat) (bs : List Block) (mine ok : Packet → Bool) (f : Packet → State → State), (s.portUp k = false ∨ packetOf bs = none) →
    s.fabRecv k bs mine ok f = s) ∧
  (∀ (s : State) (k : Nat) (bs : List Block) (q : Packet) (mine ok : Packet → Bool) (f : Packet → State → State), s.portUp k = true →
    packetOf bs = some q → q.tc ≠ 0 → (typeOk q.typ.toNat q.tc.toNat = false ∨ (mine q = true ∧ ok q = false)) →
    s.fabRecv k bs mine ok f = (s.giveCredit k q).wr Reg.FAB_DROP (satInc ((s.giveCredit k q).rd Reg.FAB_DROP))) ∧
  (∀ (s : State) (k : Nat) (bs : List Block) (q : Packet) (mine ok : Packet → Bool) (f : Packet → State → State), s.portUp k = true →
    packetOf bs = some q → q.tc = 3 → typeOk q.typ.toNat 3 = true → mine q = true → ok q = true → q.bad = true →
    s.fabRecv k bs mine ok f = (s.giveCredit k q).wr Reg.FAB_RX_CRC (satInc ((s.giveCredit k q).rd Reg.FAB_RX_CRC))) ∧
  (∀ (s : State) (k : Nat) (bs : List Block) (q : Packet) (mine ok : Packet → Bool) (f : Packet → State → State), s.portUp k = true →
    packetOf bs = some q → q.tc = 0 → mine q = true → (s.tc0Fits k q).2 = false →
    s.fabRecv k bs mine ok f = (((s.tc0Fits k q).1.wr Reg.FAB_TC0_DROP (satInc (s.rd Reg.FAB_TC0_DROP))).raise 0x0908 0 [wd k])) ∧
  (∀ (s : State) (k : Nat) (bs : List Block) (q : Packet) (mine ok : Packet → Bool) (f : Packet → State → State), s.portUp k = true →
    packetOf bs = some q → q.tc ≠ 0 → typeOk q.typ.toNat q.tc.toNat = true → mine q = true → ok q = true → q.bad = false → q.dest = 255 →
    (s.giveCredit k q).newSeq q = none → s.fabRecv k bs mine ok f = s.giveCredit k q) ∧
  (∀ (s : State) (k : Nat) (bs : List Block) (q : Packet) (mine ok : Packet → Bool) (f : Packet → State → State), s.portUp k = true →
    packetOf bs = some q → q.tc ≠ 0 → typeOk q.typ.toNat q.tc.toNat = true → mine q = true → ok q = true → q.bad = false → q.dest ≠ 255 →
    s.fabOn = true → s.fab.addr ≠ 0 → q.dest.toNat ≠ s.fab.addr → s.fabRecv k bs mine ok f = (s.giveCredit k q).forward q k) ∧
  (∀ (s : State) (k : Nat) (q : Packet), s.giveCredit k q = { s with fab := (s.giveCredit k q).fab, out := (s.giveCredit k q).out } ∧
    (∀ j, j ≠ k → (s.giveCredit k q).portOf j = s.portOf j) ∧ ((s.giveCredit k q).portOf k).tc0 = (s.portOf k).tc0 ∧
    ((s.giveCredit k q).portOf k).up = (s.portOf k).up ∧ (s.giveCredit k q).fab.addr = s.fab.addr)

/-- FAB_HELLO_RX, FAB_DISC_REQ_RX, FAB_ROUTE_RX, FAB_ROUTE_ACK_RX, FAB_DONE_RX, FAB_BEACON_RX and FAB_TOPO_CHANGE_RX (R285, R289): what a discovery
packet that is handed over does. A HELLO notes its device; a DISC_REQ enters discovery; the own ROUTE becomes pending and is
acknowledged; the last acknowledgement floods DONE; DONE gives generation and T_sw; a BEACON is noted; a change starts HOLD anew. A HELLO, a ROUTE and an
acknowledgement change nothing more on a device that is not in discovery. -/
def Obligations.DiscoveryPacketsAct : Prop :=
  (∀ (s : State) (k : Fin 8) (bs : List Block) (q : Packet) (d : Disc), s.handsOver k.val bs q 1 = true → q.data.length = 10 → (s.arrives k.val q).fab.disc = some d →
    exec (.fabHelloRx k bs) s = .next { s.arrives k.val q with fab := { (s.arrives k.val q).fab with disc := some { d with
      hellos := helloInsert (q.data.getD 0 0, q.data) d.hellos,
      newAt := if d.hellos.any (fun h => h.1 == q.data.getD 0 0) then d.newAt else (s.arrives k.val q).count } } }) ∧
  (∀ (s : State) (k : Fin 8) (bs : List Block) (q : Packet), s.handsOver k.val bs q 3 = true → q.data.length = 1 →
    exec (.fabDiscReqRx k bs) s = .next (s.arrives k.val q).enterDisc) ∧
  (∀ (s : State) (k : Fin 8) (bs : List Block) (q : Packet) (d : Disc), s.handsOver k.val bs q 4 = true → q.data.length = 66 → (s.arrives k.val q).fab.disc = some d →
    (q.data.getD 0 0 = Config.serial → exec (.fabRouteRx k bs) s = .next (({ s.arrives k.val q with fab := { (s.arrives k.val q).fab with disc := some { d with
      addrs := d.addrs.filter (fun e => e.1 != Config.serial) ++ [(Config.serial, bits (lo32 (q.data.getD 1 0)) 7 0)],
      mine := some (bits (lo32 (q.data.getD 1 0)) 7 0, routeWords (q.data.drop 2)) } } } : State).sendPacket 3 255 5 [Config.serial])) ∧
    (q.data.getD 0 0 ≠ Config.serial → exec (.fabRouteRx k bs) s = .next { s.arrives k.val q with fab := { (s.arrives k.val q).fab with disc := some { d with
      addrs := d.addrs.filter (fun e => e.1 != q.data.getD 0 0) ++ [(q.data.getD 0 0, bits (lo32 (q.data.getD 1 0)) 7 0)] } } })) ∧
  (∀ (s : State) (k : Fin 8) (bs : List Block) (q : Packet) (d : Disc), s.handsOver k.val bs q 5 = true → q.data.length = 1 → (s.arrives k.val q).fab.disc = some d →
    exec (.fabRouteAckRx k bs) s = .next (
      let u : State := { s.arrives k.val q with fab := { (s.arrives k.val q).fab with disc := some { d with unacked := d.unacked.filter (· != q.data.getD 0 0) } } }
      if d.unacked ≠ [] ∧ d.unacked.filter (· != q.data.getD 0 0) = [] ∧ d.done = none then u.sendDone else u)) ∧
  (∀ (s : State) (k : Fin 8) (bs : List Block) (q : Packet) (d : Disc), s.handsOver k.val bs q 6 = true → q.data.length = 2 → (s.arrives k.val q).fab.disc = some d →
    exec (.fabDoneRx k bs) s = .next { s.arrives k.val q with fab := { (s.arrives k.val q).fab with unreach := [], disc := some { d with
      done := some (lo32 (q.data.getD 0 0), q.data.getD 1 0) } } }) ∧
  (∀ (s : State) (k : Fin 8) (bs : List Block) (q : Packet), s.handsOver k.val bs q 2 = true → q.data.length = 1 →
    exec (.fabBeaconRx k bs) s = .next { s.arrives k.val q with fab := { (s.arrives k.val q).fab with
      beaconRx := (s.arrives k.val q).count, lost := false } }) ∧
  (∀ (s : State) (k : Fin 8) (bs : List Block) (q : Packet), s.handsOver k.val bs q 7 = true → q.data.length = 1 →
    exec (.fabTopoChangeRx k bs) s = .next { s.arrives k.val q with fab := { (s.arrives k.val q).fab with
      hold := some ((s.arrives k.val q).count + BitVec.ofNat 64 ((s.arrives k.val q).fld Reg.FAB_CFG 23 16 * 1000000)) } }) ∧
  (∀ (s : State) (k : Fin 8) (bs : List Block) (q : Packet) (typ : Nat), s.handsOver k.val bs q typ = true → (s.arrives k.val q).fab.disc = none →
    (typ = 1 → q.data.length = 10 → exec (.fabHelloRx k bs) s = .next (s.arrives k.val q)) ∧
    (typ = 4 → q.data.length = 66 → exec (.fabRouteRx k bs) s = .next (s.arrives k.val q)) ∧
    (typ = 5 → q.data.length = 1 → exec (.fabRouteAckRx k bs) s = .next (s.arrives k.val q)))

/-- FAB_HELLO_TIMER, FAB_COORD_ELECT, FAB_ROUTE_REPEAT, FAB_ROUTE_SWITCH, FAB_DISC_TIMEOUT, FAB_BEACON_TIMER, FAB_COORD_LOST and FAB_HOLD_EXPIRE (R285, R286,
R289): the timed steps of discovery. HELLO every 200 µs until DONE; 4 ms after the last new serial the lowest serial coordinates; unanswered
ROUTEs every 1 ms; at T_sw address, routes and generation become active; HOLD waits for the end of a discovery in progress; without DONE within 40 ms discovery ends and address and
routes stay. -/
def Obligations.DiscoveryStepsInTime : Prop :=
  (∀ (s : State) (d : Disc), s.fab.disc = some d → d.done = none → d.helloAt.toNat + 200000 ≤ s.count.toNat →
    exec .fabHelloTimer s = .next s.sendHello) ∧
  (∀ (s : State) (d : Disc), s.fab.disc = some d → d.coord = none → d.newAt.toNat + 4000000 ≤ s.count.toNat → s.fld Reg.FAB_CFG 15 8 = 0 →
    ((s.hellosNow d).head?.map Prod.fst).getD Config.serial ≠ Config.serial →
    exec .fabCoordElect s = .next { s with fab := { s.fab with disc := some { d with coord := some (((s.hellosNow d).head?.map Prod.fst).getD Config.serial) } } }) ∧
  (∀ (s : State) (d : Disc), s.fab.disc = some d → d.coord = none → d.newAt.toNat + 4000000 ≤ s.count.toNat → s.fld Reg.FAB_CFG 15 8 = 0 →
    ((s.hellosNow d).head?.map Prod.fst).getD Config.serial = Config.serial →
    ∃ (hs : List (DWord × List DWord)) (addrs : List (DWord × Nat)) (blocks : DWord × Nat → List DWord) (u v : State),
      hs = s.hellosNow d ∧ addrs = assign hs Config.serial ∧
      (∀ e, blocks e = e.1 :: dw (wd e.2) (s.rd Reg.FAB_GEN + 1) :: routeBlocks (routeTable hs addrs e.1)) ∧
      u = { s with fab := { s.fab with disc := some { d with
        coord := some Config.serial, routes := addrs.map blocks,
        unacked := (addrs.filter (fun e => e.1 != Config.serial)).map Prod.fst, routeAt := s.count, addrs := addrs,
        mine := (addrs.find? (fun e => e.1 == Config.serial)).map (fun e => (e.2, routeTable hs addrs e.1)) } } } ∧
      v = addrs.foldl (fun s e => s.sendPacket 3 255 4 (blocks e)) u ∧
      exec .fabCoordElect s = .next (if addrs.filter (fun e => e.1 != Config.serial) = [] then v.sendDone else v)) ∧
  (∀ (s : State) (d : Disc), s.fab.disc = some d → d.unacked ≠ [] → d.routeAt.toNat + 1000000 ≤ s.count.toNat →
    exec .fabRouteRepeat s = .next ((d.routes.filter (fun r => d.unacked.contains (r.headD 0))).foldl (fun s r => s.sendPacket 3 255 4 r)
      { s with fab := { s.fab with disc := some { d with routeAt := s.count } } })) ∧
  (∀ (s : State) (d : Disc) (gen : Word) (tsw : DWord), s.fab.disc = some d → d.done = some (gen, tsw) → tsw.toNat ≤ s.now.toNat →
    ∃ t, exec .fabRouteSwitch s = .next t ∧ t.fab.disc = none ∧ t.fab.coord = d.coord ∧ t.fab.addr = (d.mine.map Prod.fst).getD s.fab.addr ∧
      t.fab.nodes = d.addrs.length ∧ t.fab.coordAddr = ((d.coord.bind (hopsOf d.addrs)).getD 0) ∧ t.rd Reg.FAB_GEN = gen ∧ (d.mine = none → t.fab.route = s.fab.route) ∧
      t.ctx = s.ctx ∧ t.pos = s.pos ∧ t.hl = s.hl) ∧
  (∀ (s : State) (d : Disc) (gen : Word) (tsw : DWord), s.fab.disc = some d → d.done = some (gen, tsw) → s.now.toNat < tsw.toNat →
    exec .fabRouteSwitch s = .next s) ∧
  (∀ (s : State) (d : Disc), s.fab.disc = some d → d.done = none → d.start.toNat + 40000000 ≤ s.count.toNat →
    exec .fabDiscTimeout s = .next (({ s with fab := { s.fab with disc := none, opEnded := true } } : State).raise 0x0904 0
      [wd s.fab.nodes, wd s.fab.addr, s.rd Reg.FAB_GEN, 1])) ∧
  (∀ s : State, s.fab.coord = some Config.serial → s.fab.beaconTx.toNat + 1000000 ≤ s.count.toNat →
    exec .fabBeaconTimer s = .next (let u : State := s.sendPacket 3 255 2 [dw (s.rd Reg.FAB_GEN) (wd s.fab.coordAddr)]
      { u with fab := { u.fab with beaconTx := u.count } })) ∧
  (∀ (s : State) (c : DWord), s.fabOn = true → s.fab.coord = some c → c ≠ Config.serial → s.fab.lost = false →
    s.fab.beaconRx.toNat + 4000000 ≤ s.count.toNat → s.flag Reg.FAB_CFG 1 = false →
    exec .fabCoordLost s = .next (({ s with fab := { s.fab with lost := true } } : State).raise 0x0909 0 [wd s.fab.coordAddr])) ∧
  (∀ (s : State) (t : DWord), s.fab.hold = some t → t.toNat ≤ s.count.toNat → s.fab.coord = some Config.serial → s.flag Reg.FAB_CFG 1 = true →
    s.fab.disc = none → exec .fabHoldExpire s = .next (({ s with fab := { s.fab with hold := none } } : State).startDisc)) ∧
  (∀ (s : State) (t : DWord), s.fab.hold = some t → (s.count.toNat < t.toNat ∨ s.fab.disc.isSome = true) → exec .fabHoldExpire s = .next s)

/-- FAB_SAMPLE_RX, FAB_ZEDGE_RX, FAB_IMAGE_RX and FAB_SNAP_RX (R283, R284, R290 to R294): a sample goes to every PREF that names its source, when it is
later than the last it has from that source; a Z edge of the named source and encoder fills the receive registers and sets VALID, with OVERRUN when it was set; an image for a
channel that does not receive from its source is rejected and counted, one for a channel that does takes the place of an image of its line or
joins the images of its link, unless its slot's token has been taken (log entry 112); a snapshot arms the device, is taken at once when it is late, and is missed while the set is VALID.
FAB_SNAP_SEND, FAB_SNAP_RELEASE and FAB_SNAP_LATCH (R293, R294): SEND with T_s less than 1 µs ahead is refused and shown; RELEASE
frees the set; a snapshot whose set is VALID is missed, and one that was armed when the next arms is missed; at T_s the armed device latches the set, which is then VALID with
its tag and origin. -/
def Obligations.FabricDataAndSnapshots : Prop :=
  (∀ (s : State) (k : Fin 8) (bs : List Block) (q : Packet) (n : Fin 4), s.handsOver k.val bs q 0x10 = true → q.data.length = 3 →
    ∃ t, exec (.fabSampleRx k bs) s = .next t ∧ t = { s.arrives k.val q with pos := t.pos } ∧
      t.prefOf n.val = (if ((s.arrives k.val q).prefEn n.val && (s.arrives k.val q).prefSrc n.val == 8 &&
          (s.arrives k.val q).fld (Reg.PREF_FAB n.val) 9 0 == q.src.toNat + (q.data.getD 2 0).toNat / 2 ^ 40 % 4 * 2 ^ 8 &&
          (match ((s.arrives k.val q).prefOf n.val).sample with
            | none => true
            | some y => y.src != q.src.toNat + (q.data.getD 2 0).toNat / 2 ^ 40 % 4 * 2 ^ 8 || decide (0 < (q.data.getD 1 0 - y.stamp).toInt))) = true then
        { (s.arrives k.val q).prefOf n.val with got := true, sample := some { src := q.src.toNat + (q.data.getD 2 0).toNat / 2 ^ 40 % 4 * 2 ^ 8, p := q.data.getD 0 0, v := BitVec.ofInt 64 (sx 40 (q.data.getD 2 0).toNat), stamp := q.data.getD 1 0, state := PState.ofCode ((q.data.getD 2 0).toNat / 2 ^ 42 % 8) } }
      else (s.arrives k.val q).prefOf n.val)) ∧
  (∀ (s : State) (k : Fin 8) (bs : List Block) (q : Packet), s.handsOver k.val bs q 0x11 = true → q.data.length = 2 →
    (s.arrives k.val q).flag Reg.FAB_ZSRC 15 = true → (s.arrives k.val q).fld Reg.FAB_ZSRC 7 0 = q.src.toNat →
    (s.arrives k.val q).fld Reg.FAB_ZSRC 10 8 = (q.data.getD 1 0).toNat / 2 ^ 32 % 8 →
    ∃ t, exec (.fabZedgeRx k bs) s = .next t ∧ t = { s.arrives k.val q with regs := t.regs } ∧ t.rd64 Reg.FAB_ZRX_TIME = q.data.getD 0 0 ∧
      t.rd Reg.FAB_ZRX_COUNT = lo32 (q.data.getD 1 0) ∧ t.flag Reg.FAB_ZRX_STATUS 0 = true ∧
      ((s.arrives k.val q).flag Reg.FAB_ZRX_STATUS 0 = true → t.flag Reg.FAB_ZRX_STATUS 1 = true)) ∧
  (∀ (s : State) (k : Fin 8) (bs : List Block) (q : Packet) (ch : Nat), s.handsOver k.val bs q 0x30 = true → imageLen q = true → ch = (q.data.getD 0 0).toNat / 2 ^ 32 % 64 →
    (((s.arrives k.val q).flag (Reg.FAB_FWD_RX ch) 15 = false ∨ (s.arrives k.val q).fld (Reg.FAB_FWD_RX ch) 7 0 ≠ q.src.toNat) →
      exec (.fabImageRx k bs) s = .next ((s.arrives k.val q).wr Reg.FAB_FWD_REJECT (satInc ((s.arrives k.val q).rd Reg.FAB_FWD_REJECT)))) ∧
    ((s.arrives k.val q).flag (Reg.FAB_FWD_RX ch) 15 = true → (s.arrives k.val q).fld (Reg.FAB_FWD_RX ch) 7 0 = q.src.toNat →
      ∃ t, exec (.fabImageRx k bs) s = .next t ∧ t = { s.arrives k.val q with hl := t.hl } ∧ (∀ j, j ≠ ch → t.hlOf j = (s.arrives k.val q).hlOf j) ∧
        (∀ l, ((s.arrives k.val q).hlOf ch).took = some l → (lo32 (q.data.getD 0 0) - l).toInt ≤ 0 → t.hlOf ch = (s.arrives k.val q).hlOf ch) ∧
        ((∀ l, ((s.arrives k.val q).hlOf ch).took = some l → 0 < (lo32 (q.data.getD 0 0) - l).toInt) →
          t.hlOf ch = { (s.arrives k.val q).hlOf ch with
            images := ((s.arrives k.val q).hlOf ch).images.filter (fun i => i.line != lo32 (q.data.getD 0 0)) ++
              [{ line := lo32 (q.data.getD 0 0), blocks := if (q.data.getD 0 0).getLsbD 38 then [] else q.data.drop 1,
                 bankmap := (q.data.getD 0 0).getLsbD 39, bank := (q.data.getD 0 0).getLsbD 40, readyAt := (s.arrives k.val q).count }] }))) ∧
  (∀ (s : State) (k : Fin 8) (bs : List Block) (q : Packet), s.handsOver k.val bs q 0x12 = true → q.data.length = 2 →
    exec (.fabSnapRx k bs) s = .next ((s.arrives k.val q).snapArm (q.data.getD 0 0) (bits (lo32 (q.data.getD 1 0)) 7 0) q.src.toNat)) ∧
  (∀ (s : State) (v : Word), s.dropped Reg.FAB_SNAP_CMD = none → bit v 8 = true → bit v 9 = false →
    (s.rd64 Reg.FAB_SNAP_TIME).toNat < s.now.toNat + 1000 →
    exec (.fabSnapSend v) s = .next (s.wr Reg.FAB_SNAP_STATUS (s.rd Reg.FAB_SNAP_STATUS ||| 0x10))) ∧
  (∀ (s : State) (v : Word), s.dropped Reg.FAB_SNAP_CMD = none → bit v 8 = true → bit v 9 = false →
    s.now.toNat + 1000 ≤ (s.rd64 Reg.FAB_SNAP_TIME).toNat →
    exec (.fabSnapSend v) s = .next ((s.sendPacket 0 255 0x12 [s.rd64 Reg.FAB_SNAP_TIME, BitVec.ofNat 64 (bits v 7 0)]).snapArm
      (s.rd64 Reg.FAB_SNAP_TIME) (bits v 7 0) s.fab.addr)) ∧
  (∀ (s : State) (v : Word), s.dropped Reg.FAB_SNAP_CMD = none → bit v 9 = true → bit v 8 = false →
    exec (.fabSnapRelease v) s = .next (s.wr Reg.FAB_SNAP_STATUS (s.rd Reg.FAB_SNAP_STATUS &&& ~~~6))) ∧
  (∀ (s : State) (t : DWord) (tag origin : Nat), s.flag Reg.FAB_SNAP_STATUS 1 = true →
    s.snapArm t tag origin = (s.wr Reg.FAB_SNAP_STATUS (s.rd Reg.FAB_SNAP_STATUS ||| 8)).raise 0x090B 0 [wd tag, wd origin]) ∧
  (∀ (s : State) (t : DWord) (tag origin : Nat), s.flag Reg.FAB_SNAP_STATUS 1 = false → s.now.toNat ≤ t.toNat →
    (s.snapArm t tag origin).fab.arm = some { time := t, tag := tag, origin := origin } ∧ (s.snapArm t tag origin).fab.shadow = s.fab.shadow) ∧
  (∀ (s : State) (t : DWord) (tag origin : Nat) (a : SnapArm) (u : State), s.flag Reg.FAB_SNAP_STATUS 1 = false → s.fab.arm = some a →
    u = (s.wr Reg.FAB_SNAP_STATUS (s.rd Reg.FAB_SNAP_STATUS ||| 8)).raise 0x090B 0 [wd a.tag, wd a.origin] →
    s.snapArm t tag origin = (if t.toNat < s.now.toNat then u.snapTake tag origin true else
      ({ u with fab := { u.fab with arm := some { time := t, tag := tag, origin := origin } } } : State).wr Reg.FAB_SNAP_STATUS
        ((u.rd Reg.FAB_SNAP_STATUS &&& 0x18) ||| wd (1 + tag * 2 ^ 8 + origin * 2 ^ 16)))) ∧
  (∀ (s : State) (a : SnapArm), s.fab.arm = some a → s.domOn 6 = true → a.time.toNat ≤ s.now.toNat →
    ∃ t, exec .fabSnapLatch s = .next t ∧ t.fab.arm = none ∧ t.fab.taken = s.fab.taken + 1 ∧ t.flag Reg.FAB_SNAP_STATUS 1 = true ∧
      t.flag Reg.FAB_SNAP_STATUS 0 = false ∧ t.fab.shadow.get 0 0 = lo32 s.now ∧ t.fab.shadow.get 0 1 = hi32 s.now ∧
      t.ctx = s.ctx ∧ t.pos = s.pos ∧ t.fab.addr = s.fab.addr)

/-- How a message of the twin path is judged (R301, R304, R306): one of an unlisted KIND or another length is
discarded and counted; one that is not from the partner does nothing more; one with an epoch below the own
is counted as stale and answered; one with the own epoch acts; a higher epoch is adopted first, an active unit demoting.
TWIN_HB_SEND, TWIN_HEARTBEAT_RX, TWIN_HB_LOST, TWIN_HB_DECIDE2 and TWIN_START_WAIT_EXPIRE (R307, R319, R320, R326, R327): a heartbeat leaves every 50 µs; one that is
heard ends the loss; at T_L the loss is counted and reported, an active without a majority of the heads demotes and a standby with one takes the role
at the next frame boundary; 100 µs later unit A decides by KEY_ACTIVE; a unit that hears no partner within START_WAIT takes the role. -/
def Obligations.TwinMessagesAndHeartbeats : Prop :=
  (∀ (s : State) (kind : Nat) (q : Packet) (f : State → State),
    (hi32 (q.data.getD 0 0) = s.twin.epoch → s.twinJudge kind q f = f s) ∧
    (0 < (s.twin.epoch - hi32 (q.data.getD 0 0)).toInt → s.twinJudge kind q f = (s.wr Reg.TWIN_STALE (satInc (s.rd Reg.TWIN_STALE))).twinMsg 7
      [dw s.twin.epoch (wd ((s.twin.role == .active).toNat + kind * 16))]) ∧
    (0 < (hi32 (q.data.getD 0 0) - s.twin.epoch).toInt → (s.twin.epoch - hi32 (q.data.getD 0 0)).toInt < 0 → s.twin.role ≠ .active →
      ∃ u : State, s.twinJudge kind q f = f u ∧ u = { s with twin := u.twin } ∧ u.twin.epoch = hi32 (q.data.getD 0 0) ∧ u.twin.role = s.twin.role)) ∧
  (∀ (s : State) (k : Nat) (bs : List Block) (q : Packet) (kind : Nat) (len : Packet → Bool) (f : Packet → State → State),
    s.handsOver k bs q 0x20 = true → twinKind q = kind → len q = true →
    (q.src.toNat ≠ (s.arrives k q).twin.partnerAddr ∨ (s.arrives k q).flag Reg.TWIN_CFG 0 = false) →
    s.twinRecv k bs kind len f = s.arrives k q) ∧
  (∀ (s : State) (k : Nat) (bs : List Block) (q : Packet) (kind : Nat) (len : Packet → Bool) (f : Packet → State → State), 1 ≤ kind → kind ≤ 8 →
    s.portUp k = true → packetOf bs = some q → q.tc = 1 → q.typ = 0x20 → (twinKind q = 0 ∨ 8 < twinKind q ∨ (twinKind q = kind ∧ len q = false)) →
    s.twinRecv k bs kind len f = (s.giveCredit k q).wr Reg.FAB_DROP (satInc ((s.giveCredit k q).rd Reg.FAB_DROP))) ∧
  (∀ (s : State) (k : Fin 8) (bs : List Block) (q : Packet), s.twinHands k.val bs q 7 = true → q.data.length = 2 →
    exec (.twinEpochReplyRx k bs) s = .next (s.arrives k.val q)) ∧
  (∀ s : State, s.flag Reg.TWIN_CFG 0 = true → s.twin.hbTx.toNat + 50000 ≤ s.count.toNat →
    ∃ t, exec .twinHbSend s = .next t ∧ t.twin = { s.twin with hbTx := s.count } ∧ t.ctx = s.ctx ∧ t.pos = s.pos) ∧
  (∀ (s : State) (k : Fin 8) (bs : List Block) (q : Packet), s.twinHands k.val bs q 1 = true → q.data.length = 24 → s.twin.role = .active →
    (q.data.getD 0 0).getLsbD 5 = true → s.twin.hbLost = false →
    ∃ t, exec (.twinHeartbeatRx k bs) s = .next t ∧ t = { s.arrives k.val q with twin := t.twin } ∧ t.twin.partner = true ∧
      t.twin.hbRx = (s.arrives k.val q).count ∧ t.twin.hbLost = false ∧ t.twin.lostAt = none ∧ t.twin.linkLost = false ∧ t.twin.role = .active) ∧
  (∀ s : State, s.twin.role ≠ .off → s.twin.partner = true →
    s.twin.hbRx.toNat + s.fld Reg.TWIN_CFG 5 2 * 50000 ≤ s.count.toNat →
    ∃ u : State, u = (({ s with twin := { s.twin with partner := false, hbLost := true, lostAt := some s.count } } : State).wr Reg.TWIN_HB_LOST
        (satInc (s.rd Reg.TWIN_HB_LOST))).raise 0x0A03 0 [wd s.headsServed.length, wd s.headsHeld.length] ∧
      (s.twin.role = .active → s.majority = true → exec .twinHbLost s = .next (u.each u.ctxNums State.settleAll)) ∧
      (s.twin.role = .active → s.majority = false → exec .twinHbLost s = .next (u.demote 1)) ∧
      (s.twin.role = .standby → s.majority = true → exec .twinHbLost s =
        .next { u with twin := { u.twin with taking := some 1, tookAt := u.now } })) ∧
  (∀ (s : State) (t : DWord), s.twin.lostAt = some t → t.toNat + 100000 ≤ s.count.toNat → s.twin.role = .standby → s.twin.taking = none →
    s.power.unitB = false → s.headsServed.any (fun ch => s.flag (Reg.HL_PORT ch) 3 && epochAbove (s.rd (Reg.HL_KEY ch)) s.twin.epoch) = false →
    exec .twinHbDecide2 s = .next { s with twin := { s.twin with lostAt := none, taking := some 2, tookAt := s.now } }) ∧
  (∀ (s : State) (t : DWord), s.twin.lostAt = some t → t.toNat + 100000 ≤ s.count.toNat → s.twin.role = .active →
    exec .twinHbDecide2 s = .next { s with twin := { s.twin with lostAt := none } }) ∧
  (∀ (s : State) (t : DWord), s.twin.startWait = some t → t.toNat + s.fld Reg.TWIN_CFG 15 8 * 1000000 ≤ s.count.toNat →
    exec .twinStartWaitExpire s = .next ((s.wr Reg.TWIN_FAULTS (s.rd Reg.TWIN_FAULTS ||| 0x10)).takeRole 4))

/-- TWIN_TAKEOVER and TWIN_POST_RESUME (R303, R321, R323): at a frame boundary the standby that is to take the role is active, with the smallest epoch above
all it has seen whose bit 0 is that of its unit; 300 µs after the decision posting resumes.
TWIN_SWAP_TIMER, TWIN_SWAP_NOW, TWIN_SWAP_CANCEL and TWIN_SWAP_DEFERRED (R328, R329): in SWAP mode the timer, and at any time NOW, request a swap on the
active; one that has not been sent can be cancelled; one that has waited 60 s is reported once, with its reason. -/
def Obligations.TakeoverAndSwap : Prop :=
  (∀ (s : State) (c : Nat), s.twin.taking = some c → s.twin.role = .standby → s.count + 640 = s.pos.frame.next →
    ∃ t, exec .twinTakeover s = .next t ∧ t.twin.role = .active ∧ t.twin.epoch = s.epochFor s.power.unitB ∧ t.twin.postHold = true) ∧
  (∀ (s : State) (c : Nat), s.twin.taking = some c → s.count + 640 ≠ s.pos.frame.next → exec .twinTakeover s = .next s) ∧
  (∀ (s : State) (b : Bool) (m : Word), m = (if 0 < (s.twin.seen - s.twin.epoch).toInt then s.twin.seen else s.twin.epoch) →
    bit (s.epochFor b) 0 = b ∧ (s.epochFor b = m + 1 ∨ (s.epochFor b = m + 2 ∧ bit (m + 1) 0 ≠ b))) ∧
  (∀ (s : State) (ph : List (Fin 64 × List Bool)), s.twin.role = .active → s.twin.postHold = true → s.twin.tookAt.toNat + 300000 ≤ s.now.toNat →
    ∃ t, exec (.twinPostResume ph) s = .next t ∧ t.twin = { s.twin with postHold := false } ∧ t.ctx = s.ctx ∧ t.pos = s.pos ∧ t.hl = s.hl) ∧
  (∀ s : State, s.flag Reg.TWIN_CFG 1 = true → s.twin.chgAt.toNat + s.fld Reg.TWIN_CFG 26 16 * 60000000000 ≤ s.count.toNat →
    s.twin.role = .active → s.twin.swap = none →
    exec .twinSwapTimer s = .next { s with twin := { s.twin with swap := some { since := s.count } } }) ∧
  (∀ s : State, s.dropped Reg.TWIN_SWAP_CMD = none → s.twin.role = .active → s.twin.swap = none →
    exec .twinSwapNow s = .next { s with twin := { s.twin with swap := some { since := s.count } } }) ∧
  (∀ s : State, s.dropped Reg.TWIN_SWAP_CMD = none → s.twin.role ≠ .active → exec .twinSwapNow s = .next s) ∧
  (∀ (s : State) (w : Swap), s.dropped Reg.TWIN_SWAP_CMD = none → s.twin.swap = some w →
    (w.sent = none → exec .twinSwapCancel s = .next { s with twin := { s.twin with swap := none } }) ∧
    (w.sent.isSome = true → exec .twinSwapCancel s = .next s)) ∧
  (∀ (s : State) (w : Swap), s.twin.swap = some w → w.deferred = false → w.sent = none → w.since.toNat + 60000000000 ≤ s.count.toNat →
    s.redundant = false → exec .twinSwapDeferred s =
      .next (({ s with twin := { s.twin with swap := some { w with deferred := true } } } : State).raiseE 0x0A0B 0 [2]))

/-- TWIN_CKPT_RX, TWIN_CKPT_END_RX, TWIN_SAMPLE_RX, TWIN_SEQ_RX, TWIN_CTX_RX and TWIN_SWAP_RX (R56, R310 to R313, R316, R317, R329): what a standby does with the messages of
the active. A run of a checkpoint is staged; an end that does not match what was staged discards it; a sample is taken, and the contexts that wait for
it do the work of its boundary; inputs act eight
boundaries after F, and diverge their context when that has passed; a command is kept for its apply frame; a swap is refused without a
checkpoint. -/
def Obligations.StandbyTakesTheActivesMessages : Prop :=
  (∀ (s : State) (k : Fin 8) (bs : List Block) (q : Packet), s.twinHands k.val bs q 2 = true → 2 ≤ q.data.length → q.data.length ≤ 1023 → s.twin.role = .standby →
    ∃ t, exec (.twinCkptRx k bs) s = .next t ∧ t = { s.arrives k.val q with twin := { (s.arrives k.val q).twin with stage := t.twin.stage } } ∧
      t.twin.stage = (match s.twin.stage with
        | some (d, l) => if d = lo32 (q.data.getD 1 0) then some (d, l ++ [(bits (hi32 (q.data.getD 1 0)) 16 0, q.data.drop 2)])
          else some (lo32 (q.data.getD 1 0), [(bits (hi32 (q.data.getD 1 0)) 16 0, q.data.drop 2)])
        | none => some (lo32 (q.data.getD 1 0), [(bits (hi32 (q.data.getD 1 0)) 16 0, q.data.drop 2)]))) ∧
  (∀ (s : State) (k : Fin 8) (bs : List Block) (q : Packet) (c : Word) (l : List (Nat × List DWord)), s.twinHands k.val bs q 3 = true → q.data.length = 3 →
    s.twin.role = .standby → s.twin.stage = some (c, l) → c ≠ lo32 (q.data.getD 1 0) →
    exec (.twinCkptEndRx k bs) s = .next { s.arrives k.val q with twin := { (s.arrives k.val q).twin with stage := none } }) ∧
  (∀ (s : State) (k : Fin 8) (bs : List Block) (q : Packet) (n : Nat), s.twinHands k.val bs q 4 = true → q.data.length = 4 → s.twin.role = .standby →
    n = bits (hi32 (q.data.getD 1 0)) 1 0 → s.dotRuns = true → s.prefEn n = true → s.prefSrc n = 9 →
    ∃ (x : PSample) (u : State), x.p = q.data.getD 2 0 ∧ x.v = BitVec.ofInt 64 (sx 40 (q.data.getD 3 0).toNat) ∧
      x.stamp = dw (lo32 (q.data.getD 1 0)) 0 ∧ x.state = PState.ofCode (bits (hi32 (q.data.getD 1 0)) 4 2) ∧
      u = (s.arrives k.val q).setPref n { s.prefOf n with missed := 0, got := true, sample := some x } ∧
      (s.follows n = false → exec (.twinSampleRx k bs) s = .next u) ∧
      (s.follows n = true → ∃ (f : DWord) (v : State), f = s.pos.frame.number - BitVec.ofInt 64 (s.pairFrame - lo32 (q.data.getD 1 0)).toInt ∧
        v = u.setPref n { u.prefOf n with sp := x.p, sv := x.v, sf := f } ∧
        exec (.twinSampleRx k bs) s = .next ((v.ctxNums.filter (fun m => v.ctxWaits m && v.fld (Reg.CTX_CFG m) 1 0 == n)).foldl
          (fun s m => s.ctxBoundary [] f m) v))) ∧
  (∀ (s : State) (k : Fin 8) (bs : List Block) (q : Packet), s.twinHands k.val bs q 5 = true → 3 ≤ q.data.length → q.data.length ≤ 10 → s.twin.role = .standby →
    ((lo32 (q.data.getD 1 0) + 8 - s.pairFrame).toInt ≤ 0 →
      exec (.twinSeqRx k bs) s = .next ((s.arrives k.val q).diverge (bits (hi32 (q.data.getD 1 0)) 5 0) 1)) ∧
    (0 < (lo32 (q.data.getD 1 0) + 8 - s.pairFrame).toInt → ∃ t, exec (.twinSeqRx k bs) s = .next t ∧
      t = { s.arrives k.val q with twin := { (s.arrives k.val q).twin with seqs := t.twin.seqs } } ∧
      (∃ x : TwinSeq, t.twin.seqs = s.twin.seqs ++ [x] ∧ x.frame = lo32 (q.data.getD 1 0) + 8 ∧ x.ctx = bits (hi32 (q.data.getD 1 0)) 5 0))) ∧
  (∀ (s : State) (k : Fin 8) (bs : List Block) (q : Packet), s.twinHands k.val bs q 6 = true → q.data.length = 3 → s.twin.role = .standby →
    bits (lo32 (q.data.getD 1 0)) 9 8 ≠ 1 →
    ((hi32 (q.data.getD 1 0) - s.pairFrame).toInt ≤ 0 → exec (.twinCtxRx k bs) s = .next ((s.arrives k.val q).diverge (bits (lo32 (q.data.getD 1 0)) 5 0) 1)) ∧
    (0 < (hi32 (q.data.getD 1 0) - s.pairFrame).toInt → ∃ t, exec (.twinCtxRx k bs) s = .next t ∧
      t = { s.arrives k.val q with twin := { (s.arrives k.val q).twin with acts := t.twin.acts } } ∧
      t.twin.acts.length = s.twin.acts.length + 1)) ∧
  (∀ (s : State) (k : Fin 8) (bs : List Block) (q : Packet), s.twinHands k.val bs q 8 = true → q.data.length = 2 → s.twin.role = .standby →
    bits (lo32 (q.data.getD 1 0)) 1 0 = 1 → s.twin.loaded = none →
    exec (.twinSwapRx k bs) s = .next ((s.arrives k.val q).twinMsg 8 [dw 3 (hi32 (q.data.getD 1 0))])) ∧
  (∀ (s : State) (k : Fin 8) (bs : List Block) (q : Packet) (w : Swap) (n : Word), s.twinHands k.val bs q 8 = true → q.data.length = 2 → s.twin.role = .active →
    bits (lo32 (q.data.getD 1 0)) 1 0 = 2 → s.twin.swap = some w → w.sent = some n →
    exec (.twinSwapRx k bs) s = .next { s.arrives k.val q with twin := { (s.arrives k.val q).twin with swap := some { w with accepted := true } } })

/-- CYC_LOAD, CYC_LOAD_DONE, CYC_DISCARD and CYC_CHANGE (R334, R336, R351, R357): a LOAD empties the pending slot and reads the header; while it is in
progress every command is refused with BUSY; the rest of the image is read only after the size checks of its header; the end of a load reports the first
check that failed, and an image that passes is pending; DISCARD empties the slot; a CHANGE while the engine does not run is refused with 4.
FORCE_SET and FORCE_CLEAR (R101, R102, R355, R356, R361): with PD7 off they complete 3; a force on the safety view is refused, one at an address
outside the image is a host error; a new force joins the
table, in order, with an event; a clear of all forces empties the table. -/
def Obligations.ProgramsAndForces : Prop :=
  (∀ s : State, s.dropped Reg.CYC_CMD = none → s.cyc.loading = false → s.cyc.change = none →
    exec .cycLoad s = .next ((({ s with cyc := { s.cyc with
        loading := true, image := ((s.rd64 Reg.CYC_PRG_ADDR).toNat, s.fld Reg.CYC_PRG_LEN 24 0), pend := none } } : State).wr
      Reg.CYC_RESULT 0x100).request .program (s.rd64 Reg.CYC_PRG_ADDR).toNat 256) ∧
    exec .cycDiscard s = .next (({ s with cyc := { s.cyc with pend := none } } : State).wr Reg.CYC_RESULT 0x1600)) ∧
  (∀ s : State, s.dropped Reg.CYC_CMD = none → s.cyc.loading = true →
    exec .cycLoad s = .next (s.wr Reg.CYC_RESULT 0x1101) ∧ exec .cycDiscard s = .next (s.wr Reg.CYC_RESULT 0x1601) ∧
    exec .cycStop s = .next (s.wr Reg.CYC_RESULT 0x1401) ∧ exec .cycStartCold s = .next (s.wr Reg.CYC_RESULT 0x1201)) ∧
  (∀ (s u : State) (hf rf : Bool) (h : List Word) (b rest : List Byte) (r : Nat), s.cyc.loading = true → s.ctlRuns = true → s.readsWait .program = false →
    b = padTo (s.cyc.image.2 - 256) 0 (rest.take (s.cyc.image.2 - 256)) → r = loadResult h s.cyc.image.2 hf rf b → u = s.loadReads hf h →
    exec (.cycLoadDone hf h rf rest) s = .next ((({ u with cyc := { u.cyc with loading := false, pend := if r = 0 then some (programOf h b) else none } } : State).wr
      Reg.CYC_RESULT (wd (r + 0x1100))).raise 0x0B05 0 [wd r, if hf then 0 else nthW h 2, if hf then 0 else nthW h 3])) ∧
  (∀ (s : State) (h : List Word), (imageTooLarge h s.cyc.image.2 = true → s.loadReads false h = s.readsDone .program) ∧
    (imageTooLarge h s.cyc.image.2 = false →
      s.loadReads false h = ((s.readsDone .program).request .program (s.cyc.image.1 + 256) (s.cyc.image.2 - 256)).readsDone .program)) ∧
  (∀ (s : State) (hf rf : Bool) (h : List Word) (rest : List Byte), (s.cyc.loading = false ∨ s.readsWait .program = true) →
    exec (.cycLoadDone hf h rf rest) s = .next s) ∧
  (∀ (h : List Word) (len : Nat) (rf : Bool) (b : List Byte), loadResult h len true rf b = 3 ∧
    (imageTooLarge h len = true → loadResult h len false rf b = 10) ∧ (imageTooLarge h len = false → loadResult h len false true b = 3) ∧
    (imageTooLarge h len = false → crc32c b ≠ nthW h 9 → loadResult h len false false b = 2)) ∧
  (∀ s : State, s.dropped Reg.CYC_CMD = none → s.cyc.loading = false → s.cyc.state ≠ .running →
    exec .cycChange s = .next ((s.wr Reg.CYC_RESULT 0x1504).raise 0x0B07 0 [4])) ∧
  (∀ (s : State) (p q : Program), s.dropped Reg.CYC_CMD = none → s.cyc.loading = false → s.cyc.state = .running → s.cyc.prog = some p →
    s.cyc.pend = some q → changeOk p q = true →
    exec .cycChange s = .next (({ s with cyc := { s.cyc with change := some (s.now, 0) } } : State).wr Reg.CYC_RESULT 0x500)) ∧
  (∀ (s : State) (d : List Word), s.mgmtReady true = true → descOp d = 0x12 → mgmtReserved d [0xFFFFFFFF, 0xFFFFFFFF, 3] = false →
    (s.domOn 7 = false → exec (.forceSet d) s = .next (s.mgmtDone d 3 0)) ∧
    (s.domOn 7 = true → bits (nthW d 2) 31 24 = 7 → exec (.forceSet d) s = .next (s.mgmtDone d 2 2)) ∧
    (s.domOn 7 = true → bits (nthW d 2) 31 24 ≠ 7 → imgOk (nthW d 2) (forceLen (bits (nthW d 4) 1 0)) false = false →
      exec (.forceSet d) s = .next (s.hostError 361)) ∧
    (∀ f : Force, f = { addr := (nthW d 2).toNat, width := bits (nthW d 4) 1 0, value := nthW d 3 } → s.domOn 7 = true → bits (nthW d 2) 31 24 ≠ 7 →
      imgOk (nthW d 2) (forceLen f.width) false = true → s.cyc.forces.length < 1024 → s.kiln.tune = none →
      (∀ g ∈ s.cyc.forces, g.width = f.width → if f.width = 0 then g.addr ≠ f.addr else g.base ≠ f.base) →
      exec (.forceSet d) s = .next ((({ s with cyc := { s.cyc with forces := s.cyc.forces ++ [f] } } : State).raise 0x0B08 0
        [nthW d 2, wd (f.width + 256), nthW d 3, wd (s.cyc.forces.length + 1)]).mgmtDone d 0 0))) ∧
  (∀ (s : State) (d : List Word), s.mgmtReady true = true → descOp d = 0x13 → mgmtReserved d [0xFFFFFFFF] = false →
    (s.domOn 7 = false → exec (.forceClear d) s = .next (s.mgmtDone d 3 0)) ∧
    (s.domOn 7 = true → nthW d 2 = 0xFFFFFFFF → s.cyc.forces = [] → exec (.forceClear d) s = .next (s.mgmtDone d 0 0)) ∧
    (s.domOn 7 = true → nthW d 2 = 0xFFFFFFFF → s.cyc.forces ≠ [] →
      exec (.forceClear d) s = .next ((({ s with cyc := { s.cyc with forces := [] } } : State).raise 0x0B08 0
        [0xFFFFFFFF, wd (s.cyc.forces.length * 65536), 0, 0]).mgmtDone d 0 0)))

/-- CYC_START_COLD, CYC_START_WARM and CYC_STOP (R348, R351, R352): a START takes the pending program, or the one that ran, and awaits its boundary 100 µs
ahead; without a program, or with a Station Bus period that does not fit, it is refused; a warm START without a retained copy is refused with 6 and
reported; a STOP waits for the cycles in progress. -/
def Obligations.StartsAndStopsOfTheCycleEngine : Prop :=
  (∀ (s : State) (p : Program), s.dropped Reg.CYC_CMD = none → s.cyc.loading = false → (s.cyc.state = .stopped ∨ s.cyc.state = .halted) →
    s.cyc.pend = some p → s.sbMismatch p = false →
    ∃ t, exec .cycStartCold s = .next t ∧ t = { s with regs := t.regs, cyc := t.cyc } ∧ t.rd Reg.CYC_RESULT = 0x1200 ∧ t.cyc.prog = some p ∧
      t.cyc.pend = none ∧ t.cyc.start = some (false, s.now + 100000) ∧ t.cyc.state = s.cyc.state ∧ t.cyc.vars = Config.initVars p.body) ∧
  (∀ s : State, s.dropped Reg.CYC_CMD = none → s.cyc.loading = false → (s.cyc.state = .stopped ∨ s.cyc.state = .halted) →
    s.cyc.pend = none → s.cyc.prog = none → exec .cycStartCold s = .next (s.wr Reg.CYC_RESULT 0x1205) ∧
      exec .cycStartWarm s = .next (s.wr Reg.CYC_RESULT 0x1305)) ∧
  (∀ (s : State) (p : Program), s.dropped Reg.CYC_CMD = none → s.cyc.loading = false → (s.cyc.state = .stopped ∨ s.cyc.state = .halted) →
    s.cyc.pend = some p → s.sbMismatch p = true → exec .cycStartCold s = .next (s.wr Reg.CYC_RESULT 0x1207)) ∧
  (∀ (s : State) (p : Program), s.dropped Reg.CYC_CMD = none → s.cyc.loading = false → (s.cyc.state = .stopped ∨ s.cyc.state = .halted) →
    s.cyc.pend = some p → s.sbMismatch p = false → s.cyc.ret0 = none → s.cyc.ret1 = none →
    exec .cycStartWarm s = .next ((s.wr Reg.CYC_RESULT 0x1306).raise 0x0B09 0 [])) ∧
  (∀ (s : State) (p : Program) (r : RetCopy), s.dropped Reg.CYC_CMD = none → s.cyc.loading = false → (s.cyc.state = .stopped ∨ s.cyc.state = .halted) →
    s.cyc.pend = some p → s.sbMismatch p = false → s.cyc.retained = some r → r.ident = p.ident →
    ∃ t, exec .cycStartWarm s = .next t ∧ t = { s with regs := t.regs, cyc := t.cyc } ∧ t.cyc.start = some (true, s.now + 100000) ∧
      t.cyc.vars = r.data ++ (Config.initVars p.body).drop p.retLen) ∧
  (∀ s : State, s.dropped Reg.CYC_CMD = none → s.cyc.loading = false →
    (s.cyc.state = .running ∨ s.cyc.state = .standby → exec .cycStartCold s = .next (s.wr Reg.CYC_RESULT 0x1204)) ∧
    (s.cyc.state = .stopped → exec .cycStop s = .next (s.wr Reg.CYC_RESULT 0x1400)) ∧
    (s.cyc.state = .running → s.cyc.change = none → s.cycIdle = false →
      exec .cycStop s = .next { s.wr Reg.CYC_RESULT 0x1400 with cyc := { s.cyc with stopReq := true } }))

/-- CYC_PERIOD_START and CYC_LOGIC_END of a native core (R338, R340): at its boundary the core's cycle is counted, its private copy of the inputs taken and its
output write due at φ_out, from the boundary, or from now and marked late where corrected time has stepped over it; at the end of logic its results and timers are kept and its time recorded; no core takes a boundary twice.
CYC_OUTPUT_WRITE, CYC_WATCHDOG, CYC_TRAP, CYC_EVENT_TRIGGER and CYC_RET_COPY_DONE (R340 to R344, R353): at φ_out the output image is passed on; logic that has not
ended is an overrun and its cycle is late; logic that has run for WDOG periods, from 2 µs after the period start, or traps, halts the engine; an event task becomes ready, or its
trigger is lost while it is; a retained copy that is done becomes the newer one. -/
def Obligations.NativeCyclesRun : Prop :=
  (∀ (s : State) (t : Fin 24) (p : Program) (k : Int), 1 ≤ t.val → t.val < 4 → s.ctlRuns = true → s.cyc.state = .running → s.cyc.start = none →
    s.cyc.prog = some p → p.compat = false → (p.task t.val).en = true → (p.task t.val).event = false → (p.task t.val).ext = false →
    (s.taskRun t.val).job = none → (s.taskRun t.val).outAt = none → (s.taskRun t.val).late = false → s.cyc.stopReq = false →
    k = s.cycIdx p t.val s.now.toNat → k = (s.taskRun t.val).last + 1 →
    ∃ u : State, exec (.cycPeriodStart t) s = .next u ∧ u = { s with regs := u.regs, cyc := u.cyc } ∧
      u.rd (Reg.CYC_COUNT t.val) = s.rd (Reg.CYC_COUNT t.val) + 1 ∧ (∀ a, a ≠ Reg.CYC_COUNT t.val → u.rd a = s.rd a) ∧
      (∃ (j : Job) (at_ : DWord), at_ = (if s.steppedOver (s.cycTime p t.val k) = true then s.now else s.cycTime p t.val k) ∧
        (u.taskRun t.val).job = some j ∧ j.start = at_ ∧ j.begun = true ∧ j.inputs = s.inputCopy ∧
        (u.taskRun t.val).outAt = some (at_ + BitVec.ofNat 64 ((p.task t.val).out * 1000))) ∧
      (u.taskRun t.val).stepLate = s.steppedOver (s.cycTime p t.val k) ∧ (u.taskRun t.val).last = k ∧
      (∀ j, j ≠ t.val → u.taskRun j = s.taskRun j)) ∧
  (∀ (s : State) (t : Fin 24) (p : Program), t ≠ 0 → s.cyc.state = .running → s.cyc.start = none → s.cyc.prog = some p →
    s.cycIdx p t.val s.now.toNat ≤ (s.taskRun t.val).last → exec (.cycPeriodStart t) s = .next s) ∧
  (∀ (s : State) (t : Fin 24) (res : LogicResult) (p : Program) (j : Job), 1 ≤ t.val → t.val < 4 → s.ctlRuns = true → s.cyc.state = .running →
    s.cyc.prog = some p → p.compat = false → (s.taskRun t.val).job = some j → j.begun = true → (s.taskRun t.val).late = false →
    ∃ u : State, exec (.cycLogicEnd t res) s = .next u ∧ u = { s with regs := u.regs, cyc := u.cyc } ∧ (u.taskRun t.val).job = none ∧
      u.cyc.vars = res.vars ∧ u.cyc.timers = timerCalls p (wd (j.start.toNat / 1000)) res.calls s.cyc.timers ∧ u.rd (Reg.CYC_EXEC_LAST t.val) = res.execUs ∧
      u.rd (Reg.CYC_EXEC_MAX t.val) = (if (s.rd (Reg.CYC_EXEC_MAX t.val)).toNat < res.execUs.toNat then res.execUs else s.rd (Reg.CYC_EXEC_MAX t.val)) ∧
      u.cyc.state = .running ∧ u.cyc.img = s.cyc.img ∧ (∀ i, i ≠ t.val → u.taskRun i = s.taskRun i)) ∧
  (∀ (s : State) (c : Fin 4) (p : Program) (at_ : DWord), s.ctlRuns = true → s.cyc.state = .running → s.cyc.prog = some p → p.compat = false →
    (s.taskRun c.val).outAt = some at_ → at_.toNat ≤ s.now.toNat →
    ((s.taskRun c.val).job = none → ∃ u : State, u = (s.setRun c.val { s.taskRun c.val with
        outs := [], outAt := none, late := false, ovrRun := (s.taskRun c.val).ovrRun && (s.taskRun c.val).late }).deliver (s.taskRun c.val).outs false ∧
      exec (.cycOutputWrite c) s = .next (if u.cycIdle = true then ({ u with cyc := { u.cyc with idleAt := u.now + 2000 } } : State) else u).cycStopCheck) ∧
    ((s.taskRun c.val).job.isSome = true → ∃ u : State, exec (.cycOutputWrite c) s = .next u ∧ (u.taskRun c.val).late = true ∧
      (u.taskRun c.val).outAt = none ∧ (u.taskRun c.val).ovrRun = true ∧ u.rd (Reg.CYC_OVR c.val) = satInc (s.rd (Reg.CYC_OVR c.val)) ∧
      u.flag Reg.CYC_FAULTS 1 = true ∧ u.cyc.img = s.cyc.img ∧ u.pos = s.pos)) ∧
  (∀ (s : State) (w : SMap Byte) (k : Bool) (a : Nat), (∀ e ∈ w, e.1 ≠ a) → (s.deliver w k).cyc.img.byte a = s.cyc.img.byte a) ∧
  (∀ (s : State) (c : Fin 4) (p : Program) (j : Job), s.ctlRuns = true → s.cyc.state = .running → s.cyc.prog = some p → p.compat = false →
    (s.taskRun c.val).job = some j →
    (∃ u : State, exec (.cycTrap c) s = .next u ∧ u.cyc.state = .halted ∧ u.cyc.cause = 3) ∧
    (j.start.toNat + 2000 + s.fld Reg.CYC_CFG 11 8 * p.taskNs c.val ≤ s.now.toNat →
      ∃ u : State, exec (.cycWatchdog c) s = .next u ∧ u.cyc.state = .halted ∧ u.cyc.cause = 2) ∧
    (s.now.toNat < j.start.toNat + 2000 + s.fld Reg.CYC_CFG 11 8 * p.taskNs c.val → exec (.cycWatchdog c) s = .next s)) ∧
  (∀ (s : State) (t : Fin 24) (p : Program), s.ctlRuns = true → s.cyc.state = .running → s.cyc.prog = some p → p.compat = true →
    (p.task t.val).en = true → (p.task t.val).event = true → ((p.task t.val).trig < 0x20 ∨ 0x23 < (p.task t.val).trig) → s.cyc.stopReq = false →
    ((s.taskRun t.val).job.isSome = true → exec (.cycEventTrigger t) s = .next (s.wr Reg.CYC_EVT_LOST (satInc (s.rd Reg.CYC_EVT_LOST)))) ∧
    ((s.taskRun t.val).job = none → ∃ u : State, exec (.cycEventTrigger t) s = .next u ∧ u = { s with cyc := u.cyc } ∧
      (u.taskRun t.val).job.isSome = true ∧ u.cyc.order = s.cyc.order + 1)) ∧
  (∀ (s : State) (r : RetCopy), s.cyc.retBusy = some r →
    exec .cycRetCopyDone s = .next (({ s with cyc := (if s.cyc.retLast = true then { s.cyc with ret0 := some r, retLast := false, retBusy := none }
      else { s.cyc with ret1 := some r, retLast := true, retBusy := none }) } : State).wr Reg.CYC_RET_CYCLE r.cycle))

/-- KILN_CMD_WRITE, KILN_CMD_READ, KILN_MANUAL, KILN_AUTO and KILN_OFF (R367, R371, R378, R382, R384): the entry of the window waits for the next sample of its group, one
that is not allowed is a host error; a read shows entry and state; a mode command waits for the next sample and ends a tune of its loop.
KILN_TUNE_START, KILN_TUNE_CANCEL and KILN_TUNE_TIMEOUT (R375, R378): a tune is refused while one runs, for a loop that is OFF and beyond the output
limits; one that starts takes its loop to TUNE; a cancelled or overdue tune returns its loop to its mode before, and is reported with its reason; that 16 cycles show as 0 in
KILN_TUNE_STATUS is the model's choice (log entry 130). -/
def Obligations.KilnCommandsAndTunes : Prop :=
  (∀ (s : State) (n : Nat) (e : List Word), s.dropped Reg.KILN_CMD = none → n = s.fld Reg.KILN_INDEX 8 0 →
    e = (List.range 13).map (fun k => s.rd (Reg.KILN_W k)) →
    (s.kilnBad n e = true → exec .kilnCmdWrite s = .next (s.hostError 382)) ∧
    (s.kilnBad n e = false → s.tuning n = false →
      exec .kilnCmdWrite s = .next ((s.setKloop n { s.kloop n with pend := some e }).wr Reg.KILN_RESULT 0))) ∧
  (∀ (s : State) (n : Nat), s.dropped Reg.KILN_CMD = none → n = s.fld Reg.KILN_INDEX 8 0 →
    ∃ t, exec .kilnCmdRead s = .next t ∧ t = { s with regs := t.regs } ∧
      (∀ k, k < 13 → t.rd (Reg.KILN_W k) = nthW ((s.kloop n).pend.getD (s.kloop n).entry) k) ∧ t.rd Reg.KILN_ST1 = wi (s.kloop n).pv ∧
      t.rd Reg.KILN_ST2 = wi (s.kloop n).sp ∧ t.rd Reg.KILN_ST3 = wi (s.kloop n).lastOut ∧ t.rd Reg.KILN_ST7 = (s.kloop n).count ∧
      t.rd Reg.KILN_RESULT = 0) ∧
  (∀ (s : State) (n : Nat), s.dropped Reg.KILN_CMD = none → n = s.fld Reg.KILN_INDEX 8 0 → s.tuning n = false →
    exec .kilnManual s = .next ((s.setKloop n { s.kloop n with req := some 1 }).wr Reg.KILN_RESULT 0) ∧
    exec .kilnAuto s = .next ((s.setKloop n { s.kloop n with req := some 2 }).wr Reg.KILN_RESULT 0) ∧
    exec .kilnOff s = .next ((s.setKloop n { s.kloop n with req := some 0 }).wr Reg.KILN_RESULT 0)) ∧
  (∀ (s : State) (n : Nat), s.dropped Reg.KILN_CMD = none → n = s.fld Reg.KILN_INDEX 8 0 → s.tuning n = true →
    exec .kilnOff s = .next (((s.tuneAbort 3).modKloop n (fun l => { l with req := some 0 })).wr Reg.KILN_RESULT 0)) ∧
  (∀ (s : State) (n : Nat), s.dropped Reg.KILN_CMD = none → n = s.fld Reg.KILN_TUNE_CFG 8 0 →
    (s.kiln.tune.isSome = true → exec .kilnTuneStart s = .next (s.wr Reg.KILN_RESULT 1)) ∧
    (s.kiln.tune = none → (s.kloop n).mode = 0 → exec .kilnTuneStart s = .next (s.wr Reg.KILN_RESULT 2)) ∧
    (s.kiln.tune = none → entryEn (s.kloop n).entry = true → (s.kloop n).mode ≠ 0 →
      (s.kloop n).i32 9 < (s.kloop n).u + (s.rd Reg.KILN_TUNE_D).toInt → exec .kilnTuneStart s = .next (s.wr Reg.KILN_RESULT 3)) ∧
    (s.kiln.tune = none → entryEn (s.kloop n).entry = true → (s.kloop n).mode ≠ 0 →
      (s.kloop n).u + (s.rd Reg.KILN_TUNE_D).toInt ≤ (s.kloop n).i32 9 → (s.kloop n).i32 8 ≤ (s.kloop n).u - (s.rd Reg.KILN_TUNE_D).toInt →
      ∃ t, exec .kilnTuneStart s = .next t ∧ t = { s with regs := t.regs, kiln := t.kiln } ∧ (t.kloop n).mode = 3 ∧
        (∃ x : Tune, t.kiln.tune = some x ∧ x.loop = n ∧ x.u0 = (s.kloop n).u ∧ x.prev = (s.kloop n).mode ∧ x.start = s.now) ∧
        t.rd Reg.KILN_TUNE_STATUS = 1 ∧ t.rd Reg.KILN_RESULT = 0 ∧ (∀ k, k ≠ n → t.kloop k = s.kloop k))) ∧
  (∀ s : State, s.dropped Reg.KILN_CMD = none → exec .kilnTuneCancel s = .next ((s.tuneAbort 3).wr Reg.KILN_RESULT 0)) ∧
  (∀ (s : State) (t : Tune), s.kiln.tune = some t → s.kilnRuns = true → s.pllLost .control = false →
    (t.start.toNat + s.fld Reg.KILN_TUNE_LIMIT 15 0 * 1000000000 ≤ s.now.toNat → exec .kilnTuneTimeout s = .next (s.tuneAbort 2)) ∧
    (s.now.toNat < t.start.toNat + s.fld Reg.KILN_TUNE_LIMIT 15 0 * 1000000000 → exec .kilnTuneTimeout s = .next s)) ∧
  (∀ (s : State) (t : Tune) (r : Nat), s.kiln.tune = some t → (s.tuneAbort r).kiln.tune = none ∧
    ((s.tuneAbort r).kloop t.loop).mode = t.prev ∧ ((s.tuneAbort r).kloop t.loop).uInit = some t.u0 ∧
    (s.tuneAbort r).rd Reg.KILN_TUNE_STATUS = wd (4 + t.n % 16 * 8 + r * 256) ∧ (∀ k, k ≠ t.loop → (s.tuneAbort r).kloop k = s.kloop k))

/-- KILN_ENABLE, KILN_GROUP_START and KILN_OUTPUT_WRITE (R365, R366, R368, R374): EN initialises every enabled loop; a time group that reaches a start, after its previous output write, is
counted and its output write follows 100 µs later; the output write empties what was due.
The output of a loop (R372, R373): whatever is computed lies within the limits of its entry; in MANUAL it is the manual output, clamped. -/
def Obligations.KilnGroupsRun : Prop :=
  (∀ s : State, s.dropped Reg.KILN_CTRL = none → s.flag Reg.KILN_CTRL 0 = false →
    ∃ t, exec .kilnEnable s = .next t ∧ t = { s with regs := t.regs, kiln := t.kiln } ∧ t.flag Reg.KILN_CTRL 0 = true ∧
      (∀ n, t.kloop n = if entryEn (s.kloop n).entry = true then (s.kloop n).init else s.kloop n) ∧
      (∀ g, g < 8 → (t.kgrp g).outAt = none) ∧ (∀ a, a ≠ Reg.KILN_CTRL → t.rd a = s.rd a)) ∧
  (∀ (s : State) (g : Fin 8), s.kilnRuns = true → s.pllLost .control = false → s.flag (Reg.KILN_GRP_CFG g.val) 16 = false →
    s.flag (Reg.KILN_GRP_CFG g.val) 17 = true → (s.kgrp g.val).outAt = none → (s.kgrp g.val).last < s.kilnIdx g.val s.now.toNat →
    ∃ t, exec (.kilnGroupStart g) s = .next t ∧ t.rd (Reg.KILN_GRP_COUNT g.val) = s.rd (Reg.KILN_GRP_COUNT g.val) + 1 ∧
      (t.kgrp g.val).last = s.kilnIdx g.val s.now.toNat ∧ (t.kgrp g.val).outAt = some (s.now + 100000) ∧
      (∀ k, k ≠ g.val → t.kgrp k = s.kgrp k) ∧ t.cyc = s.cyc ∧ t.pos = s.pos) ∧
  (∀ (s : State) (g : Fin 8), s.kilnRuns = true → (s.kilnIdx g.val s.now.toNat ≤ (s.kgrp g.val).last ∨ (s.kgrp g.val).outAt.isSome = true) →
    exec (.kilnGroupStart g) s = .next s) ∧
  (∀ (s : State) (g : Fin 8) (at_ : DWord), s.kilnRuns = true → s.pllLost .control = false → (s.kgrp g.val).outAt = some at_ → at_.toNat ≤ s.now.toNat →
    ∃ t, exec (.kilnOutputWrite g) s = .next t ∧ (t.kgrp g.val).outAt = none ∧ (∀ k, k ≠ g.val → t.kgrp k = s.kgrp k) ∧
      (∀ n v, entryGroup (s.kloop n).entry = g.val → (s.kloop n).out = some v → (t.kloop n).out = none ∧ (t.kloop n).lastOut = v)) ∧
  (∀ (l : KLoop) (pv : Int) (tus : Nat) (r : Int), l.i32 8 ≤ l.i32 9 →
    l.i32 8 ≤ (l.compute pv tus r).u ∧ (l.compute pv tus r).u ≤ l.i32 9 ∧ (l.compute pv tus r).out = some (l.compute pv tus r).u) ∧
  (∀ (l : KLoop) (pv : Int) (tus : Nat) (r : Int), l.mode = 1 → l.i32 8 ≤ l.i32 12 → l.i32 12 ≤ l.i32 9 → (l.compute pv tus r).u = l.i32 12) ∧
  (∀ (l : KLoop) (pv : Int) (tus : Nat) (r : Int), l.i32 8 ≤ l.i32 9 → l.mode ≠ 2 →
    -(2 ^ 62) ≤ (l.compute pv tus r).i ∧ (l.compute pv tus r).i ≤ 2 ^ 62)

/-- SB_SLOT_TX, SB_FRAME_RX, SB_EVENT_FRAME_RX, SB_EVT_SEND and SB_EVT_RX_POP (R391, R395 to R401, R408, R414): an own slot carries one frame in its cycle, as
code-groups on the branches in use: null without a program that runs or on a standby, else the image's bytes as the last output write left
them; what is no valid frame of its slot or turn is counted; a valid one gives its slot data, flags and age 0; an event frame joins the queue
of 16, or is lost; a read of SB_EVT_RXCTL pops the oldest. A star in RUN passes on nothing of a transmission outside its window, which is a
violation, and nothing of a closed branch. -/
def Obligations.StationBusFramesAreSentAndReceived : Prop :=
  (∀ (s : State) (c : Fin 2) (n : Fin 256) (k : Int) (t0 : DWord), s.busRuns = true → (s.sbOf c.val).cyc = some (k, t0) → (s.sbOf c.val).state = 2 →
    (s.sbOf c.val).own n.val = true → n.val < s.sbNs c.val → n.val ∉ (s.sbOf c.val).sent → t0.toNat + n.val * s.sbSlotLen c.val ≤ s.now.toNat →
    ∃ f : SbFrame, exec (.sbSlotTx c n) s = .next ((s.free.2.setSb c.val { s.sbOf c.val with sent := n.val :: (s.sbOf c.val).sent }).emit
        (.sbFrame c.val (s.sbBranches c.val) (sbGroups f))) ∧
      f.slot.toNat = n.val ∧ f.dyn = false ∧ f.epoch = s.twin.epoch ∧ f.ctrl = true ∧ f.cycle = BitVec.ofInt 16 k ∧
      ((s.cyc.state ≠ .running ∨ s.twin.role = .standby ∨ s.domOn 7 = false) → f.null = true ∧ f.payload = []) ∧
      (s.cyc.state = .running → s.twin.role ≠ .standby → s.domOn 7 = true → n.val ∈ (s.sbOf c.val).wrote → (s.sbOf c.val).outs.get [] n.val = [] →
        f.null = false ∧ f.payload = (s.cyc.img.read (imgAt (0x82 + c.val) (64 * n.val)) 64).take (s.sbLmax c.val))) ∧
  (∀ (s : State) (c : Fin 2) (n : Fin 256), n.val ∈ (s.sbOf c.val).sent → exec (.sbSlotTx c n) s = .next s) ∧
  (∀ (s : State) (c : Fin 2) (n : Fin 256) (g : List CodeGroup) (arr k : Int) (t0 : DWord), s.busRuns = true → (s.sbOf c.val).cyc = some (k, t0) →
    (s.sbOf c.val).state ≠ 0 → s.sbStar c.val = false →
    (((s.sbOf c.val).own n.val = true ∨ s.sbNs c.val ≤ n.val ∨ sbFrameOf g n.val (bits ((s.sbOf c.val).entry n.val) 13 8) false k = none) →
      exec (.sbFrameRx c n g arr) s = .next (s.wr (Reg.SB_RX_BAD c.val) (satInc (s.rd (Reg.SB_RX_BAD c.val))))) ∧
    (∀ f, (s.sbOf c.val).own n.val = false → (s.sbOf c.val).branch n.val < 8 → n.val < s.sbNs c.val →
      sbFrameOf g n.val (bits ((s.sbOf c.val).entry n.val) 13 8) false k = some f → f.null = false →
      (f.epoch - s.rd (Reg.SB_EPOCH_SEEN c.val)).toInt ≤ 0 → (f.ctrl = false ∨ f.epoch = s.twin.epoch) →
      ∃ t, exec (.sbFrameRx c n g arr) s = .next t ∧ t = { s with sb := t.sb } ∧ (∀ j, j ≠ c.val → t.sbOf j = s.sbOf j) ∧
        ((t.sbOf c.val).rx.get {} n.val).data = f.payload ∧ ((t.sbOf c.val).rx.get {} n.val).age = 0 ∧ ((t.sbOf c.val).rx.get {} n.val).got = 1 ∧
        ((t.sbOf c.val).rx.get {} n.val).force = f.force ∧ ((t.sbOf c.val).rx.get {} n.val).active = f.active ∧
        (∀ j, j ≠ n.val → (t.sbOf c.val).rx.get {} j = (s.sbOf c.val).rx.get {} j))) ∧
  (∀ (s : State) (c : Fin 2) (n : Fin 256) (g : List CodeGroup) (arr : Int), s.busRuns = true → s.sbStar c.val = true → (s.sbOf c.val).branch n.val < 8 →
    (s.sbOpen c.val ((s.sbOf c.val).branch n.val) = false → (s.sbOf c.val).state ≠ 0 → exec (.sbFrameRx c n g arr) s = .next s) ∧
    (s.sbOpen c.val ((s.sbOf c.val).branch n.val) = true → (s.sbOf c.val).state = 2 → s.sbG c.val < arr.natAbs →
      exec (.sbFrameRx c n g arr) s = .next (s.sbViolation c.val ((s.sbOf c.val).branch n.val) 1))) ∧
  (∀ (s : State) (c : Fin 2) (n : Fin 64) (g : List CodeGroup) (arr k : Int) (t0 : DWord), s.busRuns = true → (s.sbOf c.val).cyc = some (k, t0) →
    (s.sbOf c.val).state ≠ 0 → s.sbStar c.val = false →
    (sbFrameOf g n.val n.val true k = none → ∃ t, exec (.sbEventFrameRx c n g arr) s = .next t ∧ t = { s with sb := t.sb, regs := t.regs } ∧
      (t.sbOf c.val).evtRx = (s.sbOf c.val).evtRx ∧ (t.sbOf c.val).rx = (s.sbOf c.val).rx ∧
      t.rd (Reg.SB_RX_BAD c.val) = satInc (s.rd (Reg.SB_RX_BAD c.val))) ∧
    (∀ f, sbFrameOf g n.val n.val true k = some f → (f.epoch - s.rd (Reg.SB_EPOCH_SEEN c.val)).toInt ≤ 0 → (f.ctrl = false ∨ f.epoch = s.twin.epoch) →
      ((s.sbOf c.val).evtRx.length < 16 → ∃ t, exec (.sbEventFrameRx c n g arr) s = .next t ∧ t = { s with sb := t.sb } ∧
        (t.sbOf c.val).evtRx = (s.sbOf c.val).evtRx ++ [(n.val, f.payload)] ∧ (t.sbOf c.val).rx = (s.sbOf c.val).rx) ∧
      (16 ≤ (s.sbOf c.val).evtRx.length → ∃ t, exec (.sbEventFrameRx c n g arr) s = .next t ∧ t = { s with sb := t.sb, regs := t.regs } ∧
        (t.sbOf c.val).evtRx = (s.sbOf c.val).evtRx ∧ t.rd Reg.SB_EVT_RX_LOST = satInc (s.rd Reg.SB_EVT_RX_LOST) ∧ t.flag Reg.SB_FAULTS 2 = true))) ∧
  (∀ (s : State) (c : Fin 2) (v : Word), s.dropped (Reg.SB_EVT_TXCTL c.val) = none → bits v 5 0 ≤ 60 → bit v 8 = true → (s.sbOf c.val).evtPend = false →
    exec (.sbEvtSend c v) s = .next ((s.setF (Reg.SB_EVT_TXCTL c.val) 5 0 (bits v 5 0)).setSb c.val { s.sbOf c.val with evtPend := true, evtAt := s.now })) ∧
  (∀ (s : State) (c : Fin 2), s.readable = true → s.readMiss false (Reg.SB_EVT_RXCTL c.val) = none →
    ((s.sbOf c.val).evtRx = [] → exec (.sbEvtRxPop false c) s = .next (s.emit (.readData false (Reg.SB_EVT_RXCTL c.val) 0))) ∧
    (∀ e r, (s.sbOf c.val).evtRx = e :: r → ∃ t, exec (.sbEvtRxPop false c) s = .next t ∧ t = { s with sb := t.sb, regs := t.regs, out := t.out } ∧
      (t.sbOf c.val).evtRx = r ∧ t.out = .readData false (Reg.SB_EVT_RXCTL c.val) (wd (e.1 + e.2.length * 2 ^ 8 + 2 ^ 16 + r.length * 2 ^ 24)) :: s.out ∧
      (∀ j, j < 15 → t.rd (Reg.SB_EVT_RXBUF c.val j) = nthW (bytesWords (padTo 60 0 e.2)) j)))

/-- SB_CH_ENABLE, SB_LISTEN_END, SB_CYCLE_START and SB_ABORT_RX (R393, R394, R397, R402, R407): a channel enabled with settings that fit listens, one whose
settings do not fit is not enabled, and a star enabled with a node on two branches is a host error; a channel that is disabled is OFF; at a cycle start one that has heard its time out enters RUN, the cycle is
numbered and asked branches reopen; an abort makes the node listen again.
SB_CORRECTION, SB_BRANCH_VIOLATION, SB_STAR_REOPEN and SB_START_COLLISION (R401 to R405, R407): at the start of the gap the offset term is the fault-tolerant midpoint of the deviations
of the cycle; the midpoint lies between the deviations; a violation is counted, reported in the first cycle of a run, and closes its branch at the
lock-out; a collision is reported and told to the senders. -/
def Obligations.StationBusChannelsListenRunAndAreGuarded : Prop :=
  (∀ (s : State) (c : Fin 2) (v : Word) (u : State), s.dropped (Reg.SB_CH_CFG c.val) = none → s.flag (Reg.SB_CH_CFG c.val) 0 = false → bit v 0 = true →
    u = ((s.setF (Reg.SB_CH_CFG c.val) 1 1 (bits v 1 1)).setF (Reg.SB_CH_CFG c.val) 13 8 (bits v 13 8)).setF (Reg.SB_CH_CFG c.val) 24 16
      (if bits v 24 16 = 0 ∨ 256 < bits v 24 16 then s.fld (Reg.SB_CH_CFG c.val) 24 16 else bits v 24 16) →
    (u.sbOk c.val = false → exec (.sbChEnable c v) s = .next (u.wr Reg.SB_FAULTS (u.rd Reg.SB_FAULTS ||| 2))) ∧
    (u.sbOk c.val = true → (u.sbStar c.val = false ∨ u.sbTwice c.val = false) →
      ∃ t, exec (.sbChEnable c v) s = .next t ∧ t = { s with regs := t.regs, sb := t.sb } ∧
        t.flag (Reg.SB_CH_CFG c.val) 0 = true ∧ (t.sbOf c.val).state = 1 ∧ (t.sbOf c.val).heard = false ∧ (t.sbOf c.val).slot = (s.sbOf c.val).slot ∧
        (t.sbOf c.val).last = u.sbIdx c.val s.now.toNat ∧ (∀ k, k ≠ c.val → t.sbOf k = s.sbOf k)) ∧
    (u.sbOk c.val = true → u.sbStar c.val = true → u.sbTwice c.val = true → ∃ t, exec (.sbChEnable c v) s = .next t ∧ t.upset.isSome = true)) ∧
  (∀ (s : State) (c : Fin 2) (v : Word), s.dropped (Reg.SB_CH_CFG c.val) = none → s.flag (Reg.SB_CH_CFG c.val) 0 = true → bit v 0 = false →
    v &&& 0x01FF3F02 = s.rd (Reg.SB_CH_CFG c.val) &&& 0x01FF3F02 →
    ∃ t, exec (.sbChEnable c v) s = .next t ∧ t = { s with regs := t.regs, sb := t.sb } ∧ t.flag (Reg.SB_CH_CFG c.val) 0 = false ∧
      (t.sbOf c.val).state = 0 ∧ (t.sbOf c.val).cyc = none ∧ (t.sbOf c.val).slot = (s.sbOf c.val).slot ∧ (∀ k, k ≠ c.val → t.sbOf k = s.sbOf k)) ∧
  (∀ (s : State) (c : Fin 2), s.busRuns = true → (s.sbOf c.val).state = 1 → (s.sbOf c.val).heard = false → (s.sbOf c.val).listen.toNat ≤ s.now.toNat →
    exec (.sbListenEnd c) s = .next (s.setSb c.val { s.sbOf c.val with heard := true })) ∧
  (∀ (s : State) (c : Fin 2), s.busRuns = true → (s.sbOf c.val).state ≠ 0 → (s.sbOf c.val).last < s.sbIdx c.val s.now.toNat →
    ∃ t, exec (.sbCycleStart c) s = .next t ∧ t = { s with regs := t.regs, sb := t.sb } ∧
      (t.sbOf c.val).state = (if (s.sbOf c.val).state = 2 ∨ (s.sbOf c.val).heard = true then 2 else 1) ∧
      (t.sbOf c.val).cyc = some (s.sbIdx c.val s.now.toNat, s.sbTime c.val (s.sbIdx c.val s.now.toNat)) ∧
      (t.sbOf c.val).last = s.sbIdx c.val s.now.toNat ∧ (t.sbOf c.val).sent = [] ∧ (t.sbOf c.val).devs = [] ∧
      (t.sbOf c.val).closed = (s.sbOf c.val).closed &&& ~~~(s.sbOf c.val).reopen ∧ (t.sbOf c.val).slot = (s.sbOf c.val).slot ∧
      t.rd (Reg.SB_CYCLE_CNT c.val) = BitVec.ofInt 32 (s.sbIdx c.val s.now.toNat % 65536) ∧
      (∀ a, a ≠ Reg.SB_CYCLE_CNT c.val → t.rd a = s.rd a) ∧ (∀ k, k ≠ c.val → t.sbOf k = s.sbOf k)) ∧
  (∀ (s : State) (c : Fin 2), s.busRuns = true → (s.sbOf c.val).state ≠ 0 →
    ∃ t, exec (.sbAbortRx c) s = .next t ∧ t = { s with sb := t.sb } ∧ (t.sbOf c.val).state = 1 ∧
      (t.sbOf c.val).listen = s.now + BitVec.ofNat 64 (2 * s.sbTc c.val + s.sbNode c.val * 20000) ∧ (∀ k, k ≠ c.val → t.sbOf k = s.sbOf k)) ∧
  (∀ (s : State) (c : Fin 2) (k : Int) (t0 : DWord), s.busRuns = true → (s.sbOf c.val).cyc = some (k, t0) → (s.sbOf c.val).state ≠ 0 →
    (s.sbOf c.val).corrected = false → t0.toNat + s.sbSegments c.val ≤ s.now.toNat →
    ∃ t, exec (.sbCorrection c) s = .next t ∧ (t.sbOf c.val).corrected = true ∧ (t.sbOf c.val).measured = (s.sbOf c.val).devs.length ∧
      (t.sbOf c.val).ofs = (if (s.sbOf c.val).devs = [] then 0 else midpoint ((s.sbOf c.val).devs.map Prod.snd)) ∧
      ((s.sbOf c.val).devs = [] ∨ k % 4 ≠ 3 → (t.sbOf c.val).rate = (s.sbOf c.val).rate) ∧ (∀ j, j ≠ c.val → t.sbOf j = s.sbOf j)) ∧
  (∀ (s : State) (c : Fin 2), (s.sbOf c.val).corrected = true → exec (.sbCorrection c) s = .next s) ∧
  (∀ (v : List Int) (lo hi : Int), v ≠ [] → (∀ x ∈ v, lo ≤ x ∧ x ≤ hi) → lo ≤ midpoint v ∧ midpoint v ≤ hi) ∧
  (∀ (s : State) (c : Fin 2) (br : Fin 8) (kind : BitVec 2), s.busRuns = true → s.sbStar c.val = true → (s.sbOf c.val).state = 2 →
    s.flag (Reg.SB_STAR_CFG c.val) br.val = true → (s.sbOf c.val).closed.getLsbD br.val = false →
    ((s.sbOf c.val).viol.getLsbD br.val = true →
      exec (.sbBranchViolation c br kind) s = .next (s.wr (Reg.SB_BR_VIOL c.val br.val) (satInc (s.rd (Reg.SB_BR_VIOL c.val br.val))))) ∧
    ((s.sbOf c.val).viol.getLsbD br.val = false → s.fld (Reg.SB_STAR_CFG c.val) 11 8 ≠ 1 → (s.sbOf c.val).violRun.get 0 br.val = 0 →
      ∃ u : State, exec (.sbBranchViolation c br kind) s = .next (u.raise 0x0D03 0 [wd c.val, wd br.val, wd kind.toNat]) ∧
        u = { s with regs := u.regs, sb := u.sb } ∧ u.rd (Reg.SB_BR_VIOL c.val br.val) = satInc (s.rd (Reg.SB_BR_VIOL c.val br.val)) ∧
        (u.sbOf c.val).violRun.get 0 br.val = 1 ∧ (u.sbOf c.val).closed = (s.sbOf c.val).closed) ∧
    ((s.sbOf c.val).viol.getLsbD br.val = false → s.fld (Reg.SB_STAR_CFG c.val) 11 8 = (s.sbOf c.val).violRun.get 0 br.val + 1 →
      ∃ t, exec (.sbBranchViolation c br kind) s = .next t ∧ (t.sbOf c.val).closed.getLsbD br.val = true)) ∧
  (∀ (s : State) (c : Fin 2) (v : Word), s.dropped (Reg.SB_STAR_CMD c.val) = none →
    exec (.sbStarReopen c v) s = .next (s.setSb c.val { s.sbOf c.val with
      reopen := (s.sbOf c.val).reopen ||| (BitVec.ofNat 8 v.toNat &&& (s.sbOf c.val).closed) })) ∧
  (∀ (s : State) (c : Fin 2) (m : BitVec 9), s.busRuns = true → s.sbStar c.val = true → (s.sbOf c.val).state ≠ 0 →
    ∃ u : State, u = ((s.emit (.sbAbort c.val (m.toNat % 256))).wr (Reg.SB_STAR_COLLIDE c.val) (satInc (s.rd (Reg.SB_STAR_COLLIDE c.val)))).raise 0x0D05 0
        [wd c.val, wd m.toNat] ∧
      exec (.sbStartCollision c m) s = .next (if m.getLsbD 8 = true then u.sbListen c.val else u))

/-- CAN_TXB_WRITE, CAN_TXB_READ, CAN_TXB_REQUEST, CAN_TXB_CANCEL and CAN_RXQ_POP (R421, R422, R425, R427, R433): the window enters a buffer that is not requested, and is
refused with 1 for one that is; a read copies the buffer to the window; a request is refused with 3 for a remote FD frame, with 2 outside NORMAL and LOOPBACK and on a standby;
a cancel ends a request; a pop removes the head, and an empty queue answers 4.
CAN_FLT_WRITE, CAN_FLT_READ, CAN_RXQ_HEAD_READ and CAN_FRAME_RX (R416, R426, R427): the selected filter pair is written, reserved bits ignored, and read; a read of a head
returns its word 0 and locks it; a frame that no pair governs is counted, one that its pair rejects vanishes, and one that is accepted
joins its queue. -/
def Obligations.CanFramesAreSentFilteredAndQueued : Prop :=
  (∀ (s : State) (n : Fin 4) (b : Fin 64), s.dropped (Reg.CAN_TXB_CMD n.val) = none →
    (((s.canOf n.val).txb b.val).req = true → exec (.canTxbWrite n b) s = .next (s.wr (Reg.CAN_RESULT n.val) 1)) ∧
    (((s.canOf n.val).txb b.val).req = false → (bits (s.rd (Reg.CAN_TXB n.val 1)) 7 6 = 0 ∨ (bits (s.rd (Reg.CAN_TXB n.val 1)) 7 6 < 3 ∧ b.val < 32)) →
      exec (.canTxbWrite n b) s = .next ((s.setCan n.val ((s.canOf n.val).setTxb b.val { (s.canOf n.val).txb b.val with
        w0 := s.rd (Reg.CAN_TXB n.val 0) &&& 0x7FFFFFFF, w1 := s.rd (Reg.CAN_TXB n.val 1) &&& 0x1FF,
        data := (List.range 16).map (fun k => s.rd (Reg.CAN_TXB n.val (k + 2))) })).wr (Reg.CAN_RESULT n.val) 0))) ∧
  (∀ (s : State) (n : Fin 4) (b : Fin 64), s.dropped (Reg.CAN_TXB_CMD n.val) = none →
    ∃ t, exec (.canTxbRead n b) s = .next t ∧ t = { s with regs := t.regs } ∧ t.rd (Reg.CAN_TXB n.val 0) = ((s.canOf n.val).txb b.val).w0 ∧
      t.rd (Reg.CAN_TXB n.val 1) = ((s.canOf n.val).txb b.val).w1 ∧ (∀ k, k < 16 → t.rd (Reg.CAN_TXB n.val (k + 2)) = nthW ((s.canOf n.val).txb b.val).data k) ∧
      t.rd (Reg.CAN_TXB n.val 19) = ((s.canOf n.val).txb b.val).ts ∧ t.rd (Reg.CAN_RESULT n.val) = 0) ∧
  (∀ (s : State) (n : Fin 4) (b : Fin 64), s.dropped (Reg.CAN_TXB_CMD n.val) = none →
    (bit ((s.canOf n.val).txb b.val).w1 4 = true → bit ((s.canOf n.val).txb b.val).w0 30 = true →
      exec (.canTxbRequest n b) s = .next (s.wr (Reg.CAN_RESULT n.val) 3)) ∧
    (bit ((s.canOf n.val).txb b.val).w0 30 = false → (s.canMode n.val = 0 ∨ s.canMode n.val = 2 ∨ s.twin.role = .standby) →
      exec (.canTxbRequest n b) s = .next (s.wr (Reg.CAN_RESULT n.val) 2)) ∧
    (bit ((s.canOf n.val).txb b.val).w0 30 = false → (s.canMode n.val = 1 ∨ s.canMode n.val = 3) → s.twin.role ≠ .standby →
      exec (.canTxbRequest n b) s = .next (((s.setCan n.val ((s.canOf n.val).setTxb b.val { (s.canOf n.val).txb b.val with
        req := true, done := false, cancelled := false, failed := false, held := (s.canOf n.val).state == 3,
        prev := if ((s.canOf n.val).txb b.val).mode = 0 then ((s.canOf n.val).txb b.val).prev else some (s.canPayload n.val b.val ((s.canOf n.val).txb b.val)) })).wr (Reg.CAN_RESULT n.val) 0).canStart n.val))) ∧
  (∀ (s : State) (n : Fin 4) (b : Fin 64), s.dropped (Reg.CAN_TXB_CMD n.val) = none →
    exec (.canTxbCancel n b) s = .next ((s.setCan n.val ((s.canOf n.val).setTxb b.val { (s.canOf n.val).txb b.val with
      req := false, held := false, cancelled := true })).wr (Reg.CAN_RESULT n.val) 0)) ∧
  (∀ (s : State) (n : Fin 4), s.dropped (Reg.CAN_RXQ0_POP n.val) = none →
    ((s.canOf n.val).q0.q = [] → exec (.canRxqPop n 0) s = .next (s.wr (Reg.CAN_RESULT n.val) 4)) ∧
    (∀ e r, (s.canOf n.val).q0.q = e :: r → exec (.canRxqPop n 0) s = .next ((s.setCan n.val { s.canOf n.val with q0 := { (s.canOf n.val).q0 with q := r ++ (s.canOf n.val).q0.shadow.toList, shadow := none, locked := false } }).wr (Reg.CAN_RESULT n.val) 0))) ∧
  (∀ (s : State) (n : Fin 4) (e : CanRx) (r : List CanRx), s.dropped (Reg.CAN_RXQ1_POP n.val) = none → (s.canOf n.val).q1.q = e :: r →
    exec (.canRxqPop n 1) s = .next ((s.setCan n.val { s.canOf n.val with q1 := { (s.canOf n.val).q1 with q := r ++ (s.canOf n.val).q1.shadow.toList, shadow := none, locked := false } }).wr (Reg.CAN_RESULT n.val) 0)) ∧
  (∀ (s : State) (n : Fin 4), s.dropped (Reg.CAN_FLT_CMD n.val) = none → bits (s.rd (Reg.CAN_FLT_W n.val 2)) 8 4 ≠ 31 →
    exec (.canFltWrite n) s = .next (s.setCan n.val { s.canOf n.val with flt := (s.canOf n.val).flt.set (0, 0, 0) (s.fld (Reg.CAN_FLT_SEL n.val) 6 0) (s.rd (Reg.CAN_FLT_W n.val 0) &&& 0xBFFFFFFF, s.rd (Reg.CAN_FLT_W n.val 1) &&& 0x1FFFFFFF, s.rd (Reg.CAN_FLT_W n.val 2) &&& 0x1FF) })) ∧
  (∀ (s : State) (n : Fin 4) (p : Word × Word × Word), s.dropped (Reg.CAN_FLT_CMD n.val) = none →
    p = (s.canOf n.val).filter (s.fld (Reg.CAN_FLT_SEL n.val) 6 0) →
    exec (.canFltRead n) s = .next (((s.wr (Reg.CAN_FLT_W n.val 0) p.1).wr (Reg.CAN_FLT_W n.val 1) p.2.1).wr (Reg.CAN_FLT_W n.val 2) p.2.2)) ∧
  (∀ (s : State) (n : Fin 4) (q : Fin 2), s.readable = true → s.readMiss false (0x19200 + n.val * 0x400 + q.val * 0x80) = none →
    (((s.canOf n.val).queue q.val).q = [] → exec (.canRxqHeadRead false n q) s = .next (s.emit (.readData false (0x19200 + n.val * 0x400 + q.val * 0x80) 0))) ∧
    (∀ e r, ((s.canOf n.val).queue q.val).q = e :: r → ∃ t, exec (.canRxqHeadRead false n q) s = .next t ∧ t = { s with can := t.can, out := t.out } ∧
      t.out = .readData false (0x19200 + n.val * 0x400 + q.val * 0x80) (wd (e.f.id.toNat + e.f.ide.toNat * 2 ^ 29 + e.f.rtr.toNat * 2 ^ 30)) :: s.out ∧
      ((t.canOf n.val).queue q.val).locked = true ∧ ((t.canOf n.val).queue q.val).q = e :: r ∧ (∀ k, k ≠ n.val → t.canOf k = s.canOf k))) ∧
  (∀ (s : State) (n : Fin 4) (f : CanFrame) (sof : DWord), s.busRuns = true → (s.canOf n.val).state = 2 → (f.fdf = true → s.flag (Reg.CAN_CTRL n.val) 2 = true) →
    exec (.canFrameRx n f sof) s = .next (((s.canReceive n.val f sof).canRecDown n.val).canFrameEnd n.val)) ∧
  (∀ (s : State) (n : Nat) (f : CanFrame) (sof : DWord), (∀ k, k < 128 → filterMatch ((s.canOf n).filter k) f = false) →
    s.canReceive n f sof = s.wr (Reg.CAN_RX_NOMATCH n) (satInc (s.rd (Reg.CAN_RX_NOMATCH n)))) ∧
  (∀ (s : State) (n : Nat) (f : CanFrame) (sof : DWord) (k : Nat), k < 128 → filterMatch ((s.canOf n).filter k) f = true →
    (∀ j, j < k → filterMatch ((s.canOf n).filter j) f = false) →
    (bit ((s.canOf n).filter k).2.2 1 = true → s.canReceive n f sof = s) ∧
    (bit ((s.canOf n).filter k).2.2 1 = false → bit ((s.canOf n).filter k).2.2 3 = false → bits ((s.canOf n).filter k).2.2 0 0 = 0 →
      (s.canOf n).q0.q.length < 64 →
      ∃ r : CanRx, s.canReceive n f sof = s.setCan n { s.canOf n with q0 := { (s.canOf n).q0 with q := (s.canOf n).q0.q ++ [r], lossEp := false } } ∧
        r.f = f ∧ r.filter = k))

/-- CAN_MODE_WRITE, CAN_INTEGRATED, CAN_RECOVER, CAN_BUS_OFF_RECOVERED and CAN_PROTOCOL_EXCEPTION (R416 to R418, R431): a controller leaves INIT for integration only with
a timing that fits; after 11 recessive bits it runs; bus-off ends after RECOVER and 128 idle sequences, with the error counters 0; a protocol exception sends the controller back to integration.
CAN_TX_SUCCESS, CAN_ARB_LOST and CAN_ERROR (R423, R430, R431): a frame acknowledged ends its request with DONE and its bit of TX_DONE; the frame that starts is one of the
smallest key among those requested; a frame that loses arbitration stays requested, but for a ONE_SHOT one, which fails; an error with TEC beyond 255 is
bus-off, or INIT where that was waiting. -/
def Obligations.CanControllersEndAndChangeMode : Prop :=
  (∀ (s : State) (n : Fin 4) (v : Word), s.dropped (Reg.CAN_CTRL n.val) = none → (s.canOf n.val).state = 0 → bits v 1 0 ≠ 0 → bit v 3 = false → bit v 4 = false →
    ∃ u : State, u = { s with regs := u.regs } ∧ u.flag (Reg.CAN_CTRL n.val) 2 = bit v 2 ∧ u.fld (Reg.CAN_CTRL n.val) 11 8 = bits v 11 8 ∧
      u.flag (Reg.CAN_CTRL n.val) 3 = false ∧ u.fld (Reg.CAN_CTRL n.val) 1 0 = s.fld (Reg.CAN_CTRL n.val) 1 0 ∧ (∀ a, a ≠ Reg.CAN_CTRL n.val → u.rd a = s.rd a) ∧
      (u.canTimingOk n.val = true → exec (.canModeWrite n v) s =
        .next ((u.setF (Reg.CAN_CTRL n.val) 1 0 (bits v 1 0)).setCan n.val { s.canOf n.val with state := 1 })) ∧
      (u.canTimingOk n.val = false → exec (.canModeWrite n v) s = .next (u.wr (Reg.CAN_FAULTS n.val) (s.rd (Reg.CAN_FAULTS n.val) ||| 2)))) ∧
  (∀ (s : State) (n : Fin 4), s.busRuns = true → (s.canOf n.val).state = 1 →
    exec (.canIntegrated n) s = .next ((s.setCan n.val { s.canOf n.val with state := 2 }).canStart n.val)) ∧
  (∀ (s : State) (n : Fin 4), s.dropped (Reg.CAN_CTRL n.val) = none →
    ((s.canOf n.val).state = 3 → (s.canOf n.val).recover = none → exec (.canRecover n) s = .next (s.setCan n.val { s.canOf n.val with recover := some false })) ∧
    ((s.canOf n.val).state ≠ 3 → exec (.canRecover n) s = .next s)) ∧
  (∀ (s : State) (n : Fin 4) (auto : Bool), s.busRuns = true → (s.canOf n.val).state = 3 → (s.canOf n.val).recover = some auto →
    ∃ u : State, exec (.canBusOffRecovered n) s = .next ((u.raise 0x0E04 0 [wd n.val, bw auto]).canStart n.val) ∧ (u.canOf n.val).state = 2 ∧
      (u.canOf n.val).recover = none ∧ (u.canOf n.val).tec = 0 ∧ (u.canOf n.val).rec_ = 0 ∧ (u.canOf n.val).passive = false ∧
      (∀ k, k ≠ n.val → u.canOf k = s.canOf k)) ∧
  (∀ (s : State) (n : Fin 4) (id : BitVec 29), s.busRuns = true → (s.canOf n.val).state = 2 →
    exec (.canProtocolException n id) s = .next ((((s.setCan n.val { s.canOf n.val with state := 1, cur := none }).wr (Reg.CAN_PROTO_EXC n.val)
      (satInc (s.rd (Reg.CAN_PROTO_EXC n.val)))).raiseE 0x0E06 0 [wd n.val, wd id.toNat]).canFrameEnd n.val)) ∧
  (∀ (s : State) (n : Fin 4) (sof : DWord) (tdcv b : Nat) (f : CanFrame), s.busRuns = true → b < 64 → (s.canOf n.val).cur = some (b, f) →
    (f.brs = false ∨ s.flag (Reg.CAN_TDC n.val) 8 = false) → s.canMode n.val ≠ 3 →
    ∃ u : State, exec (.canTxSuccess n sof tdcv) s = .next ((u.canTecDown n.val).canFrameEnd n.val) ∧ u = { s with regs := u.regs, can := u.can } ∧
      (u.canOf n.val).cur = none ∧ ((u.canOf n.val).txb b).req = false ∧ ((u.canOf n.val).txb b).done = true ∧
      u.rd64 (Reg.CAN_TX_DONE n.val) = s.rd64 (Reg.CAN_TX_DONE n.val) ||| BitVec.ofNat 64 (1 <<< b) ∧
      (∀ k, k ≠ b → (u.canOf n.val).txb k = (s.canOf n.val).txb k) ∧ (∀ k, k ≠ n.val → u.canOf k = s.canOf k)) ∧
  (∀ (c : Can) (ok : CanTx → Bool) (b : Nat), c.best ok = some b → ∃ e ∈ c.buf, e.1 = b ∧ e.2.req = true ∧ ok e.2 = true ∧
    (∀ x ∈ c.buf, x.2.req = true → ok x.2 = true → e.2.key ≤ x.2.key)) ∧
  (∀ (c : Can) (ok : CanTx → Bool), c.best ok = none → ∀ x ∈ c.buf, x.2.req = true → ok x.2 = false) ∧
  (∀ (s : State) (n : Fin 4) (b : Nat) (f : CanFrame), s.busRuns = true → (s.canOf n.val).cur = some (b, f) →
    ∃ u : State, exec (.canArbLost n) s = .next (u.setCan n.val { u.canOf n.val with rx := true }) ∧ u = { s with can := u.can } ∧ (u.canOf n.val).cur = none ∧
      (bit ((s.canOf n.val).txb b).w1 8 = false → (u.canOf n.val).txb b = (s.canOf n.val).txb b) ∧
      (bit ((s.canOf n.val).txb b).w1 8 = true → ((s.canOf n.val).txb b).req = true → ((u.canOf n.val).txb b).req = false ∧
        ((u.canOf n.val).txb b).failed = true)) ∧
  (∀ (s : State) (n : Fin 4) (k : CanErr) (dp tx : Bool) (tec : BitVec 9) (r : BitVec 8), s.busRuns = true → (s.canOf n.val).state = 2 → 255 < tec.toNat →
    ∃ t, exec (.canError n k dp tx tec r) s = .next t ∧ (t.canOf n.val).state = (if (s.canOf n.val).init = true then 0 else 3) ∧ (t.canOf n.val).cur = none ∧
      t.rd (Reg.CAN_ERR_LAST n.val) = wd (canErrCode k + dp.toNat * 8) ∧ t.rd (Reg.CAN_BUSOFF_CNT n.val) = satInc (s.rd (Reg.CAN_BUSOFF_CNT n.val))) ∧
  (∀ (s : State) (n : Fin 4) (k : CanErr) (dp : Bool) (tec : BitVec 9) (r : BitVec 8), s.busRuns = true → (s.canOf n.val).state = 2 → tec.toNat < 128 → r.toNat < 128 →
    (s.canOf n.val).passive = false →
    exec (.canError n k dp false tec r) s = .next (((s.wr (Reg.CAN_ERR_LAST n.val) (wd (canErrCode k + dp.toNat * 8))).setCan n.val
      { s.canOf n.val with tec := tec.toNat, rec_ := r.toNat }).canFrameEnd n.val))

/-- ETH_LINK_UP, ETH_LINK_DOWN, ETH_FRAME_RX, ETH_FRAME_TX and ETH_TXTS_POP (R438 to R442, R453, R454): a link that comes up shows its speed and is reported; frames that are too
short, too long, or bad in their FCS or coding are counted and discarded, a PAUSE holds the transmitter, the rest goes to firmware; a frame leaves
with its FCS, and its stamp is queued; a
pop removes the oldest stamp.
PTP_SYNC_RX, PTP_HOLDOVER, PTP_HOLD_EXPIRE, PTP_MASTER_CHANGE, PPS_RISE and PPS_FALL (R446 to R450): a θ within the step limit is shown and steered out through INCR
without a step of corrected time; in HOLDOVER INCR is held; another master is shown and reported; PPS_OUT rises at its
instant for its width. The value of INCR that steering writes is firmware's, and free within the range of R61. -/
def Obligations.EthernetAndPrecisionTime : Prop :=
  (∀ (s : State) (m : Fin 2) (sp : BitVec 2) (remote an : Bool) (v : Nat), s.domOn 6 = true → s.flag (Reg.ETH_CTRL m.val) 0 = true →
    s.flag (Reg.ETH_STATUS m.val) 0 = false → an = (s.flag (Reg.ETH_CTRL m.val) 3 && s.fld (Reg.ETH_CTRL m.val) 2 1 != 2) →
    v = (if s.fld (Reg.ETH_CTRL m.val) 2 1 = 0 then (if an = true then sp.toNat else s.fld (Reg.ETH_CTRL m.val) 5 4)
      else if s.fld (Reg.ETH_CTRL m.val) 2 1 = 1 then 2 else 3) →
    exec (.ethLinkUp m sp remote) s = .next ((s.wr (Reg.ETH_STATUS m.val) (wd (1 + v * 2 + an.toNat * 8 + (an && remote).toNat * 16))).raise
      0x0F01 0 [wd m.val, wd v])) ∧
  (∀ (s : State) (m : Fin 2), s.domOn 6 = true → s.flag (Reg.ETH_STATUS m.val) 0 = true →
    exec (.ethLinkDown m) s = .next ((s.wr (Reg.ETH_STATUS m.val) 0).raise 0x0F02 0 [wd m.val])) ∧
  (∀ (s : State) (m : Fin 2) (f : List Byte) (code : Bool) (t : DWord), s.ethLink m.val = true →
    (code = true ∨ f.length < 64 ∨ 9216 < f.length ∨ f.drop (f.length - 4) ≠ fcsOf (f.take (f.length - 4))) →
    exec (.ethFrameRx m f code t) s = .next (s.wr (Reg.ETH_RX_BAD m.val) (satInc (s.rd (Reg.ETH_RX_BAD m.val))))) ∧
  (∀ (s : State) (m : Fin 2) (f : List Byte) (t : DWord), s.ethLink m.val = true → frameGood f false = true →
    (s.flag (Reg.ETH_CTRL m.val) 6 = true → ∀ q, pauseOf f = some q → ∃ u : State, exec (.ethFrameRx m f false t) s = .next u ∧
      u = { s with regs := u.regs, eth := u.eth } ∧ u.rd (Reg.ETH_RX_FRAMES m.val) = s.rd (Reg.ETH_RX_FRAMES m.val) + 1 ∧
      u.eth.pause.get 0 m.val = s.count.toNat + q * s.quantum m.val / 10) ∧
    ((s.flag (Reg.ETH_CTRL m.val) 6 = false ∨ pauseOf f = none) → s.flag (Reg.ETH_CTRL m.val) 13 = false → ptpEvent f = false →
      exec (.ethFrameRx m f false t) s = .next ((s.wr (Reg.ETH_RX_FRAMES m.val) (s.rd (Reg.ETH_RX_FRAMES m.val) + 1)).emit (.ethToFirmware m.val f none)))) ∧
  (∀ (s : State) (m : Fin 2) (f : List Byte) (t : DWord) (tag : BitVec 16), s.ethLink m.val = true → s.eth.pause.get 0 m.val ≤ s.count.toNat →
    exec (.ethFrameTx m f .none t) s = .next ((s.wr (Reg.ETH_TX_FRAMES m.val) (s.rd (Reg.ETH_TX_FRAMES m.val) + 1)).emit (.ethFrame m.val (f ++ fcsOf f))) ∧
    ((s.eth.txts.get [] m.val).length < 16 → ∃ u : State, exec (.ethFrameTx m f (.twoStep tag) t) s = .next u ∧ u = { s with regs := u.regs, eth := u.eth, out := u.out } ∧
      u.out = .ethFrame m.val (f ++ fcsOf f) :: s.out ∧ u.eth.txts.get [] m.val = s.eth.txts.get [] m.val ++
        [(tag, BitVec.ofInt 64 ((t.toNat : Int) + (s.rd (Reg.ETH_TS_EGR_ADJ m.val)).toInt))])) ∧
  (∀ (s : State) (m : Fin 2) (f : List Byte) (mode : TxStampMode) (t : DWord), s.count.toNat < s.eth.pause.get 0 m.val →
    exec (.ethFrameTx m f mode t) s = .next s) ∧
  (∀ (s : State) (m : Fin 2), s.dropped (Reg.ETH_TXTS_POP m.val) = none →
    ∃ u : State, exec (.ethTxtsPop m) s = .next u ∧ u = { s with eth := u.eth } ∧ u.eth.txts.get [] m.val = (s.eth.txts.get [] m.val).drop 1 ∧
      u.eth.ptp = s.eth.ptp ∧ (∀ k, k ≠ m.val → u.eth.txts.get [] k = s.eth.txts.get [] k)) ∧
  (∀ (s : State) (theta : Int) (delay : Word), s.ptpOn = true → (s.eth.ptp = 2 ∨ s.eth.ptp = 3) → s.eth.servo.first = false → s.eth.servo.steering = false →
    theta.natAbs ≤ (s.rd Reg.PTP_STEP_NS).toNat →
    ∃ t, exec (.ptpSyncRx theta delay) s = .next t ∧ t.rd Reg.PTP_OFFSET = wi (clampI theta (-(2 ^ 31)) (2 ^ 31 - 1)) ∧ t.rd Reg.PTP_DELAY = delay ∧
      t.now = s.now ∧ t.count = s.count ∧ 0xF333333333 ≤ t.tb.incr.toNat ∧ t.tb.incr.toNat ≤ 0x10CCCCCCCCC ∧ t.ctx = s.ctx) ∧
  (∀ s : State, s.ptpOn = true → (s.eth.ptp = 1 ∨ s.eth.ptp = 2 ∨ s.eth.ptp = 3) →
    ∃ t, exec .ptpHoldover s = .next t ∧ t.eth.ptp = 4 ∧ t.now = s.now ∧ t.count = s.count ∧ (s.eth.servo.incrs = [] → t.tb = s.tb)) ∧
  (∀ s : State, s.ptpOn = true → s.eth.ptp = 4 → s.eth.servo.holdAt.toNat + (s.rd Reg.PTP_HOLD_MS).toNat * 1000000 ≤ s.count.toNat →
    exec .ptpHoldExpire s = .next { s with eth := { s.eth with servo := { s.eth.servo with expired := true } } }) ∧
  (∀ (s : State) (id : DWord), s.ptpOn = true → s.eth.ptp ≠ 0 → s.rd64 Reg.PTP_MASTER_ID ≠ id → id ≠ Config.clockId →
    ∃ t, exec (.ptpMasterChange id) s = .next t ∧ t.rd64 Reg.PTP_MASTER_ID = id ∧ t.eth.ptp = (if s.eth.ptp = 5 ∨ s.eth.ptp = 1 then 1 else 2) ∧
      t.eth.servo.first = true ∧ t.now = s.now) ∧
  (∀ s : State, s.ppsOk = true → s.eth.pps.last + 1 = s.ppsIdx →
    ∃ t, exec .ppsRise s = .next t ∧ t = { s with regs := t.regs, eth := t.eth, out := t.out } ∧ t.out = .pps true :: s.out ∧
      t.eth.pps = { high := true, fall := s.now + BitVec.ofNat 64 (s.rd Reg.PPS_WIDTH).toNat, last := s.ppsIdx } ∧ (∀ a, t.rd a = s.rd a)) ∧
  (∀ s : State, s.eth.pps.high = true → s.eth.pps.fall.toNat ≤ s.now.toNat →
    exec .ppsFall s = .next (({ s with eth := { s.eth with pps := { s.eth.pps with high := false } } } : State).emit (.pps false))) ∧
  (∀ s : State, s.ppsOk = false → exec .ppsRise s = .next s)

/-- SAFE_STROBE, SAFE_DISCREPANCY_TIMEOUT, SAFE_EVAL, SAFE_ENC_TRANSITION and SAFE_ENC_EVAL (R456, R459, R461, R463, R465, R470, R471): a strobe counts, and a filter accepts a level
after FILT equal samples; a discrepancy that has lasted T_d is a fault of its pair; an evaluation without a good clock locks the island out, and leaves
no output on outside OPERATIONAL; an encoder edge counts up when A leads. -/
def Obligations.SafetyInputsAreSampledAndJudged : Prop :=
  (∀ (s : State) (x1 x2 : SafeSample), s.domOn 2 = true → ∃ t, exec (.safeStrobe x1 x2) s = .next t ∧ t.safe.k = s.safe.k + 1 ∧ t.tb = s.tb ∧ t.power = s.power) ∧
  (∀ (f : SafeFilt) (n : Nat) (x : Bool), (x = f.level → (f.step n x).1.level = f.level ∧ (f.step n x).1.run = 0 ∧ (f.step n x).2 = false) ∧
    (x ≠ f.level → f.run + 1 < n → (f.step n x).1.level = f.level ∧ (f.step n x).1.run = f.run + 1 ∧ (f.step n x).2 = false) ∧
    (x ≠ f.level → n ≤ f.run + 1 → (f.step n x).1.level = x ∧ (f.step n x).1.run = 0 ∧ (f.step n x).2 = true)) ∧
  (∀ (s : State) (i : Fin 16) (b : List Byte) (ab : Bool) (k1 : Nat), s.domOn 2 = true → s.safe.block = some b → (s.safePair 0 i.val).epi = some (ab, k1) →
    k1 + blkTd b i.val + blkFilt b i.val - 1 ≤ s.safe.k →
    ∃ u : State, exec (.safeDiscrepancyTimeout i) s = .next (u.safeFault 1 i.val) ∧ u = { s with safe := { s.safe with pair := u.safe.pair } } ∧
      (u.safePair 0 i.val).epi = none ∧ (u.safePair 1 i.val).epi = none) ∧
  (∀ (s : State) (ra rb : Byte) (ok : Bool), s.domOn 2 = true → s.safe.evalAt + 10 ≤ s.safe.k →
    ∃ t, exec (.safeEval ra rb ok) s = .next t ∧ t.safe.evalAt = s.safe.k ∧ t.safe.k = s.safe.k ∧ (t.safe.state ≠ .operational → t.safe.out = 0) ∧
      (ok = false → s.safe.state ≠ .selftest → t.safe.state = .lockout) ∧ (s.safe.state = .selftest → t.safe.state = .selftest)) ∧
  (∀ (s : State) (ra rb : Byte) (ok : Bool), s.safe.k < s.safe.evalAt + 10 → exec (.safeEval ra rb ok) s = .next s) ∧
  (∀ (s : State) (e : Fin 8) (a b : Bool), s.domOn 2 = true → ((s.safe.enc.get {} e.val).a = a ∨ (s.safe.enc.get {} e.val).b = b) →
    ∃ t, exec (.safeEncTransition e a b false) s = .next t ∧ t = { s with safe := { s.safe with enc := t.safe.enc } } ∧
      (t.safe.enc.get {} e.val).a = a ∧ (t.safe.enc.get {} e.val).b = b ∧
      (t.safe.enc.get {} e.val).count = (s.safe.enc.get {} e.val).count + (if (s.safe.enc.get {} e.val).a = a ∧ (s.safe.enc.get {} e.val).b = b then 0
        else if (quadPos (s.safe.enc.get {} e.val).a (s.safe.enc.get {} e.val).b + 1) % 4 = quadPos a b then 1 else -1) ∧
      (∀ n, n ≠ e.val → t.safe.enc.get {} n = s.safe.enc.get {} n)) ∧
  (∀ (s : State) (b : List Byte), s.domOn 2 = true → s.safe.block = some b → s.safe.encAt + 100 ≤ s.safe.k →
    ∃ t, exec .safeEncEval s = .next t ∧ t.safe.encAt = s.safe.k ∧ t.safe.k = s.safe.k ∧ t.tb = s.tb)

/-- SAFE_RESET_PULSE, SAFE_SS1_EXPIRE, SAFE_TEST_PULSE, SAFE_BG_TEST, PD2_POWER_ON, SAFE_SUPPLY_LOSS and SAFE_SELFTEST_DONE (R458, R466, R469 to R472, R474, R479): a reset pulse outside 100 ms to 3 s is ignored and
reported; one in LOCKOUT with no fault present leaves LOCKOUT, and one at the strobe of a fault does not; T_SS1 ends a stop; a test pulse that does not read low, or a background test that
fails, locks the island out; power-on and supply loss leave every output off, and MRAM what it holds; a self-test without a valid block ends in LOCKOUT. -/
def Obligations.SafetyResetsTestsAndPower : Prop :=
  (∀ (s : State) (n : Nat), s.domOn 2 = true → s.safe.pulse = some n → (n < 10000 ∨ 300000 < n) →
    exec .safeResetPulse s = .next ((({ s with safe := { s.safe with pulse := none } } : State).wr Reg.SAFE_RESET_IGN (s.rd Reg.SAFE_RESET_IGN + 1)).raise 0x1004 0
      [wd (n / 100)])) ∧
  (∀ (s : State) (n : Nat), s.domOn 2 = true → s.safe.pulse = some n → 10000 ≤ n → n ≤ 300000 → s.safe.state = .lockout →
    s.safe.faultAt ≠ some s.safe.k →
    (s.resetBar = none → ∃ t, exec .safeResetPulse s = .next t ∧ t.safe.state = .operational ∧ t.safe.cause = 0 ∧ t.safe.out = s.safe.out ∧ t.safe.grp = s.safe.grp) ∧
    (∀ c, s.resetBar = some c → exec .safeResetPulse s = .next (({ s with safe := { s.safe with pulse := none } } : State).raise 0x1003 0 [wd c]))) ∧
  (∀ (s : State) (n : Nat), s.domOn 2 = true → s.safe.pulse = some n → 10000 ≤ n → n ≤ 300000 → s.safe.state = .lockout →
    s.safe.faultAt = some s.safe.k →
    exec .safeResetPulse s = .next (({ s with safe := { s.safe with pulse := none } } : State).raise 0x1003 0 [wd s.safe.cause])) ∧
  (∀ (s : State) (g : Fin 4) (b : List Byte), s.domOn 2 = true → s.safe.block = some b → (s.safeGrp g.val).state = 1 →
    (s.safeGrp g.val).since + blkSs1 b g.val ≤ s.safe.k →
    ∃ t, exec (.safeSs1Expire g) s = .next t ∧ t = { s with safe := t.safe, out := t.out } ∧ (t.safeGrp g.val).state = 0 ∧
      (∀ h, h ≠ g.val → t.safeGrp h = s.safeGrp h) ∧ (∀ k, k < 8 → blkOutOf b k g.val = true → t.safe.out.getLsbD k = false)) ∧
  (∀ (s : State) (p : Fin 8) (b : List Byte), s.domOn 2 = true → s.safe.block = some b → s.safe.out.getLsbD p.val = true → bit (blkOut b p.val) 4 = true →
    s.safe.tested.get none p.val = none →
    (∃ t, exec (.safeTestPulse p false true) s = .next t ∧ t = { s with safe := { s.safe with tested := t.safe.tested }, out := t.out } ∧
      t.safe.tested.get none p.val = some s.safe.k) ∧
    (s.safe.state = .operational → ∃ t, exec (.safeTestPulse p false false) s = .next t ∧ t.safe.state = .lockout ∧ t.safe.cause = 4 ∧ t.safe.index = p.val ∧
      t.safe.out = 0)) ∧
  (∀ s : State, s.domOn 2 = true → s.safe.state = .operational →
    exec (.safeBgTest true) s = .next { s with safe := { s.safe with bgFail := false } } ∧
    ∃ t, exec (.safeBgTest false) s = .next t ∧ t.safe.state = .lockout ∧ t.safe.cause = 7 ∧ t.safe.out = 0 ∧ t.safe.lockouts = s.safe.lockouts + 1) ∧
  (∀ s : State, ∃ t, exec .pd2PowerOn s = .next t ∧ t = { s with regs := t.regs, power := { s.power with on := s.power.on ||| 4 }, safe := t.safe } ∧
    t.safe = { copy0 := s.safe.copy0, copy1 := s.safe.copy1, lockouts := s.safe.lockouts } ∧
    (∀ a, a < 0x1B000 ∨ 0x1C000 ≤ a → t.rd a = s.rd a) ∧ (∀ a, 0x1B000 ≤ a → a < 0x1C000 → t.rd a = resetWord a)) ∧
  (∀ s : State, s.domOn 2 = true → ∃ t, exec .safeSupplyLoss s = .next t ∧ t.domOn 2 = false ∧ t.safe.out = 0 ∧ t.safe.copy0 = s.safe.copy0 ∧
    t.safe.copy1 = s.safe.copy1 ∧ t.ctx = s.ctx ∧ t.tb = s.tb) ∧
  (∀ (s : State) (ok : Bool), s.domOn 2 = true → s.safe.state = .selftest →
    (s.safe.bestCopy = none → ∃ t, exec (.safeSelftestDone ok) s = .next t ∧ t.safe.state = .lockout ∧ t.safe.cause = 9 ∧ t.safe.out = 0) ∧
    (∀ n c, s.safe.bestCopy = some (n, c) →
      (∃ t, exec (.safeSelftestDone true) s = .next t ∧ t.safe.state = .operational ∧ t.safe.block = some c.bytes ∧ t.safe.active = some n ∧ t.safe.gen = c.gen) ∧
      (∃ t, exec (.safeSelftestDone false) s = .next t ∧ t.safe.state = .lockout ∧ t.safe.cause = 7)))

/-- SAFE_MBX_LOAD_BEGIN, LOAD_WRITE, LOAD_END, CONFIRM, READ_ACTIVE, DISCARD, BAD_CMD and SAFE_COMMIT_DONE (R475 to R477, R483, R486, R487): LOAD_BEGIN opens a candidate; LOAD_WRITE places 32
bytes in it; without LOAD_BEGIN both LOAD_WRITE and LOAD_END answer 5; CONFIRM of a wrong CHECK answers 6, and of the right one locks the island out and commits
to the older copy; a commit that verifies becomes active. -/
def Obligations.SafetyBlocksAreCommissioned : Prop :=
  (∀ s : State, s.dropped Reg.SAFE_MBX_CMD = none → s.domOn 2 = true → s.safe.commit = none →
    ∃ t, exec .safeMbxLoadBegin s = .next t ∧ t = { s with regs := t.regs, freeCtr := t.freeCtr, safe := { s.safe with loading := t.safe.loading, cand := none, confirms := 0 } } ∧
      (∃ b : List Byte, t.safe.loading = some b ∧ b.length = 1024) ∧ t.rd Reg.SAFE_MBX_STATUS = 2) ∧
  (∀ (s : State) (b : List Byte), s.dropped Reg.SAFE_MBX_CMD = none → s.domOn 2 = true → s.safe.commit = none → s.safe.loading = some b →
    (s.rd Reg.SAFE_MBX_ARG).toNat % 32 = 0 → (s.rd Reg.SAFE_MBX_ARG).toNat < 1024 →
    exec .safeMbxLoadWrite s = .next (({ s with safe := { s.safe with loading := some (b.take (s.rd Reg.SAFE_MBX_ARG).toNat ++
      (List.range 8).flatMap (fun k => wordBytes (s.rd (Reg.SAFE_MBX_DATA k))) ++ b.drop ((s.rd Reg.SAFE_MBX_ARG).toNat + 32)) } } : State).wr Reg.SAFE_MBX_STATUS 2)) ∧
  (∀ s : State, s.dropped Reg.SAFE_MBX_CMD = none → s.domOn 2 = true → s.safe.commit = none → s.safe.loading = none →
    exec .safeMbxLoadWrite s = .next (s.wr Reg.SAFE_MBX_STATUS 0x52) ∧ exec .safeMbxLoadEnd s = .next (s.wr Reg.SAFE_MBX_STATUS 0x52)) ∧
  (∀ (s : State) (b : List Byte), s.dropped Reg.SAFE_MBX_CMD = none → s.domOn 2 = true → s.safe.commit = none → s.safe.loading = some b →
    (∀ o, blkBad b = some o → exec .safeMbxLoadEnd s = .next (({ s with safe := { s.safe with loading := none } } : State).wr Reg.SAFE_MBX_STATUS (wd (0x32 + o * 65536)))) ∧
    (blkBad b = none → crc32c (b.take 1020) = blkW b 1020 → exec .safeMbxLoadEnd s = .next ((({ s with safe := { s.safe with loading := none, cand := some b, confirms := 0 } } : State).wr Reg.SAFE_CAND_CHECK (crc32c (b.take 1020))).wr Reg.SAFE_MBX_STATUS 2))) ∧
  (∀ s : State, s.dropped Reg.SAFE_MBX_CMD = none → s.domOn 2 = true → s.safe.commit.isSome = true →
    exec .safeMbxLoadBegin s = .next (s.wr Reg.SAFE_MBX_STATUS 0x11) ∧ exec .safeMbxConfirm s = .next (s.wr Reg.SAFE_MBX_STATUS 0x11)) ∧
  (∀ (s : State) (b : List Byte), s.dropped Reg.SAFE_MBX_CMD = none → s.domOn 2 = true → s.safe.commit = none → s.safe.state ≠ .selftest → s.safe.grp = [] →
    s.safe.cand = some b →
    (s.rd Reg.SAFE_MBX_ARG ≠ s.rd Reg.SAFE_CAND_CHECK → s.safe.confirms = 0 → exec .safeMbxConfirm s =
      .next ((({ s with safe := { s.safe with confirms := 1 } } : State).raise 0x1008 0 [1]).wr Reg.SAFE_MBX_STATUS 0x62)) ∧
    (s.rd Reg.SAFE_MBX_ARG = s.rd Reg.SAFE_CAND_CHECK → ∃ t, exec .safeMbxConfirm s = .next t ∧ t.safe.state = .lockout ∧ t.safe.cause = 10 ∧
      t.safe.commit = some s.safe.older ∧ t.safe.out = 0 ∧ t.rd Reg.SAFE_MBX_STATUS = 1)) ∧
  (∀ (s : State) (b : List Byte), s.dropped Reg.SAFE_MBX_CMD = none → s.domOn 2 = true → s.safe.commit = none → s.safe.block = some b →
    (s.rd Reg.SAFE_MBX_ARG).toNat % 32 = 0 → (s.rd Reg.SAFE_MBX_ARG).toNat < 1024 →
    ∃ t, exec .safeMbxReadActive s = .next t ∧ t = { s with regs := t.regs } ∧ t.rd Reg.SAFE_MBX_STATUS = 2 ∧
      (∀ k, k < 8 → t.rd (Reg.SAFE_MBX_DATA k) = blkW b ((s.rd Reg.SAFE_MBX_ARG).toNat + 4 * k))) ∧
  (∀ s : State, s.dropped Reg.SAFE_MBX_CMD = none → s.domOn 2 = true → s.safe.commit = none →
    (s.safe.cand = none → s.safe.loading = none → exec .safeMbxDiscard s = .next (s.wr Reg.SAFE_MBX_STATUS 0x52)) ∧
    (s.safe.cand.isSome = true → exec .safeMbxDiscard s =
      .next (({ s with safe := { s.safe with cand := none, loading := none, confirms := 0 } } : State).wr Reg.SAFE_MBX_STATUS 2)) ∧
    (∀ v : Word, (bits v 3 0 = 0 ∨ 6 < bits v 3 0) → exec (.safeMbxBadCmd v) s = .next (s.wr Reg.SAFE_MBX_STATUS 0xFFFF0022))) ∧
  (∀ (s : State) (n : Nat), s.safe.commit = some n → s.domOn 2 = true →
    exec (.safeCommitDone false) s = .next (({ s with safe := { s.safe with commit := none } } : State).wr Reg.SAFE_MBX_STATUS 0x82) ∧
    ∃ t, exec (.safeCommitDone true) s = .next t ∧ t.safe.commit = none ∧ t.safe.cand = none ∧ t.safe.active = some n ∧
      t.safe.block = some (if n = 0 then s.safe.copy0 else s.safe.copy1).bytes ∧ t.safe.state = s.safe.state ∧ t.rd Reg.SAFE_MBX_STATUS = 2)

/-- R457 whole: no command but the island's own events and its mailbox changes the island, and no command but the loss of its own supply takes
PD2's power; what an event of the island does to it depends on the island and its supply alone; what a mailbox command does, on these and on the
mailbox registers. (A LOAD_BEGIN's bytes that nothing has written are free, so the last clause has the counter of free values too: log entry 78.) -/
def Obligations.IslandIsReachedByItsOwnCommandsOnly : Prop :=
  (∀ (c : Instr) (s t : State), exec c s = .next t → islandEvent c = false → mailboxWrite c = false → t.safe = s.safe) ∧
  (∀ (c : Instr) (s t : State), exec c s = .next t → c ≠ .safeSupplyLoss → s.domOn 2 = true → t.domOn 2 = true) ∧
  (∀ (c : Instr) (s u t v : State), islandEvent c = true → exec c s = .next t → exec c u = .next v → s.safe = u.safe → s.domOn 2 = u.domOn 2 →
    t.safe = v.safe ∧ t.domOn 2 = v.domOn 2) ∧
  (∀ (c : Instr) (s u t v : State), mailboxWrite c = true → exec c s = .next t → exec c u = .next v → s.safe = u.safe → s.domOn 2 = u.domOn 2 →
    s.dropped Reg.SAFE_MBX_CMD = none → u.dropped Reg.SAFE_MBX_CMD = none → s.freeCtr = u.freeCtr → (∀ a, 0x1B000 ≤ a → a < 0x1C000 → s.rd a = u.rd a) →
    t.safe = v.safe)

/-- The safe outputs are off outside OPERATIONAL (R458, R465, R469), and every step keeps that: no command, and no tick, turns an output on while the island is
in SELFTEST or LOCKOUT or leaves one on as it enters them. -/
def Obligations.SafeOutputsStayOffOutsideOperational : Prop :=
  ∀ s t : State, (s.safe.state ≠ .operational → s.safe.out = 0) → step s = .next t → t.safe.state ≠ .operational → t.safe.out = 0

/-- LOOP_CONV_START, LOOP_CONV_DONE, LOOP_TRIM_PRESS, LOOP_TRIM_REPEAT, LOOP_TRIM_RELEASE, LOOP_PGATE_FALL and LOOP_PGATE_RISE (R491, R492, R496, R497): a conversion starts in every 100 µs of corrected time, and after 20 µs gives current and
headroom; a press steps the trim by one within its range and repeats; its release is reported; the partner's gate is noted and a channel follows the
row in force. -/
def Obligations.CurrentLoopsConvertAndTrim : Prop :=
  (∀ (s : State) (n : Fin 8), s.ctlRuns = true → s.flag (Reg.LOOP_CH_CFG n.val) 1 = false → (s.loopOf n.val).conv = none →
    (s.loopOf n.val).grid ≠ s.now.toNat / 100000 →
    exec (.loopConvStart n) s = .next (s.setLoop n.val { s.loopOf n.val with conv := some s.count, grid := s.now.toNat / 100000 })) ∧
  (∀ (s : State) (n : Fin 8) (cur head : BitVec 16) (t0 : DWord), s.ctlRuns = true → (s.loopOf n.val).conv = some t0 → t0.toNat + 20000 ≤ s.count.toNat →
    ∃ t, exec (.loopConvDone n cur head) s = .next t ∧ t.rd (Reg.LOOP_CH_MEAS n.val) = wd (cur.toNat + head.toNat * 65536) ∧
      (t.loopOf n.val).current = cur.toNat ∧ (t.loopOf n.val).headroom = head.toNat ∧ (t.loopOf n.val).count = (s.loopOf n.val).count + 1 ∧
      (t.loopOf n.val).validAt = some s.count ∧ (t.loopOf n.val).conv = (if (s.loopOf n.val).queued = true then some s.count else none) ∧
      (∀ k, k ≠ n.val → t.loopOf k = s.loopOf k)) ∧
  (∀ (s : State) (n : Nat) (sp : Nat), s.loopTarget n sp ≤ 48000) ∧
  (∀ (s : State) (n : Fin 8) (up : Bool), s.ctlRuns = true → s.flag Reg.LOOP_CTRL 0 = true → s.loopEn n.val = true → (s.loopOf n.val).sp < 24000 →
    ∃ t, exec (.loopTrimPress n up (!up)) s = .next t ∧
      sx 16 (t.fld (Reg.LOOP_CH_TRIM n.val) 15 0) = clampI (sx 16 (s.fld (Reg.LOOP_CH_TRIM n.val) 15 0) + (if up = true then 1 else -1)) (-1000) 1000 ∧
      t.fld (Reg.LOOP_CH_TRIM n.val) 31 16 = s.fld (Reg.LOOP_CH_TRIM n.val) 31 16 ∧ t.trim = some { ch := n.val, up := up, next := s.count + 980000000 }) ∧
  (∀ (s : State) (b : TrimBtn), s.trim = some b → s.ctlRuns = true → s.flag Reg.LOOP_CTRL 0 = true → s.loopEn b.ch = true → b.both = false →
    b.next.toNat ≤ s.count.toNat → exec .loopTrimRepeat s =
      .next (({ s with trim := some { b with next := b.next + 100000000 } } : State).trimStep b.ch b.up)) ∧
  (∀ (s : State) (b : TrimBtn), s.trim = some b → s.ctlRuns = true → exec .loopTrimRelease s = .next ((({ s with trim := none } : State).wr (Reg.LOOP_CH_STATUS b.ch)
    (s.rd (Reg.LOOP_CH_STATUS b.ch) ||| 0x200)).raise 0x1103 0 [wd b.ch, s.rd (Reg.LOOP_CH_TRIM b.ch)])) ∧
  (∀ (s : State) (n : Fin 8), exec (.loopPgateFall n) s = .next ((s.setLoop n.val { s.loopOf n.val with pgate := false }).loopUpdate n.val) ∧
    exec (.loopPgateRise n) s = .next ((s.setLoop n.val { s.loopOf n.val with pgate := true }).loopUpdate n.val)) ∧
  (∀ (s : State) (n : Nat), (s.loopUpdate n).loopRow n = .off → ((s.loopUpdate n).loopOf n).drive = none)

/-- CASK_FLUSH, CASK_FLUSH_TIMER, CASK_CMD_FLUSH, CASK_CMD_READ, CASK_TOKEN_GAIN, CASK_SUPPRESSED and CASK_BKT_WRITE (R502, R505, R506, R507, R510, R512, R519): a flush writes every staged record to the slot of its SEQ, in
order, and empties staging, but for records raised after the flush of a power failure (R507); the timer and the command start one; a read gives the record whole, or NOT_PRESENT; a bucket gains a token
at its rate unless it is full; summaries come each second, and are deferred during a freeze. -/
def Obligations.CaskRecordsAreFlushedAndRead : Prop :=
  (∀ s : State, s.cask.flushing = true → s.cask.clearing = false → s.cask.overflow = 0 →
    exec .caskFlush s = .next (let u : State := { s with cask := { s.cask with mram := s.cask.flushed.foldl caskStore s.cask.mram, wIdx := s.cask.wIdx + s.cask.flushed.length, staging := s.cask.staging.drop s.cask.flushed.length, flushing := false, flushCmd := false } }
      if s.cask.flushCmd = true then u.wr Reg.CASK_RESULT 0x90 else u)) ∧
  (∀ c : Cask, (c.late = 0 → c.flushed = c.staging) ∧ c.staging = c.flushed ++ c.staging.drop c.flushed.length ∧
    (c.late ≤ c.staging.length → (c.staging.drop c.flushed.length).length = c.late)) ∧
  (∀ s : State, s.cask.flushing = false → exec .caskFlush s = .next s) ∧
  (∀ (m : SMap CaskSlot) (l : List CaskRec) (n : Nat), (∀ r ∈ l, caskSlotOf r.seq ≠ n) → (l.foldl caskStore m).get .zero n = m.get .zero n) ∧
  (∀ (m : SMap CaskSlot) (l : List CaskRec) (r : CaskRec), r ∈ l → (∀ x ∈ l, caskSlotOf x.seq = caskSlotOf r.seq → x = r) →
    (l.foldl caskStore m).get .zero (caskSlotOf r.seq) = .held r) ∧
  (∀ q : Nat, caskSlotOf q < 139264 ∧ (q < 8192 → caskSlotOf q = q) ∧ (8192 ≤ q → 8192 ≤ caskSlotOf q ∧ caskSlotOf (q + 131072) = caskSlotOf q)) ∧
  (∀ s : State, s.count.toNat % 100000000 = 0 → s.cask.staging ≠ [] →
    exec .caskFlushTimer s = .next { s with cask := { s.cask with flushing := true } }) ∧
  (∀ s : State, s.dropped Reg.CASK_CMD = none → s.cask.clearing = false → s.cask.flushCmd = false →
    exec .caskCmdFlush s = .next { s.wr Reg.CASK_RESULT 0x10 with cask := { s.cask with flushing := true, flushCmd := true } }) ∧
  (∀ s : State, s.dropped Reg.CASK_CMD = none → (s.cask.clearing = true ∨ s.cask.flushCmd = true) →
    exec .caskCmdFlush s = .next (s.wr Reg.CASK_RESULT 0x91) ∧ exec .caskCmdRead s = .next (s.wr Reg.CASK_RESULT 0xC1)) ∧
  (∀ s : State, s.dropped Reg.CASK_CMD = none → s.cask.clearing = false → s.cask.flushCmd = false →
    (s.cask.held (s.rd64 Reg.CASK_RD_SEQ).toNat = none → ∃ t, exec .caskCmdRead s = .next t ∧ t = { s with regs := t.regs } ∧ t.rd Reg.CASK_RESULT = 0xC6) ∧
    (∀ r, s.cask.held (s.rd64 Reg.CASK_RD_SEQ).toNat = some r → ∃ t, exec .caskCmdRead s = .next t ∧ t = { s with regs := t.regs } ∧
      t.rd Reg.CASK_RESULT = 0xC0 ∧ (∀ k, k < 16 → t.rd (Reg.CASK_RD_DATA k) = wordAt r.bytes k))) ∧
  (∀ (s : State) (b : Fin 256), s.count.toNat % (1000000000 / s.fld (Reg.CASK_BKT b.val) 15 0) = 0 → (s.cask.buckets.get {} b.val).used ≠ 0 →
    (s.cask.buckets.get {} b.val).gain ≠ some s.count →
    exec (.caskTokenGain b) s = .next (s.setBucket b.val { s.cask.buckets.get {} b.val with
      used := (s.cask.buckets.get {} b.val).used - 1, gain := some s.count })) ∧
  (∀ s : State, s.count.toNat % 1000000000 = 0 →
    (s.cask.freeze.isSome = true → exec .caskSuppressed s = .next { s with cask := { s.cask with deferred := true } }) ∧
    (s.cask.freeze = none → (∀ b, (s.cask.buckets.get {} b).suppr = 0) → exec .caskSuppressed s = .next s)) ∧
  (∀ (s : State) (b : Fin 256) (v : Word), s.dropped (Reg.CASK_BKT b.val) = none → 1 ≤ bits v 15 0 → 1 ≤ bits v 26 16 → bits v 26 16 ≤ 1024 →
    ∃ t, exec (.caskBktWrite b v) s = .next t ∧ t = { s with regs := t.regs, cask := { s.cask with buckets := t.cask.buckets } } ∧
      t.fld (Reg.CASK_BKT b.val) 15 0 = bits v 15 0 ∧ t.fld (Reg.CASK_BKT b.val) 26 16 = bits v 26 16 ∧ t.flag (Reg.CASK_BKT b.val) 31 = bit v 31 ∧
      (t.cask.buckets.get {} b.val).used = 0 ∧ (∀ a, a ≠ Reg.CASK_BKT b.val → t.rd a = s.rd a))

/-- CASK_CMD_NONCE, CASK_NONCE_EXPIRE, CASK_CMD_CLEAR, CASK_CLEAR_DONE, CASK_FREEZE_WRITE, CASK_FREEZE_IN_FORCE and CASK_FREEZE_TIMEOUT (R511, R514 to R517): a nonce is good for one attempt and 600 s; a CLEAR without a nonce is refused with 2 and reported; one that passes every check
counts and starts; the erase empties the circulating area and no other; a freeze is asked for by FREEZE, is in force after its flush, and ends with a CASK_MISSED record. -/
def Obligations.CaskIsClearedAndFrozen : Prop :=
  (∀ s : State, s.dropped Reg.CASK_CMD = none → s.cask.clearing = false → s.cask.flushCmd = false →
    ∃ t, exec .caskCmdNonce s = .next t ∧ t = { s with regs := t.regs, freeCtr := s.freeCtr + 2, cask := { s.cask with nonce := t.cask.nonce } } ∧
      (∃ b : List Byte, t.cask.nonce = some (b, s.count) ∧ b.length = 16) ∧ t.rd Reg.CASK_RESULT = 0xA0) ∧
  (∀ (s : State) (b : List Byte) (t0 : DWord), s.cask.nonce = some (b, t0) →
    (t0.toNat + 600000000000 ≤ s.count.toNat → exec .caskNonceExpire s = .next { s with cask := { s.cask with nonce := none } }) ∧
    (s.count.toNat < t0.toNat + 600000000000 → exec .caskNonceExpire s = .next s)) ∧
  (∀ s : State, s.dropped Reg.CASK_CMD = none → s.cask.clearing = false → s.cask.flushCmd = false →
    match ({ s with regs := (s.wr Reg.CASK_RESULT 0x30).regs } : State).clearCheck (s.tokenBytes Reg.CASK_TOKEN 40) with
    | some e => ∃ (t : State) (fp : List Word), exec .caskCmdClear s = .next (t.raise 0x1205 0 (wd e :: fp)) ∧
        t = { s with regs := t.regs, cask := { s.cask with nonce := none } } ∧ t.rd Reg.CASK_RESULT = wd (e + 0xB0)
    | none => ∃ t, exec .caskCmdClear s = .next t ∧ t.cask.marker.isSome = true ∧ t = { s with
        regs := t.regs, cask := { s.cask with nonce := none, clearCnt := s.cask.clearCnt + 1, marker := t.cask.marker, clearing := true } }) ∧
  (∀ (s : State) (b : List Byte), s.cask.freeze = none → s.cask.freezeReq = false → s.cask.nonce = none → s.clearCheck b = some 2) ∧
  (∀ (s : State) (fp : List Word), s.cask.marker = some fp → s.cask.clearing = true → s.power.pfail = false →
    ∃ t, exec .caskClearDone s = .next t ∧ t.cask.clearing = false ∧ t.cask.marker = none ∧ t.cask.circFrom = max 8192 s.cask.wIdx ∧
      t.rd Reg.CASK_RESULT = 0xB0 ∧ t.cask.clearCnt = s.cask.clearCnt) ∧
  (∀ (s : State) (v : Word), s.dropped Reg.CASK_FREEZE = none → bit v 0 = true → s.cask.clearing = false → s.cask.freeze = none →
    ∃ t, exec (.caskFreezeWrite v) s = .next t ∧ t = { s with regs := t.regs, cask := { s.cask with freezeReq := true, flushing := true } } ∧
      t.flag Reg.CASK_FREEZE 0 = true ∧
      t.fld Reg.CASK_FREEZE 13 8 = (if bits v 13 8 = 0 ∨ 60 < bits v 13 8 then s.fld Reg.CASK_FREEZE 13 8 else bits v 13 8)) ∧
  (∀ s : State, s.cask.freezeReq = true → s.cask.flushing = false → s.cask.clearing = false → s.cask.late = 0 → s.power.pfail = false →
    ∃ t, exec .caskFreezeInForce s = .next t ∧ t.cask.freezeReq = false ∧ (∃ f : Freeze, t.cask.freeze = some f ∧ f.since = s.count) ∧ t.cask.staging = [] ∧
      t.rd Reg.CASK_MISSED = 0) ∧
  (∀ (s : State) (f : Freeze), s.cask.freeze = some f → s.fld Reg.CASK_FREEZE 13 8 * 1000000000 ≤ (s.count - f.since).toNat → s.cask.deferred = false →
    exec .caskFreezeTimeout s = .next ((({ s with cask := { s.cask with freeze := none, deferred := false } } : State).setF Reg.CASK_FREEZE 0 0 0).raise 0x1202 0
      [wd f.missed, wd f.first, wd f.last, wd ((s.count - f.since).toNat / 1000000), 1])) ∧
  (∀ (s : State) (f : Freeze), s.cask.freeze = some f → (s.count - f.since).toNat < s.fld Reg.CASK_FREEZE 13 8 * 1000000000 →
    exec .caskFreezeTimeout s = .next s)

/-- SEC_FW_STAGE, FW_STAGE_DONE, SEC_SVN_COMMIT, SEC_NONCE, SEC_NONCE_EXPIRE, SEC_ENROL and SEC_QUOTE (R532 to R540): a stage reads the image for the bank not running; an
image that fails a check leaves the bank without a VALID trailer and answers FW_REJECTED with the check; SVN_COMMIT raises SVN_MIN, and never lowers it; an
ENROL without a nonce answers 5 and one that passes only sets fuses; a quote fills SEC_QUOTE; while a stage runs every command answers BUSY. -/
def Obligations.TrustCommandsAct : Prop :=
  (∀ (s : State) (n : Nat), s.dropped Reg.SEC_CMD = none → s.sec.staging = none → s.sec.bank = some n →
    exec .secFwStage s = .next (({ s.wr Reg.SEC_RESULT 0x10 with sec := { s.sec with staging := some (1 - n, s.fld Reg.SEC_FW_LEN 20 0) } } : State).request
      .firmware (s.rd64 Reg.SEC_FW_ADDR).toNat (s.fld Reg.SEC_FW_LEN 20 0))) ∧
  (∀ s : State, s.dropped Reg.SEC_CMD = none → s.sec.staging.isSome = true →
    exec .secFwStage s = .next (s.wr Reg.SEC_RESULT 0x91) ∧ exec .secSvnCommit s = .next (s.wr Reg.SEC_RESULT 0xA1) ∧
    exec .secNonce s = .next (s.wr Reg.SEC_RESULT 0xB1)) ∧
  (∀ (s : State) (n len : Nat) (img : List Byte) (rb : Bool), s.sec.staging = some (n, len) → s.mgmtRuns = true → s.readsWait .firmware = false →
    (exec (.fwStageDone img true rb) s = .next ((({ s with sec := { s.sec with staging := none } } : State).readsDone .firmware).wr Reg.SEC_RESULT 0x94)) ∧
    (img.length = len → s.power.recovery = false →
      match s.sec.fwBad img with
      | some e => ∃ u : State, exec (.fwStageDone img false rb) s = .next ((u.raise 0x1306 0 [wd n, wd e]).wr Reg.SEC_RESULT 0x93) ∧
          u = { s with sec := u.sec, host := u.host, out := u.out } ∧ u.sec.staging = none ∧ (u.sec.fw n).marker = 0 ∧ u.sec.svnMin = s.sec.svnMin
      | none => ∃ t, exec (.fwStageDone img false true) s = .next t ∧ t.sec.staging = none ∧
          (t.sec.fw n).image = img ∧ (t.sec.fw n).marker = markValid ∧ t.sec.svnMin = s.sec.svnMin ∧ t.sec.bank = s.sec.bank)) ∧
  (∀ (s : State) (img : List Byte) (hf rb : Bool), (s.sec.staging = none ∨ s.readsWait .firmware = true) → exec (.fwStageDone img hf rb) s = .next s) ∧
  (∀ (s : State) (b : List Byte), s.dropped Reg.SEC_CMD = none → s.sec.staging = none → s.power.recovery = false → s.sec.running = some b →
    (fwSvn b ≤ s.sec.svnMin → ∃ t, exec .secSvnCommit s = .next t ∧ t = { s with regs := t.regs } ∧ t.rd Reg.SEC_RESULT = 0xA0) ∧
    (s.sec.svnMin < fwSvn b → ∃ t, exec .secSvnCommit s = .next t ∧ t.sec = { s.sec with svnMin := fwSvn b } ∧ t.rd Reg.SEC_RESULT = 0xA0)) ∧
  (∀ s : State, s.dropped Reg.SEC_CMD = none → s.sec.staging = none → s.power.recovery = false →
    ∃ t, exec .secNonce s = .next t ∧ t = { s with regs := t.regs, freeCtr := s.freeCtr + 2, sec := { s.sec with nonce := t.sec.nonce } } ∧
      (∃ b : List Byte, t.sec.nonce = some (b, s.count) ∧ b.length = 16) ∧ t.rd Reg.SEC_RESULT = 0xB0) ∧
  (∀ (s : State) (b : List Byte) (t0 : DWord), s.sec.nonce = some (b, t0) →
    (t0.toNat + 600000000000 ≤ s.count.toNat → exec .secNonceExpire s = .next { s with sec := { s.sec with nonce := none } }) ∧
    (s.count.toNat < t0.toNat + 600000000000 → exec .secNonceExpire s = .next s)) ∧
  (∀ s : State, s.dropped Reg.SEC_CMD = none → s.sec.staging = none → s.power.recovery = false →
    (s.sec.nonce = none → ∃ t, exec .secEnrol s = .next t ∧ t = { s with regs := t.regs } ∧ t.rd Reg.SEC_RESULT = 0xC5) ∧
    (∃ t, exec .secEnrol s = .next t ∧ t.sec.nonce = none ∧ (s.sec.reqFw = true → t.sec.reqFw = true) ∧ (s.sec.reqNv = true → t.sec.reqNv = true) ∧
      (∀ n, (s.sec.owner.get {} n).revoked = true → (t.sec.owner.get {} n).revoked = true) ∧
      (∀ n, (s.sec.owner.get {} n).enrolled = true → (t.sec.owner.get {} n).enrolled = true))) ∧
  (∀ s : State, s.dropped Reg.SEC_CMD = none → s.sec.staging = none → s.power.recovery = false →
    ∃ t, exec .secQuote s = .next t ∧ t.rd Reg.SEC_RESULT = 0xD0 ∧ t.sec = s.sec ∧ t.rd (Reg.SEC_QUOTE 0) = 0x514E5054 ∧
      (∀ k, k < 8 → t.rd (Reg.SEC_QUOTE (4 + k)) = s.rd (Reg.SEC_QNONCE k)))

/-- Fuse bits are only ever set (R535): no step lowers SVN_MIN, clears a POLICY bit, or clears ENROLLED or REVOKED of an owner slot. -/
def Obligations.FusesAreOnlyEverSet : Prop :=
  ∀ s t : State, step s = .next t → s.sec.fusesWithin t.sec

/-- PD0_POWER_ON, RESET_PIN, PWRGD_LOW, PWRGD_RISE, PERST_ASSERT, GLOBAL_RESET_CMD, MGMT_WATCHDOG and POWER_LOSS (R543, R544, R549, R552): a device reset
leaves PD0 to PD2 on, no context, every link OFF and its cause in GLOBAL_RESET_CAUSE, and leaves the time base, the island and the fuses as they
were; PWRGD starts the start-up; the two keys within 1 ms of one another reset the part, the second alone does not; a loss of power leaves no staged record; the flush of a power failure
has then been made if 1.2 ms have passed (step 4 of R507). A device reset ends unpredictable behaviour (R20). -/
def Obligations.ResetsLeaveWhatTheyMust : Prop :=
  (∀ (s : State) (cause : Nat), s.power.started = true → (s.deviceReset cause).rd Reg.GLOBAL_RESET_CAUSE = wd cause ∧ (s.deviceReset cause).ctx = [] ∧
    (s.deviceReset cause).hl = [] ∧ (s.deviceReset cause).power.on = (s.power.on &&& 4) ||| 3 ∧ (s.deviceReset cause).power.phase = 1 ∧
    (s.deviceReset cause).power.ready = false ∧ (s.deviceReset cause).upset = none ∧ (s.deviceReset cause).count = s.count ∧ (s.deviceReset cause).safe = s.safe ∧
    (s.deviceReset cause).sec.svnMin = s.sec.svnMin ∧ (s.deviceReset cause).sec.owner = s.sec.owner ∧ (s.deviceReset cause).pos.frame.number = s.pos.frame.number ∧
    (∀ a, 0x1B000 ≤ a → a < 0x1C000 → (s.deviceReset cause).rd a = s.rd a)) ∧
  (∀ s : State, exec .resetPin s = .next (s.deviceReset 2) ∧ exec .mgmtWatchdog s = .next (s.deviceReset 0x20) ∧
    exec .pwrgdLow s = .next (let t : State := s.deviceReset 4
      { t with power := { t.power with started := false } }) ∧
    (s.power.started = false → exec .pwrgdRise s = .next { s with power := { s.power with started := true, startAt := s.count } }) ∧
    (s.power.started = true → exec .pwrgdRise s = .next s)) ∧
  (∀ s : State, s.flag Reg.GLOBAL_CFG 0 = false → exec .perstAssert s = .next (s.deviceReset 8)) ∧
  (∀ s : State, s.flag Reg.GLOBAL_CFG 0 = true → ∃ t, exec .perstAssert s = .next t ∧ t.tb = s.tb ∧ t.safe = s.safe ∧ t.pos = s.pos) ∧
  (∀ s : State, s.power.started = true → s.host.op = none →
    exec (.globalResetCmd 0xD3E5) s = .next { s with power := { s.power with resetKey := some s.count } } ∧
    (∀ t0, s.power.resetKey = some t0 → (s.count - t0).toNat ≤ 1000000 → exec (.globalResetCmd 0x2B7A) s = .next (s.deviceReset 0x10)) ∧
    (∀ t0, s.power.resetKey = some t0 → 1000000 < (s.count - t0).toNat →
      exec (.globalResetCmd 0x2B7A) s = .next { s with power := { s.power with resetKey := none } }) ∧
    (s.power.resetKey = none → exec (.globalResetCmd 0x2B7A) s = .next s)) ∧
  (∀ (s : State) (torn : Bool), ∃ t u, exec (.powerLoss torn) s = .next t ∧ exec .pd0PowerOn s = .next u ∧
    t.cask.staging = [] ∧ u.cask.staging = [] ∧ t.safe = s.safe ∧ u.safe = s.safe ∧ t.count = 0 ∧ u.count = 0 ∧ u.cask.wIdx = s.cask.wIdx ∧
    (s.cask.flushing = false → t.cask.wIdx = s.cask.wIdx) ∧
    (s.cask.flushing = true → s.power.pfail = true → 1200000 ≤ (s.count - s.power.pfailAt).toNat → t.cask.wIdx = s.cask.wIdx + s.cask.flushed.length) ∧
    t.sec.svnMin = s.sec.svnMin ∧ t.sec.owner = s.sec.owner ∧ t.ctx = [] ∧ t.power.on = (s.power.on &&& 4) ||| 3 ∧ t.power.phase = 1)

/-- START_S1 to START_S7 (R33, R533, R550, R551, R556): each phase begins when the one before it has ended, records the time since start-up began and lets the next begin; S2 without a
bank that verifies stays, in recovery; S7 waits for every link, then READY sets and START_DONE is raised. -/
def Obligations.StartUpGoesThroughItsPhases : Prop :=
  (∀ (s : State) (tw : Bool), s.power.started = true → s.power.phase = 1 → s.power.pfail = false → s.power.refLost = false →
    ∃ t, exec (.startS1 tw false) s = .next t ∧ t.power = { s.power with unitB := tw, phase := 2 } ∧ t.rd (Reg.GLOBAL_PHASE_END 1) = s.startUs ∧
      t.cask.boot = s.cask.boot + 1 ∧ t.pos = s.pos) ∧
  (∀ (s : State) (n : Nat), s.power.phase = 2 → s.power.recovery = false → s.sec.bank = some n →
    exec .startS2 s = .next { s.wr (Reg.GLOBAL_PHASE_END 2) s.startUs with power := { s.power with phase := 3 } }) ∧
  (∀ (s : State), s.power.phase = 2 → s.power.recovery = false → s.sec.bank = none → s.sec.bank0.marker ≠ markValid → s.sec.bank1.marker ≠ markValid →
    exec .startS2 s = .next { s with power := { s.power with recovery := true } }) ∧
  (∀ (s : State), s.power.phase = 3 → ∃ t, exec .startS3 s = .next t ∧ t.power.phase = 4 ∧ t.power.on = s.power.on ||| 0xF8 ∧
    t.rd (Reg.GLOBAL_PHASE_END 3) = s.startUs ∧ t.count = s.count) ∧
  (∀ (s : State), s.power.phase = 4 → s.safe.state ≠ .selftest →
    exec .startS4 s = .next { s.wr (Reg.GLOBAL_PHASE_END 4) s.startUs with power := { s.power with s4Done := true, phase := 5 } }) ∧
  (∀ (s : State), s.power.phase = 5 → s.power.s5Done = false → s.fab.disc = none → s.flag Reg.FAB_CFG 0 = false →
    exec .startS5 s = .next { s.wr (Reg.GLOBAL_PHASE_END 5) s.startUs with power := { s.power with s5Done := true } }) ∧
  (∀ (s : State), s.power.phase = 5 → s.power.s5Done = true → s.twin.startWait = none →
    ∃ t, exec .startS6 s = .next t ∧ t = { s with regs := t.regs, hl := t.hl, power := { s.power with phase := 6 } } ∧
      (∀ ch, ch < 64 → t.flag (Reg.HL_CTRL ch) 0 = true ∧ (t.hlOf ch).state = .train)) ∧
  (∀ (s : State), s.power.phase = 6 → (∀ ch, ch < 64 → (s.hlOf ch).state = .up ∨ (s.hlOf ch).state = .off) →
    ∃ t, exec .startS7 s = .next t ∧ t.power = { s.power with ready := true, phase := 7 } ∧ t.rd (Reg.GLOBAL_PHASE_END 7) = s.startUs ∧
      t.rd (Reg.GLOBAL_PHASE_END 6) = s.startUs) ∧
  (∀ (s : State), s.power.phase = 6 → (∃ ch, ch < 64 ∧ (s.hlOf ch).state = .train) → exec .startS7 s = .next s) ∧
  (∀ (s : State), s.power.phase = 1 → exec .startS2 s = .next s ∧ exec .startS3 s = .next s ∧ exec .startS4 s = .next s ∧
    exec .startS5 s = .next s ∧ exec .startS6 s = .next s ∧ exec .startS7 s = .next s)

/-- GLOBAL_PD_CTRL_WRITE, PD_ON, PD_OFF, PFAIL_ASSERT, PFAIL_DEASSERT and TJ_UPDATE (R507, R545, R546, R548, R554): a new set of domains begins its changes; one that asks for PD3
or PD4 without PD5 is refused; PD_ON and PD_OFF act in their turn and no domain goes off while a context that uses it is active; PFAIL# low stages its
record and starts a flush; a junction temperature above the maximum is reported once. -/
def Obligations.DomainsSwitchInTheirTurn : Prop :=
  (∀ (s : State) (v : Word), s.dropped Reg.GLOBAL_PD_CTRL = none → s.power.goingOn = 0 → s.power.goingOff = 0 → (BitVec.ofNat 8 v.toNat ||| 7) = s.power.on →
    ∃ t, exec (.globalPdCtrlWrite v) s = .next t ∧ t = { s with power := { s.power with halted := [] } }) ∧
  (∀ (s : State) (v : Word), s.dropped Reg.GLOBAL_PD_CTRL = none → s.power.goingOn = 0 → s.power.goingOff = 0 → s.power.on = 7 → bit v 5 = true →
    exec (.globalPdCtrlWrite v) s = .next { s with power := { s.power with goingOn := BitVec.ofNat 8 v.toNat &&& 0xF8, halted := [] } }) ∧
  (∀ (s : State) (v : Word), s.dropped Reg.GLOBAL_PD_CTRL = none → s.power.goingOn = 0 → s.power.goingOff = 0 → s.power.on = 7 → bit v 5 = false → bit v 3 = true →
    bit v 4 = false → exec (.globalPdCtrlWrite v) s =
      .next (let t : State := s.pdRefused 3 1
        { t with power := { t.power with goingOn := BitVec.ofNat 8 v.toNat &&& 0xF0, halted := [] } })) ∧
  (∀ (s : State) (d : Domain), s.power.goingOff = 0 → turnOf onOrder s.power.goingOn d.val = true → exec (.pdOn d) s = .next (s.domUp d.val)) ∧
  (∀ s : State, ∃ u : State, s.domUp 5 = u.raise 0x1403 0 [5] ∧ u = { s with buf := u.buf, power := { s.power with
    on := s.power.on ||| 0x20, goingOn := s.power.goingOn &&& 0xDF } }) ∧
  (∀ (s : State) (d : Domain), turnOf onOrder s.power.goingOn d.val = false → exec (.pdOn d) s = .next s) ∧
  (∀ (s : State) (d : Domain), turnOf offOrder s.power.goingOff d.val = true →
    (s.activeIn d.val ≠ [] → exec (.pdOff d) s = .next (s.haltDom d.val)) ∧
    (s.activeIn d.val = [] → ∃ t, exec (.pdOff d) s = .next t ∧ t.domOn d.val = false ∧ t.power.goingOff.getLsbD d.val = false)) ∧
  (∀ s : State, s.power.pfail = false → ∃ t, exec .pfailAssert s = .next t ∧ t.power = { s.power with pfail := true, pfailAt := s.count } ∧ t.cask.flushing = true ∧
    t.cask.freeze = none ∧ t.cyc.retBusy = none ∧ t.ctx = s.ctx ∧ t.hl = s.hl) ∧
  (∀ s : State, s.power.pfail = true → ∃ t, exec .pfailDeassert s = .next t ∧ t = { s with power := { s.power with pfail := false }, cask := t.cask } ∧
    t.cask.staging.length = s.cask.staging.length ∧ t.cask.mram = s.cask.mram) ∧
  (∀ (s : State) (v : BitVec 16), ∃ t, exec (.tjUpdate v) s = .next t ∧ t.rd Reg.GLOBAL_TJ = wd v.toNat ∧ (tjMax < v.toInt → t.power.tjHigh = true) ∧
    (v.toInt ≤ tjMax - 80 → t.power.tjHigh = false) ∧ (s.power.tjHigh = true → t = { s with regs := t.regs, power := t.power }))

/-- Every command takes no command from the queue and adds none: what waits is what waited (the block form of the model, NOTES.md); so a step takes
exactly the front command. -/
def Obligations.StepsTakeTheFrontCommandAlone : Prop :=
  ∀ s t : State, step s = .next t → t.pending = s.pending.tail

/-- The state after the PD0 power-on reset meets the invariants: every safe output off, host memory in its canonical form, and nothing waiting. -/
def Obligations.ResetMeetsTheInvariants : Prop :=
  (State.reset.safe.state ≠ .operational → State.reset.safe.out = 0) ∧ State.reset.hostMem.wf = true ∧ State.reset.pending = [] ∧
  State.reset.count = 0 ∧ State.reset.domOn 2 = true

/-- Every command is taken in every state (R17, R20): whatever the state and the operands, there is a next state; nothing stops the part from
taking commands, and a host error leads to a state whose unstated part is unpredictable. -/
def Obligations.EveryCommandCompletes : Prop :=
  ∀ (c : Instr) (s : State), ∃ t, exec c s = .next t
end

