-- ==== Sys2Proof/Laws/Map.lean ====
section
/-!
SUPPORT. Laws of the sparse maps and of the byte memories: a read after a write to the same key gives the value written, a
write leaves every other key alone, and every operation keeps the canonical form.
-/
namespace Sys2Proof.Machine
section
variable {α : Type}

theorem SMap.find_insert_self (m : SMap α) (i : Nat) (x : α) : (m.insert i x).find i = some x := by
  induction m with
  | nil => simp [SMap.insert, SMap.find]
  | cons e r ih =>
    obtain ⟨k, v⟩ := e
    simp only [SMap.insert]
    split
    · simp [SMap.find]
    · split
      · simp [SMap.find]
      · next h _ => simp [SMap.find, h, ih]

theorem SMap.find_insert_ne (m : SMap α) {i j : Nat} (x : α) (h : j ≠ i) : (m.insert i x).find j = m.find j := by
  induction m with
  | nil => simp [SMap.insert, SMap.find, h]
  | cons e r ih =>
    obtain ⟨k, v⟩ := e
    simp only [SMap.insert]
    split
    · next hk => subst hk; simp [SMap.find, h]
    · split
      · simp [SMap.find, h]
      · simp [SMap.find, ih]

theorem SMap.find_erase_self (m : SMap α) (i : Nat) : (m.erase i).find i = none := by
  induction m with
  | nil => rfl
  | cons e r ih =>
    obtain ⟨k, v⟩ := e
    by_cases h : i = k <;> simp [SMap.erase, SMap.find, h]
    · simpa [h] using ih
    · simpa [h] using ih

theorem SMap.find_erase_ne (m : SMap α) {i j : Nat} (h : j ≠ i) : (m.erase i).find j = m.find j := by
  induction m with
  | nil => rfl
  | cons e r ih =>
    obtain ⟨k, v⟩ := e
    by_cases hk : i = k
    · subst hk; simp [SMap.erase, SMap.find, h, ih]
    · simp [SMap.erase, SMap.find, hk, ih]

@[simp] theorem SMap.get_set_self [DecidableEq α] (m : SMap α) (d : α) (i : Nat) (x : α) : (m.set d i x).get d i = x := by
  unfold SMap.set SMap.get
  split
  · next h => simp [SMap.find_erase_self, h]
  · simp [SMap.find_insert_self]

theorem SMap.get_set_ne [DecidableEq α] (m : SMap α) (d d' : α) {i j : Nat} (x : α) (h : j ≠ i) : (m.set d i x).get d' j = m.get d' j := by
  unfold SMap.set SMap.get
  split
  · simp [SMap.find_erase_ne _ h]
  · simp [SMap.find_insert_ne _ _ h]

theorem SMap.find_dropRange (m : SMap α) (lo hi j : Nat) :
    (m.dropRange lo hi).find j = if lo ≤ j ∧ j < hi then none else m.find j := by
  induction m with
  | nil => simp [SMap.dropRange, SMap.find]
  | cons e r ih =>
    obtain ⟨k, v⟩ := e
    unfold SMap.dropRange at ih ⊢
    by_cases hk : lo ≤ k ∧ k < hi
    · rw [List.filter_cons_of_neg (by simp [hk]), ih]
      split
      · rfl
      · next hj => rw [SMap.find, if_neg]; rintro rfl; exact hj hk
    · rw [List.filter_cons_of_pos (by simp; omega)]
      by_cases hj : j = k
      · subst hj; simp [SMap.find, hk]
      · rw [SMap.find, if_neg hj, ih, SMap.find, if_neg hj]

/-- A key below every listed one stays so. -/
theorem SMap.wfFrom_mono [DecidableEq α] {d : Nat → α} {b c : Option Nat} {m : SMap α} (h : m.wfFrom d c = true)
    (hbc : ∀ j, b = some j → ∃ k, c = some k ∧ j ≤ k) : m.wfFrom d b = true := by
  cases m with
  | nil => rfl
  | cons e r =>
    obtain ⟨k, v⟩ := e
    simp only [SMap.wfFrom, Bool.and_eq_true] at h ⊢
    refine ⟨⟨?_, h.1.2⟩, h.2⟩
    cases b with
    | none => rfl
    | some j =>
      obtain ⟨k', rfl, hj⟩ := hbc j rfl
      have := h.1.1
      simp only [decide_eq_true_eq] at this ⊢
      omega

theorem SMap.wfFrom_erase [DecidableEq α] {d : Nat → α} {m : SMap α} (i : Nat) {b : Option Nat} (h : m.wfFrom d b = true) :
    (m.erase i).wfFrom d b = true := by
  induction m generalizing b with
  | nil => rfl
  | cons e r ih =>
    obtain ⟨k, v⟩ := e
    have h' := h
    simp only [SMap.wfFrom, Bool.and_eq_true] at h'
    by_cases hk : i = k
    · simp only [SMap.erase, hk, ↓reduceIte]
      refine ih (SMap.wfFrom_mono h'.2 ?_) |> (by simpa [hk] using ·)
      rintro j rfl
      exact ⟨k, rfl, Nat.le_of_lt (by simpa using h'.1.1)⟩
    · simp only [SMap.erase, hk, ↓reduceIte, SMap.wfFrom, Bool.and_eq_true]
      exact ⟨h'.1, ih h'.2⟩

theorem SMap.wfFrom_insert [DecidableEq α] {d : Nat → α} {m : SMap α} {i : Nat} {x : α} {b : Option Nat} (h : m.wfFrom d b = true)
    (hx : x ≠ d i) (hb : b.all (fun j => decide (j < i)) = true) : (m.insert i x).wfFrom d b = true := by
  induction m generalizing b with
  | nil => simp only [SMap.insert, SMap.wfFrom, Bool.and_eq_true]; exact ⟨⟨by cases b <;> simp_all, by simpa using hx⟩, trivial⟩
  | cons e r ih =>
    obtain ⟨k, v⟩ := e
    have h' := h
    simp only [SMap.wfFrom, Bool.and_eq_true] at h'
    simp only [SMap.insert]
    split
    · next hk => subst hk; simp only [SMap.wfFrom, Bool.and_eq_true]; exact ⟨⟨by cases b <;> simp_all, by simpa using hx⟩, h'.2⟩
    · next hk =>
      split
      · next hlt => simp only [SMap.wfFrom, Bool.and_eq_true]; exact ⟨⟨by cases b <;> simp_all, by simpa using hx⟩, ⟨by simpa using hlt, h'.1.2⟩, h'.2⟩
      · next hge =>
        have hki : k < i := by omega
        simp only [SMap.wfFrom, Bool.and_eq_true]
        exact ⟨h'.1, ih h'.2 (by simpa using hki)⟩

/-- Writing a key keeps the canonical form. -/
theorem SMap.wf_set [DecidableEq α] {d : Nat → α} {m : SMap α} (i : Nat) (x : α) (h : m.wf d = true) : (m.set (d i) i x).wf d = true := by
  unfold SMap.set
  split
  · exact SMap.wfFrom_erase i h
  · next hx => exact SMap.wfFrom_insert h hx rfl

theorem SMap.wfFrom_filter [DecidableEq α] {d : Nat → α} {m : SMap α} (p : Nat × α → Bool) {b : Option Nat} (h : m.wfFrom d b = true) :
    SMap.wfFrom d b (m.filter p) = true := by
  induction m generalizing b with
  | nil => rfl
  | cons e r ih =>
    obtain ⟨k, v⟩ := e
    have h' := h
    simp only [SMap.wfFrom, Bool.and_eq_true] at h'
    by_cases hp : p (k, v) = true
    · rw [List.filter_cons_of_pos hp]
      simp only [SMap.wfFrom, Bool.and_eq_true]
      exact ⟨h'.1, ih h'.2⟩
    · rw [List.filter_cons_of_neg hp]
      refine ih (SMap.wfFrom_mono h'.2 ?_)
      rintro j rfl
      exact ⟨k, rfl, Nat.le_of_lt (by simpa using h'.1.1)⟩

/-- Dropping a range of keys keeps the canonical form. -/
theorem SMap.wf_dropRange [DecidableEq α] {d : Nat → α} {m : SMap α} (lo hi : Nat) (h : m.wf d = true) : (m.dropRange lo hi).wf d = true :=
  SMap.wfFrom_filter _ h

end

/-! Byte memories. -/

theorem Mem.byte_setByte_self (m : Mem) (a : Nat) (b : Byte) : (m.setByte a b).byte a = b := SMap.get_set_self m 0 a b

theorem Mem.byte_setByte_ne (m : Mem) {a c : Nat} (b : Byte) (h : c ≠ a) : (m.setByte a b).byte c = m.byte c :=
  SMap.get_set_ne m 0 0 b h

/-- A write of bytes leaves every other byte alone. -/
theorem Mem.byte_write_out (m : Mem) (a c : Nat) (l : List Byte) (h : c < a ∨ a + l.length ≤ c) : (Mem.write m a l).byte c = m.byte c := by
  induction l generalizing m a with
  | nil => rfl
  | cons b r ih =>
    rw [Mem.write, ih _ _ (by simp only [List.length_cons] at h; omega), Mem.byte_setByte_ne]
    simp only [List.length_cons] at h; omega

/-- A byte read back after a write of bytes is the one written. -/
theorem Mem.byte_write_in (m : Mem) (a : Nat) (l : List Byte) (k : Nat) (h : k < l.length) : (Mem.write m a l).byte (a + k) = l[k] := by
  induction l generalizing m a k with
  | nil => simp at h
  | cons b r ih =>
    rw [Mem.write]
    cases k with
    | zero => rw [Mem.byte_write_out _ _ _ _ (by omega)]; simp [Mem.byte_setByte_self]
    | succ k =>
      have := ih (m.setByte a b) (a + 1) k (by simpa using h)
      rw [show a + (k + 1) = a + 1 + k by omega, this]; simp

theorem Mem.wf_setByte (m : Mem) (a : Nat) (b : Byte) (h : m.wf = true) : (m.setByte a b).wf = true := SMap.wf_set (d := fun _ => (0 : Byte)) a b h

/-- A write of bytes keeps the canonical form. -/
theorem Mem.wf_write (m : Mem) (a : Nat) (l : List Byte) (h : m.wf = true) : (Mem.write m a l).wf = true := by
  induction l generalizing m a with
  | nil => exact h
  | cons b r ih => exact ih _ _ (Mem.wf_setByte m a b h)

end Sys2Proof.Machine
end

