-- ==== Sys2Proof/Laws/State.lean ====
section
/-!
SUPPORT. Laws of the state's updates: one lemma for each field under each primitive update, true by rfl, so that no later proof
unfolds a record update; then what a register and a bank entry read as after a write.
-/
namespace Sys2Proof.Machine
variable (s : State)

/-! wr -/
@[simp] theorem State.wr_pending (off : Nat) (v : Word) : (s.wr off v).pending = s.pending := rfl
@[simp] theorem State.wr_out (off : Nat) (v : Word) : (s.wr off v).out = s.out := rfl
@[simp] theorem State.wr_latch (off : Nat) (v : Word) : (s.wr off v).latch = s.latch := rfl
@[simp] theorem State.wr_hold (off : Nat) (v : Word) : (s.wr off v).hold = s.hold := rfl
@[simp] theorem State.wr_hostMem (off : Nat) (v : Word) : (s.wr off v).hostMem = s.hostMem := rfl
@[simp] theorem State.wr_freeCtr (off : Nat) (v : Word) : (s.wr off v).freeCtr = s.freeCtr := rfl
@[simp] theorem State.wr_upset (off : Nat) (v : Word) : (s.wr off v).upset = s.upset := rfl
@[simp] theorem State.wr_tb (off : Nat) (v : Word) : (s.wr off v).tb = s.tb := rfl
@[simp] theorem State.wr_pos (off : Nat) (v : Word) : (s.wr off v).pos = s.pos := rfl
@[simp] theorem State.wr_power (off : Nat) (v : Word) : (s.wr off v).power = s.power := rfl
@[simp] theorem State.wr_host (off : Nat) (v : Word) : (s.wr off v).host = s.host := rfl
@[simp] theorem State.wr_cask (off : Nat) (v : Word) : (s.wr off v).cask = s.cask := rfl
@[simp] theorem State.wr_sec (off : Nat) (v : Word) : (s.wr off v).sec = s.sec := rfl
@[simp] theorem State.wr_ctx (off : Nat) (v : Word) : (s.wr off v).ctx = s.ctx := rfl
@[simp] theorem State.wr_buf (off : Nat) (v : Word) : (s.wr off v).buf = s.buf := rfl
@[simp] theorem State.wr_lane (off : Nat) (v : Word) : (s.wr off v).lane = s.lane := rfl
@[simp] theorem State.wr_noz (off : Nat) (v : Word) : (s.wr off v).noz = s.noz := rfl
@[simp] theorem State.wr_hl (off : Nat) (v : Word) : (s.wr off v).hl = s.hl := rfl
@[simp] theorem State.wr_fab (off : Nat) (v : Word) : (s.wr off v).fab = s.fab := rfl
@[simp] theorem State.wr_twin (off : Nat) (v : Word) : (s.wr off v).twin = s.twin := rfl
@[simp] theorem State.wr_eth (off : Nat) (v : Word) : (s.wr off v).eth = s.eth := rfl
@[simp] theorem State.wr_safe (off : Nat) (v : Word) : (s.wr off v).safe = s.safe := rfl
@[simp] theorem State.wr_cyc (off : Nat) (v : Word) : (s.wr off v).cyc = s.cyc := rfl
@[simp] theorem State.wr_kiln (off : Nat) (v : Word) : (s.wr off v).kiln = s.kiln := rfl
@[simp] theorem State.wr_sb (off : Nat) (v : Word) : (s.wr off v).sb = s.sb := rfl
@[simp] theorem State.wr_can (off : Nat) (v : Word) : (s.wr off v).can = s.can := rfl
@[simp] theorem State.wr_loop (off : Nat) (v : Word) : (s.wr off v).loop = s.loop := rfl
@[simp] theorem State.wr_trim (off : Nat) (v : Word) : (s.wr off v).trim = s.trim := rfl

/-! wr64 -/
@[simp] theorem State.wr64_pending (off : Nat) (v : DWord) : (s.wr64 off v).pending = s.pending := rfl
@[simp] theorem State.wr64_out (off : Nat) (v : DWord) : (s.wr64 off v).out = s.out := rfl
@[simp] theorem State.wr64_latch (off : Nat) (v : DWord) : (s.wr64 off v).latch = s.latch := rfl
@[simp] theorem State.wr64_hold (off : Nat) (v : DWord) : (s.wr64 off v).hold = s.hold := rfl
@[simp] theorem State.wr64_hostMem (off : Nat) (v : DWord) : (s.wr64 off v).hostMem = s.hostMem := rfl
@[simp] theorem State.wr64_freeCtr (off : Nat) (v : DWord) : (s.wr64 off v).freeCtr = s.freeCtr := rfl
@[simp] theorem State.wr64_upset (off : Nat) (v : DWord) : (s.wr64 off v).upset = s.upset := rfl
@[simp] theorem State.wr64_tb (off : Nat) (v : DWord) : (s.wr64 off v).tb = s.tb := rfl
@[simp] theorem State.wr64_pos (off : Nat) (v : DWord) : (s.wr64 off v).pos = s.pos := rfl
@[simp] theorem State.wr64_power (off : Nat) (v : DWord) : (s.wr64 off v).power = s.power := rfl
@[simp] theorem State.wr64_host (off : Nat) (v : DWord) : (s.wr64 off v).host = s.host := rfl
@[simp] theorem State.wr64_cask (off : Nat) (v : DWord) : (s.wr64 off v).cask = s.cask := rfl
@[simp] theorem State.wr64_sec (off : Nat) (v : DWord) : (s.wr64 off v).sec = s.sec := rfl
@[simp] theorem State.wr64_ctx (off : Nat) (v : DWord) : (s.wr64 off v).ctx = s.ctx := rfl
@[simp] theorem State.wr64_buf (off : Nat) (v : DWord) : (s.wr64 off v).buf = s.buf := rfl
@[simp] theorem State.wr64_lane (off : Nat) (v : DWord) : (s.wr64 off v).lane = s.lane := rfl
@[simp] theorem State.wr64_noz (off : Nat) (v : DWord) : (s.wr64 off v).noz = s.noz := rfl
@[simp] theorem State.wr64_hl (off : Nat) (v : DWord) : (s.wr64 off v).hl = s.hl := rfl
@[simp] theorem State.wr64_fab (off : Nat) (v : DWord) : (s.wr64 off v).fab = s.fab := rfl
@[simp] theorem State.wr64_twin (off : Nat) (v : DWord) : (s.wr64 off v).twin = s.twin := rfl
@[simp] theorem State.wr64_eth (off : Nat) (v : DWord) : (s.wr64 off v).eth = s.eth := rfl
@[simp] theorem State.wr64_safe (off : Nat) (v : DWord) : (s.wr64 off v).safe = s.safe := rfl
@[simp] theorem State.wr64_cyc (off : Nat) (v : DWord) : (s.wr64 off v).cyc = s.cyc := rfl
@[simp] theorem State.wr64_kiln (off : Nat) (v : DWord) : (s.wr64 off v).kiln = s.kiln := rfl
@[simp] theorem State.wr64_sb (off : Nat) (v : DWord) : (s.wr64 off v).sb = s.sb := rfl
@[simp] theorem State.wr64_can (off : Nat) (v : DWord) : (s.wr64 off v).can = s.can := rfl
@[simp] theorem State.wr64_loop (off : Nat) (v : DWord) : (s.wr64 off v).loop = s.loop := rfl
@[simp] theorem State.wr64_trim (off : Nat) (v : DWord) : (s.wr64 off v).trim = s.trim := rfl

/-! setF -/
@[simp] theorem State.setF_pending (off hi lo v : Nat) : (s.setF off hi lo v).pending = s.pending := rfl
@[simp] theorem State.setF_out (off hi lo v : Nat) : (s.setF off hi lo v).out = s.out := rfl
@[simp] theorem State.setF_latch (off hi lo v : Nat) : (s.setF off hi lo v).latch = s.latch := rfl
@[simp] theorem State.setF_hold (off hi lo v : Nat) : (s.setF off hi lo v).hold = s.hold := rfl
@[simp] theorem State.setF_hostMem (off hi lo v : Nat) : (s.setF off hi lo v).hostMem = s.hostMem := rfl
@[simp] theorem State.setF_freeCtr (off hi lo v : Nat) : (s.setF off hi lo v).freeCtr = s.freeCtr := rfl
@[simp] theorem State.setF_upset (off hi lo v : Nat) : (s.setF off hi lo v).upset = s.upset := rfl
@[simp] theorem State.setF_tb (off hi lo v : Nat) : (s.setF off hi lo v).tb = s.tb := rfl
@[simp] theorem State.setF_pos (off hi lo v : Nat) : (s.setF off hi lo v).pos = s.pos := rfl
@[simp] theorem State.setF_power (off hi lo v : Nat) : (s.setF off hi lo v).power = s.power := rfl
@[simp] theorem State.setF_host (off hi lo v : Nat) : (s.setF off hi lo v).host = s.host := rfl
@[simp] theorem State.setF_cask (off hi lo v : Nat) : (s.setF off hi lo v).cask = s.cask := rfl
@[simp] theorem State.setF_sec (off hi lo v : Nat) : (s.setF off hi lo v).sec = s.sec := rfl
@[simp] theorem State.setF_ctx (off hi lo v : Nat) : (s.setF off hi lo v).ctx = s.ctx := rfl
@[simp] theorem State.setF_buf (off hi lo v : Nat) : (s.setF off hi lo v).buf = s.buf := rfl
@[simp] theorem State.setF_lane (off hi lo v : Nat) : (s.setF off hi lo v).lane = s.lane := rfl
@[simp] theorem State.setF_noz (off hi lo v : Nat) : (s.setF off hi lo v).noz = s.noz := rfl
@[simp] theorem State.setF_hl (off hi lo v : Nat) : (s.setF off hi lo v).hl = s.hl := rfl
@[simp] theorem State.setF_fab (off hi lo v : Nat) : (s.setF off hi lo v).fab = s.fab := rfl
@[simp] theorem State.setF_twin (off hi lo v : Nat) : (s.setF off hi lo v).twin = s.twin := rfl
@[simp] theorem State.setF_eth (off hi lo v : Nat) : (s.setF off hi lo v).eth = s.eth := rfl
@[simp] theorem State.setF_safe (off hi lo v : Nat) : (s.setF off hi lo v).safe = s.safe := rfl
@[simp] theorem State.setF_cyc (off hi lo v : Nat) : (s.setF off hi lo v).cyc = s.cyc := rfl
@[simp] theorem State.setF_kiln (off hi lo v : Nat) : (s.setF off hi lo v).kiln = s.kiln := rfl
@[simp] theorem State.setF_sb (off hi lo v : Nat) : (s.setF off hi lo v).sb = s.sb := rfl
@[simp] theorem State.setF_can (off hi lo v : Nat) : (s.setF off hi lo v).can = s.can := rfl
@[simp] theorem State.setF_loop (off hi lo v : Nat) : (s.setF off hi lo v).loop = s.loop := rfl
@[simp] theorem State.setF_trim (off hi lo v : Nat) : (s.setF off hi lo v).trim = s.trim := rfl

/-! orW -/
@[simp] theorem State.orW_pending (off : Nat) (m : Word) : (s.orW off m).pending = s.pending := rfl
@[simp] theorem State.orW_out (off : Nat) (m : Word) : (s.orW off m).out = s.out := rfl
@[simp] theorem State.orW_latch (off : Nat) (m : Word) : (s.orW off m).latch = s.latch := rfl
@[simp] theorem State.orW_hold (off : Nat) (m : Word) : (s.orW off m).hold = s.hold := rfl
@[simp] theorem State.orW_hostMem (off : Nat) (m : Word) : (s.orW off m).hostMem = s.hostMem := rfl
@[simp] theorem State.orW_freeCtr (off : Nat) (m : Word) : (s.orW off m).freeCtr = s.freeCtr := rfl
@[simp] theorem State.orW_upset (off : Nat) (m : Word) : (s.orW off m).upset = s.upset := rfl
@[simp] theorem State.orW_tb (off : Nat) (m : Word) : (s.orW off m).tb = s.tb := rfl
@[simp] theorem State.orW_pos (off : Nat) (m : Word) : (s.orW off m).pos = s.pos := rfl
@[simp] theorem State.orW_power (off : Nat) (m : Word) : (s.orW off m).power = s.power := rfl
@[simp] theorem State.orW_host (off : Nat) (m : Word) : (s.orW off m).host = s.host := rfl
@[simp] theorem State.orW_cask (off : Nat) (m : Word) : (s.orW off m).cask = s.cask := rfl
@[simp] theorem State.orW_sec (off : Nat) (m : Word) : (s.orW off m).sec = s.sec := rfl
@[simp] theorem State.orW_ctx (off : Nat) (m : Word) : (s.orW off m).ctx = s.ctx := rfl
@[simp] theorem State.orW_buf (off : Nat) (m : Word) : (s.orW off m).buf = s.buf := rfl
@[simp] theorem State.orW_lane (off : Nat) (m : Word) : (s.orW off m).lane = s.lane := rfl
@[simp] theorem State.orW_noz (off : Nat) (m : Word) : (s.orW off m).noz = s.noz := rfl
@[simp] theorem State.orW_hl (off : Nat) (m : Word) : (s.orW off m).hl = s.hl := rfl
@[simp] theorem State.orW_fab (off : Nat) (m : Word) : (s.orW off m).fab = s.fab := rfl
@[simp] theorem State.orW_twin (off : Nat) (m : Word) : (s.orW off m).twin = s.twin := rfl
@[simp] theorem State.orW_eth (off : Nat) (m : Word) : (s.orW off m).eth = s.eth := rfl
@[simp] theorem State.orW_safe (off : Nat) (m : Word) : (s.orW off m).safe = s.safe := rfl
@[simp] theorem State.orW_cyc (off : Nat) (m : Word) : (s.orW off m).cyc = s.cyc := rfl
@[simp] theorem State.orW_kiln (off : Nat) (m : Word) : (s.orW off m).kiln = s.kiln := rfl
@[simp] theorem State.orW_sb (off : Nat) (m : Word) : (s.orW off m).sb = s.sb := rfl
@[simp] theorem State.orW_can (off : Nat) (m : Word) : (s.orW off m).can = s.can := rfl
@[simp] theorem State.orW_loop (off : Nat) (m : Word) : (s.orW off m).loop = s.loop := rfl
@[simp] theorem State.orW_trim (off : Nat) (m : Word) : (s.orW off m).trim = s.trim := rfl

/-! bump -/
@[simp] theorem State.bump_pending (off : Nat) : (s.bump off).pending = s.pending := rfl
@[simp] theorem State.bump_out (off : Nat) : (s.bump off).out = s.out := rfl
@[simp] theorem State.bump_latch (off : Nat) : (s.bump off).latch = s.latch := rfl
@[simp] theorem State.bump_hold (off : Nat) : (s.bump off).hold = s.hold := rfl
@[simp] theorem State.bump_hostMem (off : Nat) : (s.bump off).hostMem = s.hostMem := rfl
@[simp] theorem State.bump_freeCtr (off : Nat) : (s.bump off).freeCtr = s.freeCtr := rfl
@[simp] theorem State.bump_upset (off : Nat) : (s.bump off).upset = s.upset := rfl
@[simp] theorem State.bump_tb (off : Nat) : (s.bump off).tb = s.tb := rfl
@[simp] theorem State.bump_pos (off : Nat) : (s.bump off).pos = s.pos := rfl
@[simp] theorem State.bump_power (off : Nat) : (s.bump off).power = s.power := rfl
@[simp] theorem State.bump_host (off : Nat) : (s.bump off).host = s.host := rfl
@[simp] theorem State.bump_cask (off : Nat) : (s.bump off).cask = s.cask := rfl
@[simp] theorem State.bump_sec (off : Nat) : (s.bump off).sec = s.sec := rfl
@[simp] theorem State.bump_ctx (off : Nat) : (s.bump off).ctx = s.ctx := rfl
@[simp] theorem State.bump_buf (off : Nat) : (s.bump off).buf = s.buf := rfl
@[simp] theorem State.bump_lane (off : Nat) : (s.bump off).lane = s.lane := rfl
@[simp] theorem State.bump_noz (off : Nat) : (s.bump off).noz = s.noz := rfl
@[simp] theorem State.bump_hl (off : Nat) : (s.bump off).hl = s.hl := rfl
@[simp] theorem State.bump_fab (off : Nat) : (s.bump off).fab = s.fab := rfl
@[simp] theorem State.bump_twin (off : Nat) : (s.bump off).twin = s.twin := rfl
@[simp] theorem State.bump_eth (off : Nat) : (s.bump off).eth = s.eth := rfl
@[simp] theorem State.bump_safe (off : Nat) : (s.bump off).safe = s.safe := rfl
@[simp] theorem State.bump_cyc (off : Nat) : (s.bump off).cyc = s.cyc := rfl
@[simp] theorem State.bump_kiln (off : Nat) : (s.bump off).kiln = s.kiln := rfl
@[simp] theorem State.bump_sb (off : Nat) : (s.bump off).sb = s.sb := rfl
@[simp] theorem State.bump_can (off : Nat) : (s.bump off).can = s.can := rfl
@[simp] theorem State.bump_loop (off : Nat) : (s.bump off).loop = s.loop := rfl
@[simp] theorem State.bump_trim (off : Nat) : (s.bump off).trim = s.trim := rfl

/-! bumpBy -/
@[simp] theorem State.bumpBy_pending (off n : Nat) : (s.bumpBy off n).pending = s.pending := rfl
@[simp] theorem State.bumpBy_out (off n : Nat) : (s.bumpBy off n).out = s.out := rfl
@[simp] theorem State.bumpBy_latch (off n : Nat) : (s.bumpBy off n).latch = s.latch := rfl
@[simp] theorem State.bumpBy_hold (off n : Nat) : (s.bumpBy off n).hold = s.hold := rfl
@[simp] theorem State.bumpBy_hostMem (off n : Nat) : (s.bumpBy off n).hostMem = s.hostMem := rfl
@[simp] theorem State.bumpBy_freeCtr (off n : Nat) : (s.bumpBy off n).freeCtr = s.freeCtr := rfl
@[simp] theorem State.bumpBy_upset (off n : Nat) : (s.bumpBy off n).upset = s.upset := rfl
@[simp] theorem State.bumpBy_tb (off n : Nat) : (s.bumpBy off n).tb = s.tb := rfl
@[simp] theorem State.bumpBy_pos (off n : Nat) : (s.bumpBy off n).pos = s.pos := rfl
@[simp] theorem State.bumpBy_power (off n : Nat) : (s.bumpBy off n).power = s.power := rfl
@[simp] theorem State.bumpBy_host (off n : Nat) : (s.bumpBy off n).host = s.host := rfl
@[simp] theorem State.bumpBy_cask (off n : Nat) : (s.bumpBy off n).cask = s.cask := rfl
@[simp] theorem State.bumpBy_sec (off n : Nat) : (s.bumpBy off n).sec = s.sec := rfl
@[simp] theorem State.bumpBy_ctx (off n : Nat) : (s.bumpBy off n).ctx = s.ctx := rfl
@[simp] theorem State.bumpBy_buf (off n : Nat) : (s.bumpBy off n).buf = s.buf := rfl
@[simp] theorem State.bumpBy_lane (off n : Nat) : (s.bumpBy off n).lane = s.lane := rfl
@[simp] theorem State.bumpBy_noz (off n : Nat) : (s.bumpBy off n).noz = s.noz := rfl
@[simp] theorem State.bumpBy_hl (off n : Nat) : (s.bumpBy off n).hl = s.hl := rfl
@[simp] theorem State.bumpBy_fab (off n : Nat) : (s.bumpBy off n).fab = s.fab := rfl
@[simp] theorem State.bumpBy_twin (off n : Nat) : (s.bumpBy off n).twin = s.twin := rfl
@[simp] theorem State.bumpBy_eth (off n : Nat) : (s.bumpBy off n).eth = s.eth := rfl
@[simp] theorem State.bumpBy_safe (off n : Nat) : (s.bumpBy off n).safe = s.safe := rfl
@[simp] theorem State.bumpBy_cyc (off n : Nat) : (s.bumpBy off n).cyc = s.cyc := rfl
@[simp] theorem State.bumpBy_kiln (off n : Nat) : (s.bumpBy off n).kiln = s.kiln := rfl
@[simp] theorem State.bumpBy_sb (off n : Nat) : (s.bumpBy off n).sb = s.sb := rfl
@[simp] theorem State.bumpBy_can (off n : Nat) : (s.bumpBy off n).can = s.can := rfl
@[simp] theorem State.bumpBy_loop (off n : Nat) : (s.bumpBy off n).loop = s.loop := rfl
@[simp] theorem State.bumpBy_trim (off n : Nat) : (s.bumpBy off n).trim = s.trim := rfl

/-! bumpWrap -/
@[simp] theorem State.bumpWrap_pending (off : Nat) : (s.bumpWrap off).pending = s.pending := rfl
@[simp] theorem State.bumpWrap_out (off : Nat) : (s.bumpWrap off).out = s.out := rfl
@[simp] theorem State.bumpWrap_latch (off : Nat) : (s.bumpWrap off).latch = s.latch := rfl
@[simp] theorem State.bumpWrap_hold (off : Nat) : (s.bumpWrap off).hold = s.hold := rfl
@[simp] theorem State.bumpWrap_hostMem (off : Nat) : (s.bumpWrap off).hostMem = s.hostMem := rfl
@[simp] theorem State.bumpWrap_freeCtr (off : Nat) : (s.bumpWrap off).freeCtr = s.freeCtr := rfl
@[simp] theorem State.bumpWrap_upset (off : Nat) : (s.bumpWrap off).upset = s.upset := rfl
@[simp] theorem State.bumpWrap_tb (off : Nat) : (s.bumpWrap off).tb = s.tb := rfl
@[simp] theorem State.bumpWrap_pos (off : Nat) : (s.bumpWrap off).pos = s.pos := rfl
@[simp] theorem State.bumpWrap_power (off : Nat) : (s.bumpWrap off).power = s.power := rfl
@[simp] theorem State.bumpWrap_host (off : Nat) : (s.bumpWrap off).host = s.host := rfl
@[simp] theorem State.bumpWrap_cask (off : Nat) : (s.bumpWrap off).cask = s.cask := rfl
@[simp] theorem State.bumpWrap_sec (off : Nat) : (s.bumpWrap off).sec = s.sec := rfl
@[simp] theorem State.bumpWrap_ctx (off : Nat) : (s.bumpWrap off).ctx = s.ctx := rfl
@[simp] theorem State.bumpWrap_buf (off : Nat) : (s.bumpWrap off).buf = s.buf := rfl
@[simp] theorem State.bumpWrap_lane (off : Nat) : (s.bumpWrap off).lane = s.lane := rfl
@[simp] theorem State.bumpWrap_noz (off : Nat) : (s.bumpWrap off).noz = s.noz := rfl
@[simp] theorem State.bumpWrap_hl (off : Nat) : (s.bumpWrap off).hl = s.hl := rfl
@[simp] theorem State.bumpWrap_fab (off : Nat) : (s.bumpWrap off).fab = s.fab := rfl
@[simp] theorem State.bumpWrap_twin (off : Nat) : (s.bumpWrap off).twin = s.twin := rfl
@[simp] theorem State.bumpWrap_eth (off : Nat) : (s.bumpWrap off).eth = s.eth := rfl
@[simp] theorem State.bumpWrap_safe (off : Nat) : (s.bumpWrap off).safe = s.safe := rfl
@[simp] theorem State.bumpWrap_cyc (off : Nat) : (s.bumpWrap off).cyc = s.cyc := rfl
@[simp] theorem State.bumpWrap_kiln (off : Nat) : (s.bumpWrap off).kiln = s.kiln := rfl
@[simp] theorem State.bumpWrap_sb (off : Nat) : (s.bumpWrap off).sb = s.sb := rfl
@[simp] theorem State.bumpWrap_can (off : Nat) : (s.bumpWrap off).can = s.can := rfl
@[simp] theorem State.bumpWrap_loop (off : Nat) : (s.bumpWrap off).loop = s.loop := rfl
@[simp] theorem State.bumpWrap_trim (off : Nat) : (s.bumpWrap off).trim = s.trim := rfl

/-! clearRegs -/
@[simp] theorem State.clearRegs_pending (lo hi : Nat) : (s.clearRegs lo hi).pending = s.pending := rfl
@[simp] theorem State.clearRegs_out (lo hi : Nat) : (s.clearRegs lo hi).out = s.out := rfl
@[simp] theorem State.clearRegs_latch (lo hi : Nat) : (s.clearRegs lo hi).latch = s.latch := rfl
@[simp] theorem State.clearRegs_hold (lo hi : Nat) : (s.clearRegs lo hi).hold = s.hold := rfl
@[simp] theorem State.clearRegs_hostMem (lo hi : Nat) : (s.clearRegs lo hi).hostMem = s.hostMem := rfl
@[simp] theorem State.clearRegs_freeCtr (lo hi : Nat) : (s.clearRegs lo hi).freeCtr = s.freeCtr := rfl
@[simp] theorem State.clearRegs_upset (lo hi : Nat) : (s.clearRegs lo hi).upset = s.upset := rfl
@[simp] theorem State.clearRegs_tb (lo hi : Nat) : (s.clearRegs lo hi).tb = s.tb := rfl
@[simp] theorem State.clearRegs_pos (lo hi : Nat) : (s.clearRegs lo hi).pos = s.pos := rfl
@[simp] theorem State.clearRegs_power (lo hi : Nat) : (s.clearRegs lo hi).power = s.power := rfl
@[simp] theorem State.clearRegs_host (lo hi : Nat) : (s.clearRegs lo hi).host = s.host := rfl
@[simp] theorem State.clearRegs_cask (lo hi : Nat) : (s.clearRegs lo hi).cask = s.cask := rfl
@[simp] theorem State.clearRegs_sec (lo hi : Nat) : (s.clearRegs lo hi).sec = s.sec := rfl
@[simp] theorem State.clearRegs_ctx (lo hi : Nat) : (s.clearRegs lo hi).ctx = s.ctx := rfl
@[simp] theorem State.clearRegs_buf (lo hi : Nat) : (s.clearRegs lo hi).buf = s.buf := rfl
@[simp] theorem State.clearRegs_lane (lo hi : Nat) : (s.clearRegs lo hi).lane = s.lane := rfl
@[simp] theorem State.clearRegs_noz (lo hi : Nat) : (s.clearRegs lo hi).noz = s.noz := rfl
@[simp] theorem State.clearRegs_hl (lo hi : Nat) : (s.clearRegs lo hi).hl = s.hl := rfl
@[simp] theorem State.clearRegs_fab (lo hi : Nat) : (s.clearRegs lo hi).fab = s.fab := rfl
@[simp] theorem State.clearRegs_twin (lo hi : Nat) : (s.clearRegs lo hi).twin = s.twin := rfl
@[simp] theorem State.clearRegs_eth (lo hi : Nat) : (s.clearRegs lo hi).eth = s.eth := rfl
@[simp] theorem State.clearRegs_safe (lo hi : Nat) : (s.clearRegs lo hi).safe = s.safe := rfl
@[simp] theorem State.clearRegs_cyc (lo hi : Nat) : (s.clearRegs lo hi).cyc = s.cyc := rfl
@[simp] theorem State.clearRegs_kiln (lo hi : Nat) : (s.clearRegs lo hi).kiln = s.kiln := rfl
@[simp] theorem State.clearRegs_sb (lo hi : Nat) : (s.clearRegs lo hi).sb = s.sb := rfl
@[simp] theorem State.clearRegs_can (lo hi : Nat) : (s.clearRegs lo hi).can = s.can := rfl
@[simp] theorem State.clearRegs_loop (lo hi : Nat) : (s.clearRegs lo hi).loop = s.loop := rfl
@[simp] theorem State.clearRegs_trim (lo hi : Nat) : (s.clearRegs lo hi).trim = s.trim := rfl

/-! latch64 -/
@[simp] theorem State.latch64_pending (pf1 : Bool) (off : Nat) (v : DWord) : (s.latch64 pf1 off v).pending = s.pending := rfl
@[simp] theorem State.latch64_out (pf1 : Bool) (off : Nat) (v : DWord) : (s.latch64 pf1 off v).out = s.out := rfl
@[simp] theorem State.latch64_regs (pf1 : Bool) (off : Nat) (v : DWord) : (s.latch64 pf1 off v).regs = s.regs := rfl
@[simp] theorem State.latch64_hold (pf1 : Bool) (off : Nat) (v : DWord) : (s.latch64 pf1 off v).hold = s.hold := rfl
@[simp] theorem State.latch64_hostMem (pf1 : Bool) (off : Nat) (v : DWord) : (s.latch64 pf1 off v).hostMem = s.hostMem := rfl
@[simp] theorem State.latch64_freeCtr (pf1 : Bool) (off : Nat) (v : DWord) : (s.latch64 pf1 off v).freeCtr = s.freeCtr := rfl
@[simp] theorem State.latch64_upset (pf1 : Bool) (off : Nat) (v : DWord) : (s.latch64 pf1 off v).upset = s.upset := rfl
@[simp] theorem State.latch64_tb (pf1 : Bool) (off : Nat) (v : DWord) : (s.latch64 pf1 off v).tb = s.tb := rfl
@[simp] theorem State.latch64_pos (pf1 : Bool) (off : Nat) (v : DWord) : (s.latch64 pf1 off v).pos = s.pos := rfl
@[simp] theorem State.latch64_power (pf1 : Bool) (off : Nat) (v : DWord) : (s.latch64 pf1 off v).power = s.power := rfl
@[simp] theorem State.latch64_host (pf1 : Bool) (off : Nat) (v : DWord) : (s.latch64 pf1 off v).host = s.host := rfl
@[simp] theorem State.latch64_cask (pf1 : Bool) (off : Nat) (v : DWord) : (s.latch64 pf1 off v).cask = s.cask := rfl
@[simp] theorem State.latch64_sec (pf1 : Bool) (off : Nat) (v : DWord) : (s.latch64 pf1 off v).sec = s.sec := rfl
@[simp] theorem State.latch64_ctx (pf1 : Bool) (off : Nat) (v : DWord) : (s.latch64 pf1 off v).ctx = s.ctx := rfl
@[simp] theorem State.latch64_buf (pf1 : Bool) (off : Nat) (v : DWord) : (s.latch64 pf1 off v).buf = s.buf := rfl
@[simp] theorem State.latch64_lane (pf1 : Bool) (off : Nat) (v : DWord) : (s.latch64 pf1 off v).lane = s.lane := rfl
@[simp] theorem State.latch64_noz (pf1 : Bool) (off : Nat) (v : DWord) : (s.latch64 pf1 off v).noz = s.noz := rfl
@[simp] theorem State.latch64_hl (pf1 : Bool) (off : Nat) (v : DWord) : (s.latch64 pf1 off v).hl = s.hl := rfl
@[simp] theorem State.latch64_fab (pf1 : Bool) (off : Nat) (v : DWord) : (s.latch64 pf1 off v).fab = s.fab := rfl
@[simp] theorem State.latch64_twin (pf1 : Bool) (off : Nat) (v : DWord) : (s.latch64 pf1 off v).twin = s.twin := rfl
@[simp] theorem State.latch64_eth (pf1 : Bool) (off : Nat) (v : DWord) : (s.latch64 pf1 off v).eth = s.eth := rfl
@[simp] theorem State.latch64_safe (pf1 : Bool) (off : Nat) (v : DWord) : (s.latch64 pf1 off v).safe = s.safe := rfl
@[simp] theorem State.latch64_cyc (pf1 : Bool) (off : Nat) (v : DWord) : (s.latch64 pf1 off v).cyc = s.cyc := rfl
@[simp] theorem State.latch64_kiln (pf1 : Bool) (off : Nat) (v : DWord) : (s.latch64 pf1 off v).kiln = s.kiln := rfl
@[simp] theorem State.latch64_sb (pf1 : Bool) (off : Nat) (v : DWord) : (s.latch64 pf1 off v).sb = s.sb := rfl
@[simp] theorem State.latch64_can (pf1 : Bool) (off : Nat) (v : DWord) : (s.latch64 pf1 off v).can = s.can := rfl
@[simp] theorem State.latch64_loop (pf1 : Bool) (off : Nat) (v : DWord) : (s.latch64 pf1 off v).loop = s.loop := rfl
@[simp] theorem State.latch64_trim (pf1 : Bool) (off : Nat) (v : DWord) : (s.latch64 pf1 off v).trim = s.trim := rfl

/-! emit -/
@[simp] theorem State.emit_pending (e : Emit) : (s.emit e).pending = s.pending := rfl
@[simp] theorem State.emit_regs (e : Emit) : (s.emit e).regs = s.regs := rfl
@[simp] theorem State.emit_latch (e : Emit) : (s.emit e).latch = s.latch := rfl
@[simp] theorem State.emit_hold (e : Emit) : (s.emit e).hold = s.hold := rfl
@[simp] theorem State.emit_hostMem (e : Emit) : (s.emit e).hostMem = s.hostMem := rfl
@[simp] theorem State.emit_freeCtr (e : Emit) : (s.emit e).freeCtr = s.freeCtr := rfl
@[simp] theorem State.emit_upset (e : Emit) : (s.emit e).upset = s.upset := rfl
@[simp] theorem State.emit_tb (e : Emit) : (s.emit e).tb = s.tb := rfl
@[simp] theorem State.emit_pos (e : Emit) : (s.emit e).pos = s.pos := rfl
@[simp] theorem State.emit_power (e : Emit) : (s.emit e).power = s.power := rfl
@[simp] theorem State.emit_host (e : Emit) : (s.emit e).host = s.host := rfl
@[simp] theorem State.emit_cask (e : Emit) : (s.emit e).cask = s.cask := rfl
@[simp] theorem State.emit_sec (e : Emit) : (s.emit e).sec = s.sec := rfl
@[simp] theorem State.emit_ctx (e : Emit) : (s.emit e).ctx = s.ctx := rfl
@[simp] theorem State.emit_buf (e : Emit) : (s.emit e).buf = s.buf := rfl
@[simp] theorem State.emit_lane (e : Emit) : (s.emit e).lane = s.lane := rfl
@[simp] theorem State.emit_noz (e : Emit) : (s.emit e).noz = s.noz := rfl
@[simp] theorem State.emit_hl (e : Emit) : (s.emit e).hl = s.hl := rfl
@[simp] theorem State.emit_fab (e : Emit) : (s.emit e).fab = s.fab := rfl
@[simp] theorem State.emit_twin (e : Emit) : (s.emit e).twin = s.twin := rfl
@[simp] theorem State.emit_eth (e : Emit) : (s.emit e).eth = s.eth := rfl
@[simp] theorem State.emit_safe (e : Emit) : (s.emit e).safe = s.safe := rfl
@[simp] theorem State.emit_cyc (e : Emit) : (s.emit e).cyc = s.cyc := rfl
@[simp] theorem State.emit_kiln (e : Emit) : (s.emit e).kiln = s.kiln := rfl
@[simp] theorem State.emit_sb (e : Emit) : (s.emit e).sb = s.sb := rfl
@[simp] theorem State.emit_can (e : Emit) : (s.emit e).can = s.can := rfl
@[simp] theorem State.emit_loop (e : Emit) : (s.emit e).loop = s.loop := rfl
@[simp] theorem State.emit_trim (e : Emit) : (s.emit e).trim = s.trim := rfl

/-! hostWrite -/
@[simp] theorem State.hostWrite_pending (addr : Nat) (b : List Byte) : (s.hostWrite addr b).pending = s.pending := rfl
@[simp] theorem State.hostWrite_out (addr : Nat) (b : List Byte) : (s.hostWrite addr b).out = s.out := rfl
@[simp] theorem State.hostWrite_regs (addr : Nat) (b : List Byte) : (s.hostWrite addr b).regs = s.regs := rfl
@[simp] theorem State.hostWrite_latch (addr : Nat) (b : List Byte) : (s.hostWrite addr b).latch = s.latch := rfl
@[simp] theorem State.hostWrite_hold (addr : Nat) (b : List Byte) : (s.hostWrite addr b).hold = s.hold := rfl
@[simp] theorem State.hostWrite_freeCtr (addr : Nat) (b : List Byte) : (s.hostWrite addr b).freeCtr = s.freeCtr := rfl
@[simp] theorem State.hostWrite_upset (addr : Nat) (b : List Byte) : (s.hostWrite addr b).upset = s.upset := rfl
@[simp] theorem State.hostWrite_tb (addr : Nat) (b : List Byte) : (s.hostWrite addr b).tb = s.tb := rfl
@[simp] theorem State.hostWrite_pos (addr : Nat) (b : List Byte) : (s.hostWrite addr b).pos = s.pos := rfl
@[simp] theorem State.hostWrite_power (addr : Nat) (b : List Byte) : (s.hostWrite addr b).power = s.power := rfl
@[simp] theorem State.hostWrite_host (addr : Nat) (b : List Byte) : (s.hostWrite addr b).host = s.host := rfl
@[simp] theorem State.hostWrite_cask (addr : Nat) (b : List Byte) : (s.hostWrite addr b).cask = s.cask := rfl
@[simp] theorem State.hostWrite_sec (addr : Nat) (b : List Byte) : (s.hostWrite addr b).sec = s.sec := rfl
@[simp] theorem State.hostWrite_ctx (addr : Nat) (b : List Byte) : (s.hostWrite addr b).ctx = s.ctx := rfl
@[simp] theorem State.hostWrite_buf (addr : Nat) (b : List Byte) : (s.hostWrite addr b).buf = s.buf := rfl
@[simp] theorem State.hostWrite_lane (addr : Nat) (b : List Byte) : (s.hostWrite addr b).lane = s.lane := rfl
@[simp] theorem State.hostWrite_noz (addr : Nat) (b : List Byte) : (s.hostWrite addr b).noz = s.noz := rfl
@[simp] theorem State.hostWrite_hl (addr : Nat) (b : List Byte) : (s.hostWrite addr b).hl = s.hl := rfl
@[simp] theorem State.hostWrite_fab (addr : Nat) (b : List Byte) : (s.hostWrite addr b).fab = s.fab := rfl
@[simp] theorem State.hostWrite_twin (addr : Nat) (b : List Byte) : (s.hostWrite addr b).twin = s.twin := rfl
@[simp] theorem State.hostWrite_eth (addr : Nat) (b : List Byte) : (s.hostWrite addr b).eth = s.eth := rfl
@[simp] theorem State.hostWrite_safe (addr : Nat) (b : List Byte) : (s.hostWrite addr b).safe = s.safe := rfl
@[simp] theorem State.hostWrite_cyc (addr : Nat) (b : List Byte) : (s.hostWrite addr b).cyc = s.cyc := rfl
@[simp] theorem State.hostWrite_kiln (addr : Nat) (b : List Byte) : (s.hostWrite addr b).kiln = s.kiln := rfl
@[simp] theorem State.hostWrite_sb (addr : Nat) (b : List Byte) : (s.hostWrite addr b).sb = s.sb := rfl
@[simp] theorem State.hostWrite_can (addr : Nat) (b : List Byte) : (s.hostWrite addr b).can = s.can := rfl
@[simp] theorem State.hostWrite_loop (addr : Nat) (b : List Byte) : (s.hostWrite addr b).loop = s.loop := rfl
@[simp] theorem State.hostWrite_trim (addr : Nat) (b : List Byte) : (s.hostWrite addr b).trim = s.trim := rfl

/-! setCtx -/
@[simp] theorem State.setCtx_pending (n : Nat) (c : Ctx) : (s.setCtx n c).pending = s.pending := rfl
@[simp] theorem State.setCtx_out (n : Nat) (c : Ctx) : (s.setCtx n c).out = s.out := rfl
@[simp] theorem State.setCtx_regs (n : Nat) (c : Ctx) : (s.setCtx n c).regs = s.regs := rfl
@[simp] theorem State.setCtx_latch (n : Nat) (c : Ctx) : (s.setCtx n c).latch = s.latch := rfl
@[simp] theorem State.setCtx_hold (n : Nat) (c : Ctx) : (s.setCtx n c).hold = s.hold := rfl
@[simp] theorem State.setCtx_hostMem (n : Nat) (c : Ctx) : (s.setCtx n c).hostMem = s.hostMem := rfl
@[simp] theorem State.setCtx_freeCtr (n : Nat) (c : Ctx) : (s.setCtx n c).freeCtr = s.freeCtr := rfl
@[simp] theorem State.setCtx_upset (n : Nat) (c : Ctx) : (s.setCtx n c).upset = s.upset := rfl
@[simp] theorem State.setCtx_tb (n : Nat) (c : Ctx) : (s.setCtx n c).tb = s.tb := rfl
@[simp] theorem State.setCtx_pos (n : Nat) (c : Ctx) : (s.setCtx n c).pos = s.pos := rfl
@[simp] theorem State.setCtx_power (n : Nat) (c : Ctx) : (s.setCtx n c).power = s.power := rfl
@[simp] theorem State.setCtx_host (n : Nat) (c : Ctx) : (s.setCtx n c).host = s.host := rfl
@[simp] theorem State.setCtx_cask (n : Nat) (c : Ctx) : (s.setCtx n c).cask = s.cask := rfl
@[simp] theorem State.setCtx_sec (n : Nat) (c : Ctx) : (s.setCtx n c).sec = s.sec := rfl
@[simp] theorem State.setCtx_buf (n : Nat) (c : Ctx) : (s.setCtx n c).buf = s.buf := rfl
@[simp] theorem State.setCtx_lane (n : Nat) (c : Ctx) : (s.setCtx n c).lane = s.lane := rfl
@[simp] theorem State.setCtx_noz (n : Nat) (c : Ctx) : (s.setCtx n c).noz = s.noz := rfl
@[simp] theorem State.setCtx_hl (n : Nat) (c : Ctx) : (s.setCtx n c).hl = s.hl := rfl
@[simp] theorem State.setCtx_fab (n : Nat) (c : Ctx) : (s.setCtx n c).fab = s.fab := rfl
@[simp] theorem State.setCtx_twin (n : Nat) (c : Ctx) : (s.setCtx n c).twin = s.twin := rfl
@[simp] theorem State.setCtx_eth (n : Nat) (c : Ctx) : (s.setCtx n c).eth = s.eth := rfl
@[simp] theorem State.setCtx_safe (n : Nat) (c : Ctx) : (s.setCtx n c).safe = s.safe := rfl
@[simp] theorem State.setCtx_cyc (n : Nat) (c : Ctx) : (s.setCtx n c).cyc = s.cyc := rfl
@[simp] theorem State.setCtx_kiln (n : Nat) (c : Ctx) : (s.setCtx n c).kiln = s.kiln := rfl
@[simp] theorem State.setCtx_sb (n : Nat) (c : Ctx) : (s.setCtx n c).sb = s.sb := rfl
@[simp] theorem State.setCtx_can (n : Nat) (c : Ctx) : (s.setCtx n c).can = s.can := rfl
@[simp] theorem State.setCtx_loop (n : Nat) (c : Ctx) : (s.setCtx n c).loop = s.loop := rfl
@[simp] theorem State.setCtx_trim (n : Nat) (c : Ctx) : (s.setCtx n c).trim = s.trim := rfl

/-! modCtx -/
@[simp] theorem State.modCtx_pending (n : Nat) (f : Ctx → Ctx) : (s.modCtx n f).pending = s.pending := rfl
@[simp] theorem State.modCtx_out (n : Nat) (f : Ctx → Ctx) : (s.modCtx n f).out = s.out := rfl
@[simp] theorem State.modCtx_regs (n : Nat) (f : Ctx → Ctx) : (s.modCtx n f).regs = s.regs := rfl
@[simp] theorem State.modCtx_latch (n : Nat) (f : Ctx → Ctx) : (s.modCtx n f).latch = s.latch := rfl
@[simp] theorem State.modCtx_hold (n : Nat) (f : Ctx → Ctx) : (s.modCtx n f).hold = s.hold := rfl
@[simp] theorem State.modCtx_hostMem (n : Nat) (f : Ctx → Ctx) : (s.modCtx n f).hostMem = s.hostMem := rfl
@[simp] theorem State.modCtx_freeCtr (n : Nat) (f : Ctx → Ctx) : (s.modCtx n f).freeCtr = s.freeCtr := rfl
@[simp] theorem State.modCtx_upset (n : Nat) (f : Ctx → Ctx) : (s.modCtx n f).upset = s.upset := rfl
@[simp] theorem State.modCtx_tb (n : Nat) (f : Ctx → Ctx) : (s.modCtx n f).tb = s.tb := rfl
@[simp] theorem State.modCtx_pos (n : Nat) (f : Ctx → Ctx) : (s.modCtx n f).pos = s.pos := rfl
@[simp] theorem State.modCtx_power (n : Nat) (f : Ctx → Ctx) : (s.modCtx n f).power = s.power := rfl
@[simp] theorem State.modCtx_host (n : Nat) (f : Ctx → Ctx) : (s.modCtx n f).host = s.host := rfl
@[simp] theorem State.modCtx_cask (n : Nat) (f : Ctx → Ctx) : (s.modCtx n f).cask = s.cask := rfl
@[simp] theorem State.modCtx_sec (n : Nat) (f : Ctx → Ctx) : (s.modCtx n f).sec = s.sec := rfl
@[simp] theorem State.modCtx_buf (n : Nat) (f : Ctx → Ctx) : (s.modCtx n f).buf = s.buf := rfl
@[simp] theorem State.modCtx_lane (n : Nat) (f : Ctx → Ctx) : (s.modCtx n f).lane = s.lane := rfl
@[simp] theorem State.modCtx_noz (n : Nat) (f : Ctx → Ctx) : (s.modCtx n f).noz = s.noz := rfl
@[simp] theorem State.modCtx_hl (n : Nat) (f : Ctx → Ctx) : (s.modCtx n f).hl = s.hl := rfl
@[simp] theorem State.modCtx_fab (n : Nat) (f : Ctx → Ctx) : (s.modCtx n f).fab = s.fab := rfl
@[simp] theorem State.modCtx_twin (n : Nat) (f : Ctx → Ctx) : (s.modCtx n f).twin = s.twin := rfl
@[simp] theorem State.modCtx_eth (n : Nat) (f : Ctx → Ctx) : (s.modCtx n f).eth = s.eth := rfl
@[simp] theorem State.modCtx_safe (n : Nat) (f : Ctx → Ctx) : (s.modCtx n f).safe = s.safe := rfl
@[simp] theorem State.modCtx_cyc (n : Nat) (f : Ctx → Ctx) : (s.modCtx n f).cyc = s.cyc := rfl
@[simp] theorem State.modCtx_kiln (n : Nat) (f : Ctx → Ctx) : (s.modCtx n f).kiln = s.kiln := rfl
@[simp] theorem State.modCtx_sb (n : Nat) (f : Ctx → Ctx) : (s.modCtx n f).sb = s.sb := rfl
@[simp] theorem State.modCtx_can (n : Nat) (f : Ctx → Ctx) : (s.modCtx n f).can = s.can := rfl
@[simp] theorem State.modCtx_loop (n : Nat) (f : Ctx → Ctx) : (s.modCtx n f).loop = s.loop := rfl
@[simp] theorem State.modCtx_trim (n : Nat) (f : Ctx → Ctx) : (s.modCtx n f).trim = s.trim := rfl

/-! setRing -/
@[simp] theorem State.setRing_pending (n : Nat) (r : CtxRing) : (s.setRing n r).pending = s.pending := rfl
@[simp] theorem State.setRing_out (n : Nat) (r : CtxRing) : (s.setRing n r).out = s.out := rfl
@[simp] theorem State.setRing_regs (n : Nat) (r : CtxRing) : (s.setRing n r).regs = s.regs := rfl
@[simp] theorem State.setRing_latch (n : Nat) (r : CtxRing) : (s.setRing n r).latch = s.latch := rfl
@[simp] theorem State.setRing_hold (n : Nat) (r : CtxRing) : (s.setRing n r).hold = s.hold := rfl
@[simp] theorem State.setRing_hostMem (n : Nat) (r : CtxRing) : (s.setRing n r).hostMem = s.hostMem := rfl
@[simp] theorem State.setRing_freeCtr (n : Nat) (r : CtxRing) : (s.setRing n r).freeCtr = s.freeCtr := rfl
@[simp] theorem State.setRing_upset (n : Nat) (r : CtxRing) : (s.setRing n r).upset = s.upset := rfl
@[simp] theorem State.setRing_tb (n : Nat) (r : CtxRing) : (s.setRing n r).tb = s.tb := rfl
@[simp] theorem State.setRing_pos (n : Nat) (r : CtxRing) : (s.setRing n r).pos = s.pos := rfl
@[simp] theorem State.setRing_power (n : Nat) (r : CtxRing) : (s.setRing n r).power = s.power := rfl
@[simp] theorem State.setRing_cask (n : Nat) (r : CtxRing) : (s.setRing n r).cask = s.cask := rfl
@[simp] theorem State.setRing_sec (n : Nat) (r : CtxRing) : (s.setRing n r).sec = s.sec := rfl
@[simp] theorem State.setRing_ctx (n : Nat) (r : CtxRing) : (s.setRing n r).ctx = s.ctx := rfl
@[simp] theorem State.setRing_buf (n : Nat) (r : CtxRing) : (s.setRing n r).buf = s.buf := rfl
@[simp] theorem State.setRing_lane (n : Nat) (r : CtxRing) : (s.setRing n r).lane = s.lane := rfl
@[simp] theorem State.setRing_noz (n : Nat) (r : CtxRing) : (s.setRing n r).noz = s.noz := rfl
@[simp] theorem State.setRing_hl (n : Nat) (r : CtxRing) : (s.setRing n r).hl = s.hl := rfl
@[simp] theorem State.setRing_fab (n : Nat) (r : CtxRing) : (s.setRing n r).fab = s.fab := rfl
@[simp] theorem State.setRing_twin (n : Nat) (r : CtxRing) : (s.setRing n r).twin = s.twin := rfl
@[simp] theorem State.setRing_eth (n : Nat) (r : CtxRing) : (s.setRing n r).eth = s.eth := rfl
@[simp] theorem State.setRing_safe (n : Nat) (r : CtxRing) : (s.setRing n r).safe = s.safe := rfl
@[simp] theorem State.setRing_cyc (n : Nat) (r : CtxRing) : (s.setRing n r).cyc = s.cyc := rfl
@[simp] theorem State.setRing_kiln (n : Nat) (r : CtxRing) : (s.setRing n r).kiln = s.kiln := rfl
@[simp] theorem State.setRing_sb (n : Nat) (r : CtxRing) : (s.setRing n r).sb = s.sb := rfl
@[simp] theorem State.setRing_can (n : Nat) (r : CtxRing) : (s.setRing n r).can = s.can := rfl
@[simp] theorem State.setRing_loop (n : Nat) (r : CtxRing) : (s.setRing n r).loop = s.loop := rfl
@[simp] theorem State.setRing_trim (n : Nat) (r : CtxRing) : (s.setRing n r).trim = s.trim := rfl

/-! setHl -/
@[simp] theorem State.setHl_pending (n : Nat) (h : Hl) : (s.setHl n h).pending = s.pending := rfl
@[simp] theorem State.setHl_out (n : Nat) (h : Hl) : (s.setHl n h).out = s.out := rfl
@[simp] theorem State.setHl_regs (n : Nat) (h : Hl) : (s.setHl n h).regs = s.regs := rfl
@[simp] theorem State.setHl_latch (n : Nat) (h : Hl) : (s.setHl n h).latch = s.latch := rfl
@[simp] theorem State.setHl_hold (n : Nat) (h : Hl) : (s.setHl n h).hold = s.hold := rfl
@[simp] theorem State.setHl_hostMem (n : Nat) (h : Hl) : (s.setHl n h).hostMem = s.hostMem := rfl
@[simp] theorem State.setHl_freeCtr (n : Nat) (h : Hl) : (s.setHl n h).freeCtr = s.freeCtr := rfl
@[simp] theorem State.setHl_upset (n : Nat) (h : Hl) : (s.setHl n h).upset = s.upset := rfl
@[simp] theorem State.setHl_tb (n : Nat) (h : Hl) : (s.setHl n h).tb = s.tb := rfl
@[simp] theorem State.setHl_pos (n : Nat) (h : Hl) : (s.setHl n h).pos = s.pos := rfl
@[simp] theorem State.setHl_power (n : Nat) (h : Hl) : (s.setHl n h).power = s.power := rfl
@[simp] theorem State.setHl_host (n : Nat) (h : Hl) : (s.setHl n h).host = s.host := rfl
@[simp] theorem State.setHl_cask (n : Nat) (h : Hl) : (s.setHl n h).cask = s.cask := rfl
@[simp] theorem State.setHl_sec (n : Nat) (h : Hl) : (s.setHl n h).sec = s.sec := rfl
@[simp] theorem State.setHl_ctx (n : Nat) (h : Hl) : (s.setHl n h).ctx = s.ctx := rfl
@[simp] theorem State.setHl_buf (n : Nat) (h : Hl) : (s.setHl n h).buf = s.buf := rfl
@[simp] theorem State.setHl_lane (n : Nat) (h : Hl) : (s.setHl n h).lane = s.lane := rfl
@[simp] theorem State.setHl_noz (n : Nat) (h : Hl) : (s.setHl n h).noz = s.noz := rfl
@[simp] theorem State.setHl_fab (n : Nat) (h : Hl) : (s.setHl n h).fab = s.fab := rfl
@[simp] theorem State.setHl_twin (n : Nat) (h : Hl) : (s.setHl n h).twin = s.twin := rfl
@[simp] theorem State.setHl_eth (n : Nat) (h : Hl) : (s.setHl n h).eth = s.eth := rfl
@[simp] theorem State.setHl_safe (n : Nat) (h : Hl) : (s.setHl n h).safe = s.safe := rfl
@[simp] theorem State.setHl_cyc (n : Nat) (h : Hl) : (s.setHl n h).cyc = s.cyc := rfl
@[simp] theorem State.setHl_kiln (n : Nat) (h : Hl) : (s.setHl n h).kiln = s.kiln := rfl
@[simp] theorem State.setHl_sb (n : Nat) (h : Hl) : (s.setHl n h).sb = s.sb := rfl
@[simp] theorem State.setHl_can (n : Nat) (h : Hl) : (s.setHl n h).can = s.can := rfl
@[simp] theorem State.setHl_loop (n : Nat) (h : Hl) : (s.setHl n h).loop = s.loop := rfl
@[simp] theorem State.setHl_trim (n : Nat) (h : Hl) : (s.setHl n h).trim = s.trim := rfl

/-! modHl -/
@[simp] theorem State.modHl_pending (n : Nat) (f : Hl → Hl) : (s.modHl n f).pending = s.pending := rfl
@[simp] theorem State.modHl_out (n : Nat) (f : Hl → Hl) : (s.modHl n f).out = s.out := rfl
@[simp] theorem State.modHl_regs (n : Nat) (f : Hl → Hl) : (s.modHl n f).regs = s.regs := rfl
@[simp] theorem State.modHl_latch (n : Nat) (f : Hl → Hl) : (s.modHl n f).latch = s.latch := rfl
@[simp] theorem State.modHl_hold (n : Nat) (f : Hl → Hl) : (s.modHl n f).hold = s.hold := rfl
@[simp] theorem State.modHl_hostMem (n : Nat) (f : Hl → Hl) : (s.modHl n f).hostMem = s.hostMem := rfl
@[simp] theorem State.modHl_freeCtr (n : Nat) (f : Hl → Hl) : (s.modHl n f).freeCtr = s.freeCtr := rfl
@[simp] theorem State.modHl_upset (n : Nat) (f : Hl → Hl) : (s.modHl n f).upset = s.upset := rfl
@[simp] theorem State.modHl_tb (n : Nat) (f : Hl → Hl) : (s.modHl n f).tb = s.tb := rfl
@[simp] theorem State.modHl_pos (n : Nat) (f : Hl → Hl) : (s.modHl n f).pos = s.pos := rfl
@[simp] theorem State.modHl_power (n : Nat) (f : Hl → Hl) : (s.modHl n f).power = s.power := rfl
@[simp] theorem State.modHl_host (n : Nat) (f : Hl → Hl) : (s.modHl n f).host = s.host := rfl
@[simp] theorem State.modHl_cask (n : Nat) (f : Hl → Hl) : (s.modHl n f).cask = s.cask := rfl
@[simp] theorem State.modHl_sec (n : Nat) (f : Hl → Hl) : (s.modHl n f).sec = s.sec := rfl
@[simp] theorem State.modHl_ctx (n : Nat) (f : Hl → Hl) : (s.modHl n f).ctx = s.ctx := rfl
@[simp] theorem State.modHl_buf (n : Nat) (f : Hl → Hl) : (s.modHl n f).buf = s.buf := rfl
@[simp] theorem State.modHl_lane (n : Nat) (f : Hl → Hl) : (s.modHl n f).lane = s.lane := rfl
@[simp] theorem State.modHl_noz (n : Nat) (f : Hl → Hl) : (s.modHl n f).noz = s.noz := rfl
@[simp] theorem State.modHl_fab (n : Nat) (f : Hl → Hl) : (s.modHl n f).fab = s.fab := rfl
@[simp] theorem State.modHl_twin (n : Nat) (f : Hl → Hl) : (s.modHl n f).twin = s.twin := rfl
@[simp] theorem State.modHl_eth (n : Nat) (f : Hl → Hl) : (s.modHl n f).eth = s.eth := rfl
@[simp] theorem State.modHl_safe (n : Nat) (f : Hl → Hl) : (s.modHl n f).safe = s.safe := rfl
@[simp] theorem State.modHl_cyc (n : Nat) (f : Hl → Hl) : (s.modHl n f).cyc = s.cyc := rfl
@[simp] theorem State.modHl_kiln (n : Nat) (f : Hl → Hl) : (s.modHl n f).kiln = s.kiln := rfl
@[simp] theorem State.modHl_sb (n : Nat) (f : Hl → Hl) : (s.modHl n f).sb = s.sb := rfl
@[simp] theorem State.modHl_can (n : Nat) (f : Hl → Hl) : (s.modHl n f).can = s.can := rfl
@[simp] theorem State.modHl_loop (n : Nat) (f : Hl → Hl) : (s.modHl n f).loop = s.loop := rfl
@[simp] theorem State.modHl_trim (n : Nat) (f : Hl → Hl) : (s.modHl n f).trim = s.trim := rfl

/-! setNoz -/
@[simp] theorem State.setNoz_pending (n : Nat) (c : NozCh) : (s.setNoz n c).pending = s.pending := rfl
@[simp] theorem State.setNoz_out (n : Nat) (c : NozCh) : (s.setNoz n c).out = s.out := rfl
@[simp] theorem State.setNoz_regs (n : Nat) (c : NozCh) : (s.setNoz n c).regs = s.regs := rfl
@[simp] theorem State.setNoz_latch (n : Nat) (c : NozCh) : (s.setNoz n c).latch = s.latch := rfl
@[simp] theorem State.setNoz_hold (n : Nat) (c : NozCh) : (s.setNoz n c).hold = s.hold := rfl
@[simp] theorem State.setNoz_hostMem (n : Nat) (c : NozCh) : (s.setNoz n c).hostMem = s.hostMem := rfl
@[simp] theorem State.setNoz_freeCtr (n : Nat) (c : NozCh) : (s.setNoz n c).freeCtr = s.freeCtr := rfl
@[simp] theorem State.setNoz_upset (n : Nat) (c : NozCh) : (s.setNoz n c).upset = s.upset := rfl
@[simp] theorem State.setNoz_tb (n : Nat) (c : NozCh) : (s.setNoz n c).tb = s.tb := rfl
@[simp] theorem State.setNoz_pos (n : Nat) (c : NozCh) : (s.setNoz n c).pos = s.pos := rfl
@[simp] theorem State.setNoz_power (n : Nat) (c : NozCh) : (s.setNoz n c).power = s.power := rfl
@[simp] theorem State.setNoz_host (n : Nat) (c : NozCh) : (s.setNoz n c).host = s.host := rfl
@[simp] theorem State.setNoz_cask (n : Nat) (c : NozCh) : (s.setNoz n c).cask = s.cask := rfl
@[simp] theorem State.setNoz_sec (n : Nat) (c : NozCh) : (s.setNoz n c).sec = s.sec := rfl
@[simp] theorem State.setNoz_ctx (n : Nat) (c : NozCh) : (s.setNoz n c).ctx = s.ctx := rfl
@[simp] theorem State.setNoz_buf (n : Nat) (c : NozCh) : (s.setNoz n c).buf = s.buf := rfl
@[simp] theorem State.setNoz_lane (n : Nat) (c : NozCh) : (s.setNoz n c).lane = s.lane := rfl
@[simp] theorem State.setNoz_hl (n : Nat) (c : NozCh) : (s.setNoz n c).hl = s.hl := rfl
@[simp] theorem State.setNoz_fab (n : Nat) (c : NozCh) : (s.setNoz n c).fab = s.fab := rfl
@[simp] theorem State.setNoz_twin (n : Nat) (c : NozCh) : (s.setNoz n c).twin = s.twin := rfl
@[simp] theorem State.setNoz_eth (n : Nat) (c : NozCh) : (s.setNoz n c).eth = s.eth := rfl
@[simp] theorem State.setNoz_safe (n : Nat) (c : NozCh) : (s.setNoz n c).safe = s.safe := rfl
@[simp] theorem State.setNoz_cyc (n : Nat) (c : NozCh) : (s.setNoz n c).cyc = s.cyc := rfl
@[simp] theorem State.setNoz_kiln (n : Nat) (c : NozCh) : (s.setNoz n c).kiln = s.kiln := rfl
@[simp] theorem State.setNoz_sb (n : Nat) (c : NozCh) : (s.setNoz n c).sb = s.sb := rfl
@[simp] theorem State.setNoz_can (n : Nat) (c : NozCh) : (s.setNoz n c).can = s.can := rfl
@[simp] theorem State.setNoz_loop (n : Nat) (c : NozCh) : (s.setNoz n c).loop = s.loop := rfl
@[simp] theorem State.setNoz_trim (n : Nat) (c : NozCh) : (s.setNoz n c).trim = s.trim := rfl

/-! setLane -/
@[simp] theorem State.setLane_pending (n : Nat) (l : Lane) : (s.setLane n l).pending = s.pending := rfl
@[simp] theorem State.setLane_out (n : Nat) (l : Lane) : (s.setLane n l).out = s.out := rfl
@[simp] theorem State.setLane_regs (n : Nat) (l : Lane) : (s.setLane n l).regs = s.regs := rfl
@[simp] theorem State.setLane_latch (n : Nat) (l : Lane) : (s.setLane n l).latch = s.latch := rfl
@[simp] theorem State.setLane_hold (n : Nat) (l : Lane) : (s.setLane n l).hold = s.hold := rfl
@[simp] theorem State.setLane_hostMem (n : Nat) (l : Lane) : (s.setLane n l).hostMem = s.hostMem := rfl
@[simp] theorem State.setLane_freeCtr (n : Nat) (l : Lane) : (s.setLane n l).freeCtr = s.freeCtr := rfl
@[simp] theorem State.setLane_upset (n : Nat) (l : Lane) : (s.setLane n l).upset = s.upset := rfl
@[simp] theorem State.setLane_tb (n : Nat) (l : Lane) : (s.setLane n l).tb = s.tb := rfl
@[simp] theorem State.setLane_pos (n : Nat) (l : Lane) : (s.setLane n l).pos = s.pos := rfl
@[simp] theorem State.setLane_power (n : Nat) (l : Lane) : (s.setLane n l).power = s.power := rfl
@[simp] theorem State.setLane_host (n : Nat) (l : Lane) : (s.setLane n l).host = s.host := rfl
@[simp] theorem State.setLane_cask (n : Nat) (l : Lane) : (s.setLane n l).cask = s.cask := rfl
@[simp] theorem State.setLane_sec (n : Nat) (l : Lane) : (s.setLane n l).sec = s.sec := rfl
@[simp] theorem State.setLane_ctx (n : Nat) (l : Lane) : (s.setLane n l).ctx = s.ctx := rfl
@[simp] theorem State.setLane_buf (n : Nat) (l : Lane) : (s.setLane n l).buf = s.buf := rfl
@[simp] theorem State.setLane_noz (n : Nat) (l : Lane) : (s.setLane n l).noz = s.noz := rfl
@[simp] theorem State.setLane_hl (n : Nat) (l : Lane) : (s.setLane n l).hl = s.hl := rfl
@[simp] theorem State.setLane_fab (n : Nat) (l : Lane) : (s.setLane n l).fab = s.fab := rfl
@[simp] theorem State.setLane_twin (n : Nat) (l : Lane) : (s.setLane n l).twin = s.twin := rfl
@[simp] theorem State.setLane_eth (n : Nat) (l : Lane) : (s.setLane n l).eth = s.eth := rfl
@[simp] theorem State.setLane_safe (n : Nat) (l : Lane) : (s.setLane n l).safe = s.safe := rfl
@[simp] theorem State.setLane_cyc (n : Nat) (l : Lane) : (s.setLane n l).cyc = s.cyc := rfl
@[simp] theorem State.setLane_kiln (n : Nat) (l : Lane) : (s.setLane n l).kiln = s.kiln := rfl
@[simp] theorem State.setLane_sb (n : Nat) (l : Lane) : (s.setLane n l).sb = s.sb := rfl
@[simp] theorem State.setLane_can (n : Nat) (l : Lane) : (s.setLane n l).can = s.can := rfl
@[simp] theorem State.setLane_loop (n : Nat) (l : Lane) : (s.setLane n l).loop = s.loop := rfl
@[simp] theorem State.setLane_trim (n : Nat) (l : Lane) : (s.setLane n l).trim = s.trim := rfl

/-! setPref -/
@[simp] theorem State.setPref_pending (n : Nat) (p : Pref) : (s.setPref n p).pending = s.pending := rfl
@[simp] theorem State.setPref_out (n : Nat) (p : Pref) : (s.setPref n p).out = s.out := rfl
@[simp] theorem State.setPref_regs (n : Nat) (p : Pref) : (s.setPref n p).regs = s.regs := rfl
@[simp] theorem State.setPref_latch (n : Nat) (p : Pref) : (s.setPref n p).latch = s.latch := rfl
@[simp] theorem State.setPref_hold (n : Nat) (p : Pref) : (s.setPref n p).hold = s.hold := rfl
@[simp] theorem State.setPref_hostMem (n : Nat) (p : Pref) : (s.setPref n p).hostMem = s.hostMem := rfl
@[simp] theorem State.setPref_freeCtr (n : Nat) (p : Pref) : (s.setPref n p).freeCtr = s.freeCtr := rfl
@[simp] theorem State.setPref_upset (n : Nat) (p : Pref) : (s.setPref n p).upset = s.upset := rfl
@[simp] theorem State.setPref_tb (n : Nat) (p : Pref) : (s.setPref n p).tb = s.tb := rfl
@[simp] theorem State.setPref_power (n : Nat) (p : Pref) : (s.setPref n p).power = s.power := rfl
@[simp] theorem State.setPref_host (n : Nat) (p : Pref) : (s.setPref n p).host = s.host := rfl
@[simp] theorem State.setPref_cask (n : Nat) (p : Pref) : (s.setPref n p).cask = s.cask := rfl
@[simp] theorem State.setPref_sec (n : Nat) (p : Pref) : (s.setPref n p).sec = s.sec := rfl
@[simp] theorem State.setPref_ctx (n : Nat) (p : Pref) : (s.setPref n p).ctx = s.ctx := rfl
@[simp] theorem State.setPref_buf (n : Nat) (p : Pref) : (s.setPref n p).buf = s.buf := rfl
@[simp] theorem State.setPref_lane (n : Nat) (p : Pref) : (s.setPref n p).lane = s.lane := rfl
@[simp] theorem State.setPref_noz (n : Nat) (p : Pref) : (s.setPref n p).noz = s.noz := rfl
@[simp] theorem State.setPref_hl (n : Nat) (p : Pref) : (s.setPref n p).hl = s.hl := rfl
@[simp] theorem State.setPref_fab (n : Nat) (p : Pref) : (s.setPref n p).fab = s.fab := rfl
@[simp] theorem State.setPref_twin (n : Nat) (p : Pref) : (s.setPref n p).twin = s.twin := rfl
@[simp] theorem State.setPref_eth (n : Nat) (p : Pref) : (s.setPref n p).eth = s.eth := rfl
@[simp] theorem State.setPref_safe (n : Nat) (p : Pref) : (s.setPref n p).safe = s.safe := rfl
@[simp] theorem State.setPref_cyc (n : Nat) (p : Pref) : (s.setPref n p).cyc = s.cyc := rfl
@[simp] theorem State.setPref_kiln (n : Nat) (p : Pref) : (s.setPref n p).kiln = s.kiln := rfl
@[simp] theorem State.setPref_sb (n : Nat) (p : Pref) : (s.setPref n p).sb = s.sb := rfl
@[simp] theorem State.setPref_can (n : Nat) (p : Pref) : (s.setPref n p).can = s.can := rfl
@[simp] theorem State.setPref_loop (n : Nat) (p : Pref) : (s.setPref n p).loop = s.loop := rfl
@[simp] theorem State.setPref_trim (n : Nat) (p : Pref) : (s.setPref n p).trim = s.trim := rfl

/-! setEnc -/
@[simp] theorem State.setEnc_pending (n : Nat) (e : Enc) : (s.setEnc n e).pending = s.pending := rfl
@[simp] theorem State.setEnc_out (n : Nat) (e : Enc) : (s.setEnc n e).out = s.out := rfl
@[simp] theorem State.setEnc_regs (n : Nat) (e : Enc) : (s.setEnc n e).regs = s.regs := rfl
@[simp] theorem State.setEnc_latch (n : Nat) (e : Enc) : (s.setEnc n e).latch = s.latch := rfl
@[simp] theorem State.setEnc_hold (n : Nat) (e : Enc) : (s.setEnc n e).hold = s.hold := rfl
@[simp] theorem State.setEnc_hostMem (n : Nat) (e : Enc) : (s.setEnc n e).hostMem = s.hostMem := rfl
@[simp] theorem State.setEnc_freeCtr (n : Nat) (e : Enc) : (s.setEnc n e).freeCtr = s.freeCtr := rfl
@[simp] theorem State.setEnc_upset (n : Nat) (e : Enc) : (s.setEnc n e).upset = s.upset := rfl
@[simp] theorem State.setEnc_tb (n : Nat) (e : Enc) : (s.setEnc n e).tb = s.tb := rfl
@[simp] theorem State.setEnc_power (n : Nat) (e : Enc) : (s.setEnc n e).power = s.power := rfl
@[simp] theorem State.setEnc_host (n : Nat) (e : Enc) : (s.setEnc n e).host = s.host := rfl
@[simp] theorem State.setEnc_cask (n : Nat) (e : Enc) : (s.setEnc n e).cask = s.cask := rfl
@[simp] theorem State.setEnc_sec (n : Nat) (e : Enc) : (s.setEnc n e).sec = s.sec := rfl
@[simp] theorem State.setEnc_ctx (n : Nat) (e : Enc) : (s.setEnc n e).ctx = s.ctx := rfl
@[simp] theorem State.setEnc_buf (n : Nat) (e : Enc) : (s.setEnc n e).buf = s.buf := rfl
@[simp] theorem State.setEnc_lane (n : Nat) (e : Enc) : (s.setEnc n e).lane = s.lane := rfl
@[simp] theorem State.setEnc_noz (n : Nat) (e : Enc) : (s.setEnc n e).noz = s.noz := rfl
@[simp] theorem State.setEnc_hl (n : Nat) (e : Enc) : (s.setEnc n e).hl = s.hl := rfl
@[simp] theorem State.setEnc_fab (n : Nat) (e : Enc) : (s.setEnc n e).fab = s.fab := rfl
@[simp] theorem State.setEnc_twin (n : Nat) (e : Enc) : (s.setEnc n e).twin = s.twin := rfl
@[simp] theorem State.setEnc_eth (n : Nat) (e : Enc) : (s.setEnc n e).eth = s.eth := rfl
@[simp] theorem State.setEnc_safe (n : Nat) (e : Enc) : (s.setEnc n e).safe = s.safe := rfl
@[simp] theorem State.setEnc_cyc (n : Nat) (e : Enc) : (s.setEnc n e).cyc = s.cyc := rfl
@[simp] theorem State.setEnc_kiln (n : Nat) (e : Enc) : (s.setEnc n e).kiln = s.kiln := rfl
@[simp] theorem State.setEnc_sb (n : Nat) (e : Enc) : (s.setEnc n e).sb = s.sb := rfl
@[simp] theorem State.setEnc_can (n : Nat) (e : Enc) : (s.setEnc n e).can = s.can := rfl
@[simp] theorem State.setEnc_loop (n : Nat) (e : Enc) : (s.setEnc n e).loop = s.loop := rfl
@[simp] theorem State.setEnc_trim (n : Nat) (e : Enc) : (s.setEnc n e).trim = s.trim := rfl

/-! setBucket -/
@[simp] theorem State.setBucket_pending (b : Nat) (k : Bucket) : (s.setBucket b k).pending = s.pending := rfl
@[simp] theorem State.setBucket_out (b : Nat) (k : Bucket) : (s.setBucket b k).out = s.out := rfl
@[simp] theorem State.setBucket_regs (b : Nat) (k : Bucket) : (s.setBucket b k).regs = s.regs := rfl
@[simp] theorem State.setBucket_latch (b : Nat) (k : Bucket) : (s.setBucket b k).latch = s.latch := rfl
@[simp] theorem State.setBucket_hold (b : Nat) (k : Bucket) : (s.setBucket b k).hold = s.hold := rfl
@[simp] theorem State.setBucket_hostMem (b : Nat) (k : Bucket) : (s.setBucket b k).hostMem = s.hostMem := rfl
@[simp] theorem State.setBucket_freeCtr (b : Nat) (k : Bucket) : (s.setBucket b k).freeCtr = s.freeCtr := rfl
@[simp] theorem State.setBucket_upset (b : Nat) (k : Bucket) : (s.setBucket b k).upset = s.upset := rfl
@[simp] theorem State.setBucket_tb (b : Nat) (k : Bucket) : (s.setBucket b k).tb = s.tb := rfl
@[simp] theorem State.setBucket_pos (b : Nat) (k : Bucket) : (s.setBucket b k).pos = s.pos := rfl
@[simp] theorem State.setBucket_power (b : Nat) (k : Bucket) : (s.setBucket b k).power = s.power := rfl
@[simp] theorem State.setBucket_host (b : Nat) (k : Bucket) : (s.setBucket b k).host = s.host := rfl
@[simp] theorem State.setBucket_sec (b : Nat) (k : Bucket) : (s.setBucket b k).sec = s.sec := rfl
@[simp] theorem State.setBucket_ctx (b : Nat) (k : Bucket) : (s.setBucket b k).ctx = s.ctx := rfl
@[simp] theorem State.setBucket_buf (b : Nat) (k : Bucket) : (s.setBucket b k).buf = s.buf := rfl
@[simp] theorem State.setBucket_lane (b : Nat) (k : Bucket) : (s.setBucket b k).lane = s.lane := rfl
@[simp] theorem State.setBucket_noz (b : Nat) (k : Bucket) : (s.setBucket b k).noz = s.noz := rfl
@[simp] theorem State.setBucket_hl (b : Nat) (k : Bucket) : (s.setBucket b k).hl = s.hl := rfl
@[simp] theorem State.setBucket_fab (b : Nat) (k : Bucket) : (s.setBucket b k).fab = s.fab := rfl
@[simp] theorem State.setBucket_twin (b : Nat) (k : Bucket) : (s.setBucket b k).twin = s.twin := rfl
@[simp] theorem State.setBucket_eth (b : Nat) (k : Bucket) : (s.setBucket b k).eth = s.eth := rfl
@[simp] theorem State.setBucket_safe (b : Nat) (k : Bucket) : (s.setBucket b k).safe = s.safe := rfl
@[simp] theorem State.setBucket_cyc (b : Nat) (k : Bucket) : (s.setBucket b k).cyc = s.cyc := rfl
@[simp] theorem State.setBucket_kiln (b : Nat) (k : Bucket) : (s.setBucket b k).kiln = s.kiln := rfl
@[simp] theorem State.setBucket_sb (b : Nat) (k : Bucket) : (s.setBucket b k).sb = s.sb := rfl
@[simp] theorem State.setBucket_can (b : Nat) (k : Bucket) : (s.setBucket b k).can = s.can := rfl
@[simp] theorem State.setBucket_loop (b : Nat) (k : Bucket) : (s.setBucket b k).loop = s.loop := rfl
@[simp] theorem State.setBucket_trim (b : Nat) (k : Bucket) : (s.setBucket b k).trim = s.trim := rfl

/-! Registers read back. -/
@[simp] theorem State.rd_wr_self (off : Nat) (v : Word) : (s.wr off v).rd off = v := SMap.get_set_self _ _ _ _
theorem State.rd_wr_ne {off a : Nat} (v : Word) (h : a ≠ off) : (s.wr off v).rd a = s.rd a := SMap.get_set_ne _ _ _ _ h
/-- What a register reads as after a write of one. -/
theorem State.rd_wr (off a : Nat) (v : Word) : (s.wr off v).rd a = if a = off then v else s.rd a := by
  split
  · next h => subst h; exact s.rd_wr_self a v
  · next h => exact s.rd_wr_ne v h
@[simp] theorem State.rd_setF_self (off hi lo v : Nat) : (s.setF off hi lo v).rd off = setBits (s.rd off) hi lo v := s.rd_wr_self off _
theorem State.rd_setF_ne {off a : Nat} (hi lo v : Nat) (h : a ≠ off) : (s.setF off hi lo v).rd a = s.rd a := s.rd_wr_ne _ h
@[simp] theorem State.rd_orW_self (off : Nat) (m : Word) : (s.orW off m).rd off = s.rd off ||| m := s.rd_wr_self off _
theorem State.rd_orW_ne {off a : Nat} (m : Word) (h : a ≠ off) : (s.orW off m).rd a = s.rd a := s.rd_wr_ne _ h
@[simp] theorem State.rd_bump_self (off : Nat) : (s.bump off).rd off = satInc (s.rd off) := s.rd_wr_self off _
theorem State.rd_bump_ne {off a : Nat} (h : a ≠ off) : (s.bump off).rd a = s.rd a := s.rd_wr_ne _ h
@[simp] theorem State.rd_bumpWrap_self (off : Nat) : (s.bumpWrap off).rd off = s.rd off + 1 := s.rd_wr_self off _
theorem State.rd_bumpWrap_ne {off a : Nat} (h : a ≠ off) : (s.bumpWrap off).rd a = s.rd a := s.rd_wr_ne _ h
/-- Clearing a range of registers gives them their reset values and leaves the others. -/
theorem State.rd_clearRegs (lo hi a : Nat) : (s.clearRegs lo hi).rd a = if lo ≤ a ∧ a < hi then resetWord a else s.rd a := by
  unfold State.clearRegs State.rd SMap.get
  simp only [SMap.find_dropRange]
  split <;> rfl
/-- Registers depend on the register file alone. -/
theorem State.rd_congr {s t : State} (h : t.regs = s.regs) (a : Nat) : t.rd a = s.rd a := by unfold State.rd; rw [h]

@[simp] theorem State.rd_latch64 (pf1 : Bool) (off : Nat) (v : DWord) (a : Nat) : (s.latch64 pf1 off v).rd a = s.rd a := rfl
@[simp] theorem State.rd_emit (e : Emit) (a : Nat) : (s.emit e).rd a = s.rd a := rfl
@[simp] theorem State.rd_hostWrite (addr : Nat) (b : List Byte) (a : Nat) : (s.hostWrite addr b).rd a = s.rd a := rfl
@[simp] theorem State.rd_setCtx (n : Nat) (c : Ctx) (a : Nat) : (s.setCtx n c).rd a = s.rd a := rfl
@[simp] theorem State.rd_modCtx (n : Nat) (f : Ctx → Ctx) (a : Nat) : (s.modCtx n f).rd a = s.rd a := rfl
@[simp] theorem State.rd_setRing (n : Nat) (r : CtxRing) (a : Nat) : (s.setRing n r).rd a = s.rd a := rfl
@[simp] theorem State.rd_setHl (n : Nat) (h : Hl) (a : Nat) : (s.setHl n h).rd a = s.rd a := rfl
@[simp] theorem State.rd_modHl (n : Nat) (f : Hl → Hl) (a : Nat) : (s.modHl n f).rd a = s.rd a := rfl
@[simp] theorem State.rd_setNoz (n : Nat) (c : NozCh) (a : Nat) : (s.setNoz n c).rd a = s.rd a := rfl
@[simp] theorem State.rd_setLane (n : Nat) (l : Lane) (a : Nat) : (s.setLane n l).rd a = s.rd a := rfl
@[simp] theorem State.rd_setPref (n : Nat) (p : Pref) (a : Nat) : (s.setPref n p).rd a = s.rd a := rfl
@[simp] theorem State.rd_setEnc (n : Nat) (e : Enc) (a : Nat) : (s.setEnc n e).rd a = s.rd a := rfl
@[simp] theorem State.rd_setBucket (b : Nat) (k : Bucket) (a : Nat) : (s.setBucket b k).rd a = s.rd a := rfl

/-! Bank entries read back. -/
@[simp] theorem State.ctxOf_setCtx_self (n : Nat) (x : Ctx) : (s.setCtx n x).ctxOf n = x := SMap.get_set_self _ _ _ _
theorem State.ctxOf_setCtx_ne {n m : Nat} (x : Ctx) (h : m ≠ n) : (s.setCtx n x).ctxOf m = s.ctxOf m := SMap.get_set_ne _ _ _ _ h
@[simp] theorem State.ringOf_setRing_self (n : Nat) (x : CtxRing) : (s.setRing n x).ringOf n = x := SMap.get_set_self _ _ _ _
theorem State.ringOf_setRing_ne {n m : Nat} (x : CtxRing) (h : m ≠ n) : (s.setRing n x).ringOf m = s.ringOf m := SMap.get_set_ne _ _ _ _ h
@[simp] theorem State.hlOf_setHl_self (n : Nat) (x : Hl) : (s.setHl n x).hlOf n = x := SMap.get_set_self _ _ _ _
theorem State.hlOf_setHl_ne {n m : Nat} (x : Hl) (h : m ≠ n) : (s.setHl n x).hlOf m = s.hlOf m := SMap.get_set_ne _ _ _ _ h
@[simp] theorem State.nozOf_setNoz_self (n : Nat) (x : NozCh) : (s.setNoz n x).nozOf n = x := SMap.get_set_self _ _ _ _
theorem State.nozOf_setNoz_ne {n m : Nat} (x : NozCh) (h : m ≠ n) : (s.setNoz n x).nozOf m = s.nozOf m := SMap.get_set_ne _ _ _ _ h
@[simp] theorem State.laneOf_setLane_self (n : Nat) (x : Lane) : (s.setLane n x).laneOf n = x := SMap.get_set_self _ _ _ _
theorem State.laneOf_setLane_ne {n m : Nat} (x : Lane) (h : m ≠ n) : (s.setLane n x).laneOf m = s.laneOf m := SMap.get_set_ne _ _ _ _ h
@[simp] theorem State.prefOf_setPref_self (n : Nat) (x : Pref) : (s.setPref n x).prefOf n = x := SMap.get_set_self _ _ _ _
theorem State.prefOf_setPref_ne {n m : Nat} (x : Pref) (h : m ≠ n) : (s.setPref n x).prefOf m = s.prefOf m := SMap.get_set_ne _ _ _ _ h
@[simp] theorem State.encOf_setEnc_self (n : Nat) (x : Enc) : (s.setEnc n x).encOf n = x := SMap.get_set_self _ _ _ _
theorem State.encOf_setEnc_ne {n m : Nat} (x : Enc) (h : m ≠ n) : (s.setEnc n x).encOf m = s.encOf m := SMap.get_set_ne _ _ _ _ h
@[simp] theorem State.ctxOf_modCtx_self (n : Nat) (f : Ctx → Ctx) : (s.modCtx n f).ctxOf n = f (s.ctxOf n) := SMap.get_set_self _ _ _ _
theorem State.ctxOf_modCtx_ne {n m : Nat} (f : Ctx → Ctx) (h : m ≠ n) : (s.modCtx n f).ctxOf m = s.ctxOf m := SMap.get_set_ne _ _ _ _ h
@[simp] theorem State.hlOf_modHl_self (n : Nat) (f : Hl → Hl) : (s.modHl n f).hlOf n = f (s.hlOf n) := SMap.get_set_self _ _ _ _
theorem State.hlOf_modHl_ne {n m : Nat} (f : Hl → Hl) (h : m ≠ n) : (s.modHl n f).hlOf m = s.hlOf m := SMap.get_set_ne _ _ _ _ h

/-- What `f` keeps for every number of a list, the list keeps. -/
theorem State.each_keeps {β : Type} (g : State → β) (l : List Nat) (f : State → Nat → State) (h : ∀ s n, g (f s n) = g s) :
    g (s.each l f) = g s := by
  unfold State.each
  induction l generalizing s with
  | nil => rfl
  | cons n r ih => rw [List.foldl_cons, ih, h]

end Sys2Proof.Machine
end

