-- ==== Sys2Proof/Laws/Event.lean ====
section
/-!
SUPPORT. What raising an event changes (R104, R105, R505, R509 to R511): the registers of its counters, host memory, the interrupts,
the event ring and the staging of Cask records; every other part of the state stays.
-/
namespace Sys2Proof.Machine
variable (s : State)

/-! irq -/
@[simp] theorem State.irq_pending (pf1 : Bool) (vec : Nat) : (s.irq pf1 vec).pending = s.pending := by unfold State.irq; dsimp only; split_ifs <;> rfl
@[simp] theorem State.irq_regs (pf1 : Bool) (vec : Nat) : (s.irq pf1 vec).regs = s.regs := by unfold State.irq; dsimp only; split_ifs <;> rfl
@[simp] theorem State.irq_latch (pf1 : Bool) (vec : Nat) : (s.irq pf1 vec).latch = s.latch := by unfold State.irq; dsimp only; split_ifs <;> rfl
@[simp] theorem State.irq_hold (pf1 : Bool) (vec : Nat) : (s.irq pf1 vec).hold = s.hold := by unfold State.irq; dsimp only; split_ifs <;> rfl
@[simp] theorem State.irq_hostMem (pf1 : Bool) (vec : Nat) : (s.irq pf1 vec).hostMem = s.hostMem := by unfold State.irq; dsimp only; split_ifs <;> rfl
@[simp] theorem State.irq_freeCtr (pf1 : Bool) (vec : Nat) : (s.irq pf1 vec).freeCtr = s.freeCtr := by unfold State.irq; dsimp only; split_ifs <;> rfl
@[simp] theorem State.irq_tb (pf1 : Bool) (vec : Nat) : (s.irq pf1 vec).tb = s.tb := by unfold State.irq; dsimp only; split_ifs <;> rfl
@[simp] theorem State.irq_pos (pf1 : Bool) (vec : Nat) : (s.irq pf1 vec).pos = s.pos := by unfold State.irq; dsimp only; split_ifs <;> rfl
@[simp] theorem State.irq_power (pf1 : Bool) (vec : Nat) : (s.irq pf1 vec).power = s.power := by unfold State.irq; dsimp only; split_ifs <;> rfl
@[simp] theorem State.irq_cask (pf1 : Bool) (vec : Nat) : (s.irq pf1 vec).cask = s.cask := by unfold State.irq; dsimp only; split_ifs <;> rfl
@[simp] theorem State.irq_sec (pf1 : Bool) (vec : Nat) : (s.irq pf1 vec).sec = s.sec := by unfold State.irq; dsimp only; split_ifs <;> rfl
@[simp] theorem State.irq_ctx (pf1 : Bool) (vec : Nat) : (s.irq pf1 vec).ctx = s.ctx := by unfold State.irq; dsimp only; split_ifs <;> rfl
@[simp] theorem State.irq_buf (pf1 : Bool) (vec : Nat) : (s.irq pf1 vec).buf = s.buf := by unfold State.irq; dsimp only; split_ifs <;> rfl
@[simp] theorem State.irq_lane (pf1 : Bool) (vec : Nat) : (s.irq pf1 vec).lane = s.lane := by unfold State.irq; dsimp only; split_ifs <;> rfl
@[simp] theorem State.irq_noz (pf1 : Bool) (vec : Nat) : (s.irq pf1 vec).noz = s.noz := by unfold State.irq; dsimp only; split_ifs <;> rfl
@[simp] theorem State.irq_hl (pf1 : Bool) (vec : Nat) : (s.irq pf1 vec).hl = s.hl := by unfold State.irq; dsimp only; split_ifs <;> rfl
@[simp] theorem State.irq_fab (pf1 : Bool) (vec : Nat) : (s.irq pf1 vec).fab = s.fab := by unfold State.irq; dsimp only; split_ifs <;> rfl
@[simp] theorem State.irq_twin (pf1 : Bool) (vec : Nat) : (s.irq pf1 vec).twin = s.twin := by unfold State.irq; dsimp only; split_ifs <;> rfl
@[simp] theorem State.irq_eth (pf1 : Bool) (vec : Nat) : (s.irq pf1 vec).eth = s.eth := by unfold State.irq; dsimp only; split_ifs <;> rfl
@[simp] theorem State.irq_safe (pf1 : Bool) (vec : Nat) : (s.irq pf1 vec).safe = s.safe := by unfold State.irq; dsimp only; split_ifs <;> rfl
@[simp] theorem State.irq_cyc (pf1 : Bool) (vec : Nat) : (s.irq pf1 vec).cyc = s.cyc := by unfold State.irq; dsimp only; split_ifs <;> rfl
@[simp] theorem State.irq_kiln (pf1 : Bool) (vec : Nat) : (s.irq pf1 vec).kiln = s.kiln := by unfold State.irq; dsimp only; split_ifs <;> rfl
@[simp] theorem State.irq_sb (pf1 : Bool) (vec : Nat) : (s.irq pf1 vec).sb = s.sb := by unfold State.irq; dsimp only; split_ifs <;> rfl
@[simp] theorem State.irq_can (pf1 : Bool) (vec : Nat) : (s.irq pf1 vec).can = s.can := by unfold State.irq; dsimp only; split_ifs <;> rfl
@[simp] theorem State.irq_loop (pf1 : Bool) (vec : Nat) : (s.irq pf1 vec).loop = s.loop := by unfold State.irq; dsimp only; split_ifs <;> rfl
@[simp] theorem State.irq_trim (pf1 : Bool) (vec : Nat) : (s.irq pf1 vec).trim = s.trim := by unfold State.irq; dsimp only; split_ifs <;> rfl

/-! evtModerate -/
@[simp] theorem State.evtModerate_pending : (s.evtModerate).pending = s.pending := by unfold State.evtModerate; dsimp only; split_ifs <;> simp
@[simp] theorem State.evtModerate_regs : (s.evtModerate).regs = s.regs := by unfold State.evtModerate; dsimp only; split_ifs <;> simp
@[simp] theorem State.evtModerate_latch : (s.evtModerate).latch = s.latch := by unfold State.evtModerate; dsimp only; split_ifs <;> simp
@[simp] theorem State.evtModerate_hold : (s.evtModerate).hold = s.hold := by unfold State.evtModerate; dsimp only; split_ifs <;> simp
@[simp] theorem State.evtModerate_hostMem : (s.evtModerate).hostMem = s.hostMem := by unfold State.evtModerate; dsimp only; split_ifs <;> simp
@[simp] theorem State.evtModerate_freeCtr : (s.evtModerate).freeCtr = s.freeCtr := by unfold State.evtModerate; dsimp only; split_ifs <;> simp
@[simp] theorem State.evtModerate_tb : (s.evtModerate).tb = s.tb := by unfold State.evtModerate; dsimp only; split_ifs <;> simp
@[simp] theorem State.evtModerate_pos : (s.evtModerate).pos = s.pos := by unfold State.evtModerate; dsimp only; split_ifs <;> simp
@[simp] theorem State.evtModerate_power : (s.evtModerate).power = s.power := by unfold State.evtModerate; dsimp only; split_ifs <;> simp
@[simp] theorem State.evtModerate_cask : (s.evtModerate).cask = s.cask := by unfold State.evtModerate; dsimp only; split_ifs <;> simp
@[simp] theorem State.evtModerate_sec : (s.evtModerate).sec = s.sec := by unfold State.evtModerate; dsimp only; split_ifs <;> simp
@[simp] theorem State.evtModerate_ctx : (s.evtModerate).ctx = s.ctx := by unfold State.evtModerate; dsimp only; split_ifs <;> simp
@[simp] theorem State.evtModerate_buf : (s.evtModerate).buf = s.buf := by unfold State.evtModerate; dsimp only; split_ifs <;> simp
@[simp] theorem State.evtModerate_lane : (s.evtModerate).lane = s.lane := by unfold State.evtModerate; dsimp only; split_ifs <;> simp
@[simp] theorem State.evtModerate_noz : (s.evtModerate).noz = s.noz := by unfold State.evtModerate; dsimp only; split_ifs <;> simp
@[simp] theorem State.evtModerate_hl : (s.evtModerate).hl = s.hl := by unfold State.evtModerate; dsimp only; split_ifs <;> simp
@[simp] theorem State.evtModerate_fab : (s.evtModerate).fab = s.fab := by unfold State.evtModerate; dsimp only; split_ifs <;> simp
@[simp] theorem State.evtModerate_twin : (s.evtModerate).twin = s.twin := by unfold State.evtModerate; dsimp only; split_ifs <;> simp
@[simp] theorem State.evtModerate_eth : (s.evtModerate).eth = s.eth := by unfold State.evtModerate; dsimp only; split_ifs <;> simp
@[simp] theorem State.evtModerate_safe : (s.evtModerate).safe = s.safe := by unfold State.evtModerate; dsimp only; split_ifs <;> simp
@[simp] theorem State.evtModerate_cyc : (s.evtModerate).cyc = s.cyc := by unfold State.evtModerate; dsimp only; split_ifs <;> simp
@[simp] theorem State.evtModerate_kiln : (s.evtModerate).kiln = s.kiln := by unfold State.evtModerate; dsimp only; split_ifs <;> simp
@[simp] theorem State.evtModerate_sb : (s.evtModerate).sb = s.sb := by unfold State.evtModerate; dsimp only; split_ifs <;> simp
@[simp] theorem State.evtModerate_can : (s.evtModerate).can = s.can := by unfold State.evtModerate; dsimp only; split_ifs <;> simp
@[simp] theorem State.evtModerate_loop : (s.evtModerate).loop = s.loop := by unfold State.evtModerate; dsimp only; split_ifs <;> simp
@[simp] theorem State.evtModerate_trim : (s.evtModerate).trim = s.trim := by unfold State.evtModerate; dsimp only; split_ifs <;> simp

/-! evtPost -/
@[simp] theorem State.evtPost_pending (code n : Nat) (args : List Word) (q : Word) : (s.evtPost code n args q).pending = s.pending := by unfold State.evtPost; simp
@[simp] theorem State.evtPost_regs (code n : Nat) (args : List Word) (q : Word) : (s.evtPost code n args q).regs = s.regs := by unfold State.evtPost; simp
@[simp] theorem State.evtPost_latch (code n : Nat) (args : List Word) (q : Word) : (s.evtPost code n args q).latch = s.latch := by unfold State.evtPost; simp
@[simp] theorem State.evtPost_hold (code n : Nat) (args : List Word) (q : Word) : (s.evtPost code n args q).hold = s.hold := by unfold State.evtPost; simp
@[simp] theorem State.evtPost_freeCtr (code n : Nat) (args : List Word) (q : Word) : (s.evtPost code n args q).freeCtr = s.freeCtr := by unfold State.evtPost; simp
@[simp] theorem State.evtPost_tb (code n : Nat) (args : List Word) (q : Word) : (s.evtPost code n args q).tb = s.tb := by unfold State.evtPost; simp
@[simp] theorem State.evtPost_pos (code n : Nat) (args : List Word) (q : Word) : (s.evtPost code n args q).pos = s.pos := by unfold State.evtPost; simp
@[simp] theorem State.evtPost_power (code n : Nat) (args : List Word) (q : Word) : (s.evtPost code n args q).power = s.power := by unfold State.evtPost; simp
@[simp] theorem State.evtPost_cask (code n : Nat) (args : List Word) (q : Word) : (s.evtPost code n args q).cask = s.cask := by unfold State.evtPost; simp
@[simp] theorem State.evtPost_sec (code n : Nat) (args : List Word) (q : Word) : (s.evtPost code n args q).sec = s.sec := by unfold State.evtPost; simp
@[simp] theorem State.evtPost_ctx (code n : Nat) (args : List Word) (q : Word) : (s.evtPost code n args q).ctx = s.ctx := by unfold State.evtPost; simp
@[simp] theorem State.evtPost_buf (code n : Nat) (args : List Word) (q : Word) : (s.evtPost code n args q).buf = s.buf := by unfold State.evtPost; simp
@[simp] theorem State.evtPost_lane (code n : Nat) (args : List Word) (q : Word) : (s.evtPost code n args q).lane = s.lane := by unfold State.evtPost; simp
@[simp] theorem State.evtPost_noz (code n : Nat) (args : List Word) (q : Word) : (s.evtPost code n args q).noz = s.noz := by unfold State.evtPost; simp
@[simp] theorem State.evtPost_hl (code n : Nat) (args : List Word) (q : Word) : (s.evtPost code n args q).hl = s.hl := by unfold State.evtPost; simp
@[simp] theorem State.evtPost_fab (code n : Nat) (args : List Word) (q : Word) : (s.evtPost code n args q).fab = s.fab := by unfold State.evtPost; simp
@[simp] theorem State.evtPost_twin (code n : Nat) (args : List Word) (q : Word) : (s.evtPost code n args q).twin = s.twin := by unfold State.evtPost; simp
@[simp] theorem State.evtPost_eth (code n : Nat) (args : List Word) (q : Word) : (s.evtPost code n args q).eth = s.eth := by unfold State.evtPost; simp
@[simp] theorem State.evtPost_safe (code n : Nat) (args : List Word) (q : Word) : (s.evtPost code n args q).safe = s.safe := by unfold State.evtPost; simp
@[simp] theorem State.evtPost_cyc (code n : Nat) (args : List Word) (q : Word) : (s.evtPost code n args q).cyc = s.cyc := by unfold State.evtPost; simp
@[simp] theorem State.evtPost_kiln (code n : Nat) (args : List Word) (q : Word) : (s.evtPost code n args q).kiln = s.kiln := by unfold State.evtPost; simp
@[simp] theorem State.evtPost_sb (code n : Nat) (args : List Word) (q : Word) : (s.evtPost code n args q).sb = s.sb := by unfold State.evtPost; simp
@[simp] theorem State.evtPost_can (code n : Nat) (args : List Word) (q : Word) : (s.evtPost code n args q).can = s.can := by unfold State.evtPost; simp
@[simp] theorem State.evtPost_loop (code n : Nat) (args : List Word) (q : Word) : (s.evtPost code n args q).loop = s.loop := by unfold State.evtPost; simp
@[simp] theorem State.evtPost_trim (code n : Nat) (args : List Word) (q : Word) : (s.evtPost code n args q).trim = s.trim := by unfold State.evtPost; simp

/-! offerEvt -/
@[simp] theorem State.offerEvt_pending (code n : Nat) (args : List Word) : (s.offerEvt code n args).pending = s.pending := by unfold State.offerEvt State.evtSeq; dsimp only; split_ifs <;> simp
@[simp] theorem State.offerEvt_latch (code n : Nat) (args : List Word) : (s.offerEvt code n args).latch = s.latch := by unfold State.offerEvt State.evtSeq; dsimp only; split_ifs <;> simp
@[simp] theorem State.offerEvt_hold (code n : Nat) (args : List Word) : (s.offerEvt code n args).hold = s.hold := by unfold State.offerEvt State.evtSeq; dsimp only; split_ifs <;> simp
@[simp] theorem State.offerEvt_freeCtr (code n : Nat) (args : List Word) : (s.offerEvt code n args).freeCtr = s.freeCtr := by unfold State.offerEvt State.evtSeq; dsimp only; split_ifs <;> simp
@[simp] theorem State.offerEvt_tb (code n : Nat) (args : List Word) : (s.offerEvt code n args).tb = s.tb := by unfold State.offerEvt State.evtSeq; dsimp only; split_ifs <;> simp
@[simp] theorem State.offerEvt_pos (code n : Nat) (args : List Word) : (s.offerEvt code n args).pos = s.pos := by unfold State.offerEvt State.evtSeq; dsimp only; split_ifs <;> simp
@[simp] theorem State.offerEvt_power (code n : Nat) (args : List Word) : (s.offerEvt code n args).power = s.power := by unfold State.offerEvt State.evtSeq; dsimp only; split_ifs <;> simp
@[simp] theorem State.offerEvt_cask (code n : Nat) (args : List Word) : (s.offerEvt code n args).cask = s.cask := by unfold State.offerEvt State.evtSeq; dsimp only; split_ifs <;> simp
@[simp] theorem State.offerEvt_sec (code n : Nat) (args : List Word) : (s.offerEvt code n args).sec = s.sec := by unfold State.offerEvt State.evtSeq; dsimp only; split_ifs <;> simp
@[simp] theorem State.offerEvt_ctx (code n : Nat) (args : List Word) : (s.offerEvt code n args).ctx = s.ctx := by unfold State.offerEvt State.evtSeq; dsimp only; split_ifs <;> simp
@[simp] theorem State.offerEvt_buf (code n : Nat) (args : List Word) : (s.offerEvt code n args).buf = s.buf := by unfold State.offerEvt State.evtSeq; dsimp only; split_ifs <;> simp
@[simp] theorem State.offerEvt_lane (code n : Nat) (args : List Word) : (s.offerEvt code n args).lane = s.lane := by unfold State.offerEvt State.evtSeq; dsimp only; split_ifs <;> simp
@[simp] theorem State.offerEvt_noz (code n : Nat) (args : List Word) : (s.offerEvt code n args).noz = s.noz := by unfold State.offerEvt State.evtSeq; dsimp only; split_ifs <;> simp
@[simp] theorem State.offerEvt_hl (code n : Nat) (args : List Word) : (s.offerEvt code n args).hl = s.hl := by unfold State.offerEvt State.evtSeq; dsimp only; split_ifs <;> simp
@[simp] theorem State.offerEvt_fab (code n : Nat) (args : List Word) : (s.offerEvt code n args).fab = s.fab := by unfold State.offerEvt State.evtSeq; dsimp only; split_ifs <;> simp
@[simp] theorem State.offerEvt_twin (code n : Nat) (args : List Word) : (s.offerEvt code n args).twin = s.twin := by unfold State.offerEvt State.evtSeq; dsimp only; split_ifs <;> simp
@[simp] theorem State.offerEvt_eth (code n : Nat) (args : List Word) : (s.offerEvt code n args).eth = s.eth := by unfold State.offerEvt State.evtSeq; dsimp only; split_ifs <;> simp
@[simp] theorem State.offerEvt_safe (code n : Nat) (args : List Word) : (s.offerEvt code n args).safe = s.safe := by unfold State.offerEvt State.evtSeq; dsimp only; split_ifs <;> simp
@[simp] theorem State.offerEvt_cyc (code n : Nat) (args : List Word) : (s.offerEvt code n args).cyc = s.cyc := by unfold State.offerEvt State.evtSeq; dsimp only; split_ifs <;> simp
@[simp] theorem State.offerEvt_kiln (code n : Nat) (args : List Word) : (s.offerEvt code n args).kiln = s.kiln := by unfold State.offerEvt State.evtSeq; dsimp only; split_ifs <;> simp
@[simp] theorem State.offerEvt_sb (code n : Nat) (args : List Word) : (s.offerEvt code n args).sb = s.sb := by unfold State.offerEvt State.evtSeq; dsimp only; split_ifs <;> simp
@[simp] theorem State.offerEvt_can (code n : Nat) (args : List Word) : (s.offerEvt code n args).can = s.can := by unfold State.offerEvt State.evtSeq; dsimp only; split_ifs <;> simp
@[simp] theorem State.offerEvt_loop (code n : Nat) (args : List Word) : (s.offerEvt code n args).loop = s.loop := by unfold State.offerEvt State.evtSeq; dsimp only; split_ifs <;> simp
@[simp] theorem State.offerEvt_trim (code n : Nat) (args : List Word) : (s.offerEvt code n args).trim = s.trim := by unfold State.offerEvt State.evtSeq; dsimp only; split_ifs <;> simp

/-! caskPut -/
@[simp] theorem State.caskPut_pending (code n : Nat) (args : List Word) : (s.caskPut code n args).pending = s.pending := by unfold State.caskPut; dsimp only; split_ifs <;> simp
@[simp] theorem State.caskPut_out (code n : Nat) (args : List Word) : (s.caskPut code n args).out = s.out := by unfold State.caskPut; dsimp only; split_ifs <;> simp
@[simp] theorem State.caskPut_latch (code n : Nat) (args : List Word) : (s.caskPut code n args).latch = s.latch := by unfold State.caskPut; dsimp only; split_ifs <;> simp
@[simp] theorem State.caskPut_hold (code n : Nat) (args : List Word) : (s.caskPut code n args).hold = s.hold := by unfold State.caskPut; dsimp only; split_ifs <;> simp
@[simp] theorem State.caskPut_hostMem (code n : Nat) (args : List Word) : (s.caskPut code n args).hostMem = s.hostMem := by unfold State.caskPut; dsimp only; split_ifs <;> simp
@[simp] theorem State.caskPut_freeCtr (code n : Nat) (args : List Word) : (s.caskPut code n args).freeCtr = s.freeCtr := by unfold State.caskPut; dsimp only; split_ifs <;> simp
@[simp] theorem State.caskPut_tb (code n : Nat) (args : List Word) : (s.caskPut code n args).tb = s.tb := by unfold State.caskPut; dsimp only; split_ifs <;> simp
@[simp] theorem State.caskPut_pos (code n : Nat) (args : List Word) : (s.caskPut code n args).pos = s.pos := by unfold State.caskPut; dsimp only; split_ifs <;> simp
@[simp] theorem State.caskPut_power (code n : Nat) (args : List Word) : (s.caskPut code n args).power = s.power := by unfold State.caskPut; dsimp only; split_ifs <;> simp
@[simp] theorem State.caskPut_host (code n : Nat) (args : List Word) : (s.caskPut code n args).host = s.host := by unfold State.caskPut; dsimp only; split_ifs <;> simp
@[simp] theorem State.caskPut_sec (code n : Nat) (args : List Word) : (s.caskPut code n args).sec = s.sec := by unfold State.caskPut; dsimp only; split_ifs <;> simp
@[simp] theorem State.caskPut_ctx (code n : Nat) (args : List Word) : (s.caskPut code n args).ctx = s.ctx := by unfold State.caskPut; dsimp only; split_ifs <;> simp
@[simp] theorem State.caskPut_buf (code n : Nat) (args : List Word) : (s.caskPut code n args).buf = s.buf := by unfold State.caskPut; dsimp only; split_ifs <;> simp
@[simp] theorem State.caskPut_lane (code n : Nat) (args : List Word) : (s.caskPut code n args).lane = s.lane := by unfold State.caskPut; dsimp only; split_ifs <;> simp
@[simp] theorem State.caskPut_noz (code n : Nat) (args : List Word) : (s.caskPut code n args).noz = s.noz := by unfold State.caskPut; dsimp only; split_ifs <;> simp
@[simp] theorem State.caskPut_hl (code n : Nat) (args : List Word) : (s.caskPut code n args).hl = s.hl := by unfold State.caskPut; dsimp only; split_ifs <;> simp
@[simp] theorem State.caskPut_fab (code n : Nat) (args : List Word) : (s.caskPut code n args).fab = s.fab := by unfold State.caskPut; dsimp only; split_ifs <;> simp
@[simp] theorem State.caskPut_twin (code n : Nat) (args : List Word) : (s.caskPut code n args).twin = s.twin := by unfold State.caskPut; dsimp only; split_ifs <;> simp
@[simp] theorem State.caskPut_eth (code n : Nat) (args : List Word) : (s.caskPut code n args).eth = s.eth := by unfold State.caskPut; dsimp only; split_ifs <;> simp
@[simp] theorem State.caskPut_safe (code n : Nat) (args : List Word) : (s.caskPut code n args).safe = s.safe := by unfold State.caskPut; dsimp only; split_ifs <;> simp
@[simp] theorem State.caskPut_cyc (code n : Nat) (args : List Word) : (s.caskPut code n args).cyc = s.cyc := by unfold State.caskPut; dsimp only; split_ifs <;> simp
@[simp] theorem State.caskPut_kiln (code n : Nat) (args : List Word) : (s.caskPut code n args).kiln = s.kiln := by unfold State.caskPut; dsimp only; split_ifs <;> simp
@[simp] theorem State.caskPut_sb (code n : Nat) (args : List Word) : (s.caskPut code n args).sb = s.sb := by unfold State.caskPut; dsimp only; split_ifs <;> simp
@[simp] theorem State.caskPut_can (code n : Nat) (args : List Word) : (s.caskPut code n args).can = s.can := by unfold State.caskPut; dsimp only; split_ifs <;> simp
@[simp] theorem State.caskPut_loop (code n : Nat) (args : List Word) : (s.caskPut code n args).loop = s.loop := by unfold State.caskPut; dsimp only; split_ifs <;> simp
@[simp] theorem State.caskPut_trim (code n : Nat) (args : List Word) : (s.caskPut code n args).trim = s.trim := by unfold State.caskPut; dsimp only; split_ifs <;> simp

/-! caskStage -/
@[simp] theorem State.caskStage_pending (code n : Nat) (args : List Word) : (s.caskStage code n args).pending = s.pending := by unfold State.caskStage; dsimp only; split <;> (try split_ifs) <;> simp
@[simp] theorem State.caskStage_out (code n : Nat) (args : List Word) : (s.caskStage code n args).out = s.out := by unfold State.caskStage; dsimp only; split <;> (try split_ifs) <;> simp
@[simp] theorem State.caskStage_latch (code n : Nat) (args : List Word) : (s.caskStage code n args).latch = s.latch := by unfold State.caskStage; dsimp only; split <;> (try split_ifs) <;> simp
@[simp] theorem State.caskStage_hold (code n : Nat) (args : List Word) : (s.caskStage code n args).hold = s.hold := by unfold State.caskStage; dsimp only; split <;> (try split_ifs) <;> simp
@[simp] theorem State.caskStage_hostMem (code n : Nat) (args : List Word) : (s.caskStage code n args).hostMem = s.hostMem := by unfold State.caskStage; dsimp only; split <;> (try split_ifs) <;> simp
@[simp] theorem State.caskStage_freeCtr (code n : Nat) (args : List Word) : (s.caskStage code n args).freeCtr = s.freeCtr := by unfold State.caskStage; dsimp only; split <;> (try split_ifs) <;> simp
@[simp] theorem State.caskStage_tb (code n : Nat) (args : List Word) : (s.caskStage code n args).tb = s.tb := by unfold State.caskStage; dsimp only; split <;> (try split_ifs) <;> simp
@[simp] theorem State.caskStage_pos (code n : Nat) (args : List Word) : (s.caskStage code n args).pos = s.pos := by unfold State.caskStage; dsimp only; split <;> (try split_ifs) <;> simp
@[simp] theorem State.caskStage_power (code n : Nat) (args : List Word) : (s.caskStage code n args).power = s.power := by unfold State.caskStage; dsimp only; split <;> (try split_ifs) <;> simp
@[simp] theorem State.caskStage_host (code n : Nat) (args : List Word) : (s.caskStage code n args).host = s.host := by unfold State.caskStage; dsimp only; split <;> (try split_ifs) <;> simp
@[simp] theorem State.caskStage_sec (code n : Nat) (args : List Word) : (s.caskStage code n args).sec = s.sec := by unfold State.caskStage; dsimp only; split <;> (try split_ifs) <;> simp
@[simp] theorem State.caskStage_ctx (code n : Nat) (args : List Word) : (s.caskStage code n args).ctx = s.ctx := by unfold State.caskStage; dsimp only; split <;> (try split_ifs) <;> simp
@[simp] theorem State.caskStage_buf (code n : Nat) (args : List Word) : (s.caskStage code n args).buf = s.buf := by unfold State.caskStage; dsimp only; split <;> (try split_ifs) <;> simp
@[simp] theorem State.caskStage_lane (code n : Nat) (args : List Word) : (s.caskStage code n args).lane = s.lane := by unfold State.caskStage; dsimp only; split <;> (try split_ifs) <;> simp
@[simp] theorem State.caskStage_noz (code n : Nat) (args : List Word) : (s.caskStage code n args).noz = s.noz := by unfold State.caskStage; dsimp only; split <;> (try split_ifs) <;> simp
@[simp] theorem State.caskStage_hl (code n : Nat) (args : List Word) : (s.caskStage code n args).hl = s.hl := by unfold State.caskStage; dsimp only; split <;> (try split_ifs) <;> simp
@[simp] theorem State.caskStage_fab (code n : Nat) (args : List Word) : (s.caskStage code n args).fab = s.fab := by unfold State.caskStage; dsimp only; split <;> (try split_ifs) <;> simp
@[simp] theorem State.caskStage_twin (code n : Nat) (args : List Word) : (s.caskStage code n args).twin = s.twin := by unfold State.caskStage; dsimp only; split <;> (try split_ifs) <;> simp
@[simp] theorem State.caskStage_eth (code n : Nat) (args : List Word) : (s.caskStage code n args).eth = s.eth := by unfold State.caskStage; dsimp only; split <;> (try split_ifs) <;> simp
@[simp] theorem State.caskStage_safe (code n : Nat) (args : List Word) : (s.caskStage code n args).safe = s.safe := by unfold State.caskStage; dsimp only; split <;> (try split_ifs) <;> simp
@[simp] theorem State.caskStage_cyc (code n : Nat) (args : List Word) : (s.caskStage code n args).cyc = s.cyc := by unfold State.caskStage; dsimp only; split <;> (try split_ifs) <;> simp
@[simp] theorem State.caskStage_kiln (code n : Nat) (args : List Word) : (s.caskStage code n args).kiln = s.kiln := by unfold State.caskStage; dsimp only; split <;> (try split_ifs) <;> simp
@[simp] theorem State.caskStage_sb (code n : Nat) (args : List Word) : (s.caskStage code n args).sb = s.sb := by unfold State.caskStage; dsimp only; split <;> (try split_ifs) <;> simp
@[simp] theorem State.caskStage_can (code n : Nat) (args : List Word) : (s.caskStage code n args).can = s.can := by unfold State.caskStage; dsimp only; split <;> (try split_ifs) <;> simp
@[simp] theorem State.caskStage_loop (code n : Nat) (args : List Word) : (s.caskStage code n args).loop = s.loop := by unfold State.caskStage; dsimp only; split <;> (try split_ifs) <;> simp
@[simp] theorem State.caskStage_trim (code n : Nat) (args : List Word) : (s.caskStage code n args).trim = s.trim := by unfold State.caskStage; dsimp only; split <;> (try split_ifs) <;> simp

/-! raise -/
@[simp] theorem State.raise_pending (code n : Nat) (args : List Word) : (s.raise code n args).pending = s.pending := by unfold State.raise; simp
@[simp] theorem State.raise_latch (code n : Nat) (args : List Word) : (s.raise code n args).latch = s.latch := by unfold State.raise; simp
@[simp] theorem State.raise_hold (code n : Nat) (args : List Word) : (s.raise code n args).hold = s.hold := by unfold State.raise; simp
@[simp] theorem State.raise_freeCtr (code n : Nat) (args : List Word) : (s.raise code n args).freeCtr = s.freeCtr := by unfold State.raise; simp
@[simp] theorem State.raise_tb (code n : Nat) (args : List Word) : (s.raise code n args).tb = s.tb := by unfold State.raise; simp
@[simp] theorem State.raise_pos (code n : Nat) (args : List Word) : (s.raise code n args).pos = s.pos := by unfold State.raise; simp
@[simp] theorem State.raise_power (code n : Nat) (args : List Word) : (s.raise code n args).power = s.power := by unfold State.raise; simp
@[simp] theorem State.raise_sec (code n : Nat) (args : List Word) : (s.raise code n args).sec = s.sec := by unfold State.raise; simp
@[simp] theorem State.raise_ctx (code n : Nat) (args : List Word) : (s.raise code n args).ctx = s.ctx := by unfold State.raise; simp
@[simp] theorem State.raise_buf (code n : Nat) (args : List Word) : (s.raise code n args).buf = s.buf := by unfold State.raise; simp
@[simp] theorem State.raise_lane (code n : Nat) (args : List Word) : (s.raise code n args).lane = s.lane := by unfold State.raise; simp
@[simp] theorem State.raise_noz (code n : Nat) (args : List Word) : (s.raise code n args).noz = s.noz := by unfold State.raise; simp
@[simp] theorem State.raise_hl (code n : Nat) (args : List Word) : (s.raise code n args).hl = s.hl := by unfold State.raise; simp
@[simp] theorem State.raise_fab (code n : Nat) (args : List Word) : (s.raise code n args).fab = s.fab := by unfold State.raise; simp
@[simp] theorem State.raise_twin (code n : Nat) (args : List Word) : (s.raise code n args).twin = s.twin := by unfold State.raise; simp
@[simp] theorem State.raise_eth (code n : Nat) (args : List Word) : (s.raise code n args).eth = s.eth := by unfold State.raise; simp
@[simp] theorem State.raise_safe (code n : Nat) (args : List Word) : (s.raise code n args).safe = s.safe := by unfold State.raise; simp
@[simp] theorem State.raise_cyc (code n : Nat) (args : List Word) : (s.raise code n args).cyc = s.cyc := by unfold State.raise; simp
@[simp] theorem State.raise_kiln (code n : Nat) (args : List Word) : (s.raise code n args).kiln = s.kiln := by unfold State.raise; simp
@[simp] theorem State.raise_sb (code n : Nat) (args : List Word) : (s.raise code n args).sb = s.sb := by unfold State.raise; simp
@[simp] theorem State.raise_can (code n : Nat) (args : List Word) : (s.raise code n args).can = s.can := by unfold State.raise; simp
@[simp] theorem State.raise_loop (code n : Nat) (args : List Word) : (s.raise code n args).loop = s.loop := by unfold State.raise; simp
@[simp] theorem State.raise_trim (code n : Nat) (args : List Word) : (s.raise code n args).trim = s.trim := by unfold State.raise; simp

/-! raiseE -/
@[simp] theorem State.raiseE_pending (code n : Nat) (args : List Word) : (s.raiseE code n args).pending = s.pending := by unfold State.raiseE; simp
@[simp] theorem State.raiseE_latch (code n : Nat) (args : List Word) : (s.raiseE code n args).latch = s.latch := by unfold State.raiseE; simp
@[simp] theorem State.raiseE_hold (code n : Nat) (args : List Word) : (s.raiseE code n args).hold = s.hold := by unfold State.raiseE; simp
@[simp] theorem State.raiseE_freeCtr (code n : Nat) (args : List Word) : (s.raiseE code n args).freeCtr = s.freeCtr := by unfold State.raiseE; simp
@[simp] theorem State.raiseE_tb (code n : Nat) (args : List Word) : (s.raiseE code n args).tb = s.tb := by unfold State.raiseE; simp
@[simp] theorem State.raiseE_pos (code n : Nat) (args : List Word) : (s.raiseE code n args).pos = s.pos := by unfold State.raiseE; simp
@[simp] theorem State.raiseE_power (code n : Nat) (args : List Word) : (s.raiseE code n args).power = s.power := by unfold State.raiseE; simp
@[simp] theorem State.raiseE_cask (code n : Nat) (args : List Word) : (s.raiseE code n args).cask = s.cask := by unfold State.raiseE; simp
@[simp] theorem State.raiseE_sec (code n : Nat) (args : List Word) : (s.raiseE code n args).sec = s.sec := by unfold State.raiseE; simp
@[simp] theorem State.raiseE_ctx (code n : Nat) (args : List Word) : (s.raiseE code n args).ctx = s.ctx := by unfold State.raiseE; simp
@[simp] theorem State.raiseE_buf (code n : Nat) (args : List Word) : (s.raiseE code n args).buf = s.buf := by unfold State.raiseE; simp
@[simp] theorem State.raiseE_lane (code n : Nat) (args : List Word) : (s.raiseE code n args).lane = s.lane := by unfold State.raiseE; simp
@[simp] theorem State.raiseE_noz (code n : Nat) (args : List Word) : (s.raiseE code n args).noz = s.noz := by unfold State.raiseE; simp
@[simp] theorem State.raiseE_hl (code n : Nat) (args : List Word) : (s.raiseE code n args).hl = s.hl := by unfold State.raiseE; simp
@[simp] theorem State.raiseE_fab (code n : Nat) (args : List Word) : (s.raiseE code n args).fab = s.fab := by unfold State.raiseE; simp
@[simp] theorem State.raiseE_twin (code n : Nat) (args : List Word) : (s.raiseE code n args).twin = s.twin := by unfold State.raiseE; simp
@[simp] theorem State.raiseE_eth (code n : Nat) (args : List Word) : (s.raiseE code n args).eth = s.eth := by unfold State.raiseE; simp
@[simp] theorem State.raiseE_safe (code n : Nat) (args : List Word) : (s.raiseE code n args).safe = s.safe := by unfold State.raiseE; simp
@[simp] theorem State.raiseE_cyc (code n : Nat) (args : List Word) : (s.raiseE code n args).cyc = s.cyc := by unfold State.raiseE; simp
@[simp] theorem State.raiseE_kiln (code n : Nat) (args : List Word) : (s.raiseE code n args).kiln = s.kiln := by unfold State.raiseE; simp
@[simp] theorem State.raiseE_sb (code n : Nat) (args : List Word) : (s.raiseE code n args).sb = s.sb := by unfold State.raiseE; simp
@[simp] theorem State.raiseE_can (code n : Nat) (args : List Word) : (s.raiseE code n args).can = s.can := by unfold State.raiseE; simp
@[simp] theorem State.raiseE_loop (code n : Nat) (args : List Word) : (s.raiseE code n args).loop = s.loop := by unfold State.raiseE; simp
@[simp] theorem State.raiseE_trim (code n : Nat) (args : List Word) : (s.raiseE code n args).trim = s.trim := by unfold State.raiseE; simp

/-- The registers in which events are counted. -/
def evtRegs : List Nat := [Reg.HOST_EVT_LOST, Reg.CASK_OVERFLOW, Reg.CASK_MISSED, Reg.CASK_SUPPR]

theorem State.rd_offerEvt {a : Nat} (code n : Nat) (args : List Word) (h : a ∉ evtRegs) : (s.offerEvt code n args).rd a = s.rd a := by
  simp only [evtRegs, List.mem_cons, not_or] at h
  unfold State.offerEvt State.evtSeq
  dsimp only
  split_ifs
  · exact State.rd_congr (by unfold State.evtPost; simp) a
  · rw [State.rd_bump_ne _ h.1]; rfl
  · rfl

theorem State.rd_caskPut {a : Nat} (code n : Nat) (args : List Word) (h : a ∉ evtRegs) : (s.caskPut code n args).rd a = s.rd a := by
  simp only [evtRegs, List.mem_cons, not_or] at h
  unfold State.caskPut
  dsimp only
  split_ifs
  · rw [State.rd_bump_ne _ h.2.1]; rfl
  · rfl

theorem State.rd_caskStage {a : Nat} (code n : Nat) (args : List Word) (h : a ∉ evtRegs) : (s.caskStage code n args).rd a = s.rd a := by
  have h' := h
  simp only [evtRegs, List.mem_cons, not_or] at h'
  unfold State.caskStage
  dsimp only
  split
  · rw [State.rd_wr_ne _ _ h'.2.2.1]; rfl
  · split
    · exact s.rd_caskPut code n args h
    · split
      · rw [State.rd_bump_ne _ h'.2.2.2.1]; simp
      · rw [State.rd_caskPut _ _ _ _ h]; simp

/-- Raising an event leaves every register but its counters. -/
theorem State.rd_raise {a : Nat} (code n : Nat) (args : List Word) (h : a ∉ evtRegs) : (s.raise code n args).rd a = s.rd a := by
  unfold State.raise; rw [State.rd_caskStage _ _ _ _ h, State.rd_offerEvt _ _ _ _ h]

theorem State.rd_raiseE {a : Nat} (code n : Nat) (args : List Word) (h : a ∉ evtRegs) : (s.raiseE code n args).rd a = s.rd a :=
  State.rd_offerEvt _ _ _ _ h

end Sys2Proof.Machine
end

