-- ==== Sys2Proof/Laws/Still.lean ====
section
/-!
SUPPORT. What the operations leave as it is: `State.still` gathers the queue, the time base's count, the safety island, PD2's power and the
fuses, and one lemma per operation says that it keeps them (or, for those of the island, that it keeps all but the island). `exec_still`
says it of every row but the loud ones, `exec_facts` what every row keeps.
-/
open Sys2Proof
namespace Sys2Proof.Machine

/-- What no reset but loss of power changes of the fuses (R535, R536). -/
def Sec.fuses (x : Sec) : SMap Owner × Bool × Bool × Nat := (x.owner, x.reqFw, x.reqNv, x.svnMin)

/-- PD2 is on. -/
def Power.pd2 (p : Power) : Bool := p.on.getLsbD 2
@[simp] theorem pd2_mk (p : Power) {goingOn goingOff : BitVec 8} {halted : SMap Nat} {phase : Nat} {started ready recovery unitB pfail : Bool} {pfailAt startAt : DWord} {refLost : Bool} {resetKey : Option DWord} {tjHigh s4Done s5Done : Bool} :
  Power.pd2 ⟨p.on, goingOn, goingOff, halted, phase, started, ready, recovery, unitB, pfail, pfailAt, startAt, refLost, resetKey, tjHigh, s4Done, s5Done⟩ = p.pd2 := Eq.trans rfl rfl

def State.still (s : State) := (s.pending, s.tb.count, s.safe, s.power.pd2, s.sec.fuses)

@[simp] theorem still_mk (s : State) {out : List Emit} {regs : SMap Word} {latch : SMap (Option DWord)} {hold : SMap (Option Word)} {hostMem : Mem} {freeCtr : Nat} {upset : Option Nat} {tb : TimeBase} {pos : PosTime} {power : Power} {host : HostIf} {cask : Cask} {sec : Sec} {ctx : SMap Ctx} {buf : Buffer} {lane : SMap Lane} {noz : SMap NozCh} {hl : SMap Hl} {fab : Fabric} {twin : Twin} {eth : EthPtp} {cyc : Cyc} {kiln : Kiln} {sb : SMap Sb} {can : SMap Can} {loop : SMap Loop} {trim : Option TrimBtn}
  (h1 : tb.count = s.tb.count) (h2 : power.pd2 = s.power.pd2) (h3 : sec.fuses = s.sec.fuses) :
  State.still ⟨s.pending, out, regs, latch, hold, hostMem, freeCtr, upset, tb, pos, power, host, cask, sec, ctx, buf, lane, noz, hl, fab, twin, eth, s.safe, cyc, kiln, sb, can, loop, trim⟩ = s.still := by
  simp [State.still, h1, h2, h3]

@[simp] theorem fuses_mk (x : Sec) {slot0 slot1 bank0 bank1 : Slot} {active : Option Nat} {gen : Nat} {factory fallback intentFound : Bool} {commit : Option Commit} {bank : Option Nat} {staging : Option (Nat × Nat)} {nonce : Option (List Byte × DWord)} :
  Sec.fuses ⟨slot0, slot1, bank0, bank1, x.owner, x.reqFw, x.reqNv, x.svnMin, active, gen, factory, fallback, intentFound, commit, bank, staging, nonce⟩ = x.fuses := Eq.trans rfl rfl
@[simp] theorem fuses_setSlot (x : Sec) (n : Nat) (v : Slot) : (x.setSlot n v).fuses = x.fuses := by unfold Sec.setSlot; split <;> rfl
@[simp] theorem fuses_setFw (x : Sec) (n : Nat) (v : Slot) : (x.setFw n v).fuses = x.fuses := by unfold Sec.setFw; split <;> rfl

@[simp] theorem each_still (s : State) (l : List Nat) (f : State → Nat → State) (h : ∀ s n, (f s n).still = s.still) : (s.each l f).still = s.still := by
  unfold State.each; induction l generalizing s with
  | nil => rfl
  | cons a l ih => simp only [List.foldl_cons]; rw [ih, h]
@[simp] theorem foldl_still {α : Type} (s : State) (l : List α) (f : State → α → State) (h : ∀ s a, (f s a).still = s.still) : (l.foldl f s).still = s.still := by
  induction l generalizing s with
  | nil => rfl
  | cons a l ih => simp only [List.foldl_cons]; rw [ih, h]

@[simp] theorem outState_next (t s : State) : outState (.next t) s = t := Eq.trans rfl rfl
@[simp] theorem outState_fault (f : Fault) (s : State) : outState (.fault f) s = s := Eq.trans rfl rfl
@[simp] theorem outState_refused (f : Refusal) (s : State) : outState (.refused f) s = s := Eq.trans rfl rfl
@[simp] theorem still_ite (c : Prop) [Decidable c] (a b : State) : (if c then a else b).still = if c then a.still else b.still := by split <;> rfl
@[simp] theorem outState_ite (c : Prop) [Decidable c] (a b : Out) (s : State) : outState (if c then a else b) s = if c then outState a s else outState b s := by split <;> rfl

@[simp] theorem State.modSec_still (s : State) (f : Sec → Sec) (h : (f s.sec).fuses = s.sec.fuses) : (s.modSec f).still = s.still := by simp [State.modSec, h]
@[simp] theorem State.modPower_still (s : State) (f : Power → Power) (h : (f s.power).pd2 = s.power.pd2) : (s.modPower f).still = s.still := by simp [State.modPower, h]

/-- What the island's commands leave. -/
def State.calm (s : State) := (s.pending, s.tb.count, s.power.pd2, s.sec.fuses)
theorem calm_of_still {s t : State} (h : t.still = s.still) : t.calm = s.calm := by
  simp only [State.still, Prod.mk.injEq] at h; simp [State.calm, h]
@[simp] theorem calm_mk (s : State) {out : List Emit} {regs : SMap Word} {latch : SMap (Option DWord)} {hold : SMap (Option Word)} {hostMem : Mem} {freeCtr : Nat} {upset : Option Nat} {tb : TimeBase} {pos : PosTime} {power : Power} {host : HostIf} {cask : Cask} {sec : Sec} {ctx : SMap Ctx} {buf : Buffer} {lane : SMap Lane} {noz : SMap NozCh} {hl : SMap Hl} {fab : Fabric} {twin : Twin} {eth : EthPtp} {safe : Safe} {cyc : Cyc} {kiln : Kiln} {sb : SMap Sb} {can : SMap Can} {loop : SMap Loop} {trim : Option TrimBtn}
  (h1 : tb.count = s.tb.count) (h2 : power.pd2 = s.power.pd2) (h3 : sec.fuses = s.sec.fuses) :
  State.calm ⟨s.pending, out, regs, latch, hold, hostMem, freeCtr, upset, tb, pos, power, host, cask, sec, ctx, buf, lane, noz, hl, fab, twin, eth, safe, cyc, kiln, sb, can, loop, trim⟩ = s.calm := by
  simp [State.calm, h1, h2, h3]
@[simp] theorem calm_ite (c : Prop) [Decidable c] (a b : State) : (if c then a else b).calm = if c then a.calm else b.calm := by split <;> rfl
@[simp] theorem each_calm (s : State) (l : List Nat) (f : State → Nat → State) (h : ∀ s n, (f s n).calm = s.calm) : (s.each l f).calm = s.calm := by
  unfold State.each; induction l generalizing s with
  | nil => rfl
  | cons a l ih => simp only [List.foldl_cons]; rw [ih, h]
@[simp] theorem State.modSafe_calm (s : State) (f : Safe → Safe) : (s.modSafe f).calm = s.calm := by simp [State.modSafe]
@[simp] theorem State.setGrp_calm (s : State) (g st : Nat) : (s.setGrp g st).calm = s.calm := by simp [State.setGrp]

/-! Ops. -/

@[simp] theorem State.wr_still (s : State) (off : Nat) (v : Word) : (State.wr s off v).still = s.still := by simp [State.wr]

@[simp] theorem State.wr64_still (s : State) (off : Nat) (v : DWord) : (State.wr64 s off v).still = s.still := by simp [State.wr64]

@[simp] theorem State.latch64_still (s : State) (pf1 : Bool) (off : Nat) (v : DWord) : (State.latch64 s pf1 off v).still = s.still := by simp [State.latch64]

@[simp] theorem State.setF_still (s : State) (off : Nat) (hi : Nat) (lo : Nat) (v : Nat) : (State.setF s off hi lo v).still = s.still := by simp [State.setF]

@[simp] theorem State.orW_still (s : State) (off : Nat) (m : Word) : (State.orW s off m).still = s.still := by simp [State.orW]

@[simp] theorem State.bump_still (s : State) (off : Nat) : (State.bump s off).still = s.still := by simp [State.bump]

@[simp] theorem State.bumpBy_still (s : State) (off : Nat) (n : Nat) : (State.bumpBy s off n).still = s.still := by simp [State.bumpBy]

@[simp] theorem State.bumpWrap_still (s : State) (off : Nat) : (State.bumpWrap s off).still = s.still := by simp [State.bumpWrap]

@[simp] theorem State.clearRegs_still (s : State) (lo : Nat) (hi : Nat) : (State.clearRegs s lo hi).still = s.still := by simp [State.clearRegs]

@[simp] theorem State.emit_still (s : State) (e : Emit) : (State.emit s e).still = s.still := by simp [State.emit]

@[simp] theorem State.free_still (s : State) : (State.free s).2.still = s.still := by simp [State.free]

@[simp] theorem State.setCtx_still (s : State) (n : Nat) (c : Ctx) : (State.setCtx s n c).still = s.still := by simp [State.setCtx]

@[simp] theorem State.modCtx_still (s : State) (n : Nat) (f : Ctx → Ctx) : (State.modCtx s n f).still = s.still := by simp [State.modCtx]

@[simp] theorem State.setRing_still (s : State) (n : Nat) (r : CtxRing) : (State.setRing s n r).still = s.still := by simp [State.setRing]

@[simp] theorem State.setHl_still (s : State) (n : Nat) (h : Hl) : (State.setHl s n h).still = s.still := by simp [State.setHl]

@[simp] theorem State.modHl_still (s : State) (n : Nat) (f : Hl → Hl) : (State.modHl s n f).still = s.still := by simp [State.modHl]

@[simp] theorem State.setNoz_still (s : State) (n : Nat) (c : NozCh) : (State.setNoz s n c).still = s.still := by simp [State.setNoz]

@[simp] theorem State.setLane_still (s : State) (n : Nat) (l : Lane) : (State.setLane s n l).still = s.still := by simp [State.setLane]

@[simp] theorem State.setPref_still (s : State) (n : Nat) (p : Pref) : (State.setPref s n p).still = s.still := by simp [State.setPref]

@[simp] theorem State.setEnc_still (s : State) (n : Nat) (e : Enc) : (State.setEnc s n e).still = s.still := by simp [State.setEnc]

@[simp] theorem State.each_still (s : State) (l : List Nat) (f : State → Nat → State) (hf : ∀ (s : State) (y1 : Nat), (f s y1).still = s.still) : (State.each s l f).still = s.still := by simp [State.each, *]

@[simp] theorem State.hostWrite_still (s : State) (addr : Nat) (b : List Byte) : (State.hostWrite s addr b).still = s.still := by simp [State.hostWrite]

@[simp] theorem State.irq_still (s : State) (pf1 : Bool) (vec : Nat) : (State.irq s pf1 vec).still = s.still := by simp [State.irq]

@[simp] theorem State.emitReads_still (s : State) (l : List HostRd) : (State.emitReads s l).still = s.still := by simp [State.emitReads]

@[simp] theorem State.pumpReads_still (s : State) : (State.pumpReads s).still = s.still := by simp [State.pumpReads]

@[simp] theorem State.request_still (s : State) (o : RdOwner) (addr : Nat) (len : Nat) : (State.request s o addr len).still = s.still := by simp [State.request]

@[simp] theorem State.dropReads_still (s : State) (p : RdOwner → Bool) : (State.dropReads s p).still = s.still := by simp [State.dropReads]

@[simp] theorem State.readsDone_still (s : State) (o : RdOwner) : (State.readsDone s o).still = s.still := by simp [State.readsDone]

@[simp] theorem State.evtModerate_still (s : State) : (State.evtModerate s).still = s.still := by simp [State.evtModerate]

@[simp] theorem State.evtPost_still (s : State) (code : Nat) (ctx : Nat) (args : List Word) (seq : Word) : (State.evtPost s code ctx args seq).still = s.still := by simp [State.evtPost]

@[simp] theorem State.evtSeq_still (s : State) : (State.evtSeq s).2.still = s.still := by simp [State.evtSeq]

@[simp] theorem State.offerEvt_still (s : State) (code : Nat) (ctx : Nat) (args : List Word) : (State.offerEvt s code ctx args).still = s.still := by simp [State.offerEvt]

@[simp] theorem State.setBucket_still (s : State) (b : Nat) (k : Bucket) : (State.setBucket s b k).still = s.still := by simp [State.setBucket]

@[simp] theorem State.caskPut_still (s : State) (code : Nat) (ctx : Nat) (args : List Word) : (State.caskPut s code ctx args).still = s.still := by simp [State.caskPut]

@[simp] theorem State.caskStage_still (s : State) (code : Nat) (ctx : Nat) (args : List Word) : (State.caskStage s code ctx args).still = s.still := by simp only [State.caskStage]; (repeat' split) <;> simp

@[simp] theorem State.raise_still (s : State) (code : Nat) (ctx : Nat) (args : List Word) : (State.raise s code ctx args).still = s.still := by simp [State.raise]

@[simp] theorem State.raiseE_still (s : State) (code : Nat) (ctx : Nat) (args : List Word) : (State.raiseE s code ctx args).still = s.still := by simp [State.raiseE]

/-! Upset. -/

@[simp] theorem State.newRecords_still (s : State) (l : List CaskRec) : (State.newRecords s l).still = s.still := by unfold State.newRecords; rw [foldl_still]; intro s r; simp

@[simp] theorem State.disturb_still (s : State) : (State.disturb s).still = s.still := by
  unfold State.disturb
  rw [State.newRecords_still]
  simp only [State.still, Power.pd2]
  congr 4
  simp

@[simp] theorem State.hostError_still (s : State) (rule : Nat) : (State.hostError s rule).still = s.still := by simp [State.hostError]

theorem State.ringMemory_still (s : State) (z : HostArea) : ∀ t, State.ringMemory s z = some t → t.still = s.still := by
  intro t h; simp only [State.ringMemory] at h
  split at h
  · cases h; rfl
  · split at h
    · cases h; simp
    · cases h

@[simp] theorem State.ringOpens_still (s : State) (z : HostArea) (f : State → State) (hf : ∀ s : State, (f s).still = s.still) :
    (State.ringOpens s z f).still = s.still := by
  unfold State.ringOpens; split
  · simp
  · split
    · rename_i t h; rw [hf, State.ringMemory_still s z t h]
    · simp

/-! Gate. -/

@[simp] theorem State.dropped_still (s : State) (off : Nat) : ∀ t, State.dropped s off = some t → t.still = s.still := by simp only [State.dropped]; (repeat' split) <;> simp

@[simp] theorem State.gated_still (s : State) (off : Nat) (f : State → State) (hf : ∀ s : State, (f s).still = s.still) : (State.gated s off f).still = s.still := by
  unfold State.gated; cases h : s.dropped off with
  | none => exact hf s
  | some t => exact State.dropped_still s off t h

@[simp] theorem State.reading_still (s : State) (pf1 : Bool) (off : Nat) (f : State → State × Word) (hf : ∀ (s : State), (f s).1.still = s.still) : (State.reading s pf1 off f).still = s.still := by simp only [State.reading]; (repeat' split) <;> simp [*]

/-! FabricTx. -/

@[simp] theorem State.setPort_still (s : State) (k : Nat) (p : FabPort) : (State.setPort s k p).still = s.still := by simp [State.setPort]

@[simp] theorem State.portPump_still (s : State) (k : Nat) : (State.portPump s k).still = s.still := by simp [State.portPump]

@[simp] theorem State.portGive_still (s : State) (k : Nat) (f : FabPort → FabPort) : (State.portGive s k f).still = s.still := by simp [State.portGive]

@[simp] theorem State.portsPump_still (s : State) : (State.portsPump s).still = s.still := by simp [State.portsPump]

@[simp] theorem State.sendTc0_still (s : State) (k : Nat) (q : Packet) : (State.sendTc0 s k q).still = s.still := by simp [State.sendTc0]

@[simp] theorem State.portSend_still (s : State) (k : Nat) (q : Packet) (came : Option Nat) : (State.portSend s k q came).still = s.still := by simp [State.portSend]

@[simp] theorem State.unreachable_still (s : State) (dest : Nat) : (State.unreachable s dest).still = s.still := by simp [State.unreachable]

@[simp] theorem State.route_still (s : State) (q : Packet) (came : Option Nat) : (State.route s q came).still = s.still := by simp [State.route]

@[simp] theorem State.flood_still (s : State) (q : Packet) (came : Option Nat) : (State.flood s q came).still = s.still := by simp [State.flood]

@[simp] theorem State.forward_still (s : State) (q : Packet) (came : Nat) : (State.forward s q came).still = s.still := by simp [State.forward]

@[simp] theorem State.newSeq_still (s : State) (q : Packet) : ∀ t, State.newSeq s q = some t → t.still = s.still := by simp only [State.newSeq]; (repeat' split) <;> simp

@[simp] theorem State.imageTake_still (s : State) (q : Packet) : (State.imageTake s q).still = s.still := by simp [State.imageTake]

@[simp] theorem State.sendPacket_still (s : State) (tc : Nat) (dest : Nat) (typ : Nat) (data : List DWord) : (State.sendPacket s tc dest typ data).still = s.still := by
  have key : ∀ (u : State) (q : Packet), ((u.newSeq q).getD u).still = u.still := by
    intro u q; cases h : u.newSeq q with
    | none => rfl
    | some t => exact State.newSeq_still u q t h
  unfold State.sendPacket; dsimp only
  split_ifs <;> simp [key]

@[simp] theorem State.twinMsg_still (s : State) (kind : Nat) (data : List DWord) : (State.twinMsg s kind data).still = s.still := by simp [State.twinMsg]

@[simp] theorem State.diverge_still (s : State) (n : Nat) (reason : Nat) : (State.diverge s n reason).still = s.still := by simp [State.diverge]

@[simp] theorem State.haltNote_still (s : State) (n : Nat) (cause : Nat) : (State.haltNote s n cause).still = s.still := by simp only [State.haltNote]; (repeat' split) <;> simp

@[simp] theorem State.ctxMsg_still (s : State) (a : TwinAct) : (State.ctxMsg s a).still = s.still := by simp [State.ctxMsg]

@[simp] theorem State.seqMsg_still (s : State) (n : Nat) (codes : List Nat) : (State.seqMsg s n codes).still = s.still := by simp [State.seqMsg]

/-! Context. -/

@[simp] theorem State.cqModerate_still (s : State) (n : Nat) (force : Bool) : (State.cqModerate s n force).still = s.still := by simp [State.cqModerate]

@[simp] theorem State.complPost_still (s : State) (n : Nat) (e : Compl) (lost : Nat) : (State.complPost s n e lost).still = s.still := by simp [State.complPost]

@[simp] theorem State.complDue_still (s : State) (n : Nat) (e : Compl) : (State.complDue s n e).still = s.still := by simp [State.complDue]

@[simp] theorem State.cqDrain_still (s : State) (n : Nat) (x2 : Nat) : (State.cqDrain s n x2).still = s.still := by
  induction x2 generalizing s  with
  | zero => simp [State.cqDrain]
  | succ k ih => unfold State.cqDrain; dsimp only; (repeat' split) <;> simp [ih]

@[simp] theorem State.tableEffect_still (s : State) (n : Nat) (id : Nat) : (State.tableEffect s n id).still = s.still := by simp only [State.tableEffect]; (repeat' split) <;> simp

@[simp] theorem State.settle_still (s : State) (n : Nat) (x2 : Nat) : (State.settle s n x2).still = s.still := by
  induction x2 generalizing s  with
  | zero => simp [State.settle]
  | succ k ih => unfold State.settle; dsimp only; (repeat' split) <;> simp [ih]

@[simp] theorem State.settleAll_still (s : State) (n : Nat) : (State.settleAll s n).still = s.still := by simp [State.settleAll]

@[simp] theorem State.finish_still (s : State) (n : Nat) (id : Nat) (st : Nat) : (State.finish s n id st).still = s.still := by simp [State.finish]

@[simp] theorem State.seqInputAt_still (s : State) (n : Nat) (code : Nat) (stamp : DWord) : (State.seqInputAt s n code stamp).still = s.still := by simp [State.seqInputAt]

@[simp] theorem State.seqInput_still (s : State) (n : Nat) (code : Nat) : (State.seqInput s n code).still = s.still := by simp [State.seqInput]

@[simp] theorem State.seqInputAll_still (s : State) (code : Nat) : (State.seqInputAll s code).still = s.still := by simp [State.seqInputAll]

@[simp] theorem State.cancelSwitch_still (s : State) (ch : Nat) : (State.cancelSwitch s ch).still = s.still := by simp [State.cancelSwitch]

@[simp] theorem State.dropSlots_still (s : State) (ch : Nat) : (State.dropSlots s ch).still = s.still := by simp [State.dropSlots]

@[simp] theorem State.enterHalted_still (s : State) (n : Nat) (cause : Nat) : (State.enterHalted s n cause).still = s.still := by simp [State.enterHalted]

@[simp] theorem State.haltNow_still (s : State) (ns : List Nat) (cause : Nat) : (State.haltNow s ns cause).still = s.still := by simp [State.haltNow]

@[simp] theorem State.haltReq_still (s : State) (n : Nat) (cause : Nat) (pageEnd : Option Nat) : (State.haltReq s n cause pageEnd).still = s.still := by simp only [State.haltReq]; (repeat' split) <;> simp

@[simp] theorem State.itemPass_still (s : State) (n : Nat) (i : Item) (last : Bool) (stamp : DWord) : (State.itemPass s n i last stamp).still = s.still := by simp [State.itemPass]

@[simp] theorem State.lateLine_still (s : State) (n : Nat) (it : Option Item) (line : Word) (count : Nat) (stamp : DWord) : (State.lateLine s n it line count stamp).still = s.still := by simp only [State.lateLine]; (repeat' split) <;> simp

@[simp] theorem State.passed_still (s : State) (n : Nat) (last : Word) (i : Item) : (State.passed s n last i).still = s.still := by simp only [State.passed]; (repeat' split) <;> simp

@[simp] theorem State.setItems_still (s : State) (n : Nat) (c : Ctx) : (State.setItems s n c).still = s.still := by simp [State.setItems]

@[simp] theorem State.doDrain_still (s : State) (n : Nat) (pi : Nat) : (State.doDrain s n pi).still = s.still := by simp only [State.doDrain]; (repeat' split) <;> simp

@[simp] theorem State.seqAction_still (s : State) (n : Nat) (act : Nat) (arg : Word) : (State.seqAction s n act arg).1.still = s.still := by simp only [State.seqAction]; (repeat' split) <;> simp

@[simp] theorem State.seqWalk_still (s : State) (n : Nat) (x2 : Nat) (x3 : List Nat) : (State.seqWalk s n x2 x3).still = s.still := by
  induction x2 generalizing s x3 with
  | zero => simp [State.seqWalk]
  | succ k ih =>
    cases x3 with
    | nil => simp [State.seqWalk]
    | cons c r => unfold State.seqWalk; dsimp only; (repeat' split) <;> simp [ih]

@[simp] theorem State.bufWrite_still (s : State) (a : Nat) (b : List Byte) : (State.bufWrite s a b).still = s.still := by simp [State.bufWrite]

@[simp] theorem State.bufClear_still (s : State) (lo : Nat) (hi : Nat) : (State.bufClear s lo hi).still = s.still := by simp [State.bufClear]

@[simp] theorem State.wordRead_still (s : State) (w : Nat) (flip : Code304) : (State.wordRead s w flip).2.still = s.still := by simp only [State.wordRead]; (repeat' split) <;> simp

@[simp] theorem State.eccUncorr_still (s : State) (word : Nat) (use : Nat) (n : Nat) : (State.eccUncorr s word use n).still = s.still := by simp [State.eccUncorr]

@[simp] theorem State.eccBlank_still (s : State) (n : Nat) (item : Option Nat) : (State.eccBlank s n item).still = s.still := by simp [State.eccBlank]

@[simp] theorem State.eccHit_still (s : State) (item : Option Nat) (h : EccHit) : (State.eccHit s item h).still = s.still := by simp only [State.eccHit]; (repeat' split) <;> simp

@[simp] theorem State.eccHits_still (s : State) (hits : List EccHit) (item : Option Nat) : (State.eccHits s hits item).still = s.still := by simp [State.eccHits]

/-! Mash. -/

@[simp] theorem State.decodeLine_still (s : State) (n : Nat) (lw : LineWork) (item : Nat) (plane : Nat) (y : Nat) : (State.decodeLine s n lw item plane y).still = s.still := by simp [State.decodeLine]

@[simp] theorem State.writeErr_still (s : State) (ch : Nat) (qs : List Int) : (State.writeErr s ch qs).still = s.still := by simp [State.writeErr]

@[simp] theorem execLineScreen_still (ch : Nat) (ecc : List EccHit) (s : State) : (outState (execLineScreen ch ecc s) s).still = s.still := by simp only [execLineScreen]; (repeat' split) <;> simp

/-! Noz. -/

@[simp] theorem State.showActive_still (s : State) (ch : Nat) (t : NozTabs) : (State.showActive s ch t).still = s.still := by simp [State.showActive]

@[simp] theorem State.switchFault_still (s : State) (ch : Nat) (reason : Nat) : (State.switchFault s ch reason).still = s.still := by simp [State.switchFault]

@[simp] theorem execNozSwitchRequest_still (ch : Nat) (value : Word) (s : State) : (outState (execNozSwitchRequest ch value s) s).still = s.still := by unfold execNozSwitchRequest; simp only [outState_next]; refine State.gated_still _ _ _ (fun s => ?_); (repeat' split) <;> simp

@[simp] theorem execNozSwitchCancel_still (ch : Nat) (value : Word) (s : State) : (outState (execNozSwitchCancel ch value s) s).still = s.still := by simp [execNozSwitchCancel]

@[simp] theorem execNozPendingReady_still (ch : Nat) (ecc : List EccHit) (s : State) : (outState (execNozPendingReady ch ecc s) s).still = s.still := by simp only [execNozPendingReady]; (repeat' split) <;> simp

@[simp] theorem State.armLoadCh_still (s : State) (n : Nat) (ch : Nat) (dir : List DirEntry) : ∀ t, State.armLoadCh s n ch dir = .ok t → t.still = s.still := by simp only [State.armLoadCh]; (repeat' split) <;> simp

@[simp] theorem State.armLoad_still (n : Nat) (dir : List DirEntry) (x2 : List Nat) (x3 : State) : ∀ t, State.armLoad n dir x2 x3 = .ok t → t.still = x3.still := by
  induction x2 generalizing x3 with
  | nil => intro t h; simp [State.armLoad] at h; simp [h]
  | cons a l ih =>
    intro t h; simp only [State.armLoad] at h; split at h
    · cases h
    · rename_i u e; rw [ih _ t h, State.armLoadCh_still _ _ _ _ u e]

@[simp] theorem execNozArmLoadDone_still (n : Nat) (ecc : List EccHit) (s : State) : (outState (execNozArmLoadDone n ecc s) s).still = s.still := by
  unfold execNozArmLoadDone; dsimp only; split
  · simp
  · split
    · simp
    · rename_i u e; simp [State.armLoad_still _ _ _ _ u e]

@[simp] theorem State.rowWrite_still (s : State) (ch : Nat) (line : Word) (codes : List Nat) : (State.rowWrite s ch line codes).still = s.still := by simp [State.rowWrite]

@[simp] theorem State.rowClear_still (s : State) (ch : Nat) : (State.rowClear s ch).still = s.still := by simp [State.rowClear]

@[simp] theorem State.buildImage_still (s : State) (ch : Nat) (f : Word) (bad : List Nat) : (State.buildImage s ch f bad).1.still = s.still := by simp [State.buildImage]

@[simp] theorem State.imageOut_still (s : State) (ch : Nat) (i : HlImage) : (State.imageOut s ch i).still = s.still := by simp [State.imageOut]

@[simp] theorem State.doSwitch_still (s : State) (ch : Nat) (line : Word) : (State.doSwitch s ch line).still = s.still := by simp only [State.doSwitch]; (repeat' split) <;> simp

@[simp] theorem State.reimage_still (s : State) (ch : Nat) (line : Word) : (State.reimage s ch line).still = s.still := by simp only [State.reimage]; (repeat' split) <;> simp

@[simp] theorem State.lateImages_still (s : State) (n : Nat) (ch : Nat) (bad : List Nat) (x4 : Nat) : (State.lateImages s n ch bad x4).still = s.still := by
  induction x4 generalizing s  with
  | zero => simp [State.lateImages]
  | succ k ih => unfold State.lateImages; dsimp only; (repeat' split) <;> simp [ih]

@[simp] theorem execLineCompensate_still (ch : Nat) (ecc : List EccHit) (s : State) : (outState (execLineCompensate ch ecc s) s).still = s.still := by simp only [execLineCompensate]; (repeat' split) <;> simp

/-! HeadLink. -/

@[simp] theorem State.hlToken_still (s : State) (ch : Nat) (t : HlToken) : (State.hlToken s ch t).1.still = s.still := by simp only [State.hlToken]; (repeat' split) <;> simp

@[simp] theorem State.hlWaves_still (s : State) (ch : Nat) (f : DWord) (x3 : Nat) : (State.hlWaves s ch f x3).1.still = s.still := by
  induction x3 generalizing s  with
  | zero => simp [State.hlWaves]
  | succ k ih => unfold State.hlWaves; dsimp only; (repeat' split) <;> simp [ih]

@[simp] theorem State.hlTrims_still (s : State) (ch : Nat) (x2 : Nat) (x3 : Nat) : (State.hlTrims s ch x2 x3).1.still = s.still := by
  induction x2 generalizing s x3 with
  | zero => simp [State.hlTrims]
  | succ k ih => unfold State.hlTrims; dsimp only; (repeat' split) <;> simp [ih]

@[simp] theorem State.hlService_still (s : State) (ch : Nat) (f : DWord) : (State.hlService s ch f).1.still = s.still := by simp only [State.hlService]; (repeat' split) <;> simp

@[simp] theorem State.hlWaveLate_still (s : State) (ch : Nat) (line : Word) : (State.hlWaveLate s ch line).still = s.still := by simp [State.hlWaveLate]

@[simp] theorem State.hlForm_still (s : State) (ch : Nat) (f : DWord) : (State.hlForm s ch f).still = s.still := by simp only [State.hlForm]; (repeat' split) <;> simp

@[simp] theorem State.hlPlace_still (s : State) (ch : Nat) (t : HlToken) : (State.hlPlace s ch t).still = s.still := by simp only [State.hlPlace]; (repeat' split) <;> simp

@[simp] theorem State.hlSend_still (s : State) (ch : Nat) (x : TxFrame) : (State.hlSend s ch x).still = s.still := by simp [State.hlSend]

@[simp] theorem State.hlFrame_still (s : State) (ch : Nat) (f : DWord) : (State.hlFrame s ch f).still = s.still := by simp [State.hlFrame]

@[simp] theorem State.killAll_still (s : State) : (State.killAll s).still = s.still := by simp [State.killAll]

@[simp] theorem State.hlCut_still (s : State) (ch : Nat) : (State.hlCut s ch).still = s.still := by simp [State.hlCut]

@[simp] theorem State.hlTrain_still (s : State) (ch : Nat) : (State.hlTrain s ch).still = s.still := by simp [State.hlTrain]

@[simp] theorem State.hlTrainFail_still (s : State) (ch : Nat) (result : Nat) : (State.hlTrainFail s ch result).still = s.still := by simp [State.hlTrainFail]

@[simp] theorem State.hlUp_still (s : State) (ch : Nat) : (State.hlUp s ch).still = s.still := by simp [State.hlUp]

@[simp] theorem State.hlLoad_still (s : State) (ch : Nat) : (State.hlLoad s ch).still = s.still := by simp [State.hlLoad]

@[simp] theorem State.hlFault_still (s : State) (ch : Nat) (cause : Nat) : (State.hlFault s ch cause).still = s.still := by simp [State.hlFault]

@[simp] theorem State.capRecheck_still (s : State) (ch : Nat) : (State.capRecheck s ch).still = s.still := by simp [State.capRecheck]

@[simp] theorem State.hlCtrlWrite_still (s : State) (ch : Nat) (value : Word) : (State.hlCtrlWrite s ch value).still = s.still := by simp [State.hlCtrlWrite]

@[simp] theorem execHlEnable_still (ch : Nat) (value : Word) (s : State) : (outState (execHlEnable ch value s) s).still = s.still := by simp [execHlEnable]

@[simp] theorem execHlDisable_still (ch : Nat) (value : Word) (s : State) : (outState (execHlDisable ch value s) s).still = s.still := by simp [execHlDisable]

@[simp] theorem execHlTrainGo_still (ch : Nat) (s : State) : (outState (execHlTrainGo ch s) s).still = s.still := by simp [execHlTrainGo]

@[simp] theorem execHlTrainCancel_still (ch : Nat) (s : State) : (outState (execHlTrainCancel ch s) s).still = s.still := by simp [execHlTrainCancel]

@[simp] theorem execHlBlockLock_still (ch : Nat) (s : State) : (outState (execHlBlockLock ch s) s).still = s.still := by simp [execHlBlockLock]

@[simp] theorem execHlCapRx_still (ch : Nat) (cap0 : DWord) (cap1 : DWord) (cap2 : DWord) (cap3 : DWord) (s : State) : (outState (execHlCapRx ch cap0 cap1 cap2 cap3 s) s).still = s.still := by simp [execHlCapRx]

@[simp] theorem execHlCalRx_still (ch : Nat) (seq : Byte) (r : Word) (ht : Word) (s : State) : (outState (execHlCalRx ch seq r ht s) s).still = s.still := by simp only [execHlCalRx]; (repeat' split) <;> simp

@[simp] theorem execHlTrainTimeout_still (ch : Nat) (s : State) : (outState (execHlTrainTimeout ch s) s).still = s.still := by simp [execHlTrainTimeout]

@[simp] theorem execHlLoadDone_still (ch : Nat) (s : State) : (outState (execHlLoadDone ch s) s).still = s.still := by simp [execHlLoadDone]

@[simp] theorem execHlLockLost_still (ch : Nat) (s : State) : (outState (execHlLockLost ch s) s).still = s.still := by simp [execHlLockLost]

@[simp] theorem State.hlFrameLost_still (s : State) (ch : Nat) (cause : Nat) : (State.hlFrameLost s ch cause).still = s.still := by simp [State.hlFrameLost]

@[simp] theorem execHlNoReturn_still (ch : Nat) (s : State) : (outState (execHlNoReturn ch s) s).still = s.still := by simp [execHlNoReturn]

@[simp] theorem execHlRetrainTimer_still (ch : Nat) (s : State) : (outState (execHlRetrainTimer ch s) s).still = s.still := by simp [execHlRetrainTimer]

@[simp] theorem State.hlBoundary_still (s : State) (ch : Nat) : (State.hlBoundary s ch).still = s.still := by simp [State.hlBoundary]

@[simp] theorem execHlLatCheck_still (ch : Nat) (r : Word) (ht : Word) (s : State) : (outState (execHlLatCheck ch r ht s) s).still = s.still := by simp [execHlLatCheck]

@[simp] theorem execHlWdataWrite_still (ch : Nat) (value : Word) (s : State) : (outState (execHlWdataWrite ch value s) s).still = s.still := by simp [execHlWdataWrite]

@[simp] theorem State.wctlWrite_still (s : State) (ch : Nat) (value : Word) : (State.wctlWrite s ch value).still = s.still := by simp [State.wctlWrite]

@[simp] theorem execHlWaveArm_still (ch : Nat) (value : Word) (s : State) : (outState (execHlWaveArm ch value s) s).still = s.still := by simp [execHlWaveArm]

@[simp] theorem execHlWaveCancel_still (ch : Nat) (value : Word) (s : State) : (outState (execHlWaveCancel ch value s) s).still = s.still := by simp [execHlWaveCancel]

@[simp] theorem execHlWaveClear_still (ch : Nat) (value : Word) (s : State) : (outState (execHlWaveClear ch value s) s).still = s.still := by simp [execHlWaveClear]

/-! Position. -/

@[simp] theorem State.invalidate_still (s : State) (n : Nat) : (State.invalidate s n).still = s.still := by simp [State.invalidate]

@[simp] theorem State.ownFault_still (s : State) (n : Nat) (enc : Nat) : (State.ownFault s n enc).still = s.still := by simp only [State.ownFault]; (repeat' split) <;> simp

@[simp] theorem State.sourceFault_still (s : State) (n : Nat) (enc : Option Nat) : (State.sourceFault s n enc).still = s.still := by simp only [State.sourceFault]; (repeat' split) <;> simp

@[simp] theorem State.prefEdge_still (s : State) (n : Nat) (up : Bool) (stamp : DWord) : (State.prefEdge s n up stamp).still = s.still := by simp [State.prefEdge]

@[simp] theorem execEncAbEdge_still (e : Nat) (a : Bool) (b : Bool) (run : Nat) (sub : Fin 6) (s : State) : (outState (execEncAbEdge e a b run sub s) s).still = s.still := by simp [execEncAbEdge]

@[simp] theorem State.markInputs_still (s : State) (src : Nat) : (State.markInputs s src).still = s.still := by simp [State.markInputs]

@[simp] theorem execEncZEdge_still (e : Nat) (z : Bool) (run : Nat) (sub : Fin 6) (s : State) : (outState (execEncZEdge e z run sub s) s).still = s.still := by simp only [execEncZEdge]; (repeat' split) <;> simp

@[simp] theorem State.prefStart_still (s : State) (n : Nat) : (State.prefStart s n).still = s.still := by simp [State.prefStart]

@[simp] theorem State.takeSample_still (s : State) (n : Nat) (x : PSample) (st : PState) : (State.takeSample s n x st).still = s.still := by simp [State.takeSample]

@[simp] theorem State.ownRestart_still (s : State) (n : Nat) : (State.ownRestart s n).still = s.still := by simp only [State.ownRestart]; (repeat' split) <;> simp

@[simp] theorem State.prefRestart_still (s : State) (n : Nat) : (State.prefRestart s n).still = s.still := by simp only [State.prefRestart]; (repeat' split) <;> simp

@[simp] theorem State.prefCtrlWrite_still (s : State) (n : Nat) (value : Word) : (State.prefCtrlWrite s n value).still = s.still := by simp [State.prefCtrlWrite]

@[simp] theorem execPrefEnable_still (n : Nat) (value : Word) (s : State) : (outState (execPrefEnable n value s) s).still = s.still := by simp [execPrefEnable]

@[simp] theorem execPrefResync_still (n : Nat) (value : Word) (s : State) : (outState (execPrefResync n value s) s).still = s.still := by simp [execPrefResync]

@[simp] theorem execPrefStop_still (n : Nat) (s : State) : (outState (execPrefStop n s) s).still = s.still := by simp [execPrefStop]

@[simp] theorem execPrefInvalid_still (n : Nat) (s : State) : (outState (execPrefInvalid n s) s).still = s.still := by simp [execPrefInvalid]

@[simp] theorem execPrefSampleLoss_still (n : Nat) (s : State) : (outState (execPrefSampleLoss n s) s).still = s.still := by simp only [execPrefSampleLoss]; (repeat' split) <;> simp

@[simp] theorem State.prefToOwn_still (s : State) (n : Nat) (old : PState) : (State.prefToOwn s n old).still = s.still := by simp [State.prefToOwn]

@[simp] theorem execPrefSrcSwitch_still (n : Nat) (s : State) : (outState (execPrefSrcSwitch n s) s).still = s.still := by simp [execPrefSrcSwitch]

@[simp] theorem State.applySample_still (s : State) (n : Nat) : (State.applySample s n).still = s.still := by simp only [State.applySample]; (repeat' split) <;> simp

@[simp] theorem State.frameSample_still (s : State) (n : Nat) : (State.frameSample s n).still = s.still := by simp [State.frameSample]

@[simp] theorem State.frameSamples_still (s : State) : (State.frameSamples s).still = s.still := by simp [State.frameSamples]

@[simp] theorem State.setIncr_still (s : State) (v : BitVec 48) : (State.setIncr s v).still = s.still := by simp [State.setIncr]

@[simp] theorem State.dropHold_still (s : State) (off : Nat) : (State.dropHold s off).still = s.still := by simp [State.dropHold]

@[simp] theorem State.tbIncr_still (s : State) (value : DWord) : (State.tbIncr s value).still = s.still := by simp [State.tbIncr]

@[simp] theorem execTbIncrWrite_still (value : DWord) (s : State) : (outState (execTbIncrWrite value s) s).still = s.still := by simp [execTbIncrWrite]

@[simp] theorem execTbArmWrite_still (value : Word) (s : State) : (outState (execTbArmWrite value s) s).still = s.still := by unfold execTbArmWrite; simp only [outState_next]; refine State.gated_still _ _ _ (fun s => ?_); (repeat' split) <;> simp

@[simp] theorem execTbArmExpire_still (s : State) : (outState (execTbArmExpire s) s).still = s.still := by simp [execTbArmExpire]

@[simp] theorem State.setCap_still (s : State) (u : Nat) (c : Cap) : (State.setCap s u c).still = s.still := by simp [State.setCap]

@[simp] theorem execCapEdge_still (u : Nat) (src : Nat) (rising : Bool) (run : Nat) (sub : Fin 6) (s : State) : (outState (execCapEdge u src rising run sub s) s).still = s.still := by simp [execCapEdge]

@[simp] theorem execCapTimeLoRead_still (pf1 : Bool) (u : Nat) (s : State) : (outState (execCapTimeLoRead pf1 u s) s).still = s.still := by simp [execCapTimeLoRead]

@[simp] theorem State.setLatch_still (s : State) : (State.setLatch s).still = s.still := by simp [State.setLatch]

@[simp] theorem execInhibitAssert_still (s : State) : (outState (execInhibitAssert s) s).still = s.still := by simp [execInhibitAssert]

@[simp] theorem execPrintInhibitRise_still (s : State) : (outState (execPrintInhibitRise s) s).still = s.still := by simp [execPrintInhibitRise]

@[simp] theorem State.piCtrlWrite_still (s : State) (value : Word) : (State.piCtrlWrite s value).still = s.still := by simp [State.piCtrlWrite]

@[simp] theorem execPiResume_still (value : Word) (s : State) : (outState (execPiResume value s) s).still = s.still := by simp [execPiResume]

@[simp] theorem State.release_still (s : State) : (State.release s).still = s.still := by simp [State.release]

@[simp] theorem execInhibitRelease_still (s : State) : (outState (execInhibitRelease s) s).still = s.still := by simp [execInhibitRelease]

@[simp] theorem execMarkSourceEdge_still (pin : Nat) (s : State) : (outState (execMarkSourceEdge pin s) s).still = s.still := by simp [execMarkSourceEdge]

/-! Submit. -/

@[simp] theorem State.pf0Bell_still (s : State) (f : State → Host.Outcome State Fault Refusal) (hf : ∀ (s : State), (outState (f s) s).still = s.still) : (outState (State.pf0Bell s f) s).still = s.still := by simp [State.pf0Bell, *]

@[simp] theorem execMgmtDoorbell_still (value : Word) (s : State) : (outState (execMgmtDoorbell value s) s).still = s.still := by unfold execMgmtDoorbell; refine State.pf0Bell_still _ _ (fun s => ?_); (repeat' split) <;> simp

@[simp] theorem State.evtRecover_still (s : State) : (State.evtRecover s).still = s.still := by simp [State.evtRecover]

@[simp] theorem execEvtDoorbell_still (value : Word) (s : State) : (outState (execEvtDoorbell value s) s).still = s.still := by unfold execEvtDoorbell; refine State.pf0Bell_still _ _ (fun s => ?_); (repeat' split) <;> simp

@[simp] theorem execCtxSqDoorbell_still (n : Nat) (value : Word) (s : State) : (outState (execCtxSqDoorbell n value s) s).still = s.still := by simp only [execCtxSqDoorbell]; (repeat' split) <;> simp

@[simp] theorem execCtxCqDoorbell_still (n : Nat) (value : Word) (s : State) : (outState (execCtxCqDoorbell n value s) s).still = s.still := by simp only [execCtxCqDoorbell]; (repeat' split) <;> simp

@[simp] theorem execCqModTimer_still (n : Nat) (s : State) : (outState (execCqModTimer n s) s).still = s.still := by simp only [execCqModTimer]; (repeat' split) <;> simp

@[simp] theorem execEvtModTimer_still (s : State) : (outState (execEvtModTimer s) s).still = s.still := by simp only [execEvtModTimer]; (repeat' split) <;> simp

@[simp] theorem State.descSeen_still (s : State) (n : Nat) (d : List Word) (op : Bool) : (State.descSeen s n d op).still = s.still := by simp [State.descSeen]

@[simp] theorem State.descTake_still (s : State) (n : Nat) (d : List Word) (pageId : Word) : (State.descTake s n d pageId).2.still = s.still := by simp [State.descTake]

@[simp] theorem State.descEnd_still (s : State) (n : Nat) (d : List Word) (pageId : Word) (st : Nat) : (State.descEnd s n d pageId st).still = s.still := by simp [State.descEnd]

@[simp] theorem execDescNop_still (n : Nat) (d : List Word) (s : State) : (outState (execDescNop n d s) s).still = s.still := by simp [execDescNop]

@[simp] theorem execDescMark_still (n : Nat) (d : List Word) (s : State) : (outState (execDescMark n d s) s).still = s.still := by simp [execDescMark]

@[simp] theorem execDescInvalidOp_still (n : Nat) (d : List Word) (s : State) : (outState (execDescInvalidOp n d s) s).still = s.still := by simp [execDescInvalidOp]

@[simp] theorem State.lineCount_still (s : State) (w : Word) : (State.lineCount s w).2.still = s.still := by simp only [State.lineCount]; (repeat' split) <;> simp

@[simp] theorem State.pageWidth_still (s : State) (w : Word) : (State.pageWidth s w).2.still = s.still := by simp only [State.pageWidth]; (repeat' split) <;> simp

@[simp] theorem execDescPage_still (n : Nat) (d : List Word) (s : State) : (outState (execDescPage n d s) s).still = s.still := by simp [execDescPage]

@[simp] theorem execDescBlank_still (n : Nat) (d : List Word) (s : State) : (outState (execDescBlank n d s) s).still = s.still := by simp [execDescBlank]

@[simp] theorem execDescTile_still (n : Nat) (d : List Word) (s : State) : (outState (execDescTile n d s) s).still = s.still := by simp only [execDescTile]; (repeat' split) <;> simp

@[simp] theorem execDescTableLoad_still (n : Nat) (d : List Word) (s : State) : (outState (execDescTableLoad n d s) s).still = s.still := by simp [execDescTableLoad]

@[simp] theorem State.dirAdd_still (s : State) (n : Nat) (t : TabWait) : (State.dirAdd s n t).still = s.still := by simp [State.dirAdd]

@[simp] theorem State.dirApply_still (s : State) (n : Nat) : (State.dirApply s n).still = s.still := by simp [State.dirApply]

@[simp] theorem execTableLoadCopyDone_still (n : Nat) (data : List Byte) (s : State) : (outState (execTableLoadCopyDone n data s) s).still = s.still := by simp only [execTableLoadCopyDone]; (repeat' split) <;> simp

@[simp] theorem execTileFetch_still (n : Nat) (s : State) : (outState (execTileFetch n s) s).still = s.still := by simp only [execTileFetch]; (repeat' split) <;> simp

@[simp] theorem State.ingestWrite_still (s : State) (n : Nat) (off : Nat) (data : List Byte) : (State.ingestWrite s n off data).still = s.still := by simp [State.ingestWrite]

@[simp] theorem execTileCopyDone_still (n : Nat) (data : List Byte) (s : State) : (outState (execTileCopyDone n data s) s).still = s.still := by simp only [execTileCopyDone]; (repeat' split) <;> simp

@[simp] theorem execBufScrub_still (word : Nat) (flip : Code304) (s : State) : (outState (execBufScrub word flip s) s).still = s.still := by simp only [execBufScrub]; (repeat' split) <;> simp

@[simp] theorem execCtxHaltTake_still (n : Nat) (s : State) : (outState (execCtxHaltTake n s) s).still = s.still := by simp only [execCtxHaltTake]; (repeat' split) <;> simp

@[simp] theorem State.enterIdle_still (s : State) (n : Nat) : (State.enterIdle s n).still = s.still := by simp [State.enterIdle]

@[simp] theorem execCtxDrainDone_still (n : Nat) (s : State) : (outState (execCtxDrainDone n s) s).still = s.still := by simp [execCtxDrainDone]

/-! CtxCmd. -/

@[simp] theorem State.mgmtDone_still (s : State) (d : List Word) (status : Nat) (detail : Nat) : (State.mgmtDone s d status detail).still = s.still := by
  unfold State.mgmtDone; rw [still_ite, State.irq_still, ite_self]
  refine (still_mk _ rfl rfl rfl).trans ?_
  rw [State.hostWrite_still]

@[simp] theorem execMgmtNop_still (d : List Word) (s : State) : (outState (execMgmtNop d s) s).still = s.still := by simp [execMgmtNop]

@[simp] theorem execMgmtInvalidOp_still (d : List Word) (s : State) : (outState (execMgmtInvalidOp d s) s).still = s.still := by simp [execMgmtInvalidOp]

@[simp] theorem State.doArm_still (s : State) (n : Nat) : (State.doArm s n).still = s.still := by simp [State.doArm]

@[simp] theorem State.doReset_still (s : State) (n : Nat) : (State.doReset s n).still = s.still := by simp [State.doReset]

@[simp] theorem State.arm_still (s : State) (n : Nat) : (State.arm s n).still = s.still := by simp only [State.arm]; (repeat' split) <;> simp

@[simp] theorem State.ctxApply_still (s : State) (n : Nat) (cmd : Nat) (pi : Nat) : (State.ctxApply s n cmd pi).still = s.still := by simp only [State.ctxApply]; (repeat' split) <;> simp

@[simp] theorem State.ctxCmd_still (s : State) (cmd : Nat) (d : List Word) : (outState (State.ctxCmd s cmd d) s).still = s.still := by simp [State.ctxCmd]

@[simp] theorem execCtxArm_still (d : List Word) (s : State) : (outState (execCtxArm d s) s).still = s.still := by simp [execCtxArm]

@[simp] theorem execCtxStart_still (d : List Word) (s : State) : (outState (execCtxStart d s) s).still = s.still := by simp [execCtxStart]

@[simp] theorem execCtxDrain_still (d : List Word) (s : State) : (outState (execCtxDrain d s) s).still = s.still := by simp [execCtxDrain]

@[simp] theorem execCtxHalt_still (d : List Word) (s : State) : (outState (execCtxHalt d s) s).still = s.still := by simp [execCtxHalt]

@[simp] theorem execCtxReset_still (d : List Word) (s : State) : (outState (execCtxReset d s) s).still = s.still := by simp [execCtxReset]

@[simp] theorem State.tabAct_still (s : State) (a : TwinAct) : (State.tabAct s a).still = s.still := by simp only [State.tabAct]; (repeat' split) <;> simp

@[simp] theorem State.idleWith_still (s : State) (n : Nat) : (State.idleWith s n).still = s.still := by simp [State.idleWith]

@[simp] theorem State.twinAct_still (s : State) (a : TwinAct) : (State.twinAct s a).still = s.still := by simp [State.twinAct]

@[simp] theorem State.divergedIdle_still (s : State) (n : Nat) : (State.divergedIdle s n).still = s.still := by simp [State.divergedIdle]

@[simp] theorem State.twinActs_still (s : State) (n : Nat) (f : DWord) : (State.twinActs s n f).still = s.still := by simp [State.twinActs]

@[simp] theorem State.lineActs_still (s : State) (n : Nat) : (State.lineActs s n).still = s.still := by simp only [State.lineActs]; (repeat' split) <;> simp

/-! FrameBoundary. -/

@[simp] theorem State.slotEnd_still (s : State) (n : Nat) (sl : FireSlot) : (State.slotEnd s n sl).still = s.still := by simp only [State.slotEnd]; (repeat' split) <;> simp

@[simp] theorem State.slotsEnd_still (s : State) (n : Nat) (f : DWord) : (State.slotsEnd s n f).still = s.still := by simp [State.slotsEnd]

@[simp] theorem State.blankLine_still (s : State) (n : Nat) (line : Word) : (State.blankLine s n line).still = s.still := by simp [State.blankLine]

@[simp] theorem State.deadline_still (s : State) (n : Nat) (line : Word) : (State.deadline s n line).still = s.still := by simp only [State.deadline]; (repeat' split) <;> simp

@[simp] theorem State.deadlines_still (s : State) (n : Nat) (x2 : Nat) : (State.deadlines s n x2).still = s.still := by
  induction x2 generalizing s  with
  | zero => simp [State.deadlines]
  | succ k ih => unfold State.deadlines; dsimp only; (repeat' split) <;> simp [ih]

@[simp] theorem State.behind_still (s : State) (n : Nat) (line : Word) : (State.behind s n line).still = s.still := by simp only [State.behind]; (repeat' split) <;> simp

@[simp] theorem State.ctxImages_still (s : State) (n : Nat) (bad : List Nat) : (State.ctxImages s n bad).still = s.still := by simp [State.ctxImages]

@[simp] theorem State.startCtx_still (s : State) (n : Nat) : (State.startCtx s n).still = s.still := by simp [State.startCtx]

@[simp] theorem State.fireLine_still (s : State) (n : Nat) (tau : Nat) : (State.fireLine s n tau).still = s.still := by simp only [State.fireLine]; (repeat' split) <;> simp

@[simp] theorem State.seqBoundary_still (s : State) (n : Nat) (f : DWord) : (State.seqBoundary s n f).still = s.still := by simp [State.seqBoundary]

@[simp] theorem State.slackCheck_still (s : State) (n : Nat) : (State.slackCheck s n).still = s.still := by simp [State.slackCheck]

@[simp] theorem State.ctxBoundary_still (s : State) (bad : List Nat) (f : DWord) (n : Nat) : (State.ctxBoundary s bad f n).still = s.still := by simp only [State.ctxBoundary]; (repeat' split) <;> simp

@[simp] theorem State.boundaryWork_still (s : State) (ecc : List EccHit) : (State.boundaryWork s ecc).still = s.still := by simp [State.boundaryWork]
@[simp] theorem State.boundary_still (s : State) (ecc : List EccHit) : (State.boundary s ecc).still = s.still := by simp [State.boundary, State.frameOn]

/-! Fabric. -/

@[simp] theorem State.modFab_still (s : State) (f : Fabric → Fabric) : (State.modFab s f).still = s.still := by simp [State.modFab]

@[simp] theorem State.sendHello_still (s : State) : (State.sendHello s).still = s.still := by simp [State.sendHello]

@[simp] theorem State.enterDisc_still (s : State) : (State.enterDisc s).still = s.still := by simp [State.enterDisc]

@[simp] theorem State.startDisc_still (s : State) : (State.startDisc s).still = s.still := by simp [State.startDisc]

@[simp] theorem State.modDisc_still (s : State) (f : Disc → Disc) : (State.modDisc s f).still = s.still := by simp [State.modDisc]

@[simp] theorem State.topoSeen_still (s : State) : (State.topoSeen s).still = s.still := by simp [State.topoSeen]

@[simp] theorem State.topoChange_still (s : State) : (State.topoChange s).still = s.still := by simp [State.topoChange]

@[simp] theorem execFabBlockLock_still (k : Nat) (s : State) : (outState (execFabBlockLock k s) s).still = s.still := by simp [execFabBlockLock]

@[simp] theorem execFabPortUp_still (k : Nat) (link0 : Block) (link1 : Block) (s : State) : (outState (execFabPortUp k link0 link1 s) s).still = s.still := by simp only [execFabPortUp]; (repeat' split) <;> simp

@[simp] theorem State.portLost_still (s : State) (k : Nat) : (State.portLost s k).still = s.still := by simp [State.portLost]

@[simp] theorem execFabPortDown_still (k : Nat) (s : State) : (outState (execFabPortDown k s) s).still = s.still := by simp [execFabPortDown]

@[simp] theorem State.tc0Fits_still (s : State) (k : Nat) (q : Packet) : (State.tc0Fits s k q).1.still = s.still := by simp [State.tc0Fits]

@[simp] theorem State.giveCredit_still (s : State) (k : Nat) (q : Packet) : (State.giveCredit s k q).still = s.still := by simp [State.giveCredit]

@[simp] theorem State.tc0Hold_still (s : State) (k : Nat) (q : Packet) : (State.tc0Hold s k q).still = s.still := by simp [State.tc0Hold]

@[simp] theorem State.fabRecv_still (s : State) (k : Nat) (bs : List Block) (mine ok : Packet → Bool) (deliver : Packet → State → State) (hf : ∀ q (s : State), (deliver q s).still = s.still) : (State.fabRecv s k bs mine ok deliver).still = s.still := by
  have A : ∀ (q : Packet) (r : State), (if q.dest = 255 then (match r.newSeq q with
      | none => r
      | some v => let v := v.forward q k
                  let v := if q.tc = 0 then v.tc0Hold k q else v
                  if q.bad then v else deliver q v)
      else if q.dest.toNat = r.fab.addr then (if q.bad then r else deliver q r) else r.forward q k).still = r.still := by
    intro q r
    split
    · split
      · rfl
      · rename_i v h
        have e := State.newSeq_still r q v h
        dsimp only; rw [still_ite, hf, ite_self, still_ite, State.tc0Hold_still, State.forward_still, ite_self, e]
    · split
      · rw [still_ite, hf, ite_self]
      · simp
  have B : ∀ (q : Packet) (ok : Bool) (r : State), (if ok then r.bump Reg.FAB_DROP
    else
      let u := if q.bad then r.bump Reg.FAB_RX_CRC else r
      if (q.bad && q.tc == 3) || !u.fabOn || (u.fab.addr = 0 && q.tc ≠ 3) then u
      else if q.dest = 255 then (match u.newSeq q with
      | none => u
      | some v => let v := v.forward q k
                  let v := if q.tc = 0 then v.tc0Hold k q else v
                  if q.bad then v else deliver q v)
      else if q.dest.toNat = u.fab.addr then (if q.bad then u else deliver q u) else u.forward q k).still = r.still := by
    intro q ok r
    rw [still_ite]; split
    · simp
    · dsimp only; rw [still_ite, A, ite_self, still_ite, State.bump_still, ite_self]
  unfold State.fabRecv
  split
  · rfl
  rename_i q _
  extract_lets listed
  by_cases h : (listed && !mine q) = true
  · rw [if_pos h]
  · rw [if_neg h]
    have e : (if q.tc = 0 then s.tc0Fits k q else (s, true)).1.still = s.still := by
      by_cases c : q.tc = 0
      · rw [if_pos c, State.tc0Fits_still]
      · rw [if_neg c]
    revert e
    generalize (if q.tc = 0 then s.tc0Fits k q else (s, true)) = r
    intro e
    refine Eq.trans ?_ e
    by_cases g : (!r.2) = true
    · show (if (!r.2) = true then _ else _ : State).still = _
      rw [if_pos g, State.raise_still, State.bump_still]
    · show (if (!r.2) = true then _ else _ : State).still = _
      rw [if_neg g]
      refine (B q _ _).trans ?_
      rw [still_ite, State.giveCredit_still, ite_self]

@[simp] theorem State.fabRecvType_still (s : State) (k : Nat) (bs : List Block) (typ : Nat) (len : Nat) (deliver : Packet → State → State) (hdeliver : ∀ (y0 : Packet) (s : State), (deliver y0 s).still = s.still) : (State.fabRecvType s k bs typ len deliver).still = s.still := by simp [State.fabRecvType, *]

@[simp] theorem execFabCreditRx_still (k : Nat) (block : Block) (s : State) : (outState (execFabCreditRx k block s) s).still = s.still := by simp [execFabCreditRx]

@[simp] theorem State.sendDone_still (s : State) : (State.sendDone s).still = s.still := by simp [State.sendDone]

@[simp] theorem execFabHelloTimer_still (s : State) : (outState (execFabHelloTimer s) s).still = s.still := by simp only [execFabHelloTimer]; (repeat' split) <;> simp

@[simp] theorem execFabHelloRx_still (k : Nat) (bs : List Block) (s : State) : (outState (execFabHelloRx k bs s) s).still = s.still := by simp [execFabHelloRx]

@[simp] theorem execFabCoordElect_still (s : State) : (outState (execFabCoordElect s) s).still = s.still := by simp only [execFabCoordElect]; (repeat' split) <;> simp

@[simp] theorem execFabRouteRx_still (k : Nat) (bs : List Block) (s : State) : (outState (execFabRouteRx k bs s) s).still = s.still := by simp [execFabRouteRx]

@[simp] theorem execFabRouteAckRx_still (k : Nat) (bs : List Block) (s : State) : (outState (execFabRouteAckRx k bs s) s).still = s.still := by unfold execFabRouteAckRx; simp only [outState_next]; refine State.fabRecvType_still _ _ _ _ _ _ (fun q s => ?_); (repeat' split) <;> simp

@[simp] theorem execFabRouteRepeat_still (s : State) : (outState (execFabRouteRepeat s) s).still = s.still := by simp only [execFabRouteRepeat]; (repeat' split) <;> simp

@[simp] theorem execFabDoneRx_still (k : Nat) (bs : List Block) (s : State) : (outState (execFabDoneRx k bs s) s).still = s.still := by simp [execFabDoneRx]

@[simp] theorem State.findPartner_still (s : State) : (State.findPartner s).still = s.still := by simp [State.findPartner]

@[simp] theorem execFabRouteSwitch_still (s : State) : (outState (execFabRouteSwitch s) s).still = s.still := by simp only [execFabRouteSwitch]; (repeat' split) <;> simp

@[simp] theorem execFabDiscTimeout_still (s : State) : (outState (execFabDiscTimeout s) s).still = s.still := by simp only [execFabDiscTimeout]; (repeat' split) <;> simp

@[simp] theorem execFabDiscReqRx_still (k : Nat) (bs : List Block) (s : State) : (outState (execFabDiscReqRx k bs s) s).still = s.still := by simp [execFabDiscReqRx]

@[simp] theorem execFabBeaconTimer_still (s : State) : (outState (execFabBeaconTimer s) s).still = s.still := by simp [execFabBeaconTimer]

@[simp] theorem execFabBeaconRx_still (k : Nat) (bs : List Block) (s : State) : (outState (execFabBeaconRx k bs s) s).still = s.still := by simp [execFabBeaconRx]

@[simp] theorem execFabCoordLost_still (s : State) : (outState (execFabCoordLost s) s).still = s.still := by simp [execFabCoordLost]

@[simp] theorem execFabTopoChangeRx_still (k : Nat) (bs : List Block) (s : State) : (outState (execFabTopoChangeRx k bs s) s).still = s.still := by simp [execFabTopoChangeRx]

@[simp] theorem execFabHoldExpire_still (s : State) : (outState (execFabHoldExpire s) s).still = s.still := by simp only [execFabHoldExpire]; (repeat' split) <;> simp

@[simp] theorem execFabSampleRx_still (k : Nat) (bs : List Block) (s : State) : (outState (execFabSampleRx k bs s) s).still = s.still := by simp [execFabSampleRx]

@[simp] theorem execFabZedgeRx_still (k : Nat) (bs : List Block) (s : State) : (outState (execFabZedgeRx k bs s) s).still = s.still := by simp [execFabZedgeRx]

@[simp] theorem execFabZrxTimeRead_still (pf1 : Bool) (s : State) : (outState (execFabZrxTimeRead pf1 s) s).still = s.still := by simp [execFabZrxTimeRead]

@[simp] theorem execFabImageRx_still (k : Nat) (bs : List Block) (s : State) : (outState (execFabImageRx k bs s) s).still = s.still := by simp [execFabImageRx]

@[simp] theorem State.snapTake_still (s : State) (tag : Nat) (origin : Nat) (late : Bool) : (State.snapTake s tag origin late).still = s.still := by simp [State.snapTake]

@[simp] theorem State.snapMissed_still (s : State) (tag : Nat) (origin : Nat) : (State.snapMissed s tag origin).still = s.still := by simp [State.snapMissed]

@[simp] theorem State.snapArm_still (s : State) (t : DWord) (tag : Nat) (origin : Nat) : (State.snapArm s t tag origin).still = s.still := by simp only [State.snapArm]; (repeat' split) <;> simp

@[simp] theorem execFabSnapRx_still (k : Nat) (bs : List Block) (s : State) : (outState (execFabSnapRx k bs s) s).still = s.still := by simp [execFabSnapRx]

@[simp] theorem State.snapNow_still (s : State) (tag : Nat) : (State.snapNow s tag).still = s.still := by simp only [State.snapNow]; (repeat' split) <;> simp

@[simp] theorem State.snapCmdWrite_still (s : State) (value : Word) : (State.snapCmdWrite s value).still = s.still := by simp [State.snapCmdWrite]

@[simp] theorem execFabSnapSend_still (value : Word) (s : State) : (outState (execFabSnapSend value s) s).still = s.still := by simp [execFabSnapSend]

@[simp] theorem execFabSnapRelease_still (value : Word) (s : State) : (outState (execFabSnapRelease value s) s).still = s.still := by simp [execFabSnapRelease]

@[simp] theorem execFabSnapLatch_still (s : State) : (outState (execFabSnapLatch s) s).still = s.still := by simp only [execFabSnapLatch]; (repeat' split) <;> simp

/-! Can. -/

@[simp] theorem State.setCan_still (s : State) (n : Nat) (c : Can) : (State.setCan s n c).still = s.still := by simp [State.setCan]

@[simp] theorem State.modCan_still (s : State) (n : Nat) (f : Can → Can) : (State.modCan s n f).still = s.still := by simp [State.modCan]

@[simp] theorem State.canStart_still (s : State) (n : Nat) : (State.canStart s n).still = s.still := by simp only [State.canStart]; (repeat' split) <;> simp

@[simp] theorem State.canResult_still (s : State) (n : Nat) (r : Nat) : (State.canResult s n r).still = s.still := by simp [State.canResult]

@[simp] theorem State.canCmd_still (s : State) (n : Nat) (f : State → State) (hf : ∀ (s : State), (f s).still = s.still) : (State.canCmd s n f).still = s.still := by simp [State.canCmd, *]

@[simp] theorem execCanTxbWrite_still (n : Nat) (b : Nat) (s : State) : (outState (execCanTxbWrite n b s) s).still = s.still := by simp [execCanTxbWrite]

@[simp] theorem execCanTxbRead_still (n : Nat) (b : Nat) (s : State) : (outState (execCanTxbRead n b s) s).still = s.still := by simp [execCanTxbRead]

@[simp] theorem execCanTxbRequest_still (n : Nat) (b : Nat) (s : State) : (outState (execCanTxbRequest n b s) s).still = s.still := by simp [execCanTxbRequest]

@[simp] theorem execCanTxbCancel_still (n : Nat) (b : Nat) (s : State) : (outState (execCanTxbCancel n b s) s).still = s.still := by simp [execCanTxbCancel]

@[simp] theorem State.canProgram_still (s : State) (n : Nat) (b : Nat) : (State.canProgram s n b).still = s.still := by simp [State.canProgram]

@[simp] theorem State.canOutputs_still (s : State) : (State.canOutputs s).still = s.still := by simp [State.canOutputs]

@[simp] theorem State.canDemote_still (s : State) : (State.canDemote s).still = s.still := by simp [State.canDemote]

@[simp] theorem State.canFault_still (s : State) (n : Nat) : (State.canFault s n).still = s.still := by simp [State.canFault]

@[simp] theorem State.canInit_still (s : State) (n : Nat) : (State.canInit s n).still = s.still := by simp [State.canInit]

@[simp] theorem State.canRecoverBegin_still (s : State) (n : Nat) (auto : Bool) : (State.canRecoverBegin s n auto).still = s.still := by simp [State.canRecoverBegin]

@[simp] theorem State.canCtrl_still (s : State) (n : Nat) (v : Word) : (State.canCtrl s n v).still = s.still := by simp [State.canCtrl]

@[simp] theorem execCanModeWrite_still (n : Nat) (v : Word) (s : State) : (outState (execCanModeWrite n v s) s).still = s.still := by simp [execCanModeWrite]

@[simp] theorem execCanRecover_still (n : Nat) (s : State) : (outState (execCanRecover n s) s).still = s.still := by simp [execCanRecover]

@[simp] theorem execCanIntegrated_still (n : Nat) (s : State) : (outState (execCanIntegrated n s) s).still = s.still := by simp [execCanIntegrated]

@[simp] theorem State.canEnqueue_still (s : State) (n : Nat) (q : Nat) (r : CanRx) : (State.canEnqueue s n q r).still = s.still := by simp [State.canEnqueue]

@[simp] theorem State.canReceive_still (s : State) (n : Nat) (f : CanFrame) (sof : DWord) : (State.canReceive s n f sof).still = s.still := by simp only [State.canReceive]; (repeat' split) <;> simp

@[simp] theorem State.canFrameEnd_still (s : State) (n : Nat) : (State.canFrameEnd s n).still = s.still := by simp [State.canFrameEnd]

@[simp] theorem State.canRecDown_still (s : State) (n : Nat) : (State.canRecDown s n).still = s.still := by simp only [State.canRecDown]; (repeat' split) <;> simp

@[simp] theorem State.canTecDown_still (s : State) (n : Nat) : (State.canTecDown s n).still = s.still := by simp [State.canTecDown]

@[simp] theorem execCanFrameRx_still (n : Nat) (f : CanFrame) (sof : DWord) (s : State) : (outState (execCanFrameRx n f sof s) s).still = s.still := by simp [execCanFrameRx]

@[simp] theorem State.canFltPut_still (s : State) (n : Nat) (k : Nat) (w0 : Word) (w1 : Word) (w2 : Word) : (State.canFltPut s n k w0 w1 w2).still = s.still := by simp [State.canFltPut]

@[simp] theorem execCanFltWrite_still (n : Nat) (s : State) : (outState (execCanFltWrite n s) s).still = s.still := by simp [execCanFltWrite]

@[simp] theorem execCanFltRead_still (n : Nat) (s : State) : (outState (execCanFltRead n s) s).still = s.still := by simp [execCanFltRead]

@[simp] theorem execCanRxqHeadRead_still (pf1 : Bool) (n : Nat) (q : Nat) (s : State) : (outState (execCanRxqHeadRead pf1 n q s) s).still = s.still := by unfold execCanRxqHeadRead; simp only [outState_next]; refine State.reading_still _ _ _ _ (fun s => ?_); (repeat' split) <;> simp

@[simp] theorem execCanRxqPop_still (n : Nat) (q : Nat) (s : State) : (outState (execCanRxqPop n q s) s).still = s.still := by unfold execCanRxqPop; simp only [outState_next]; refine State.gated_still _ _ _ (fun s => ?_); (repeat' split) <;> simp

@[simp] theorem State.canBusOff_still (s : State) (n : Nat) : (State.canBusOff s n).still = s.still := by simp [State.canBusOff]

@[simp] theorem State.canAttemptFailed_still (s : State) (n : Nat) : (State.canAttemptFailed s n).still = s.still := by simp only [State.canAttemptFailed]; (repeat' split) <;> simp

@[simp] theorem execCanError_still (n : Nat) (kind : CanErr) (dataPhase : Bool) (transmitting : Bool) (tec : BitVec 9) (rec_ : BitVec 8) (s : State) : (outState (execCanError n kind dataPhase transmitting tec rec_ s) s).still = s.still := by simp [execCanError]

@[simp] theorem execCanArbLost_still (n : Nat) (s : State) : (outState (execCanArbLost n s) s).still = s.still := by simp [execCanArbLost]

@[simp] theorem execCanTxSuccess_still (n : Nat) (sof : DWord) (tdcv : Nat) (s : State) : (outState (execCanTxSuccess n sof tdcv s) s).still = s.still := by simp only [execCanTxSuccess]; (repeat' split) <;> simp

@[simp] theorem execCanBusOffRecovered_still (n : Nat) (s : State) : (outState (execCanBusOffRecovered n s) s).still = s.still := by simp only [execCanBusOffRecovered]; (repeat' split) <;> simp

@[simp] theorem execCanProtocolException_still (n : Nat) (id : BitVec 29) (s : State) : (outState (execCanProtocolException n id s) s).still = s.still := by simp [execCanProtocolException]

/-! Loop. -/

@[simp] theorem State.setLoop_still (s : State) (n : Nat) (l : Loop) : (State.setLoop s n l).still = s.still := by simp [State.setLoop]

@[simp] theorem State.modLoop_still (s : State) (n : Nat) (f : Loop → Loop) : (State.modLoop s n f).still = s.still := by simp [State.modLoop]

@[simp] theorem State.loopTracked_still (s : State) (n : Nat) : (State.loopTracked s n).2.still = s.still := by simp only [State.loopTracked]; (repeat' split) <;> simp

@[simp] theorem State.loopHold_still (s : State) (n : Nat) : (State.loopHold s n).still = s.still := by simp [State.loopHold]

@[simp] theorem State.loopUpdate_still (s : State) (n : Nat) : (State.loopUpdate s n).still = s.still := by simp [State.loopUpdate]

@[simp] theorem State.loopsUpdate_still (s : State) : (State.loopsUpdate s).still = s.still := by simp [State.loopsUpdate]

@[simp] theorem State.loopWrite_still (s : State) (n : Nat) (fromKiln : Bool) : (State.loopWrite s n fromKiln).still = s.still := by simp [State.loopWrite]

@[simp] theorem State.loopsStop_still (s : State) : (State.loopsStop s).still = s.still := by simp [State.loopsStop]

@[simp] theorem State.loopEnWrite_still (s : State) (n : Nat) : (State.loopEnWrite s n).still = s.still := by simp [State.loopEnWrite]

@[simp] theorem State.loopConvReq_still (s : State) (n : Nat) : (State.loopConvReq s n).still = s.still := by simp [State.loopConvReq]

@[simp] theorem execLoopConvStart_still (n : Nat) (s : State) : (outState (execLoopConvStart n s) s).still = s.still := by simp [execLoopConvStart]

@[simp] theorem State.loopCompliance_still (s : State) (n : Nat) : (State.loopCompliance s n).still = s.still := by simp only [State.loopCompliance]; (repeat' split) <;> simp

@[simp] theorem execLoopConvDone_still (n : Nat) (current : BitVec 16) (headroom : BitVec 16) (s : State) : (outState (execLoopConvDone n current headroom s) s).still = s.still := by simp only [execLoopConvDone]; (repeat' split) <;> simp

@[simp] theorem execLoopPgateFall_still (n : Nat) (s : State) : (outState (execLoopPgateFall n s) s).still = s.still := by simp [execLoopPgateFall]

@[simp] theorem execLoopPgateRise_still (n : Nat) (s : State) : (outState (execLoopPgateRise n s) s).still = s.still := by simp [execLoopPgateRise]

@[simp] theorem State.trimStep_still (s : State) (n : Nat) (up : Bool) : (State.trimStep s n up).still = s.still := by simp [State.trimStep]

@[simp] theorem execLoopTrimPress_still (sel : Nat) (up : Bool) (dn : Bool) (s : State) : (outState (execLoopTrimPress sel up dn s) s).still = s.still := by simp [execLoopTrimPress]

@[simp] theorem execLoopTrimRepeat_still (s : State) : (outState (execLoopTrimRepeat s) s).still = s.still := by simp only [execLoopTrimRepeat]; (repeat' split) <;> simp

@[simp] theorem execLoopTrimRelease_still (s : State) : (outState (execLoopTrimRelease s) s).still = s.still := by simp only [execLoopTrimRelease]; (repeat' split) <;> simp

/-! Image. -/

@[simp] theorem State.setSb_still (s : State) (c : Nat) (b : Sb) : (State.setSb s c b).still = s.still := by simp [State.setSb]

@[simp] theorem State.modSb_still (s : State) (c : Nat) (f : Sb → Sb) : (State.modSb s c f).still = s.still := by simp [State.modSb]

@[simp] theorem State.gpioDrive_still (s : State) (pin : Nat) (level : Bool) : (State.gpioDrive s pin level).still = s.still := by simp [State.gpioDrive]

@[simp] theorem State.pflagRaise_still (s : State) (n : Nat) (old : BitVec 16) (new : BitVec 16) : (State.pflagRaise s n old new).still = s.still := by simp [State.pflagRaise]

@[simp] theorem State.sbWrote_still (s : State) (c : Nat) (slot : Nat) : (State.sbWrote s c slot).still = s.still := by simp [State.sbWrote]

@[simp] theorem State.deliver_still (s : State) (w : SMap Byte) (fromKiln : Bool) : (State.deliver s w fromKiln).still = s.still := by simp [State.deliver]

/-! Kiln. -/

@[simp] theorem State.setKloop_still (s : State) (n : Nat) (l : KLoop) : (State.setKloop s n l).still = s.still := by simp [State.setKloop]

@[simp] theorem State.modKloop_still (s : State) (n : Nat) (f : KLoop → KLoop) : (State.modKloop s n f).still = s.still := by simp [State.modKloop]

@[simp] theorem State.setKgrp_still (s : State) (g : Nat) (x : KGroup) : (State.setKgrp s g x).still = s.still := by simp [State.setKgrp]

@[simp] theorem State.tuneAbort_still (s : State) (reason : Nat) : (State.tuneAbort s reason).still = s.still := by simp only [State.tuneAbort]; (repeat' split) <;> simp

@[simp] theorem State.putQuot_still (s : State) (off : Nat) (num : Int) (den : Int) : (State.putQuot s off num den).still = s.still := by simp [State.putQuot]

@[simp] theorem State.tuneDone_still (s : State) (t : Tune) : (State.tuneDone s t).still = s.still := by simp [State.tuneDone]

@[simp] theorem State.kilnInvalid_still (s : State) (n : Nat) : (State.kilnInvalid s n).still = s.still := by simp [State.kilnInvalid]

@[simp] theorem State.kilnMode_still (s : State) (n : Nat) : (State.kilnMode s n).still = s.still := by simp only [State.kilnMode]; (repeat' split) <;> simp

@[simp] theorem State.kilnValid_still (s : State) (n : Nat) (pv : Int) (first : Nat) : (State.kilnValid s n pv first).still = s.still := by
  unfold State.kilnValid
  extract_lets s1 s2 s3 l tus l2
  have e1 : s1.still = s.still := by simp only [s1]; split <;> simp
  have e2 : s2.still = s.still := by rw [← e1]; exact State.modKloop_still _ _ _
  have e3 : s3.still = s.still := by rw [← e2]; simp only [s3]; (repeat' split) <;> simp
  clear_value s3 l2
  rw [← e3]
  split
  · simp
  · split
    · dsimp only; rw [still_ite, State.tuneDone_still, ite_self]; simp
    · simp

@[simp] theorem State.kilnSample_still (s : State) (g : Nat) (n : Nat) : (State.kilnSample s g n).still = s.still := by simp only [State.kilnSample]; (repeat' split) <;> simp

@[simp] theorem State.kilnLost_still (s : State) (g : Nat) (k : Nat) (why : Nat) : (State.kilnLost s g k why).still = s.still := by simp [State.kilnLost]

@[simp] theorem State.kilnStart_still (s : State) (g : Nat) : (State.kilnStart s g).still = s.still := by simp [State.kilnStart]

@[simp] theorem State.kilnAction_still (s : State) (g : Nat) : (State.kilnAction s g).still = s.still := by simp [State.kilnAction]

@[simp] theorem execKilnGroupStart_still (g : Nat) (s : State) : (outState (execKilnGroupStart g s) s).still = s.still := by simp [execKilnGroupStart]

@[simp] theorem State.kilnPut_still (s : State) (n : Nat) : (State.kilnPut s n).still = s.still := by simp only [State.kilnPut]; (repeat' split) <;> simp

@[simp] theorem execKilnOutputWrite_still (g : Nat) (s : State) : (outState (execKilnOutputWrite g s) s).still = s.still := by simp only [execKilnOutputWrite]; (repeat' split) <;> simp

@[simp] theorem State.kilnCmd_still (s : State) (f : Nat → State → Host.Outcome State Fault Refusal) (hf : ∀ n (s : State), (outState (f n s) s).still = s.still) : (outState (State.kilnCmd s f) s).still = s.still := by
  unfold State.kilnCmd; cases h : s.dropped Reg.KILN_CMD with
  | none => exact hf _ s
  | some t => rw [outState_next]; exact State.dropped_still s _ t h

@[simp] theorem State.kilnResult_still (s : State) (r : Nat) : (State.kilnResult s r).still = s.still := by simp [State.kilnResult]

@[simp] theorem execKilnCmdWrite_still (s : State) : (outState (execKilnCmdWrite s) s).still = s.still := by simp [execKilnCmdWrite]

@[simp] theorem execKilnCmdRead_still (s : State) : (outState (execKilnCmdRead s) s).still = s.still := by simp [execKilnCmdRead]

@[simp] theorem State.kilnReq_still (s : State) (m : Nat) : (outState (State.kilnReq s m) s).still = s.still := by simp [State.kilnReq]

@[simp] theorem execKilnManual_still (s : State) : (outState (execKilnManual s) s).still = s.still := by simp [execKilnManual]

@[simp] theorem execKilnAuto_still (s : State) : (outState (execKilnAuto s) s).still = s.still := by simp [execKilnAuto]

@[simp] theorem execKilnOff_still (s : State) : (outState (execKilnOff s) s).still = s.still := by simp [execKilnOff]

@[simp] theorem execKilnTuneStart_still (s : State) : (outState (execKilnTuneStart s) s).still = s.still := by simp [execKilnTuneStart]

@[simp] theorem execKilnTuneCancel_still (s : State) : (outState (execKilnTuneCancel s) s).still = s.still := by simp [execKilnTuneCancel]

@[simp] theorem execKilnTuneTimeout_still (s : State) : (outState (execKilnTuneTimeout s) s).still = s.still := by simp only [execKilnTuneTimeout]; (repeat' split) <;> simp

@[simp] theorem State.kilnGroups_still (s : State) : (State.kilnGroups s).still = s.still := by simp [State.kilnGroups]

@[simp] theorem execKilnEnable_still (s : State) : (outState (execKilnEnable s) s).still = s.still := by simp [execKilnEnable]

@[simp] theorem State.kilnStop_still (s : State) (reason : Nat) : (State.kilnStop s reason).still = s.still := by simp [State.kilnStop]

@[simp] theorem State.kilnResume_still (s : State) : (State.kilnResume s).still = s.still := by simp [State.kilnResume]

@[simp] theorem State.kilnLoad_still (s : State) (b : List Byte) : (State.kilnLoad s b).still = s.still := by simp [State.kilnLoad]

/-! Cycle. -/

@[simp] theorem State.modCyc_still (s : State) (f : Cyc → Cyc) : (State.modCyc s f).still = s.still := by simp [State.modCyc]

@[simp] theorem State.setRun_still (s : State) (t : Nat) (r : TaskRun) : (State.setRun s t r).still = s.still := by simp [State.setRun]

@[simp] theorem State.modRun_still (s : State) (t : Nat) (f : TaskRun → TaskRun) : (State.modRun s t f).still = s.still := by simp [State.modRun]

@[simp] theorem State.cycResult_still (s : State) (cmd : Nat) (r : Nat) (done : Bool) : (State.cycResult s cmd r done).still = s.still := by simp [State.cycResult]

@[simp] theorem State.changeCancel_still (s : State) : (State.changeCancel s).still = s.still := by simp [State.changeCancel]

@[simp] theorem State.coresStop_still (s : State) : (State.coresStop s).still = s.still := by simp [State.coresStop]

@[simp] theorem State.cycStopped_still (s : State) : (State.cycStopped s).still = s.still := by simp [State.cycStopped]

@[simp] theorem State.cycStopCheck_still (s : State) : (State.cycStopCheck s).still = s.still := by simp [State.cycStopCheck]

@[simp] theorem State.cycHalt_still (s : State) (cause : Nat) (core : Nat) : (State.cycHalt s cause core).still = s.still := by simp [State.cycHalt]

@[simp] theorem State.cycStandby_still (s : State) : (State.cycStandby s).still = s.still := by simp [State.cycStandby]

@[simp] theorem State.cycCmd_still (s : State) (cmd : Nat) (f : State → State) (hf : ∀ (s : State), (f s).still = s.still) : (State.cycCmd s cmd f).still = s.still := by simp [State.cycCmd, *]

@[simp] theorem execCycLoad_still (s : State) : (outState (execCycLoad s) s).still = s.still := by simp [execCycLoad]

@[simp] theorem State.loadReads_still (s : State) (headerFault : Bool) (header : List Word) : (State.loadReads s headerFault header).still = s.still := by simp [State.loadReads]

@[simp] theorem execCycLoadDone_still (headerFault : Bool) (header : List Word) (restFault : Bool) (rest : List Byte) (s : State) : (outState (execCycLoadDone headerFault header restFault rest s) s).still = s.still := by simp [execCycLoadDone]

@[simp] theorem execCycDiscard_still (s : State) : (outState (execCycDiscard s) s).still = s.still := by simp [execCycDiscard]

@[simp] theorem State.cycStartCmd_still (s : State) (warm : Bool) : (State.cycStartCmd s warm).still = s.still := by
  unfold State.cycStartCmd; refine State.cycCmd_still _ _ _ (fun s => ?_)
  dsimp only
  generalize (if warm = true then 3 else 2) = cmd
  rw [still_ite]; split
  · rw [State.cycResult_still]
  · split
    · rw [State.cycResult_still]
    · rw [still_ite, still_ite, still_ite, State.cycResult_still, State.cycResult_still, State.raise_still, State.cycResult_still, State.cycResult_still,
        State.modCyc_still, ite_self, ite_self, ite_self]

@[simp] theorem execCycStartCold_still (s : State) : (outState (execCycStartCold s) s).still = s.still := by simp [execCycStartCold]

@[simp] theorem execCycStartWarm_still (s : State) : (outState (execCycStartWarm s) s).still = s.still := by simp [execCycStartWarm]

@[simp] theorem execCycStop_still (s : State) : (outState (execCycStop s) s).still = s.still := by unfold execCycStop; simp only [outState_next]; refine State.cycCmd_still _ _ _ (fun s => ?_); (repeat' split) <;> simp

@[simp] theorem execCycChange_still (s : State) : (outState (execCycChange s) s).still = s.still := by unfold execCycChange; rw [outState_next]; refine State.cycCmd_still _ _ _ (fun s => ?_); (repeat' split) <;> simp

@[simp] theorem State.cycRun_still (s : State) (p : Program) (t0 : DWord) : (State.cycRun s p t0).still = s.still := by simp [State.cycRun]

@[simp] theorem State.cycEnter_still (s : State) : (State.cycEnter s).still = s.still := by simp only [State.cycEnter]; (repeat' split) <;> simp

@[simp] theorem State.cycOverrun_still (s : State) (t : Nat) (core : Nat) : (State.cycOverrun s t core).still = s.still := by simp [State.cycOverrun]

@[simp] theorem State.changeTry_still (s : State) (p : Program) (k : Int) : (State.changeTry s p k).still = s.still := by simp only [State.changeTry]; (repeat' split) <;> simp

@[simp] theorem State.ckptBoundary_still (s : State) : (State.ckptBoundary s).still = s.still := by simp [State.ckptBoundary]

@[simp] theorem State.cycBegin_still (s : State) (p : Program) (t : Nat) (at_ : DWord) (stepLate : Bool) : (State.cycBegin s p t at_ stepLate).still = s.still := by simp [State.cycBegin]

@[simp] theorem State.cycSkip_still (s : State) (p : Program) (t : Nat) (k : Nat) (at_ : DWord) : (State.cycSkip s p t k at_).still = s.still := by simp [State.cycSkip]

@[simp] theorem State.nativeStart_still (s : State) (p : Program) (t : Nat) (k : Int) : (State.nativeStart s p t k).still = s.still := by simp only [State.nativeStart]; (repeat' split) <;> simp

@[simp] theorem State.resched_still (s : State) (p : Program) (core : Nat) : (State.resched s p core).still = s.still := by simp only [State.resched]; (repeat' split) <;> simp

@[simp] theorem State.activate_still (s : State) (p : Program) (t : Nat) : (State.activate s p t).still = s.still := by simp [State.activate]

@[simp] theorem State.compatStart_still (s : State) (p : Program) (t : Nat) (k : Int) : (State.compatStart s p t k).still = s.still := by simp only [State.compatStart]; (repeat' split) <;> simp

@[simp] theorem State.cycBoundary_still (s : State) (t : Nat) : (State.cycBoundary s t).still = s.still := by simp only [State.cycBoundary]; (repeat' split) <;> simp

@[simp] theorem State.cycTrigger_still (s : State) (p : Program) (t : Nat) : (State.cycTrigger s p t).still = s.still := by simp [State.cycTrigger]

@[simp] theorem State.cycAction_still (s : State) (core : Nat) : (State.cycAction s core).still = s.still := by simp only [State.cycAction]; (repeat' split) <;> simp

@[simp] theorem execCycEventTrigger_still (t : Nat) (s : State) : (outState (execCycEventTrigger t s) s).still = s.still := by simp only [execCycEventTrigger]; (repeat' split) <;> simp

@[simp] theorem State.ckptSend_still (s : State) (cycle : Word) (x2 : Nat) (x3 : Nat) (x4 : List DWord) : (State.ckptSend s cycle x2 x3 x4).still = s.still := by
  induction x2 generalizing s x3 x4 with
  | zero => simp [State.ckptSend]
  | succ k ih =>
    cases x4 with
    | nil => simp [State.ckptSend]
    | cons c r => unfold State.ckptSend; simp [ih]

@[simp] theorem State.checkpoint_still (s : State) (p : Program) (start : DWord) : (State.checkpoint s p start).still = s.still := by simp [State.checkpoint]

@[simp] theorem State.retainedCopy_still (s : State) (p : Program) : (State.retainedCopy s p).still = s.still := by simp [State.retainedCopy]

@[simp] theorem execCycRetCopyDone_still (s : State) : (outState (execCycRetCopyDone s) s).still = s.still := by simp only [execCycRetCopyDone]; (repeat' split) <;> simp

@[simp] theorem execCycLogicEnd_still (t : Nat) (res : LogicResult) (s : State) : (outState (execCycLogicEnd t res s) s).still = s.still := by simp only [execCycLogicEnd]; (repeat' split) <;> simp

@[simp] theorem execCycOutputWrite_still (core : Nat) (s : State) : (outState (execCycOutputWrite core s) s).still = s.still := by simp only [execCycOutputWrite]; (repeat' split) <;> simp

@[simp] theorem execCycWatchdog_still (core : Nat) (s : State) : (outState (execCycWatchdog core s) s).still = s.still := by simp only [execCycWatchdog]; (repeat' split) <;> simp

@[simp] theorem execCycTrap_still (core : Nat) (s : State) : (outState (execCycTrap core s) s).still = s.still := by simp [execCycTrap]

@[simp] theorem State.forceChange_still (s : State) (fs : List Force) (args : List Word) : (State.forceChange s fs args).still = s.still := by simp [State.forceChange]

@[simp] theorem execForceSet_still (d : List Word) (s : State) : (outState (execForceSet d s) s).still = s.still := by
  have A : ∀ u : State, (match u.kiln.tune with
        | some t => if u.kilnForced (u.kloop t.loop) then u.tuneAbort 6 else u
        | none => u).still = u.still := by intro u; (repeat' split) <;> simp
  unfold execForceSet
  split
  · rw [outState_next]
  split
  · rw [outState_next, State.hostError_still]
  split
  · rw [outState_next, State.mgmtDone_still]
  extract_lets a f same keep fs s1 s2
  split
  · rw [outState_next, State.mgmtDone_still]
  split
  · rw [outState_next, State.hostError_still]
  split
  · rw [outState_next, State.mgmtDone_still]
  rw [outState_next, State.mgmtDone_still]
  exact (A s1).trans (State.forceChange_still _ _ _)

@[simp] theorem execForceClear_still (d : List Word) (s : State) : (outState (execForceClear d s) s).still = s.still := by simp [execForceClear]

@[simp] theorem State.ckptLoad_still (s : State) (cycle : Word) (b : List Byte) : (State.ckptLoad s cycle b).still = s.still := by simp [State.ckptLoad]

@[simp] theorem State.cycClear_still (s : State) : (State.cycClear s).still = s.still := by simp [State.cycClear]

/-! StationBus. -/

@[simp] theorem State.sbListen_still (s : State) (c : Nat) : (State.sbListen s c).still = s.still := by simp [State.sbListen]

@[simp] theorem State.sbOff_still (s : State) (c : Nat) : (State.sbOff s c).still = s.still := by simp [State.sbOff]

@[simp] theorem State.sbCfg_still (s : State) (c : Nat) (v : Word) : (State.sbCfg s c v).still = s.still := by simp [State.sbCfg]

@[simp] theorem execSbChEnable_still (c : Nat) (v : Word) (s : State) : (outState (execSbChEnable c v s) s).still = s.still := by simp [execSbChEnable]

@[simp] theorem execSbListenEnd_still (c : Nat) (s : State) : (outState (execSbListenEnd c s) s).still = s.still := by simp [execSbListenEnd]

@[simp] theorem execSbCycleStart_still (c : Nat) (s : State) : (outState (execSbCycleStart c s) s).still = s.still := by simp [execSbCycleStart]

@[simp] theorem State.sbSend_still (s : State) (c : Nat) (f : SbFrame) : (State.sbSend s c f).still = s.still := by simp [State.sbSend]

@[simp] theorem execSbSlotTx_still (c : Nat) (slot : Nat) (s : State) : (outState (execSbSlotTx c slot s) s).still = s.still := by simp only [execSbSlotTx]; (repeat' split) <;> simp

@[simp] theorem State.sbEvtCtl_still (s : State) (c : Nat) (v : Word) : (State.sbEvtCtl s c v).still = s.still := by simp [State.sbEvtCtl]

@[simp] theorem execSbEvtSend_still (c : Nat) (v : Word) (s : State) : (outState (execSbEvtSend c v s) s).still = s.still := by simp [execSbEvtSend]

@[simp] theorem State.sbDynamic_still (s : State) (c : Nat) (k : Int) (t : DWord) : (State.sbDynamic s c k t).still = s.still := by simp [State.sbDynamic]

@[simp] theorem State.sbEpoch_still (s : State) (c : Nat) (f : SbFrame) : (State.sbEpoch s c f).still = s.still := by simp [State.sbEpoch]

@[simp] theorem State.sbForward_still (s : State) (c : Nat) (branch : Nat) (g : List CodeGroup) : (State.sbForward s c branch g).still = s.still := by simp [State.sbForward]

@[simp] theorem State.sbViolation_still (s : State) (c : Nat) (br : Nat) (kind : Nat) : (State.sbViolation s c br kind).still = s.still := by simp [State.sbViolation]

@[simp] theorem State.sbEnforce_still (s : State) (c : Nat) (br : Nat) (arrival : Int) (limit : Int) (g : List CodeGroup) : (State.sbEnforce s c br arrival limit g).1.still = s.still := by simp only [State.sbEnforce]; (repeat' split) <;> simp

@[simp] theorem State.sbTake_still (s : State) (c : Nat) (slot : Nat) (f : SbFrame) (arrival : Int) : (State.sbTake s c slot f arrival).still = s.still := by simp [State.sbTake]

@[simp] theorem execSbFrameRx_still (c : Nat) (slot : Nat) (g : List CodeGroup) (arrival : Int) (s : State) : (outState (execSbFrameRx c slot g arrival s) s).still = s.still := by simp only [execSbFrameRx]; (repeat' split) <;> simp

@[simp] theorem State.sbEvent_still (s : State) (c : Nat) (turn : Nat) (f : SbFrame) : (State.sbEvent s c turn f).still = s.still := by simp [State.sbEvent]

@[simp] theorem execSbEventFrameRx_still (c : Nat) (turn : Nat) (g : List CodeGroup) (arrival : Int) (s : State) : (outState (execSbEventFrameRx c turn g arrival s) s).still = s.still := by simp only [execSbEventFrameRx]; (repeat' split) <;> simp

@[simp] theorem execSbEvtRxPop_still (pf1 : Bool) (c : Nat) (s : State) : (outState (execSbEvtRxPop pf1 c s) s).still = s.still := by unfold execSbEvtRxPop; simp only [outState_next]; refine State.reading_still _ _ _ _ (fun s => ?_); (repeat' split) <;> simp

@[simp] theorem State.sbTerms_still (s : State) (c : Nat) (k : Int) : (State.sbTerms s c k).still = s.still := by simp [State.sbTerms]

@[simp] theorem execSbCorrection_still (c : Nat) (s : State) : (outState (execSbCorrection c s) s).still = s.still := by simp only [execSbCorrection]; (repeat' split) <;> simp

@[simp] theorem execSbBranchViolation_still (c : Nat) (br : Nat) (kind : BitVec 2) (s : State) : (outState (execSbBranchViolation c br kind s) s).still = s.still := by simp [execSbBranchViolation]

@[simp] theorem execSbStarReopen_still (c : Nat) (v : Word) (s : State) : (outState (execSbStarReopen c v s) s).still = s.still := by simp [execSbStarReopen]

@[simp] theorem execSbStartCollision_still (c : Nat) (mask : BitVec 9) (s : State) : (outState (execSbStartCollision c mask s) s).still = s.still := by simp [execSbStartCollision]

@[simp] theorem execSbAbortRx_still (c : Nat) (s : State) : (outState (execSbAbortRx c s) s).still = s.still := by simp [execSbAbortRx]

@[simp] theorem State.sbAbandon_still (s : State) : (State.sbAbandon s).still = s.still := by unfold State.sbAbandon; refine each_still _ _ _ (fun s c => ?_); dsimp only; (repeat' split) <;> simp

/-! Twin. -/

@[simp] theorem State.modTwin_still (s : State) (f : Twin → Twin) : (State.modTwin s f).still = s.still := by simp [State.modTwin]

@[simp] theorem State.seeEpoch_still (s : State) (e : Word) : (State.seeEpoch s e).still = s.still := by simp [State.seeEpoch]

@[simp] theorem State.roleChanged_still (s : State) : (State.roleChanged s).still = s.still := by simp [State.roleChanged]

@[simp] theorem State.prefFollow_still (s : State) (n : Nat) : (State.prefFollow s n).still = s.still := by simp [State.prefFollow]

@[simp] theorem State.standbyEnter_still (s : State) (trigger : Nat) : (State.standbyEnter s trigger).still = s.still := by simp [State.standbyEnter]

@[simp] theorem State.demote_still (s : State) (trigger : Nat) : (State.demote s trigger).still = s.still := by simp [State.demote]

@[simp] theorem State.ctrlArm_still (s : State) : (State.ctrlArm s).still = s.still := by simp only [State.ctrlArm]; (repeat' split) <;> simp

@[simp] theorem State.ctrlTake_still (s : State) (ready : Bool) : (State.ctrlTake s ready).still = s.still := by simp [State.ctrlTake]

@[simp] theorem State.takeRole_still (s : State) (cause : Nat) : (State.takeRole s cause).still = s.still := by simp only [State.takeRole]; (repeat' split) <;> simp

@[simp] theorem State.decideTake_still (s : State) (cause : Nat) : (State.decideTake s cause).still = s.still := by simp [State.decideTake]

@[simp] theorem execTwinTakeover_still (s : State) : (outState (execTwinTakeover s) s).still = s.still := by simp only [execTwinTakeover]; (repeat' split) <;> simp

@[simp] theorem State.ringRead_still (s : State) (n : Nat) (from_ : Nat) (count : Nat) : (State.ringRead s n from_ count).still = s.still := by simp [State.ringRead]

@[simp] theorem execTwinPostResume_still (phases : List (Fin 64 × List Bool)) (s : State) : (outState (execTwinPostResume phases s) s).still = s.still := by
  unfold execTwinPostResume; dsimp only; split
  · rw [outState_next]
  · rw [outState_next, each_still _ _ _ (fun s n => State.cqDrain_still s n 64), State.modTwin_still]
    refine each_still _ _ _ (fun s n => ?_)
    (repeat' split) <;> simp

@[simp] theorem execTwinHbSend_still (s : State) : (outState (execTwinHbSend s) s).still = s.still := by simp [execTwinHbSend]

@[simp] theorem State.hbActive_still (s : State) (q : Packet) : (State.hbActive s q).still = s.still := by simp [State.hbActive]

@[simp] theorem State.hbNumber_still (s : State) (q : Packet) : (State.hbNumber s q).still = s.still := by simp [State.hbNumber]

@[simp] theorem State.hbStandby_still (s : State) (q : Packet) : (State.hbStandby s q).still = s.still := by simp [State.hbStandby]

@[simp] theorem State.heartbeat_still (s : State) (q : Packet) : (State.heartbeat s q).still = s.still := by simp only [State.heartbeat]; (repeat' split) <;> simp

@[simp] theorem State.twinJudge_still (s : State) (kind : Nat) (q : Packet) (f : State → State) (hf : ∀ (s : State), (f s).still = s.still) : (State.twinJudge s kind q f).still = s.still := by simp [State.twinJudge, *]

@[simp] theorem State.twinRecv_still (s : State) (k : Nat) (bs : List Block) (kind : Nat) (len : Packet → Bool) (f : Packet → State → State) (hf : ∀ (y0 : Packet) (s : State), (f y0 s).still = s.still) : (State.twinRecv s k bs kind len f).still = s.still := by simp [State.twinRecv, *]

@[simp] theorem execTwinHeartbeatRx_still (k : Nat) (bs : List Block) (s : State) : (outState (execTwinHeartbeatRx k bs s) s).still = s.still := by simp [execTwinHeartbeatRx]

@[simp] theorem execTwinCkptRx_still (k : Nat) (bs : List Block) (s : State) : (outState (execTwinCkptRx k bs s) s).still = s.still := by simp [execTwinCkptRx]

@[simp] theorem execTwinCkptEndRx_still (k : Nat) (bs : List Block) (s : State) : (outState (execTwinCkptEndRx k bs s) s).still = s.still := by unfold execTwinCkptEndRx; simp only [outState_next]; refine State.twinRecv_still _ _ _ _ _ _ (fun q s => ?_); (repeat' split) <;> simp

@[simp] theorem State.twinSample_still (s : State) (q : Packet) : (State.twinSample s q).still = s.still := by simp [State.twinSample]

@[simp] theorem execTwinSampleRx_still (k : Nat) (bs : List Block) (s : State) : (outState (execTwinSampleRx k bs s) s).still = s.still := by simp [execTwinSampleRx]

@[simp] theorem execTwinSeqRx_still (k : Nat) (bs : List Block) (s : State) : (outState (execTwinSeqRx k bs s) s).still = s.still := by simp [execTwinSeqRx]

@[simp] theorem execTwinCtxRx_still (k : Nat) (bs : List Block) (s : State) : (outState (execTwinCtxRx k bs s) s).still = s.still := by simp [execTwinCtxRx]

@[simp] theorem execTwinEpochReplyRx_still (k : Nat) (bs : List Block) (s : State) : (outState (execTwinEpochReplyRx k bs s) s).still = s.still := by simp [execTwinEpochReplyRx]

@[simp] theorem execTwinSwapRx_still (k : Nat) (bs : List Block) (s : State) : (outState (execTwinSwapRx k bs s) s).still = s.still := by unfold execTwinSwapRx; simp only [outState_next]; refine State.twinRecv_still _ _ _ _ _ _ (fun q s => ?_); (repeat' split) <;> simp

@[simp] theorem State.linkCheck_still (s : State) : (State.linkCheck s).still = s.still := by simp only [State.linkCheck]; (repeat' split) <;> simp

@[simp] theorem execTwinHbLost_still (s : State) : (outState (execTwinHbLost s) s).still = s.still := by simp only [execTwinHbLost]; (repeat' split) <;> simp

@[simp] theorem execTwinHbDecide2_still (s : State) : (outState (execTwinHbDecide2 s) s).still = s.still := by simp only [execTwinHbDecide2]; (repeat' split) <;> simp

@[simp] theorem State.twinWait_still (s : State) : (State.twinWait s).still = s.still := by simp [State.twinWait]

@[simp] theorem execTwinStartWaitExpire_still (s : State) : (outState (execTwinStartWaitExpire s) s).still = s.still := by simp only [execTwinStartWaitExpire]; (repeat' split) <;> simp

@[simp] theorem State.twinClear_still (s : State) : (State.twinClear s).still = s.still := by simp [State.twinClear]

@[simp] theorem State.twinCfgWrite_still (s : State) (v : Word) : (State.twinCfgWrite s v).still = s.still := by simp [State.twinCfgWrite]

@[simp] theorem State.swapReq_still (s : State) : (State.swapReq s).still = s.still := by simp [State.swapReq]

@[simp] theorem State.swapCmd_still (s : State) (now : Bool) (cancel : Bool) : (State.swapCmd s now cancel).still = s.still := by simp [State.swapCmd]

@[simp] theorem execTwinSwapTimer_still (s : State) : (outState (execTwinSwapTimer s) s).still = s.still := by simp [execTwinSwapTimer]

@[simp] theorem execTwinSwapNow_still (s : State) : (outState (execTwinSwapNow s) s).still = s.still := by simp [execTwinSwapNow]

@[simp] theorem execTwinSwapCancel_still (s : State) : (outState (execTwinSwapCancel s) s).still = s.still := by simp [execTwinSwapCancel]

@[simp] theorem execTwinSwapDeferred_still (s : State) : (outState (execTwinSwapDeferred s) s).still = s.still := by simp only [execTwinSwapDeferred]; (repeat' split) <;> simp

@[simp] theorem State.swapStart_still (s : State) : (State.swapStart s).still = s.still := by simp only [State.swapStart]; (repeat' split) <;> simp

@[simp] theorem State.swapBoundary_still (s : State) : (State.swapBoundary s).still = s.still := by simp only [State.swapBoundary]; (repeat' split) <;> simp

/-! HeadReturn. -/

@[simp] theorem execFrameBoundary_still (ecc : List EccHit) (s : State) : (outState (execFrameBoundary ecc s) s).still = s.still := by simp [execFrameBoundary]

@[simp] theorem execCycPeriodStart_still (t : Fin 24) (s : State) : (outState (execCycPeriodStart t s) s).still = s.still := by simp [execCycPeriodStart]

@[simp] theorem State.healthEvent_still (s : State) (ch : Nat) (col : Nat) (res : Nat) (r : Word) : (State.healthEvent s ch col res r).still = s.still := by simp [State.healthEvent]

@[simp] theorem State.healthReport_still (s : State) (ch : Nat) (rep : BitVec 16) : (State.healthReport s ch rep).still = s.still := by simp only [State.healthReport]; (repeat' split) <;> simp

@[simp] theorem State.headKey_still (s : State) (ch : Nat) (e : Word) (active : Bool) : (State.headKey s ch e active).still = s.still := by simp only [State.headKey]; (repeat' split) <;> simp

@[simp] theorem State.headMismatch_still (s : State) (ch : Nat) (f : ReturnFrame) : (State.headMismatch s ch f).still = s.still := by simp [State.headMismatch]

@[simp] theorem State.headErrors_still (s : State) (ch : Nat) (f : ReturnFrame) : (State.headErrors s ch f).still = s.still := by simp [State.headErrors]

@[simp] theorem State.headStatus_still (s : State) (ch : Nat) (f : ReturnFrame) : (State.headStatus s ch f).still = s.still := by simp [State.headStatus]

@[simp] theorem execHlReturnFrame_still (ch : Nat) (blocks : List Block) (s : State) : (outState (execHlReturnFrame ch blocks s) s).still = s.still := by simp [execHlReturnFrame]

/-! Sched. -/

@[simp] theorem State.setSched_still (s : State) (e : Nat) (x : SchedEntry) : (State.setSched s e x).still = s.still := by simp [State.setSched]

@[simp] theorem State.gpioAction_still (s : State) (arg : Nat) : (State.gpioAction s arg).still = s.still := by simp only [State.gpioAction]; (repeat' split) <;> simp

@[simp] theorem State.schedAction_still (s : State) (act : Nat) (arg : Nat) : (State.schedAction s act arg).still = s.still := by simp only [State.schedAction]; (repeat' split) <;> simp

@[simp] theorem State.schedFire_still (s : State) (e : Nat) (late : Bool) : (State.schedFire s e late).still = s.still := by simp [State.schedFire]

@[simp] theorem execSchedEntryDue_still (e : Fin 2048) (s : State) : (outState (execSchedEntryDue e s) s).still = s.still := by simp [execSchedEntryDue]

@[simp] theorem execGpioPulseEnd_still (pin : Fin 16) (s : State) : (outState (execGpioPulseEnd pin s) s).still = s.still := by simp only [execGpioPulseEnd]; (repeat' split) <;> simp

@[simp] theorem State.schedWrite_still (s : State) (e : Nat) (w0 : Word) (w1 : Word) (w2 : Word) (w3 : Word) : (State.schedWrite s e w0 w1 w2 w3).still = s.still := by simp [State.schedWrite]

@[simp] theorem State.schedCmd_still (s : State) (code : Nat) : (State.schedCmd s code).still = s.still := by simp only [State.schedCmd]; (repeat' split) <;> simp

@[simp] theorem execSchedWriteEntry_still (s : State) : (outState (execSchedWriteEntry s) s).still = s.still := by simp [execSchedWriteEntry]

@[simp] theorem execSchedReadEntry_still (s : State) : (outState (execSchedReadEntry s) s).still = s.still := by simp [execSchedReadEntry]

@[simp] theorem execSchedClearEn_still (s : State) : (outState (execSchedClearEn s) s).still = s.still := by simp [execSchedClearEn]

@[simp] theorem execMgmtSchedWrite_still (d : List Word) (s : State) : (outState (execMgmtSchedWrite d s) s).still = s.still := by simp [execMgmtSchedWrite]

@[simp] theorem State.fireSkipped_still (s : State) (lo : DWord) (hi : DWord) (x3 : Nat) : (State.fireSkipped s lo hi x3).still = s.still := by
  induction x3 generalizing s with
  | zero => simp [State.fireSkipped]
  | succ k ih =>
    unfold State.fireSkipped; split
    · rfl
    · rw [ih, State.schedFire_still]

@[simp] theorem State.timeStep_still (s : State) (d : Nat) (args : List Word) : (State.timeStep s d args).still = s.still := by simp [State.timeStep]

@[simp] theorem State.tbOffset_still (s : State) (w : DWord) : (State.tbOffset s w).1.still = s.still := by simp only [State.tbOffset]; (repeat' split) <;> simp

@[simp] theorem execTbOffsetWrite_still (value : DWord) (s : State) : (outState (execTbOffsetWrite value s) s).still = s.still := by simp [execTbOffsetWrite]

/-! Eth. -/

@[simp] theorem State.modEth_still (s : State) (f : EthPtp → EthPtp) : (State.modEth s f).still = s.still := by simp [State.modEth]

@[simp] theorem State.modServo_still (s : State) (f : Servo → Servo) : (State.modServo s f).still = s.still := by simp [State.modServo]

@[simp] theorem State.modPps_still (s : State) (f : Pps → Pps) : (State.modPps s f).still = s.still := by simp [State.modPps]

@[simp] theorem execEthLinkUp_still (m : Fin 2) (speed : BitVec 2) (remote : Bool) (s : State) : (outState (execEthLinkUp m speed remote s) s).still = s.still := by simp [execEthLinkUp]

@[simp] theorem State.ethDown_still (s : State) (m : Nat) : (State.ethDown s m).still = s.still := by simp [State.ethDown]

@[simp] theorem execEthLinkDown_still (m : Fin 2) (s : State) : (outState (execEthLinkDown m s) s).still = s.still := by simp [execEthLinkDown]

@[simp] theorem execEthFrameRx_still (m : Fin 2) (frame : List Byte) (code : Bool) (t : DWord) (s : State) : (outState (execEthFrameRx m frame code t s) s).still = s.still := by simp only [execEthFrameRx]; (repeat' split) <;> simp

@[simp] theorem State.txStamp_still (s : State) (m : Nat) (tag : BitVec 16) (t : DWord) : (State.txStamp s m tag t).still = s.still := by simp [State.txStamp]

@[simp] theorem State.ethSend_still (s : State) (m : Nat) (frame : List Byte) : (State.ethSend s m frame).still = s.still := by simp [State.ethSend]

@[simp] theorem execEthFrameTx_still (m : Fin 2) (frame : List Byte) (mode : TxStampMode) (t : DWord) (s : State) : (outState (execEthFrameTx m frame mode t s) s).still = s.still := by simp only [execEthFrameTx]; (repeat' split) <;> simp

@[simp] theorem State.txtsPop_still (s : State) (m : Nat) : (State.txtsPop s m).still = s.still := by simp [State.txtsPop]

@[simp] theorem execEthTxtsPop_still (m : Fin 2) (s : State) : (outState (execEthTxtsPop m s) s).still = s.still := by simp [execEthTxtsPop]

@[simp] theorem State.ppsSync_still (s : State) : (State.ppsSync s).still = s.still := by simp [State.ppsSync]

@[simp] theorem State.ppsLow_still (s : State) : (State.ppsLow s).still = s.still := by simp [State.ppsLow]

@[simp] theorem execPpsRise_still (s : State) : (outState (execPpsRise s) s).still = s.still := by simp [execPpsRise]

@[simp] theorem execPpsFall_still (s : State) : (outState (execPpsFall s) s).still = s.still := by simp [execPpsFall]

@[simp] theorem State.ptpState_still (s : State) (st : Nat) : (State.ptpState s st).still = s.still := by simp [State.ptpState]

@[simp] theorem State.servoIncr_still (s : State) (v : BitVec 48) : (State.servoIncr s v).still = s.still := by simp [State.servoIncr]

@[simp] theorem State.steer_still (s : State) : (State.steer s).still = s.still := by simp [State.steer]

@[simp] theorem State.jump_still (s : State) (theta : Int) : (State.jump s theta).still = s.still := by simp [State.jump]

@[simp] theorem State.ptpRuns_still (s : State) (theta : Nat) : (State.ptpRuns s theta).still = s.still := by simp [State.ptpRuns]

@[simp] theorem execPtpSyncRx_still (theta : Int) (delay : Word) (s : State) : (outState (execPtpSyncRx theta delay s) s).still = s.still := by simp only [execPtpSyncRx]; (repeat' split) <;> simp

@[simp] theorem execPtpHoldover_still (s : State) : (outState (execPtpHoldover s) s).still = s.still := by simp [execPtpHoldover]

@[simp] theorem execPtpHoldExpire_still (s : State) : (outState (execPtpHoldExpire s) s).still = s.still := by simp [execPtpHoldExpire]

@[simp] theorem execPtpMasterChange_still (id : DWord) (s : State) : (outState (execPtpMasterChange id s) s).still = s.still := by simp [execPtpMasterChange]

@[simp] theorem State.ptpCfgWrite_still (s : State) (v : Word) : (State.ptpCfgWrite s v).still = s.still := by simp [State.ptpCfgWrite]

@[simp] theorem State.ethCtrlWrite_still (s : State) (m : Nat) (v : Word) : (State.ethCtrlWrite s m v).still = s.still := by simp [State.ethCtrlWrite]

@[simp] theorem State.ethClear_still (s : State) : (State.ethClear s).still = s.still := by simp [State.ethClear]

@[simp] theorem State.ethOff_still (s : State) : (State.ethOff s).still = s.still := by simp [State.ethOff]

/-! Safe. -/

@[simp] theorem State.raise_calm (s : State) (code ctx : Nat) (args : List Word) : (State.raise s code ctx args).calm = s.calm := calm_of_still (State.raise_still s code ctx args)

@[simp] theorem State.wr_calm (s : State) (off : Nat) (v : Word) : (State.wr s off v).calm = s.calm := calm_of_still (State.wr_still s off v)

@[simp] theorem State.emit_calm (s : State) (e : Emit) : (State.emit s e).calm = s.calm := calm_of_still (State.emit_still s e)

@[simp] theorem State.seqInputAll_calm (s : State) (code : Nat) : (State.seqInputAll s code).calm = s.calm := calm_of_still (State.seqInputAll_still s code)

@[simp] theorem State.bumpWrap_calm (s : State) (off : Nat) : (State.bumpWrap s off).calm = s.calm := calm_of_still (State.bumpWrap_still s off)

@[simp] theorem State.clearRegs_calm (s : State) (lo hi : Nat) : (State.clearRegs s lo hi).calm = s.calm := calm_of_still (State.clearRegs_still s lo hi)
@[simp] theorem State.safeDrive_calm (s : State) : s.safeDrive.calm = s.calm := by
  unfold State.safeDrive; dsimp only; rw [calm_ite, State.emit_calm, State.modSafe_calm, ite_self]
@[simp] theorem State.gated_calm (s : State) (off : Nat) (f : State → State) (hf : ∀ s, (f s).calm = s.calm) : (s.gated off f).calm = s.calm := by
  unfold State.gated; cases h : s.dropped off with
  | none => exact hf s
  | some t => exact calm_of_still (State.dropped_still s off t h)

@[simp] theorem State.grpStep_calm (s : State) (b : List Byte) (g : Nat) (restart : Bool) : (State.grpStep s b g restart).calm = s.calm := by unfold State.grpStep; (repeat' split) <;> simp

@[simp] theorem State.safeGroups_calm (s : State) (restart : Bool) : (State.safeGroups s restart).calm = s.calm := by unfold State.safeGroups; (repeat' split) <;> simp

@[simp] theorem State.safeLock_calm (s : State) (cause : Nat) (index : Nat) : (State.safeLock s cause index).calm = s.calm := by simp [State.safeLock]

@[simp] theorem State.safeFault_calm (s : State) (cause : Nat) (index : Nat) : (State.safeFault s cause index).calm = s.calm := by simp [State.safeFault]

@[simp] theorem State.encFault_calm (s : State) (cause : Nat) (e : Nat) : (State.encFault s cause e).calm = s.calm := by unfold State.encFault; (repeat' split) <;> simp

@[simp] theorem State.suPending_calm (s : State) : (State.suPending s).calm = s.calm := by unfold State.suPending; (repeat' split) <;> simp

@[simp] theorem State.blkActivate_calm (s : State) (b : List Byte) (copy : Nat) (gen : Word) : (State.blkActivate s b copy gen).calm = s.calm := by simp [State.blkActivate]

@[simp] theorem State.strobePair_calm (s : State) (b : List Byte) (x1 : SafeSample) (x2 : SafeSample) (i : Nat) : (State.strobePair s b x1 x2 i).calm = s.calm := by simp only [State.strobePair]; (repeat' split) <;> simp

@[simp] theorem State.strobeReset_calm (s : State) (x1 : SafeSample) (x2 : SafeSample) : (State.strobeReset s x1 x2).calm = s.calm := by simp [State.strobeReset]

@[simp] theorem execSafeStrobe_calm (ch1 : SafeSample) (ch2 : SafeSample) (s : State) : (outState (execSafeStrobe ch1 ch2 s) s).calm = s.calm := by simp only [execSafeStrobe]; (repeat' split) <;> simp

@[simp] theorem execSafeDiscrepancyTimeout_calm (pair : Fin 16) (s : State) : (outState (execSafeDiscrepancyTimeout pair s) s).calm = s.calm := by unfold execSafeDiscrepancyTimeout; (repeat' split) <;> simp

@[simp] theorem State.readback_calm (s : State) (key : Nat) (got : Bool) : (State.readback s key got).calm = s.calm := by simp [State.readback]

@[simp] theorem State.edmCheck_calm (s : State) (b : List Byte) (i : Nat) : (State.edmCheck s b i).calm = s.calm := by unfold State.edmCheck; (repeat' split) <;> simp

@[simp] theorem State.safeView_still (s : State) (readA : Byte) (readB : Byte) : (State.safeView s readA readB).still = s.still := by
  unfold State.safeView
  extract_lets x f u mask w0 w1 p1 w2 w4 w5 pos w11 chk ws
  have key : ∀ (l : List Word) (m : State × Nat), (l.foldl (fun (m : State × Nat) w => (m.1.wr (Reg.SAFE_VIEW m.2) w, m.2 + 1)) m).1.still = m.1.still := by
    intro l; induction l with
    | nil => intro m; rfl
    | cons a l ih => intro m; rw [List.foldl_cons, ih, State.wr_still]
  exact (key ws (u, 0)).trans (State.free_still s)

@[simp] theorem State.safeView_calm (s : State) (readA readB : Byte) : (s.safeView readA readB).calm = s.calm := calm_of_still (State.safeView_still s readA readB)

@[simp] theorem execSafeEval_calm (readA : Byte) (readB : Byte) (clockOk : Bool) (s : State) : (outState (execSafeEval readA readB clockOk s) s).calm = s.calm := by simp only [execSafeEval]; (repeat' split) <;> simp

@[simp] theorem execSafeEncTransition_calm (enc : Fin 8) (a : Bool) (b : Bool) (short : Bool) (s : State) : (outState (execSafeEncTransition enc a b short s) s).calm = s.calm := by simp [execSafeEncTransition]

@[simp] theorem State.encSpeed_calm (s : State) (b : List Byte) (n : Nat) : (State.encSpeed s b n).calm = s.calm := by simp [State.encSpeed]

@[simp] theorem execSafeEncEval_calm (s : State) : (outState (execSafeEncEval s) s).calm = s.calm := by unfold execSafeEncEval; (repeat' split) <;> simp

@[simp] theorem execSafeResetPulse_calm (s : State) : (outState (execSafeResetPulse s) s).calm = s.calm := by simp only [execSafeResetPulse]; (repeat' split) <;> simp

@[simp] theorem execSafeSs1Expire_calm (g : Fin 4) (s : State) : (outState (execSafeSs1Expire g s) s).calm = s.calm := by unfold execSafeSs1Expire; (repeat' split) <;> simp

@[simp] theorem execSafeTestPulse_calm (pair : Fin 8) (halfB : Bool) (readLow : Bool) (s : State) : (outState (execSafeTestPulse pair halfB readLow s) s).calm = s.calm := by unfold execSafeTestPulse; (repeat' split) <;> simp

@[simp] theorem execSafeBgTest_calm (pass : Bool) (s : State) : (outState (execSafeBgTest pass s) s).calm = s.calm := by simp [execSafeBgTest]

@[simp] theorem execSafeSelftestDone_calm (testsPass : Bool) (s : State) : (outState (execSafeSelftestDone testsPass s) s).calm = s.calm := by simp only [execSafeSelftestDone]; (repeat' split) <;> simp

@[simp] theorem State.mbxDone_still (s : State) (result : Nat) (detail : Nat) : (State.mbxDone s result detail).still = s.still := by simp [State.mbxDone]

@[simp] theorem State.mbxDone_calm (s : State) (result : Nat) (detail : Nat) : (State.mbxDone s result detail).calm = s.calm := calm_of_still (State.mbxDone_still s result detail)

@[simp] theorem State.mbx_calm (s : State) (f : State → State) (hf : ∀ s : State, (f s).calm = s.calm) : (State.mbx s f).calm = s.calm := by simp only [State.mbx]; (repeat' split) <;> simp [*]

@[simp] theorem State.mbxBegin_calm (s : State) : (State.mbxBegin s).calm = s.calm := by simp [State.mbxBegin]

@[simp] theorem State.mbxWrite_calm (s : State) : (State.mbxWrite s).calm = s.calm := by unfold State.mbxWrite; (repeat' split) <;> simp

@[simp] theorem State.mbxEnd_calm (s : State) : (State.mbxEnd s).calm = s.calm := by unfold State.mbxEnd; (repeat' split) <;> simp

@[simp] theorem State.mbxConfirm_calm (s : State) : (State.mbxConfirm s).calm = s.calm := by simp only [State.mbxConfirm]; (repeat' split) <;> simp

@[simp] theorem State.mbxRead_still (s : State) : (State.mbxRead s).still = s.still := by unfold State.mbxRead; (repeat' split) <;> simp

@[simp] theorem State.mbxRead_calm (s : State) : (State.mbxRead s).calm = s.calm := calm_of_still (State.mbxRead_still s)

@[simp] theorem State.mbxDiscard_calm (s : State) : (State.mbxDiscard s).calm = s.calm := by simp [State.mbxDiscard]

@[simp] theorem State.mbxCmd_calm (s : State) (code : Nat) : (State.mbxCmd s code).calm = s.calm := by unfold State.mbxCmd; (repeat' split) <;> simp

@[simp] theorem State.mbxGate_calm (s : State) (code : Nat) : (State.mbxGate s code).calm = s.calm := by simp [State.mbxGate]

@[simp] theorem execSafeMbxLoadBegin_calm (s : State) : (outState (execSafeMbxLoadBegin s) s).calm = s.calm := by simp [execSafeMbxLoadBegin]

@[simp] theorem execSafeMbxLoadWrite_calm (s : State) : (outState (execSafeMbxLoadWrite s) s).calm = s.calm := by simp [execSafeMbxLoadWrite]

@[simp] theorem execSafeMbxLoadEnd_calm (s : State) : (outState (execSafeMbxLoadEnd s) s).calm = s.calm := by simp [execSafeMbxLoadEnd]

@[simp] theorem execSafeMbxConfirm_calm (s : State) : (outState (execSafeMbxConfirm s) s).calm = s.calm := by simp [execSafeMbxConfirm]

@[simp] theorem execSafeMbxReadActive_calm (s : State) : (outState (execSafeMbxReadActive s) s).calm = s.calm := by simp [execSafeMbxReadActive]

@[simp] theorem execSafeMbxDiscard_calm (s : State) : (outState (execSafeMbxDiscard s) s).calm = s.calm := by simp [execSafeMbxDiscard]

@[simp] theorem execSafeMbxBadCmd_calm (value : Word) (s : State) : (outState (execSafeMbxBadCmd value s) s).calm = s.calm := by simp [execSafeMbxBadCmd]

@[simp] theorem execSafeCommitDone_calm (readbackOk : Bool) (s : State) : (outState (execSafeCommitDone readbackOk s) s).calm = s.calm := by unfold execSafeCommitDone; (repeat' split) <;> simp

/-! Cask. -/

@[simp] theorem State.modCask_still (s : State) (f : Cask → Cask) : (State.modCask s f).still = s.still := by simp [State.modCask]

@[simp] theorem State.caskDone_still (s : State) (result : Nat) (cmd : Nat) : (State.caskDone s result cmd).still = s.still := by simp [State.caskDone]

@[simp] theorem State.caskFlushAll_still (s : State) : (State.caskFlushAll s).still = s.still := by simp [State.caskFlushAll]

@[simp] theorem execCaskFlush_still (s : State) : (outState (execCaskFlush s) s).still = s.still := by simp [execCaskFlush]

@[simp] theorem State.caskFlushStart_still (s : State) : (State.caskFlushStart s).still = s.still := by simp [State.caskFlushStart]

@[simp] theorem execCaskFlushTimer_still (s : State) : (outState (execCaskFlushTimer s) s).still = s.still := by simp [execCaskFlushTimer]

@[simp] theorem State.caskCmd_still (s : State) (cmd : Nat) (f : State → State) (hf : ∀ (s : State), (f s).still = s.still) : (State.caskCmd s cmd f).still = s.still := by simp [State.caskCmd, *]

@[simp] theorem State.caskCmdFlushDo_still (s : State) : (State.caskCmdFlushDo s).still = s.still := by simp [State.caskCmdFlushDo]

@[simp] theorem execCaskCmdFlush_still (s : State) : (outState (execCaskCmdFlush s) s).still = s.still := by simp [execCaskCmdFlush]

@[simp] theorem State.random16_still (s : State) : (State.random16 s).2.still = s.still := by simp [State.random16]

@[simp] theorem State.caskCmdNonceDo_still (s : State) : (State.caskCmdNonceDo s).still = s.still := by simp [State.caskCmdNonceDo]

@[simp] theorem execCaskCmdNonce_still (s : State) : (outState (execCaskCmdNonce s) s).still = s.still := by simp [execCaskCmdNonce]

@[simp] theorem execCaskNonceExpire_still (s : State) : (outState (execCaskNonceExpire s) s).still = s.still := by simp [execCaskNonceExpire]

@[simp] theorem State.caskCmdClearDo_still (s : State) : (State.caskCmdClearDo s).still = s.still := by simp only [State.caskCmdClearDo]; (repeat' split) <;> simp

@[simp] theorem execCaskCmdClear_still (s : State) : (outState (execCaskCmdClear s) s).still = s.still := by simp [execCaskCmdClear]

@[simp] theorem State.caskErase_still (s : State) (fp : List Word) (atStart : Bool) : (State.caskErase s fp atStart).still = s.still := by simp [State.caskErase]

@[simp] theorem execCaskClearDone_still (s : State) : (outState (execCaskClearDone s) s).still = s.still := by simp only [execCaskClearDone]; (repeat' split) <;> simp

@[simp] theorem State.caskCmdReadDo_still (s : State) : (State.caskCmdReadDo s).still = s.still := by simp only [State.caskCmdReadDo]; (repeat' split) <;> simp

@[simp] theorem execCaskCmdRead_still (s : State) : (outState (execCaskCmdRead s) s).still = s.still := by simp [execCaskCmdRead]

@[simp] theorem execCaskTokenGain_still (bucket : Fin 256) (s : State) : (outState (execCaskTokenGain bucket s) s).still = s.still := by simp [execCaskTokenGain]

@[simp] theorem State.caskSummaries_still (s : State) : (State.caskSummaries s).still = s.still := by simp [State.caskSummaries]

@[simp] theorem execCaskSuppressed_still (s : State) : (outState (execCaskSuppressed s) s).still = s.still := by simp [execCaskSuppressed]

@[simp] theorem State.bktWrite_still (s : State) (b : Nat) (v : Word) : (State.bktWrite s b v).still = s.still := by simp [State.bktWrite]

@[simp] theorem execCaskBktWrite_still (bucket : Fin 256) (value : Word) (s : State) : (outState (execCaskBktWrite bucket value s) s).still = s.still := by simp [execCaskBktWrite]

@[simp] theorem State.caskMissed_still (s : State) (f : Freeze) (way : Nat) : (State.caskMissed s f way).still = s.still := by simp [State.caskMissed]

@[simp] theorem State.freezeEnd_still (s : State) (way : Nat) : (State.freezeEnd s way).still = s.still := by simp only [State.freezeEnd]; (repeat' split) <;> simp

@[simp] theorem State.freezeMaxWrite_still (s : State) (v : Word) : (State.freezeMaxWrite s v).still = s.still := by simp [State.freezeMaxWrite]

@[simp] theorem State.freezeWrite_still (s : State) (v : Word) : (State.freezeWrite s v).still = s.still := by simp only [State.freezeWrite]; (repeat' split) <;> simp

@[simp] theorem execCaskFreezeWrite_still (value : Word) (s : State) : (outState (execCaskFreezeWrite value s) s).still = s.still := by simp [execCaskFreezeWrite]

@[simp] theorem execCaskFreezeInForce_still (s : State) : (outState (execCaskFreezeInForce s) s).still = s.still := by simp [execCaskFreezeInForce]

@[simp] theorem execCaskFreezeTimeout_still (s : State) : (outState (execCaskFreezeTimeout s) s).still = s.still := by simp only [execCaskFreezeTimeout]; (repeat' split) <;> simp

@[simp] theorem State.caskPfail_still (s : State) : (State.caskPfail s).still = s.still := by simp only [State.caskPfail]; (repeat' split) <;> simp

@[simp] theorem State.caskPfailEnd_still (s : State) : (State.caskPfailEnd s).still = s.still := by simp [State.caskPfailEnd]

@[simp] theorem State.caskReset_still (s : State) : (State.caskReset s).still = s.still := by simp [State.caskReset]

@[simp] theorem State.caskStart_still (s : State) : (State.caskStart s).still = s.still := by simp only [State.caskStart]; (repeat' split) <;> simp

/-! Sec. -/

@[simp] theorem State.intentCheck_still (s : State) (n : Nat) : (State.intentCheck s n).still = s.still := by simp [State.intentCheck]

@[simp] theorem State.nvSelect_still (s : State) : (State.nvSelect s).still = s.still := by simp only [State.nvSelect]; (repeat' split) <;> simp

@[simp] theorem State.nvStart_still (s : State) : (State.nvStart s).still = s.still := by unfold State.nvStart; rw [State.nvSelect_still, State.intentCheck_still, State.intentCheck_still]; simp [State.modSec]

@[simp] theorem State.commitTarget_still (s : State) : (State.commitTarget s).2.still = s.still := by simp only [State.commitTarget]; (repeat' split) <;> simp

@[simp] theorem State.commitStart_still (s : State) (restore : Bool) (len : Nat) : (State.commitStart s restore len).still = s.still := by simp [State.commitStart]

@[simp] theorem State.commitFail_still (s : State) (c : Commit) (step : Nat) : (State.commitFail s c step).still = s.still := by simp [State.commitFail]

@[simp] theorem State.commitEnd_still (s : State) (c : Commit) (image : List Byte) (hostFault : Bool) (readbackOk : Bool) : (State.commitEnd s c image hostFault readbackOk).1.still = s.still := by simp only [State.commitEnd]; (repeat' split) <;> simp

@[simp] theorem State.freeBytes_still (s : State) (n : Nat) : (State.freeBytes s n).2.still = s.still := by simp [State.freeBytes]

@[simp] theorem State.commitAbort_still (s : State) (reading : Bool) : (State.commitAbort s reading).still = s.still := by simp only [State.commitAbort]; (repeat' split) <;> simp

@[simp] theorem State.bootTry_still (x0 : List Nat) (x1 : Nat) (x2 : State) : (State.bootTry x0 x1 x2).still = x2.still := by
  induction x0 generalizing x1 x2 with
  | nil => simp [State.bootTry]
  | cons a l ih => unfold State.bootTry; dsimp only; (repeat' split) <;> simp [ih]

@[simp] theorem State.secDone_still (s : State) (result : Nat) (cmd : Nat) : (State.secDone s result cmd).still = s.still := by simp [State.secDone]

@[simp] theorem State.secCmd_still (s : State) (cmd : Nat) (f : State → State) (hf : ∀ (s : State), (f s).still = s.still) : (State.secCmd s cmd f).still = s.still := by simp [State.secCmd, *]

@[simp] theorem State.fwStage_still (s : State) : (State.fwStage s).still = s.still := by simp only [State.fwStage]; (repeat' split) <;> simp

@[simp] theorem execSecFwStage_still (s : State) : (outState (execSecFwStage s) s).still = s.still := by simp [execSecFwStage]

@[simp] theorem State.fwWrite_still (s : State) (n : Nat) (image : List Byte) (readbackOk : Bool) : (State.fwWrite s n image readbackOk).still = s.still := by unfold State.fwWrite; simp [State.modSec, State.modPower]

@[simp] theorem execFwStageDone_still (image : List Byte) (hostFault : Bool) (readbackOk : Bool) (s : State) : (outState (execFwStageDone image hostFault readbackOk s) s).still = s.still := by simp only [execFwStageDone]; (repeat' split) <;> simp

@[simp] theorem State.secNonceDo_still (s : State) : (State.secNonceDo s).still = s.still := by simp [State.secNonceDo]

@[simp] theorem execSecNonce_still (s : State) : (outState (execSecNonce s) s).still = s.still := by simp [execSecNonce]

@[simp] theorem execSecNonceExpire_still (s : State) : (outState (execSecNonceExpire s) s).still = s.still := by simp [execSecNonceExpire]

@[simp] theorem State.quoteDo_still (s : State) : (State.quoteDo s).still = s.still := by simp [State.quoteDo]

@[simp] theorem execSecQuote_still (s : State) : (outState (execSecQuote s) s).still = s.still := by simp [execSecQuote]

@[simp] theorem State.stageAbort_still (s : State) : (State.stageAbort s).still = s.still := by simp only [State.stageAbort]; (repeat' split) <;> simp

@[simp] theorem State.secReset_still (s : State) : (State.secReset s).still = s.still := by simp [State.secReset]

/-! RegField. -/

@[simp] theorem State.plain_still (s : State) (off : Nat) (v : Word) : (State.plain s off v).still = s.still := by simp only [State.plain]; (repeat' split) <;> simp

@[simp] theorem State.fldW_still (s : State) (off : Nat) (hi : Nat) (lo : Nat) (v : Word) (ok : Nat → Bool) : (State.fldW s off hi lo v ok).still = s.still := by simp [State.fldW]

@[simp] theorem State.plainIf_still (s : State) (off : Nat) (v : Word) (ok : Bool) : (State.plainIf s off v ok).still = s.still := by simp [State.plainIf]

@[simp] theorem State.w1c_still (s : State) (off : Nat) (v : Word) : (State.w1c s off v).still = s.still := by simp only [State.w1c]; (repeat' split) <;> simp

@[simp] theorem State.fldA_still (s : State) (off : Nat) (hi : Nat) (lo : Nat) (v : Word) : (State.fldA s off hi lo v).still = s.still := by simp [State.fldA]

@[simp] theorem State.unless_still (s : State) (locked : Bool) (faults : Nat) (b : Nat) (f : State → State) (hf : ∀ (s : State), (f s).still = s.still) : (State.unless s locked faults b f).still = s.still := by simp [State.unless, *]

@[simp] theorem State.unlessSet_still (s : State) (off : Nat) (locked : Bool) (faults : Nat) (b : Nat) (f : State → State) (hf : ∀ (s : State), (f s).still = s.still) : (State.unlessSet s off locked faults b f).still = s.still := by simp [State.unlessSet, *]

@[simp] theorem State.mgmtCtrl_still (s : State) (v : Word) : (State.mgmtCtrl s v).still = s.still := by simp [State.mgmtCtrl]

@[simp] theorem State.evtCtrl_still (s : State) (v : Word) : (State.evtCtrl s v).still = s.still := by simp [State.evtCtrl]

@[simp] theorem State.ringStart_still (s : State) (n : Nat) : (State.ringStart s n).still = s.still := by simp [State.ringStart]

@[simp] theorem State.ringCtrl_still (s : State) (n : Nat) (v : Word) : (State.ringCtrl s n v).still = s.still := by simp [State.ringCtrl]

@[simp] theorem State.putHost_still (s : State) (off : Nat) (v : Word) : (State.putHost s off v).still = s.still := by simp [State.putHost]

@[simp] theorem State.putCtx_still (s : State) (off : Nat) (v : Word) : (State.putCtx s off v).still = s.still := by simp [State.putCtx]

@[simp] theorem State.estatClear_still (s : State) (v : Word) : (State.estatClear s v).still = s.still := by simp [State.estatClear]

@[simp] theorem State.putPref_still (s : State) (n : Nat) (off : Nat) (v : Word) : (State.putPref s n off v).still = s.still := by simp [State.putPref]

@[simp] theorem State.putPos_still (s : State) (off : Nat) (v : Word) : (outState (State.putPos s off v) s).still = s.still := by simp only [State.putPos]; (repeat' split) <;> simp

@[simp] theorem State.allocW_still (s : State) (off : Nat) (v : Word) : (State.allocW s off v).still = s.still := by simp [State.allocW]

@[simp] theorem State.putBuf_still (s : State) (off : Nat) (v : Word) : (State.putBuf s off v).still = s.still := by simp [State.putBuf]

@[simp] theorem State.putMash_still (s : State) (off : Nat) (v : Word) : (State.putMash s off v).still = s.still := by simp [State.putMash]

@[simp] theorem State.putNoz_still (s : State) (off : Nat) (v : Word) : (outState (State.putNoz s off v) s).still = s.still := by simp [State.putNoz]

@[simp] theorem andThen_still (o : Host.Outcome State Fault Refusal) (f : State → Host.Outcome State Fault Refusal) (s : State) (ho : (outState o s).still = s.still)
    (hf : ∀ t, (outState (f t) t).still = t.still) : (outState (andThen o f) s).still = s.still := by
  cases o with
  | next t =>
    have e := hf t
    simp only [andThen]; rw [outState_next] at ho
    cases h : f t with
    | next u => rw [h, outState_next] at e; rw [outState_next, e, ho]
    | fault e => rw [outState_fault]
    | refused e => rw [outState_refused]
  | fault e => simp only [andThen]; rw [outState_fault]
  | refused e => simp only [andThen]; rw [outState_refused]

@[simp] theorem State.putHl_still (s : State) (off : Nat) (v : Word) : (outState (State.putHl s off v) s).still = s.still := by
  unfold State.putHl; dsimp only
  simp only [outState_ite, still_ite, outState_next]
  rw [andThen_still _ _ _ (by simp) (fun t => by simp)]
  simp

@[simp] theorem State.portCtrl_still (s : State) (v : Word) : (State.portCtrl s v).still = s.still := by simp [State.portCtrl]

@[simp] theorem State.putFab_still (s : State) (off : Nat) (v : Word) : (State.putFab s off v).still = s.still := by simp [State.putFab]

@[simp] theorem State.putTwin_still (s : State) (off : Nat) (v : Word) : (State.putTwin s off v).still = s.still := by simp [State.putTwin]

@[simp] theorem State.cycSet_still (s : State) (off : Nat) (v : Word) : (State.cycSet s off v).still = s.still := by unfold State.cycSet; refine State.unless_still _ _ _ _ _ (fun s => ?_); (repeat' split) <;> simp

@[simp] theorem State.cycCmdWrite_still (s : State) (code : Nat) : (outState (State.cycCmdWrite s code) s).still = s.still := by simp only [State.cycCmdWrite]; (repeat' split) <;> simp

@[simp] theorem State.putCyc_still (s : State) (off : Nat) (v : Word) : (outState (State.putCyc s off v) s).still = s.still := by simp [State.putCyc]

@[simp] theorem State.kilnCmdWrite_still (s : State) (code : Nat) : (outState (State.kilnCmdWrite s code) s).still = s.still := by simp only [State.kilnCmdWrite]; (repeat' split) <;> simp

@[simp] theorem State.kilnCtrl_still (s : State) (v : Word) : (outState (State.kilnCtrl s v) s).still = s.still := by simp [State.kilnCtrl]

@[simp] theorem State.kilnGrpSet_still (s : State) (off : Nat) (v : Word) : (State.kilnGrpSet s off v).still = s.still := by simp [State.kilnGrpSet]

@[simp] theorem State.kilnTuneSet_still (s : State) (off : Nat) (v : Word) : (State.kilnTuneSet s off v).still = s.still := by simp [State.kilnTuneSet]

@[simp] theorem State.putKiln_still (s : State) (off : Nat) (v : Word) : (outState (State.putKiln s off v) s).still = s.still := by simp [State.putKiln]

@[simp] theorem State.sbSlotPut_still (s : State) (c : Nat) (slot : Nat) (v : Word) : (State.sbSlotPut s c slot v).still = s.still := by simp [State.sbSlotPut]

@[simp] theorem State.putSb_still (s : State) (off : Nat) (v : Word) : (outState (State.putSb s off v) s).still = s.still := by simp [State.putSb]

@[simp] theorem State.canTxbCmd_still (s : State) (n : Nat) (v : Word) : (outState (State.canTxbCmd s n v) s).still = s.still := by simp only [State.canTxbCmd]; (repeat' split) <;> simp

@[simp] theorem State.canTimingPut_still (s : State) (n : Nat) (off : Nat) (v : Word) : (State.canTimingPut s n off v).still = s.still := by simp [State.canTimingPut]

@[simp] theorem State.putCan_still (s : State) (off : Nat) (v : Word) : (outState (State.putCan s off v) s).still = s.still := by simp only [State.putCan]; (repeat' split) <;> simp

@[simp] theorem State.putEth_still (s : State) (off : Nat) (v : Word) : (State.putEth s off v).still = s.still := by simp [State.putEth]

@[simp] theorem State.putSafe_still (s : State) (off : Nat) (v : Word) (h0 : off ≠ Reg.SAFE_MBX_CMD) : (State.putSafe s off v).still = s.still := by unfold State.putSafe; rw [if_neg h0, still_ite, State.plain_still, ite_self]

@[simp] theorem State.loopCfg_still (s : State) (n : Nat) (v : Word) : (State.loopCfg s n v).still = s.still := by simp [State.loopCfg]

@[simp] theorem State.loopTrimW_still (s : State) (n : Nat) (v : Word) : (State.loopTrimW s n v).still = s.still := by simp [State.loopTrimW]

@[simp] theorem State.putLoop_still (s : State) (off : Nat) (v : Word) : (State.putLoop s off v).still = s.still := by simp only [State.putLoop]; (repeat' split) <;> simp

@[simp] theorem State.caskCmdWrite_still (s : State) (code : Nat) : (outState (State.caskCmdWrite s code) s).still = s.still := by simp only [State.caskCmdWrite]; (repeat' split) <;> simp

@[simp] theorem State.putCask_still (s : State) (off : Nat) (v : Word) : (outState (State.putCask s off v) s).still = s.still := by simp [State.putCask]

@[simp] theorem State.putSec_still (s : State) (off : Nat) (v : Word) (h1 : off ≠ Reg.SEC_CMD) : (outState (State.putSec s off v) s).still = s.still := by unfold State.putSec; rw [if_neg h1, outState_next, State.plain_still]

@[simp] theorem State.putReg_still (s : State) (off : Nat) (v : Word) (h0 : off ≠ Reg.SAFE_MBX_CMD) (h1 : off ≠ Reg.SEC_CMD) : (outState (State.putReg s off v) s).still = s.still := by simp only [State.putReg]; (repeat' split) <;> simp [*]

@[simp] theorem State.plain64_still (s : State) (base : Nat) (v : DWord) : (State.plain64 s base v).still = s.still := by simp [State.plain64]

@[simp] theorem State.putReg64_still (s : State) (base : Nat) (v : DWord) : (outState (State.putReg64 s base v) s).still = s.still := by simp only [State.putReg64]; (repeat' split) <;> simp

@[simp] theorem State.pairPut_still (s : State) (off : Nat) (v : Word) (high : Bool) : (outState (State.pairPut s off v high) s).still = s.still := by
  unfold State.pairPut; split
  · rw [outState_next]; exact still_mk s rfl rfl rfl
  · exact andThen_still _ _ _ (State.putReg64_still _ _ _) (fun t => by rw [outState_next]; exact still_mk t rfl rfl rfl)

@[simp] theorem State.nvPut_still (s : State) (e : List Word) (h0 : nvRegion e ≠ .safe) (h1 : nvRegion e ≠ .sec) : (State.nvPut s e).still = s.still := by
  unfold State.nvPut; dsimp only
  split
  · rename_i hk
    have r : nvRegion e = regionOf (nthW e 1).toNat := by unfold nvRegion; simp only [hk]
    rw [r] at h0 h1
    split
    · rw [State.pairPut_still]
    · refine State.putReg_still _ _ _ ?_ ?_
      · intro h; rw [h] at h0; exact h0 (by decide)
      · intro h; rw [h] at h1; exact h1 (by decide)
  · simp
  · simp
  · rfl

@[simp] theorem State.nvApply_still (s : State) (rs : List Region) (h0 : Region.safe ∉ rs) (h1 : Region.sec ∉ rs) : (State.nvApply s rs).still = s.still := by
  unfold State.nvApply
  have key : ∀ (l : List (List Word)) (s : State), (∀ e ∈ l, nvRegion e ≠ .safe ∧ nvRegion e ≠ .sec) → (l.foldl State.nvPut s).still = s.still := by
    intro l; induction l with
    | nil => intro s _; rfl
    | cons a l ih =>
      intro s h
      rw [List.foldl_cons, ih _ (fun e he => h e (List.mem_cons_of_mem _ he)), State.nvPut_still _ _ (h a List.mem_cons_self).1 (h a List.mem_cons_self).2]
  refine key _ _ (fun e he => ?_)
  have c : rs.contains (nvRegion e) = true := (List.mem_filter.mp he).2
  rw [List.contains_iff_mem] at c
  exact ⟨fun h => h0 (h ▸ c), fun h => h1 (h ▸ c)⟩

/-! Op. -/

@[simp] theorem State.modOp_still (s : State) (f : OpRun → OpRun) : (State.modOp s f).still = s.still := by simp [State.modOp]

@[simp] theorem State.opWork_still (s : State) (code : Nat) : (State.opWork s code).still = s.still := by simp only [State.opWork]; (repeat' split) <;> simp

@[simp] theorem State.opBegin_still (s : State) (v : Word) : (State.opBegin s v).still = s.still := by simp [State.opBegin]

@[simp] theorem State.opCmd_still (s : State) (v : Word) (ok : Nat → Bool) : (outState (State.opCmd s v ok) s).still = s.still := by simp [State.opCmd]

@[simp] theorem execOpNvCommit_still (value : Word) (s : State) : (outState (execOpNvCommit value s) s).still = s.still := by simp [execOpNvCommit]

@[simp] theorem execOpFabricRediscover_still (value : Word) (s : State) : (outState (execOpFabricRediscover value s) s).still = s.still := by simp [execOpFabricRediscover]

@[simp] theorem execOpNozVerify_still (value : Word) (s : State) : (outState (execOpNozVerify value s) s).still = s.still := by simp [execOpNozVerify]

@[simp] theorem execOpFactoryRestore_still (value : Word) (s : State) : (outState (execOpFactoryRestore value s) s).still = s.still := by simp [execOpFactoryRestore]

@[simp] theorem execOpCaskExport_still (value : Word) (s : State) : (outState (execOpCaskExport value s) s).still = s.still := by simp [execOpCaskExport]

@[simp] theorem execOpBadOp_still (value : Word) (s : State) : (outState (execOpBadOp value s) s).still = s.still := by simp [execOpBadOp]

@[simp] theorem State.opFinish_still (s : State) (result : Nat) (r0 : Option Word) (r1 : Option Word) : (State.opFinish s result r0 r1).still = s.still := by simp only [State.opFinish]; (repeat' split) <;> simp

@[simp] theorem State.exportThaw_still (s : State) (way : Nat) : (State.exportThaw s way).still = s.still := by simp only [State.exportThaw]; (repeat' split) <;> simp

@[simp] theorem State.exportWrite_still (s : State) (limit : Nat) : (State.exportWrite s limit).1.still = s.still := by simp [State.exportWrite]

@[simp] theorem execOpEnd_still (image : List Byte) (hostFault : Bool) (readbackOk : Bool) (s : State) : (outState (execOpEnd image hostFault readbackOk s) s).still = s.still := by simp only [execOpEnd]; (repeat' split) <;> simp

@[simp] theorem State.opBreak_still (s : State) (way : Nat) (reading : Bool) : (State.opBreak s way reading).1.still = s.still := by simp only [State.opBreak]; (repeat' split) <;> simp

@[simp] theorem State.opStop_still (s : State) (reading : Bool) : (State.opStop s reading).still = s.still := by simp [State.opStop]

@[simp] theorem State.opCutOff_still (s : State) : (State.opCutOff s).still = s.still := by simp [State.opCutOff]

@[simp] theorem State.msixFlush_still (s : State) (pf1 : Bool) : (State.msixFlush s pf1).still = s.still := by simp [State.msixFlush]

@[simp] theorem State.readsLost_still (s : State) : (State.readsLost s).still = s.still := by simp [State.readsLost]

@[simp] theorem execHostLinkUp_still (speed : BitVec 3) (width : BitVec 5) (tag10 : Bool) (mps : Fin 3) (mrrs : Fin 6) (s : State) : (outState (execHostLinkUp speed width tag10 mps mrrs s) s).still = s.still := by
  unfold execHostLinkUp
  extract_lets sp w s1 hh s2 s3 s4
  split
  · rw [outState_next]
  · rw [outState_next, State.pumpReads_still, each_still _ _ _ (fun s n => State.cqDrain_still s n 34)]
    have e1 : s1.still = s.still := State.wr_still _ _ _
    have e2 : s2.still = s1.still := still_mk s1 rfl rfl rfl
    have e3 : s3.still = s2.still := by simp only [s3]; rw [State.evtRecover_still, State.msixFlush_still, State.msixFlush_still]
    have e4 : s4.still = s3.still := by simp only [s4]; rw [still_ite, State.raise_still, ite_self]
    rw [e4, e3, e2, e1]

@[simp] theorem State.linkDown_still (s : State) : (State.linkDown s).still = s.still := by simp [State.linkDown]

@[simp] theorem execHostLinkDown_still (s : State) : (outState (execHostLinkDown s) s).still = s.still := by simp [execHostLinkDown]

@[simp] theorem execHostBmeOff_still (pf1 : Bool) (s : State) : (outState (execHostBmeOff pf1 s) s).still = s.still := by simp [execHostBmeOff]

@[simp] theorem State.readFailed_still (s : State) (t : FaultTarget) : (State.readFailed s t).still = s.still := by simp only [State.readFailed]; (repeat' split) <;> simp

@[simp] theorem State.pcieError_still (s : State) (kind : PcieErr) (addr : DWord) (t : FaultTarget) : (State.pcieError s kind addr t).still = s.still := by simp [State.pcieError]

@[simp] theorem execHostPcieError_still (kind : PcieErr) (addr : DWord) (target : FaultTarget) (s : State) : (outState (execHostPcieError kind addr target s) s).still = s.still := by simp [execHostPcieError]

@[simp] theorem execCompletionTimeout_still (addr : DWord) (target : FaultTarget) (s : State) : (outState (execCompletionTimeout addr target s) s).still = s.still := by simp [execCompletionTimeout]

@[simp] theorem State.flr0_still (s : State) : (State.flr0 s).still = s.still := by simp [State.flr0]

@[simp] theorem State.flr1_still (s : State) : (State.flr1 s).still = s.still := by simp [State.flr1]

@[simp] theorem execFlrPf0_still (s : State) : (outState (execFlrPf0 s) s).still = s.still := by simp [execFlrPf0]

@[simp] theorem execFlrPf1_still (s : State) : (outState (execFlrPf1 s) s).still = s.still := by simp [execFlrPf1]

@[simp] theorem execPf1D3ToD0_still (s : State) : (outState (execPf1D3ToD0 s) s).still = s.still := by simp [execPf1D3ToD0]

/-! Clock. -/

@[simp] theorem State.pllBack_still (s : State) (p : Pll) : (State.pllBack s p).still = s.still := by simp [State.pllBack]

@[simp] theorem State.clockStop_still (s : State) : (State.clockStop s).still = s.still := by simp [State.clockStop]

@[simp] theorem execClkRefLost_still (s : State) : (outState (execClkRefLost s) s).still = s.still := by simp [execClkRefLost]

@[simp] theorem execClkRefRestored_still (s : State) : (outState (execClkRefRestored s) s).still = s.still := by simp [execClkRefRestored]

@[simp] theorem State.dotHalt_still (s : State) : (State.dotHalt s).still = s.still := by simp [State.dotHalt]

@[simp] theorem execPllUnlock_still (pll : Pll) (s : State) : (outState (execPllUnlock pll s) s).still = s.still := by simp [execPllUnlock]

@[simp] theorem execPllRelock_still (pll : Pll) (s : State) : (outState (execPllRelock pll s) s).still = s.still := by simp [execPllRelock]

@[simp] theorem State.hlRealign_still (s : State) (ch : Nat) : (State.hlRealign s ch).still = s.still := by simp [State.hlRealign]

@[simp] theorem State.alignGrid_still (s : State) (sub : Nat) : (State.alignGrid s sub).still = s.still := by simp [State.alignGrid]

@[simp] theorem execSysrefEdge_still (sub : Fin 6) (s : State) : (outState (execSysrefEdge sub s) s).still = s.still := by simp [execSysrefEdge]

/-! Power. -/

@[simp] theorem State.dotOff_still (s : State) (d : Nat) : (State.dotOff s d).still = s.still := by simp [State.dotOff]

@[simp] theorem State.bufOff_still (s : State) : (State.bufOff s).still = s.still := by simp [State.bufOff]

@[simp] theorem State.netOff_still (s : State) : (State.netOff s).still = s.still := by simp [State.netOff]

@[simp] theorem State.loopStop_still (s : State) (n : Nat) : (State.loopStop s n).still = s.still := by simp [State.loopStop]

@[simp] theorem State.ctlOff_still (s : State) : (State.ctlOff s).still = s.still := by simp [State.ctlOff]

@[simp] theorem State.domLose_still (s : State) (d : Nat) : (State.domLose s d).still = s.still := by simp only [State.domLose]; (repeat' split) <;> simp

theorem turnOf_mem {l : List Nat} {p : BitVec 8} {d : Nat} (h : turnOf l p d = true) : d ∈ l := by unfold turnOf at h; exact List.mem_of_find?_eq_some (by simpa using h)

theorem pd2_or (b : BitVec 8) (d : Nat) (h : d ≠ 2) (hd : d < 8) : (b ||| domBit d).getLsbD 2 = b.getLsbD 2 := by interval_cases d <;> simp_all [domBit]

theorem pd2_and (b : BitVec 8) (d : Nat) (h : d ≠ 2) (hd : d < 8) : (b &&& ~~~(domBit d)).getLsbD 2 = b.getLsbD 2 := by interval_cases d <;> simp_all [domBit]

theorem Sec.survive_fuses (x : Sec) : x.survive.fuses = x.fuses := Eq.trans rfl rfl

@[simp] theorem State.domUp_still (s : State) (d : Nat) (h : d ≠ 2) (hd : d < 8) : (State.domUp s d).still = s.still := by
  unfold State.domUp
  extract_lets s1 u1 u2 s2
  have e1 : s1.still = s.still := State.modPower_still _ _ (by exact pd2_or _ _ h hd)
  have e2 : s2.still = s1.still := by
    simp only [s2]
    split
    · exact still_mk s1 rfl rfl rfl
    · simp only [u2]; rw [State.nvApply_still _ _ (by decide) (by decide), still_ite, State.modCyc_still, ite_self]; simp only [u1]; rw [State.clearRegs_still, State.twinClear_still]
    · rw [State.nvApply_still _ _ (by decide) (by decide)]
    · rfl
  rw [State.raise_still, e2, e1]

@[simp] theorem State.pdRefused_still (s : State) (d : Nat) (why : Nat) : (State.pdRefused s d why).still = s.still := by simp [State.pdRefused]

@[simp] theorem State.haltDom_still (s : State) (d : Nat) : (State.haltDom s d).still = s.still := by simp [State.haltDom]

@[simp] theorem State.pdCancel_still (s : State) (bitsOn : BitVec 8) : (State.pdCancel s bitsOn).still = s.still := by simp [State.pdCancel]

@[simp] theorem State.pdStart_still (s : State) (want : BitVec 8) : (State.pdStart s want).still = s.still := by simp [State.pdStart]

@[simp] theorem State.pdCtrl_still (s : State) (v : Word) : (State.pdCtrl s v).still = s.still := by simp [State.pdCtrl]

@[simp] theorem execGlobalPdCtrlWrite_still (value : Word) (s : State) : (outState (execGlobalPdCtrlWrite value s) s).still = s.still := by simp [execGlobalPdCtrlWrite]

@[simp] theorem execPdOn_still (d : Nat) (s : State) : (outState (execPdOn d s) s).still = s.still := by
  unfold execPdOn
  split
  · rw [outState_next]
  · rename_i h
    have m : d ∈ onOrder := by simp at h; exact turnOf_mem h.2
    have m' : d ≠ 2 ∧ d < 8 := by revert m; unfold onOrder; simp; omega
    rw [outState_next, State.domUp_still _ _ m'.1 m'.2]

@[simp] theorem execPdOff_still (d : Nat) (s : State) : (outState (execPdOff d s) s).still = s.still := by
  unfold execPdOff
  extract_lets n s1
  split
  · rw [outState_next]
  · rename_i h
    have m : d ∈ offOrder := turnOf_mem (by simpa using h)
    have m' : d ≠ 2 ∧ d < 8 := by revert m; unfold offOrder; simp; omega
    split
    · rw [outState_next, State.haltDom_still]
    · rw [outState_next, State.raise_still]; simp only [s1]
      rw [State.modPower_still _ _ (by exact pd2_and _ _ m'.1 m'.2), State.domLose_still]

@[simp] theorem State.resetRegs_still (s : State) : (State.resetRegs s).still = s.still := by simp [State.resetRegs]

@[simp] theorem State.resetBlocks_still (s : State) : (State.resetBlocks s).still = s.still := by simp [State.resetBlocks]

@[simp] theorem State.deviceReset_still (s : State) (cause : Nat) : (State.deviceReset s cause).still = s.still := by
  unfold State.deviceReset
  extract_lets held was h0 s0 b h1 h2 s1 s2 s3
  have e0 : s0.still = s.still := still_mk s rfl rfl rfl
  have e1 : s1.still = s0.still := by
    refine (still_mk b.1 rfl rfl rfl).trans (State.opBreak_still s0 0 false)
  have e2 : s2.still = s1.still := by
    simp [s2]
  have e3 : s3.still = s2.still := by
    simp only [s3]; rw [State.modPower_still]
    · exact still_mk s2 rfl rfl rfl
    · simp [Power.afterReset, Power.pd2]
  rw [State.wr_still, e3, e2, e1, e0]

@[simp] theorem execResetPin_still (s : State) : (outState (execResetPin s) s).still = s.still := by simp [execResetPin]

@[simp] theorem execPwrgdLow_still (s : State) : (outState (execPwrgdLow s) s).still = s.still := by simp [execPwrgdLow]

@[simp] theorem execPwrgdRise_still (s : State) : (outState (execPwrgdRise s) s).still = s.still := by simp [execPwrgdRise]

@[simp] theorem execPerstAssert_still (s : State) : (outState (execPerstAssert s) s).still = s.still := by simp [execPerstAssert]

@[simp] theorem State.resetCmd_still (s : State) (v : Word) : (State.resetCmd s v).still = s.still := by simp [State.resetCmd]

@[simp] theorem execGlobalResetCmd_still (value : Word) (s : State) : (outState (execGlobalResetCmd value s) s).still = s.still := by simp [execGlobalResetCmd]

@[simp] theorem execMgmtWatchdog_still (s : State) : (outState (execMgmtWatchdog s) s).still = s.still := by simp [execMgmtWatchdog]

@[simp] theorem execPfailAssert_still (s : State) : (outState (execPfailAssert s) s).still = s.still := by simp [execPfailAssert]

@[simp] theorem execPfailDeassert_still (s : State) : (outState (execPfailDeassert s) s).still = s.still := by simp [execPfailDeassert]

@[simp] theorem State.phaseEnd_still (s : State) (k : Nat) : (State.phaseEnd s k).still = s.still := by unfold State.phaseEnd; simp [State.modSec, State.modPower]

@[simp] theorem execStartS1_still (twinSel : Bool) (inhibitLow : Bool) (s : State) : (outState (execStartS1 twinSel inhibitLow s) s).still = s.still := by simp [execStartS1]

@[simp] theorem execStartS2_still (s : State) : (outState (execStartS2 s) s).still = s.still := by simp [execStartS2]

@[simp] theorem execStartS3_still (s : State) : (outState (execStartS3 s) s).still = s.still := by
  have M : ∀ (l : List Nat) (u : State), (∀ d ∈ l, d ≠ 2 ∧ d < 8) → (u.each l State.domUp).still = u.still := by
    intro l; unfold State.each; induction l with
    | nil => intro u _; rfl
    | cons a l ih =>
      intro u h
      rw [List.foldl_cons, ih _ (fun d hd => h d (List.mem_cons_of_mem _ hd)), State.domUp_still _ _ (h a List.mem_cons_self).1 (h a List.mem_cons_self).2]
  unfold execStartS3
  extract_lets s1 s2
  split
  · rw [outState_next]
  · rw [outState_next, State.phaseEnd_still, State.modTwin_still]
    simp only [s2, s1]
    rw [M _ _ (by decide), State.nvApply_still _ _ (by decide) (by decide), State.nvStart_still]

@[simp] theorem execStartS4_still (s : State) : (outState (execStartS4 s) s).still = s.still := by simp [execStartS4]

@[simp] theorem execStartS5_still (s : State) : (outState (execStartS5 s) s).still = s.still := by unfold execStartS5; simp [State.modSec, State.modPower]

@[simp] theorem execStartS6_still (s : State) : (outState (execStartS6 s) s).still = s.still := by simp [execStartS6]

@[simp] theorem execStartS7_still (s : State) : (outState (execStartS7 s) s).still = s.still := by unfold execStartS7; simp [State.modSec, State.modPower]

@[simp] theorem execTjUpdate_still (t : BitVec 16) (s : State) : (outState (execTjUpdate t s) s).still = s.still := by
  unfold execTjUpdate
  extract_lets s1
  have e : s1.still = s.still := State.wr_still _ _ _
  split
  · split
    · rw [outState_next, e]
    · rw [outState_next, State.raise_still, State.setF_still, State.modPower_still _ _ (Eq.trans rfl rfl), e]
  · split
    · rw [outState_next, State.modPower_still _ _ (Eq.trans rfl rfl), e]
    · rw [outState_next, e]

/-! RegAccess. -/

@[simp] theorem State.putTop_still (s : State) (off : Nat) (v : Word) : (State.putTop s off v).still = s.still := by simp [State.putTop]

@[simp] theorem State.putWord_still (s : State) (off : Nat) (v : Word) (h0 : off ≠ Reg.SAFE_MBX_CMD) (h1 : off ≠ Reg.SEC_CMD) : (outState (State.putWord s off v) s).still = s.still := by simp only [State.putWord]; (repeat' split) <;> simp [*]

@[simp] theorem State.msixWrite_still (s : State) (pf1 : Bool) (k : Nat) (v : Word) : (State.msixWrite s pf1 k v).still = s.still := by simp [State.msixWrite]

@[simp] theorem State.bar2Write_still (s : State) (pf1 : Bool) (off : Nat) (v : Word) : (outState (State.bar2Write s pf1 off v) s).still = s.still := by simp [State.bar2Write]

@[simp] theorem State.busWrite_still (s : State) (pf1 : Bool) (off : Nat) (value : Word) (h0 : off ≠ Reg.SAFE_MBX_CMD) (h1 : off ≠ Reg.SEC_CMD) : (outState (State.busWrite s pf1 off value) s).still = s.still := by
  unfold State.busWrite; split
  · simp
  · split
    · rw [outState_next]
    · split
      · simp
      · split
        · rename_i t h; rw [outState_next]; exact State.dropped_still s off t h
        · exact State.putWord_still _ _ _ h0 h1

@[simp] theorem execRegisterWrite_still (pf1 : Bool) (off : Nat) (width : Nat) (value : Word) (s : State) (h0 : off ≠ Reg.SAFE_MBX_CMD) (h1 : off ≠ Reg.SEC_CMD) : (outState (execRegisterWrite pf1 off width value s) s).still = s.still := by
  unfold execRegisterWrite; split
  · rw [outState_next, State.hostError_still]
  · exact State.busWrite_still _ _ _ _ h0 h1

@[simp] theorem execReg64LowWrite_still (pf1 : Bool) (off : Nat) (value : Word) (s : State) : (outState (execReg64LowWrite pf1 off value s) s).still = s.still := by
  unfold execReg64LowWrite; split
  · rw [outState_next, State.hostError_still]
  · split
    · rename_i h
      refine State.busWrite_still _ _ _ _ ?_ ?_ <;> (intro e; rw [e] at h; revert h; decide)
    · rw [outState_next]

@[simp] theorem execReg64HighWrite_still (pf1 : Bool) (off : Nat) (value : Word) (s : State) : (outState (execReg64HighWrite pf1 off value s) s).still = s.still := by
  unfold execReg64HighWrite; split
  · rw [outState_next, State.hostError_still]
  · split
    · rename_i h
      refine State.busWrite_still _ _ _ _ ?_ ?_ <;> (intro e; rw [e] at h; revert h; decide)
    · rw [outState_next]

@[simp] theorem State.hwSet_still (s : State) (off : Nat) (hw : Word) : (State.hwSet s off hw).still = s.still := by simp [State.hwSet]

@[simp] theorem execW1cWrite_still (pf1 : Bool) (off : Nat) (value : Word) (hwSets : Word) (s : State) : (outState (execW1cWrite pf1 off value hwSets s) s).still = s.still := by
  unfold execW1cWrite; split
  · rw [outState_next, State.hostError_still]
  · split
    · rw [outState_next]
    · rename_i h
      refine andThen_still _ _ _ (State.busWrite_still _ _ _ _ ?_ ?_) (fun t => ?_)
      · intro e; rw [e] at h; exact h (by decide)
      · intro e; rw [e] at h; exact h (by decide)
      · rw [outState_next, State.hwSet_still]

@[simp] theorem execReg64LowRead_still (pf1 : Bool) (off : Nat) (s : State) : (outState (execReg64LowRead pf1 off s) s).still = s.still := by simp [execReg64LowRead]

@[simp] theorem State.healthPop_still (s : State) (ch : Nat) (arrive : Word) : (State.healthPop s ch arrive).still = s.still := by simp [State.healthPop]

@[simp] theorem State.rcTake_still (s : State) (off : Nat) (arrive : Word) : (State.rcTake s off arrive).1.still = s.still := by simp only [State.rcTake]; (repeat' split) <;> simp

@[simp] theorem State.sbEvtArrive_still (s : State) (c : Nat) (arrive : Word) : (State.sbEvtArrive s c arrive).still = s.still := by simp [State.sbEvtArrive]

@[simp] theorem execRcRead_still (pf1 : Bool) (off : Nat) (width : Nat) (arrive : Word) (s : State) : (outState (execRcRead pf1 off width arrive s) s).still = s.still := by simp only [execRcRead]; (repeat' split) <;> simp

/-- Rows whose effect is on what `still` holds: the island's own, the mailbox, the two SEC commands that set fuses, and the ends of power. -/
def loud : Instr → Bool
  | .pd0PowerOn | .powerLoss _ | .timeSlewEnd | .secSvnCommit | .secEnrol => true
  | .registerWrite _ off _ _ => off == Reg.SAFE_MBX_CMD || off == Reg.SEC_CMD
  | c => islandEvent c || mailboxWrite c

theorem exec_still (c : Instr) (s : State) (h : loud c = false) : (outState (exec c s) s).still = s.still :=
  match c, h with
  | .reg64LowRead _ _, _ => execReg64LowRead_still ..
  | .reg64LowWrite _ _ _, _ => execReg64LowWrite_still ..
  | .reg64HighWrite _ _ _, _ => execReg64HighWrite_still ..
  | .registerWrite _ off w _, h => execRegisterWrite_still _ off w _ s (by simpa [loud] using (by simpa [loud] using h : _ ∧ _).1) (by simpa [loud] using (by simpa [loud] using h : _ ∧ _).2)
  | .w1cWrite _ _ _ _, _ => execW1cWrite_still ..
  | .rcRead _ _ _ _, _ => execRcRead_still ..
  | .clkRefLost, _ => execClkRefLost_still ..
  | .clkRefRestored, _ => execClkRefRestored_still ..
  | .pllUnlock _, _ => execPllUnlock_still ..
  | .pllRelock _, _ => execPllRelock_still ..
  | .sysrefEdge _, _ => execSysrefEdge_still ..
  | .encAbEdge _ _ _ _ _, _ => execEncAbEdge_still ..
  | .encZEdge _ _ _ _, _ => execEncZEdge_still ..
  | .prefEnable _ _, _ => execPrefEnable_still ..
  | .prefResync _ _, _ => execPrefResync_still ..
  | .prefStop _, _ => execPrefStop_still ..
  | .prefInvalid _, _ => execPrefInvalid_still ..
  | .prefSampleLoss _, _ => execPrefSampleLoss_still ..
  | .prefSrcSwitch _, _ => execPrefSrcSwitch_still ..
  | .frameBoundary _, _ => execFrameBoundary_still ..
  | .tbIncrWrite _, _ => execTbIncrWrite_still ..
  | .tbOffsetWrite _, _ => execTbOffsetWrite_still ..
  | .timeSlewEnd, h => nomatch h
  | .tbArmWrite _, _ => execTbArmWrite_still ..
  | .tbArmExpire, _ => execTbArmExpire_still ..
  | .schedWriteEntry, _ => execSchedWriteEntry_still ..
  | .schedReadEntry, _ => execSchedReadEntry_still ..
  | .schedClearEn, _ => execSchedClearEn_still ..
  | .schedEntryDue _, _ => execSchedEntryDue_still ..
  | .gpioPulseEnd _, _ => execGpioPulseEnd_still ..
  | .capEdge _ _ _ _ _, _ => execCapEdge_still ..
  | .capTimeLoRead _ _, _ => execCapTimeLoRead_still ..
  | .inhibitAssert, _ => execInhibitAssert_still ..
  | .inhibitRelease, _ => execInhibitRelease_still ..
  | .piResume _, _ => execPiResume_still ..
  | .hostLinkUp _ _ _ _ _, _ => execHostLinkUp_still ..
  | .hostLinkDown, _ => execHostLinkDown_still ..
  | .hostBmeOff _, _ => execHostBmeOff_still ..
  | .hostPcieError _ _ _, _ => execHostPcieError_still ..
  | .completionTimeout _ _, _ => execCompletionTimeout_still ..
  | .mgmtDoorbell _, _ => execMgmtDoorbell_still ..
  | .evtDoorbell _, _ => execEvtDoorbell_still ..
  | .ctxSqDoorbell _ _, _ => execCtxSqDoorbell_still ..
  | .ctxCqDoorbell _ _, _ => execCtxCqDoorbell_still ..
  | .descNop _ _, _ => execDescNop_still ..
  | .descPage _ _, _ => execDescPage_still ..
  | .descTile _ _, _ => execDescTile_still ..
  | .descBlank _ _, _ => execDescBlank_still ..
  | .descTableLoad _ _, _ => execDescTableLoad_still ..
  | .descMark _ _, _ => execDescMark_still ..
  | .descInvalidOp _ _, _ => execDescInvalidOp_still ..
  | .tableLoadCopyDone _ _, _ => execTableLoadCopyDone_still ..
  | .cqModTimer _, _ => execCqModTimer_still ..
  | .evtModTimer, _ => execEvtModTimer_still ..
  | .mgmtNop _, _ => execMgmtNop_still ..
  | .mgmtInvalidOp _, _ => execMgmtInvalidOp_still ..
  | .ctxArm _, _ => execCtxArm_still ..
  | .ctxStart _, _ => execCtxStart_still ..
  | .ctxDrain _, _ => execCtxDrain_still ..
  | .ctxHalt _, _ => execCtxHalt_still ..
  | .ctxReset _, _ => execCtxReset_still ..
  | .mgmtSchedWrite _, _ => execMgmtSchedWrite_still ..
  | .forceSet _, _ => execForceSet_still ..
  | .forceClear _, _ => execForceClear_still ..
  | .flrPf0, _ => execFlrPf0_still ..
  | .flrPf1, _ => execFlrPf1_still ..
  | .pf1D3ToD0, _ => execPf1D3ToD0_still ..
  | .opNvCommit _, _ => execOpNvCommit_still ..
  | .opFabricRediscover _, _ => execOpFabricRediscover_still ..
  | .opNozVerify _, _ => execOpNozVerify_still ..
  | .opFactoryRestore _, _ => execOpFactoryRestore_still ..
  | .opCaskExport _, _ => execOpCaskExport_still ..
  | .opBadOp _, _ => execOpBadOp_still ..
  | .opEnd _ _ _, _ => execOpEnd_still ..
  | .ctxDrainDone _, _ => execCtxDrainDone_still ..
  | .ctxHaltTake _, _ => execCtxHaltTake_still ..
  | .bufScrub _ _, _ => execBufScrub_still ..
  | .tileFetch _, _ => execTileFetch_still ..
  | .lineScreen _ _, _ => execLineScreen_still ..
  | .lineCompensate _ _, _ => execLineCompensate_still ..
  | .nozSwitchRequest _ _, _ => execNozSwitchRequest_still ..
  | .nozSwitchCancel _ _, _ => execNozSwitchCancel_still ..
  | .nozPendingReady _ _, _ => execNozPendingReady_still ..
  | .nozArmLoadDone _ _, _ => execNozArmLoadDone_still ..
  | .hlEnable _ _, _ => execHlEnable_still ..
  | .hlDisable _ _, _ => execHlDisable_still ..
  | .hlTrainGo _, _ => execHlTrainGo_still ..
  | .hlTrainCancel _, _ => execHlTrainCancel_still ..
  | .hlBlockLock _, _ => execHlBlockLock_still ..
  | .hlCapRx _ _ _ _ _, _ => execHlCapRx_still ..
  | .hlCalRx _ _ _ _, _ => execHlCalRx_still ..
  | .hlTrainTimeout _, _ => execHlTrainTimeout_still ..
  | .hlLoadDone _, _ => execHlLoadDone_still ..
  | .hlLockLost _, _ => execHlLockLost_still ..
  | .hlNoReturn _, _ => execHlNoReturn_still ..
  | .hlRetrainTimer _, _ => execHlRetrainTimer_still ..
  | .hlReturnFrame _ _, _ => execHlReturnFrame_still ..
  | .hlLatCheck _ _ _, _ => execHlLatCheck_still ..
  | .hlWdataWrite _ _, _ => execHlWdataWrite_still ..
  | .hlWaveArm _ _, _ => execHlWaveArm_still ..
  | .hlWaveCancel _ _, _ => execHlWaveCancel_still ..
  | .hlWaveClear _ _, _ => execHlWaveClear_still ..
  | .fabBlockLock _, _ => execFabBlockLock_still ..
  | .fabPortUp _ _ _, _ => execFabPortUp_still ..
  | .fabPortDown _, _ => execFabPortDown_still ..
  | .fabHelloRx _ _, _ => execFabHelloRx_still ..
  | .fabBeaconRx _ _, _ => execFabBeaconRx_still ..
  | .fabDiscReqRx _ _, _ => execFabDiscReqRx_still ..
  | .fabRouteRx _ _, _ => execFabRouteRx_still ..
  | .fabRouteAckRx _ _, _ => execFabRouteAckRx_still ..
  | .fabDoneRx _ _, _ => execFabDoneRx_still ..
  | .fabTopoChangeRx _ _, _ => execFabTopoChangeRx_still ..
  | .fabSampleRx _ _, _ => execFabSampleRx_still ..
  | .fabZedgeRx _ _, _ => execFabZedgeRx_still ..
  | .fabSnapRx _ _, _ => execFabSnapRx_still ..
  | .fabImageRx _ _, _ => execFabImageRx_still ..
  | .fabHelloTimer, _ => execFabHelloTimer_still ..
  | .fabCoordElect, _ => execFabCoordElect_still ..
  | .fabRouteRepeat, _ => execFabRouteRepeat_still ..
  | .fabRouteSwitch, _ => execFabRouteSwitch_still ..
  | .fabDiscTimeout, _ => execFabDiscTimeout_still ..
  | .fabBeaconTimer, _ => execFabBeaconTimer_still ..
  | .fabCoordLost, _ => execFabCoordLost_still ..
  | .fabHoldExpire, _ => execFabHoldExpire_still ..
  | .fabSnapSend _, _ => execFabSnapSend_still ..
  | .fabSnapRelease _, _ => execFabSnapRelease_still ..
  | .fabSnapLatch, _ => execFabSnapLatch_still ..
  | .fabZrxTimeRead _, _ => execFabZrxTimeRead_still ..
  | .twinHbSend, _ => execTwinHbSend_still ..
  | .twinHeartbeatRx _ _, _ => execTwinHeartbeatRx_still ..
  | .twinCkptRx _ _, _ => execTwinCkptRx_still ..
  | .twinCkptEndRx _ _, _ => execTwinCkptEndRx_still ..
  | .twinSampleRx _ _, _ => execTwinSampleRx_still ..
  | .twinSeqRx _ _, _ => execTwinSeqRx_still ..
  | .twinCtxRx _ _, _ => execTwinCtxRx_still ..
  | .twinEpochReplyRx _ _, _ => execTwinEpochReplyRx_still ..
  | .twinSwapRx _ _, _ => execTwinSwapRx_still ..
  | .twinHbLost, _ => execTwinHbLost_still ..
  | .twinHbDecide2, _ => execTwinHbDecide2_still ..
  | .twinTakeover, _ => execTwinTakeover_still ..
  | .twinPostResume _, _ => execTwinPostResume_still ..
  | .twinStartWaitExpire, _ => execTwinStartWaitExpire_still ..
  | .twinSwapTimer, _ => execTwinSwapTimer_still ..
  | .twinSwapNow, _ => execTwinSwapNow_still ..
  | .twinSwapCancel, _ => execTwinSwapCancel_still ..
  | .twinSwapDeferred, _ => execTwinSwapDeferred_still ..
  | .cycLoad, _ => execCycLoad_still ..
  | .cycLoadDone _ _ _ _, _ => execCycLoadDone_still ..
  | .cycStartCold, _ => execCycStartCold_still ..
  | .cycStartWarm, _ => execCycStartWarm_still ..
  | .cycStop, _ => execCycStop_still ..
  | .cycChange, _ => execCycChange_still ..
  | .cycDiscard, _ => execCycDiscard_still ..
  | .cycPeriodStart _, _ => execCycPeriodStart_still ..
  | .cycLogicEnd _ _, _ => execCycLogicEnd_still ..
  | .cycOutputWrite _, _ => execCycOutputWrite_still ..
  | .cycWatchdog _, _ => execCycWatchdog_still ..
  | .cycTrap _, _ => execCycTrap_still ..
  | .cycEventTrigger _, _ => execCycEventTrigger_still ..
  | .cycRetCopyDone, _ => execCycRetCopyDone_still ..
  | .kilnCmdWrite, _ => execKilnCmdWrite_still ..
  | .kilnCmdRead, _ => execKilnCmdRead_still ..
  | .kilnManual, _ => execKilnManual_still ..
  | .kilnAuto, _ => execKilnAuto_still ..
  | .kilnOff, _ => execKilnOff_still ..
  | .kilnTuneStart, _ => execKilnTuneStart_still ..
  | .kilnTuneCancel, _ => execKilnTuneCancel_still ..
  | .kilnEnable, _ => execKilnEnable_still ..
  | .kilnGroupStart _, _ => execKilnGroupStart_still ..
  | .kilnOutputWrite _, _ => execKilnOutputWrite_still ..
  | .kilnTuneTimeout, _ => execKilnTuneTimeout_still ..
  | .sbChEnable _ _, _ => execSbChEnable_still ..
  | .sbListenEnd _, _ => execSbListenEnd_still ..
  | .sbCycleStart _, _ => execSbCycleStart_still ..
  | .sbSlotTx _ _, _ => execSbSlotTx_still ..
  | .sbFrameRx _ _ _ _, _ => execSbFrameRx_still ..
  | .sbEventFrameRx _ _ _ _, _ => execSbEventFrameRx_still ..
  | .sbEvtSend _ _, _ => execSbEvtSend_still ..
  | .sbEvtRxPop _ _, _ => execSbEvtRxPop_still ..
  | .sbCorrection _, _ => execSbCorrection_still ..
  | .sbBranchViolation _ _ _, _ => execSbBranchViolation_still ..
  | .sbStarReopen _ _, _ => execSbStarReopen_still ..
  | .sbStartCollision _ _, _ => execSbStartCollision_still ..
  | .canTxbWrite _ _, _ => execCanTxbWrite_still ..
  | .canTxbRead _ _, _ => execCanTxbRead_still ..
  | .canTxbRequest _ _, _ => execCanTxbRequest_still ..
  | .canTxbCancel _ _, _ => execCanTxbCancel_still ..
  | .canFltWrite _, _ => execCanFltWrite_still ..
  | .canFltRead _, _ => execCanFltRead_still ..
  | .canRxqHeadRead _ _ _, _ => execCanRxqHeadRead_still ..
  | .canRxqPop _ _, _ => execCanRxqPop_still ..
  | .canModeWrite _ _, _ => execCanModeWrite_still ..
  | .canIntegrated _, _ => execCanIntegrated_still ..
  | .canFrameRx _ _ _, _ => execCanFrameRx_still ..
  | .canTxSuccess _ _ _, _ => execCanTxSuccess_still ..
  | .canArbLost _, _ => execCanArbLost_still ..
  | .canError _ _ _ _ _ _, _ => execCanError_still ..
  | .canRecover _, _ => execCanRecover_still ..
  | .canBusOffRecovered _, _ => execCanBusOffRecovered_still ..
  | .canProtocolException _ _, _ => execCanProtocolException_still ..
  | .ethLinkUp _ _ _, _ => execEthLinkUp_still ..
  | .ethLinkDown _, _ => execEthLinkDown_still ..
  | .ethFrameRx _ _ _ _, _ => execEthFrameRx_still ..
  | .ethFrameTx _ _ _ _, _ => execEthFrameTx_still ..
  | .ethTxtsPop _, _ => execEthTxtsPop_still ..
  | .ptpSyncRx _ _, _ => execPtpSyncRx_still ..
  | .ptpHoldover, _ => execPtpHoldover_still ..
  | .ptpHoldExpire, _ => execPtpHoldExpire_still ..
  | .ptpMasterChange _, _ => execPtpMasterChange_still ..
  | .ppsRise, _ => execPpsRise_still ..
  | .ppsFall, _ => execPpsFall_still ..
  | .safeStrobe _ _, h => nomatch h
  | .safeDiscrepancyTimeout _, h => nomatch h
  | .safeEval _ _ _, h => nomatch h
  | .safeEncEval, h => nomatch h
  | .safeResetPulse, h => nomatch h
  | .safeSs1Expire _, h => nomatch h
  | .safeTestPulse _ _ _, h => nomatch h
  | .safeBgTest _, h => nomatch h
  | .pd2PowerOn, h => nomatch h
  | .safeSelftestDone _, h => nomatch h
  | .safeMbxLoadBegin, h => nomatch h
  | .safeMbxLoadWrite, h => nomatch h
  | .safeMbxLoadEnd, h => nomatch h
  | .safeMbxConfirm, h => nomatch h
  | .safeCommitDone _, h => nomatch h
  | .safeMbxReadActive, h => nomatch h
  | .safeMbxDiscard, h => nomatch h
  | .safeMbxBadCmd _, h => nomatch h
  | .loopConvStart _, _ => execLoopConvStart_still ..
  | .loopConvDone _ _ _, _ => execLoopConvDone_still ..
  | .loopTrimPress _ _ _, _ => execLoopTrimPress_still ..
  | .loopTrimRepeat, _ => execLoopTrimRepeat_still ..
  | .loopTrimRelease, _ => execLoopTrimRelease_still ..
  | .loopPgateFall _, _ => execLoopPgateFall_still ..
  | .caskFlush, _ => execCaskFlush_still ..
  | .caskFlushTimer, _ => execCaskFlushTimer_still ..
  | .caskCmdFlush, _ => execCaskCmdFlush_still ..
  | .caskCmdNonce, _ => execCaskCmdNonce_still ..
  | .caskNonceExpire, _ => execCaskNonceExpire_still ..
  | .caskCmdClear, _ => execCaskCmdClear_still ..
  | .caskClearDone, _ => execCaskClearDone_still ..
  | .caskCmdRead, _ => execCaskCmdRead_still ..
  | .caskTokenGain _, _ => execCaskTokenGain_still ..
  | .caskSuppressed, _ => execCaskSuppressed_still ..
  | .caskBktWrite _ _, _ => execCaskBktWrite_still ..
  | .caskFreezeWrite _, _ => execCaskFreezeWrite_still ..
  | .caskFreezeInForce, _ => execCaskFreezeInForce_still ..
  | .caskFreezeTimeout, _ => execCaskFreezeTimeout_still ..
  | .secFwStage, _ => execSecFwStage_still ..
  | .fwStageDone _ _ _, _ => execFwStageDone_still ..
  | .secSvnCommit, h => nomatch h
  | .secNonce, _ => execSecNonce_still ..
  | .secNonceExpire, _ => execSecNonceExpire_still ..
  | .secEnrol, h => nomatch h
  | .secQuote, _ => execSecQuote_still ..
  | .pd0PowerOn, h => nomatch h
  | .resetPin, _ => execResetPin_still ..
  | .pwrgdLow, _ => execPwrgdLow_still ..
  | .pwrgdRise, _ => execPwrgdRise_still ..
  | .perstAssert, _ => execPerstAssert_still ..
  | .globalResetCmd _, _ => execGlobalResetCmd_still ..
  | .mgmtWatchdog, _ => execMgmtWatchdog_still ..
  | .globalPdCtrlWrite _, _ => execGlobalPdCtrlWrite_still ..
  | .pdOn _, _ => execPdOn_still ..
  | .pdOff _, _ => execPdOff_still ..
  | .pfailAssert, _ => execPfailAssert_still ..
  | .pfailDeassert, _ => execPfailDeassert_still ..
  | .startS1 _ _, _ => execStartS1_still ..
  | .startS2, _ => execStartS2_still ..
  | .startS3, _ => execStartS3_still ..
  | .startS4, _ => execStartS4_still ..
  | .startS5, _ => execStartS5_still ..
  | .startS6, _ => execStartS6_still ..
  | .startS7, _ => execStartS7_still ..
  | .tjUpdate _, _ => execTjUpdate_still ..
  | .tileCopyDone _ _, _ => execTileCopyDone_still ..
  | .printInhibitRise, _ => execPrintInhibitRise_still ..
  | .markSourceEdge _, _ => execMarkSourceEdge_still ..
  | .loopPgateRise _, _ => execLoopPgateRise_still ..
  | .sbAbortRx _, _ => execSbAbortRx_still ..
  | .safeSupplyLoss, h => nomatch h
  | .powerLoss _, h => nomatch h
  | .safeEncTransition _ _ _ _, h => nomatch h
  | .fabCreditRx _ _, _ => execFabCreditRx_still ..

/-- What an outcome of the loud rows leaves, of what `still` holds. -/
theorem pd0Reset_keeps (s : State) : s.pd0Reset.pending = s.pending ∧ s.pd0Reset.safe = s.safe ∧ s.pd0Reset.power.pd2 = s.power.pd2 ∧ s.pd0Reset.sec.fuses = s.sec.fuses ∧
    s.pd0Reset.count = 0 := by
  refine ⟨rfl, rfl, ?_, rfl, rfl⟩
  simp [State.pd0Reset, Power.pd2]

theorem execPd0PowerOn_keeps (s : State) : ∃ t, exec .pd0PowerOn s = .next t ∧ t.pending = s.pending ∧ t.safe = s.safe ∧ t.power.pd2 = s.power.pd2 ∧ t.sec.fuses = s.sec.fuses ∧ t.count = 0 := by
  have e : ((s.commitAbort false).stageAbort).still = s.still := by rw [State.stageAbort_still, State.commitAbort_still]
  simp only [State.still, Prod.mk.injEq] at e
  obtain ⟨a, b, c, d, f⟩ := pd0Reset_keeps (s.commitAbort false).stageAbort
  exact ⟨_, rfl, a.trans e.1, b.trans e.2.2.1, c.trans e.2.2.2.1, d.trans e.2.2.2.2, f⟩

theorem execPowerLoss_keeps (torn : Bool) (s : State) : ∃ t, exec (.powerLoss torn) s = .next t ∧ t.pending = s.pending ∧ t.safe = s.safe ∧ t.power.pd2 = s.power.pd2 ∧ t.sec.fuses = s.sec.fuses ∧ t.count = 0 := by
  let u : State := if !s.cask.flushing || s.cask.flushed.isEmpty then s
    else if s.power.pfail && decide (1200000 ≤ (s.count - s.power.pfailAt).toNat) then s.caskFlushAll
    else s.free.2.modCask (fun c => c.loseAt (s.free.1.toNat % (s.cask.flushed.length + 1)) torn)
  have e0 : u.still = s.still := by simp only [u]; rw [still_ite, still_ite, State.modCask_still, State.free_still, State.caskFlushAll_still, ite_self, ite_self]
  have e : ((u.commitAbort false).stageAbort).still = s.still := by rw [State.stageAbort_still, State.commitAbort_still, e0]
  simp only [State.still, Prod.mk.injEq] at e
  obtain ⟨a, b, c, d, f⟩ := pd0Reset_keeps (u.commitAbort false).stageAbort
  exact ⟨_, rfl, a.trans e.1, b.trans e.2.2.1, c.trans e.2.2.2.1, d.trans e.2.2.2.2, f⟩

/-- SVN_COMMIT and ENROL: pending commands, the count, the island and its supply stay; fuses are only set. -/
def State.fusing (s t : State) : Prop :=
  t.pending = s.pending ∧ t.count = s.count ∧ t.safe = s.safe ∧ t.power.pd2 = s.power.pd2 ∧ s.sec.fusesWithin t.sec

theorem Sec.fusesWithin_of_eq {x y : Sec} (h : y.fuses = x.fuses) : x.fusesWithin y := by
  simp only [Sec.fuses, Prod.mk.injEq] at h
  simp [Sec.fusesWithin, h]

theorem fusing_of_still {s t : State} (h : t.still = s.still) : s.fusing t := by
  simp only [State.still, Prod.mk.injEq] at h
  exact ⟨h.1, h.2.1, h.2.2.1, h.2.2.2.1, Sec.fusesWithin_of_eq h.2.2.2.2⟩

theorem Sec.fusesWithin_trans {x y z : Sec} (h : x.fusesWithin y) (g : y.fusesWithin z) : x.fusesWithin z :=
  ⟨le_trans h.1 g.1, fun a => g.2.1 (h.2.1 a), fun a => g.2.2.1 (h.2.2.1 a),
    fun n => ⟨fun a => (g.2.2.2 n).1 ((h.2.2.2 n).1 a), fun a => (g.2.2.2 n).2 ((h.2.2.2 n).2 a)⟩⟩

theorem fusing_trans {s t u : State} (h : s.fusing t) (g : t.fusing u) : s.fusing u :=
  ⟨g.1.trans h.1, g.2.1.trans h.2.1, g.2.2.1.trans h.2.2.1, g.2.2.2.1.trans h.2.2.2.1, Sec.fusesWithin_trans h.2.2.2.2 g.2.2.2.2⟩

theorem svnCommit_fusing (s : State) : s.fusing s.svnCommit := by
  unfold State.svnCommit
  split
  · exact fusing_of_still (State.secDone_still _ _ _)
  · dsimp only; split
    · exact fusing_of_still (State.secDone_still _ _ _)
    · rename_i h
      refine fusing_trans (t := s.modSec (fun x => { x with svnMin := fwSvn _ })) ?_ (fusing_of_still (by rw [State.secDone_still, State.raise_still]))
      refine ⟨rfl, rfl, rfl, rfl, ?_⟩
      simp only [State.modSec, Sec.fusesWithin]
      exact ⟨by omega, id, id, fun n => ⟨id, id⟩⟩

theorem enrol_fuses (x : Sec) (t : List Byte) : x.fusesWithin (x.enrol t) := by
  unfold Sec.enrol
  refine ⟨le_refl _, fun h => by simp [h], fun h => by simp [h], fun n => ?_⟩
  have a : ∀ m : Nat, ((x.owner.set {} x.nextOwner { x.owner.get {} x.nextOwner with hash := Config.sha512 (sliceB t 64 32), enrolled := true }).get {} m).revoked = (x.owner.get {} m).revoked ∧
      ((x.owner.get {} m).enrolled = true → ((x.owner.set {} x.nextOwner { x.owner.get {} x.nextOwner with hash := Config.sha512 (sliceB t 64 32), enrolled := true }).get {} m).enrolled = true) := by
    intro m
    by_cases h : m = x.nextOwner
    · subst h; simp
    · rw [SMap.get_set_ne _ _ _ _ h]; simp
  dsimp only
  split
  · rename_i p hp
    by_cases h : n = p
    · subst h; simp; exact (a n).2
    · rw [SMap.get_set_ne _ _ _ _ h]; exact ⟨(a n).2, fun g => by rw [(a n).1]; exact g⟩
  · exact ⟨(a n).2, fun g => by rw [(a n).1]; exact g⟩

theorem enrolDo_fusing (s : State) : s.fusing s.enrolDo := by
  unfold State.enrolDo
  extract_lets t r u n v
  have e : u.still = s.still := State.modSec_still _ _ (Eq.trans rfl rfl)
  clear_value r
  rcases r with _ | x
  rotate_left
  · exact fusing_of_still (by rw [State.secDone_still, e])
  · refine fusing_trans (fusing_of_still e) (fusing_trans (t := v) ?_ (fusing_of_still (by rw [State.secDone_still, State.raise_still])))
    exact ⟨rfl, rfl, rfl, rfl, enrol_fuses _ _⟩

theorem gated_fusing (s : State) (off : Nat) (f : State → State) (h : ∀ s : State, s.fusing (f s)) : s.fusing (s.gated off f) := by
  unfold State.gated; cases e : s.dropped off with
  | none => exact h s
  | some t => exact fusing_of_still (State.dropped_still s off t e)

theorem secCmd_fusing (s : State) (cmd : Nat) (f : State → State) (h : ∀ s : State, s.fusing (f s)) : s.fusing (s.secCmd cmd f) := by
  unfold State.secCmd
  refine gated_fusing _ _ _ (fun s => ?_)
  split
  · exact fusing_of_still (State.secDone_still _ _ _)
  · split
    · exact fusing_of_still (State.secDone_still _ _ _)
    · exact fusing_trans (fusing_of_still (State.wr_still _ _ _)) (h _)

theorem putSec_fusing (s : State) (off : Nat) (v : Word) : s.fusing (outState (s.putSec off v) s) := by
  unfold State.putSec
  split
  · unfold State.secCmdWrite
    split
    · exact fusing_of_still (execSecFwStage_still _)
    · exact secCmd_fusing _ _ _ svnCommit_fusing
    · exact fusing_of_still (execSecNonce_still _)
    · exact secCmd_fusing _ _ _ enrolDo_fusing
    · exact fusing_of_still (execSecQuote_still _)
    · exact fusing_of_still rfl
  · exact fusing_of_still (by simp)

theorem execRegisterWrite_sec_fusing (pf1 : Bool) (w : Nat) (v : Word) (s : State) : s.fusing (outState (execRegisterWrite pf1 Reg.SEC_CMD w v s) s) := by
  unfold execRegisterWrite
  split
  · exact fusing_of_still (State.hostError_still _ _)
  unfold State.busWrite
  rw [if_neg (by decide)]
  split
  · exact fusing_of_still rfl
  · rw [if_neg (by decide)]
    split
    · rename_i t h; exact fusing_of_still (State.dropped_still s _ t h)
    · exact putSec_fusing s Reg.SEC_CMD v

theorem calm_facts {s t : State} (h : t.calm = s.calm) : t.pending = s.pending ∧ t.count = s.count ∧ t.power.pd2 = s.power.pd2 ∧ s.sec.fusesWithin t.sec := by
  simp only [State.calm, Prod.mk.injEq] at h
  exact ⟨h.1, h.2.1, h.2.2.1, Sec.fusesWithin_of_eq h.2.2.2⟩

theorem outState_of {c : Instr} {s t : State} (h : exec c s = .next t) : outState (exec c s) s = t := by rw [h, outState_next]

theorem registerMbx_calm (pf1 : Bool) (w : Nat) (v : Word) (s : State) : (outState (execRegisterWrite pf1 Reg.SAFE_MBX_CMD w v s) s).calm = s.calm := by
  unfold execRegisterWrite
  split
  · exact calm_of_still (State.hostError_still _ _)
  unfold State.busWrite
  rw [if_neg (by decide)]
  split
  · rfl
  · rw [if_neg (by decide)]
    split
    · rename_i t h; exact calm_of_still (State.dropped_still s _ t h)
    · show (outState (.next (s.putSafe Reg.SAFE_MBX_CMD v)) s).calm = _
      rw [outState_next]; unfold State.putSafe
      split
      · rfl
      · rw [if_pos rfl]; simp

/-- A tick adds 1 to the count and keeps the queue, the island, its supply and the fuses. -/
theorem tick_facts (s : State) : s.tick.pending = s.pending ∧ s.tick.count = s.count + 1 ∧ s.tick.safe = s.safe ∧ s.tick.power.pd2 = s.power.pd2 ∧
    s.tick.sec.fuses = s.sec.fuses := by
  have D : ∀ u : State, u.disturb.pending = u.pending ∧ u.disturb.count = u.count ∧ u.disturb.safe = u.safe ∧ u.disturb.power.pd2 = u.power.pd2 ∧
      u.disturb.sec.fuses = u.sec.fuses := by
    intro u
    have e := State.disturb_still u
    simp only [State.still, Prod.mk.injEq] at e
    exact e
  unfold State.tick; dsimp only
  split
  · exact D _
  · exact ⟨rfl, rfl, rfl, rfl, rfl⟩

/-- What every command keeps: the queue; the time base but at a power loss and at the end of a slew; the fuses that are set; PD2 but at its own supply loss. -/
theorem exec_facts (c : Instr) (s t : State) (h : exec c s = .next t) :
    t.pending = s.pending ∧ (c ≠ .pd0PowerOn → (∀ torn, c ≠ .powerLoss torn) → t.count = s.count ∨ (c = .timeSlewEnd ∧ t.count = s.count + 1)) ∧
    s.sec.fusesWithin t.sec ∧ (c ≠ .safeSupplyLoss → s.power.pd2 = true → t.power.pd2 = true) := by
  have e := outState_of h
  by_cases l : loud c = false
  · have k := exec_still c s l
    rw [e] at k
    obtain ⟨a, b, _, d, f⟩ := fusing_of_still k
    exact ⟨a, fun _ _ => .inl b, f, fun _ g => d.trans g⟩
  · have mk : (outState (exec c s) s).calm = s.calm → t.pending = s.pending ∧ (c ≠ .pd0PowerOn → (∀ torn, c ≠ .powerLoss torn) → t.count = s.count ∨ (c = .timeSlewEnd ∧ t.count = s.count + 1)) ∧
    s.sec.fusesWithin t.sec ∧ (c ≠ .safeSupplyLoss → s.power.pd2 = true → t.power.pd2 = true) := by
      intro k; rw [e] at k
      obtain ⟨a, b, d, f⟩ := calm_facts k
      exact ⟨a, fun _ _ => .inl b, f, fun _ g => d.trans g⟩
    have mf : s.fusing (outState (exec c s) s) → t.pending = s.pending ∧ (c ≠ .pd0PowerOn → (∀ torn, c ≠ .powerLoss torn) → t.count = s.count ∨ (c = .timeSlewEnd ∧ t.count = s.count + 1)) ∧
    s.sec.fusesWithin t.sec ∧ (c ≠ .safeSupplyLoss → s.power.pd2 = true → t.power.pd2 = true) := by
      intro k; rw [e] at k
      obtain ⟨a, b, _, d, f⟩ := k
      exact ⟨a, fun _ _ => .inl b, f, fun _ g => d.trans g⟩
    cases c
    case pd0PowerOn =>
      obtain ⟨u, hu, a, b, d, f, g⟩ := execPd0PowerOn_keeps s
      rw [h] at hu; cases hu
      exact ⟨a, fun x => absurd rfl x, Sec.fusesWithin_of_eq f, fun _ g => d.trans g⟩
    case powerLoss torn =>
      obtain ⟨u, hu, a, b, d, f, g⟩ := execPowerLoss_keeps torn s
      rw [h] at hu; cases hu
      exact ⟨a, fun _ x => absurd rfl (x torn), Sec.fusesWithin_of_eq f, fun _ g => d.trans g⟩
    case timeSlewEnd =>
      simp only [exec, execTimeSlewEnd] at h
      split at h <;> cases h
      · obtain ⟨a, b, _, d, f⟩ := tick_facts s
        exact ⟨a, fun _ _ => .inr ⟨rfl, b⟩, Sec.fusesWithin_of_eq f, fun _ g => d.trans g⟩
      · exact ⟨rfl, fun _ _ => .inl rfl, Sec.fusesWithin_of_eq rfl, fun _ g => g⟩
    case secSvnCommit => exact mf (secCmd_fusing s 2 _ svnCommit_fusing)
    case secEnrol => exact mf (secCmd_fusing s 4 _ enrolDo_fusing)
    case registerWrite pf1 off w v =>
      by_cases h1 : off = Reg.SAFE_MBX_CMD
      · subst h1; exact mk (registerMbx_calm pf1 w v s)
      · by_cases h2 : off = Reg.SEC_CMD
        · subst h2; exact mf (execRegisterWrite_sec_fusing pf1 w v s)
        · exact absurd (by simp [loud, h1, h2]) l
    case pd2PowerOn =>
      simp only [exec, execPd2PowerOn] at h; cases h
      exact ⟨rfl, fun _ _ => .inl rfl, Sec.fusesWithin_of_eq rfl, fun _ _ => by simp [State.modSafe, State.clearRegs, Power.pd2]⟩
    case safeSupplyLoss =>
      simp only [exec, execSafeSupplyLoss] at h
      split at h
      · cases h; exact ⟨rfl, fun _ _ => .inl rfl, Sec.fusesWithin_of_eq rfl, fun x => absurd rfl x⟩
      · cases h; split <;> exact ⟨rfl, fun _ _ => .inl rfl, Sec.fusesWithin_of_eq rfl, fun x => absurd rfl x⟩
    case safeStrobe => exact mk (execSafeStrobe_calm ..)
    case safeDiscrepancyTimeout => exact mk (execSafeDiscrepancyTimeout_calm ..)
    case safeEval => exact mk (execSafeEval_calm ..)
    case safeEncTransition => exact mk (execSafeEncTransition_calm ..)
    case safeEncEval => exact mk (execSafeEncEval_calm ..)
    case safeResetPulse => exact mk (execSafeResetPulse_calm ..)
    case safeSs1Expire => exact mk (execSafeSs1Expire_calm ..)
    case safeTestPulse => exact mk (execSafeTestPulse_calm ..)
    case safeBgTest => exact mk (execSafeBgTest_calm ..)
    case safeSelftestDone => exact mk (execSafeSelftestDone_calm ..)
    case safeCommitDone => exact mk (execSafeCommitDone_calm ..)
    case safeMbxLoadBegin => exact mk (execSafeMbxLoadBegin_calm ..)
    case safeMbxLoadWrite => exact mk (execSafeMbxLoadWrite_calm ..)
    case safeMbxLoadEnd => exact mk (execSafeMbxLoadEnd_calm ..)
    case safeMbxConfirm => exact mk (execSafeMbxConfirm_calm ..)
    case safeMbxReadActive => exact mk (execSafeMbxReadActive_calm ..)
    case safeMbxDiscard => exact mk (execSafeMbxDiscard_calm ..)
    case safeMbxBadCmd => exact mk (execSafeMbxBadCmd_calm ..)
    all_goals exact absurd rfl l

end Sys2Proof.Machine
end

