-- ==== Sys2Proof/Laws/Island.lean ====
section
/-!
SUPPORT. The safety island: its functions answer from the island and its supply alone (R457, the lemmas named `_twin`), and none of them leaves
an output on outside OPERATIONAL (R458, R465, the lemmas named `_dark`).
-/
open Sys2Proof
namespace Sys2Proof.Machine

/-! What leaves the island as it is. -/

theorem safe_of_still {s t : State} (h : t.still = s.still) : t.safe = s.safe := by
  simp only [State.still, Prod.mk.injEq] at h; exact h.2.2.1

@[simp] theorem State.seqInputAll_safe (s : State) (code : Nat) : (s.seqInputAll code).safe = s.safe := safe_of_still (State.seqInputAll_still s code)
@[simp] theorem State.mbxDone_safe (s : State) (r d : Nat) : (s.mbxDone r d).safe = s.safe := rfl
@[simp] theorem State.safeView_safe (s : State) (a b : Byte) : (s.safeView a b).safe = s.safe := safe_of_still (State.safeView_still s a b)
@[simp] theorem State.mbxRead_safe (s : State) : s.mbxRead.safe = s.safe := safe_of_still (State.mbxRead_still s)
@[simp] theorem State.modSafe_safe (s : State) (f : Safe → Safe) : (s.modSafe f).safe = f s.safe := rfl
@[simp] theorem State.ite_safe (c : Prop) [Decidable c] (a b : State) : (if c then a else b).safe = if c then a.safe else b.safe := by split <;> rfl

/-! The island's functions answer from the island alone: from two states with the same island they leave the same island (R457). -/

theorem State.each_twin {s u : State} (h : s.safe = u.safe) (l : List Nat) (f g : State → Nat → State)
    (k : ∀ (s u : State) n, s.safe = u.safe → (f s n).safe = (g u n).safe) : (s.each l f).safe = (u.each l g).safe := by
  unfold State.each
  induction l generalizing s u with
  | nil => exact h
  | cons a l ih => exact ih (k s u a h)

section
variable {s u : State} (h : s.safe = u.safe)
include h
theorem safePair_twin : s.safePair = u.safePair := by funext c i; simp only [State.safePair, h]
theorem safeGrp_twin : s.safeGrp = u.safeGrp := by funext g; simp only [State.safeGrp, h]
theorem safeClosed_twin : s.safeClosed = u.safeClosed := by funext i; simp only [State.safeClosed, h, safePair_twin h]
theorem outOn_twin : s.outOn = u.outOn := by funext b k; simp only [State.outOn, safeGrp_twin h]
theorem safeDemand_twin : s.safeDemand = u.safeDemand := by funext b g; simp only [State.safeDemand, h, safeClosed_twin h]
theorem standstill_twin : s.standstill = u.standstill := by funext b g; simp only [State.standstill, h]
theorem channelsDiffer_twin : s.channelsDiffer = u.channelsDiffer := by simp only [State.channelsDiffer, h, safePair_twin h]
theorem slpPos_twin : s.slpPos = u.slpPos := by funext b c r; simp only [State.slpPos, h]
theorem encAgree_twin : s.encAgree = u.encAgree := by funext b e; simp only [State.encAgree, h]
theorem slsOf_twin : s.slsOf = u.slsOf := by funext b f; simp only [State.slsOf, h]
theorem slpOf_twin : s.slpOf = u.slpOf := by funext b; simp only [State.slpOf, h, slpPos_twin h]
theorem resetBar_twin : s.resetBar = u.resetBar := by simp only [State.resetBar, h, safePair_twin h]
theorem modSafe_twin (f : Safe → Safe) : (s.modSafe f).safe = (u.modSafe f).safe := by simp [h]
theorem setGrp_twin (g st : Nat) : (s.setGrp g st).safe = (u.setGrp g st).safe := modSafe_twin h _
theorem safeDrive_twin : s.safeDrive.safe = u.safeDrive.safe := by
  unfold State.safeDrive; simp only [h, outOn_twin h]
  split <;> split <;> simp [State.emit, h]
theorem grpStep_twin (b : List Byte) (g : Nat) (r : Bool) : (s.grpStep b g r).safe = (u.grpStep b g r).safe := by
  unfold State.grpStep; simp only [h, safeGrp_twin h, safeDemand_twin h, standstill_twin h]
  split <;> simp [State.setGrp, h]
theorem safeGroups_twin (r : Bool) : (s.safeGroups r).safe = (u.safeGroups r).safe := by
  unfold State.safeGroups; simp only [h]
  split
  · exact safeDrive_twin h
  · rename_i b hb
    have e := State.each_twin h ((List.range 4).filter (blkUsed b)) (fun s g => s.grpStep b g r) (fun s g => s.grpStep b g r) (fun s u n k => grpStep_twin k b n r)
    refine safeDrive_twin ?_
    rw [safeGrp_twin h, safeGrp_twin e]
    simp [e]
theorem safeLock_twin (c i : Nat) : (s.safeLock c i).safe = (u.safeLock c i).safe := by
  unfold State.safeLock; refine safeGroups_twin ?_ _
  simp [h]
theorem safeFault_twin (c i : Nat) : (s.safeFault c i).safe = (u.safeFault c i).safe := by
  unfold State.safeFault; simp only [h]; split
  · exact h
  · exact safeLock_twin h c i
theorem encFault_twin (c e : Nat) : (s.encFault c e).safe = (u.encFault c e).safe := by
  unfold State.encFault; refine safeFault_twin ?_ _ _
  simp only [h]; split
  · split <;> simp [h]
  · exact h
theorem suPending_twin : s.suPending.safe = u.suPending.safe := by
  unfold State.suPending; simp only [h]; split
  · exact h
  · exact State.each_twin h _ _ _ (fun s u n k => modSafe_twin k _)
theorem blkActivate_twin (b : List Byte) (c : Nat) (g : Word) : (s.blkActivate b c g).safe = (u.blkActivate b c g).safe := by
  unfold State.blkActivate; simp [h]
theorem strobePair_twin (b : List Byte) (x1 x2 : SafeSample) (i : Nat) : (s.strobePair b x1 x2 i).safe = (u.strobePair b x1 x2 i).safe := by
  have key : ∀ (r1 r2 : PairStep) (was : Bool) (v w : State), v.safe = w.safe →
      (let s := v.modSafe (fun z => { z with pair := (z.pair.set {} i r1.p).set {} (16 + i) r2.p })
       let s := match r1.took with | some d => s.wr Reg.SAFE_DISC_LAST (wd (d % 65536 + i * 65536)) | none => s
       let s := if !was && s.safeClosed i && blkKind b i == 2 && bit (blkW b 384) 0 then
           let e := bits (blkW b 384) 2 1
           s.modSafe (fun z => { z with ref := some ((z.enc.get {} (2 * e)).count, (z.enc.get {} (2 * e + 1)).count) })
         else s
       if r1.fault || r2.fault then s.safeFault 1 i else s).safe =
      (let s := w.modSafe (fun z => { z with pair := (z.pair.set {} i r1.p).set {} (16 + i) r2.p })
       let s := match r1.took with | some d => s.wr Reg.SAFE_DISC_LAST (wd (d % 65536 + i * 65536)) | none => s
       let s := if !was && s.safeClosed i && blkKind b i == 2 && bit (blkW b 384) 0 then
           let e := bits (blkW b 384) 2 1
           s.modSafe (fun z => { z with ref := some ((z.enc.get {} (2 * e)).count, (z.enc.get {} (2 * e + 1)).count) })
         else s
       if r1.fault || r2.fault then s.safeFault 1 i else s).safe := by
    intro r1 r2 was v w k
    extract_lets s1 s2 e s3 w1 w2 w3
    have e1 : s1.safe = w1.safe := modSafe_twin k _
    have e2 : s2.safe = w2.safe := by simp only [s2, w2]; split <;> simp [e1]
    have e3 : s3.safe = w3.safe := by
      simp only [s3, w3, safeClosed_twin e2]; split
      · exact modSafe_twin e2 _
      · exact e2
    split
    · exact safeFault_twin e3 _ _
    · exact e3
  unfold State.strobePair
  by_cases m : blkMode b i = 0
  · simp only [if_pos m]; exact modSafe_twin h _
  · simp only [if_neg m, safePair_twin h, safeClosed_twin h, h]
    exact key _ _ _ _ _ h
theorem strobeReset_twin (x1 x2 : SafeSample) : (s.strobeReset x1 x2).safe = (u.strobeReset x1 x2).safe := by
  unfold State.strobeReset; simp [h]
theorem readback_twin (k : Nat) (g : Bool) : (s.readback k g).safe = (u.readback k g).safe := by
  unfold State.readback; rw [h]
  extract_lets n s1 u1
  have e : s1.safe = u1.safe := modSafe_twin h _
  split
  · exact safeFault_twin e _ _
  · exact e
theorem edmCheck_twin (b : List Byte) (i : Nat) : (s.edmCheck b i).safe = (u.edmCheck b i).safe := by
  unfold State.edmCheck; simp only [h, safeClosed_twin h]
  split
  · exact h
  · split
    · exact modSafe_twin h _
    · split
      · exact modSafe_twin h _
      · split
        · exact safeFault_twin h _ _
        · exact h
theorem encSpeed_twin (b : List Byte) (n : Nat) : (s.encSpeed b n).safe = (u.encSpeed b n).safe := by
  unfold State.encSpeed; simp [h]
end

section
variable {s u : State} (h : s.safe = u.safe) (d : s.domOn 2 = u.domOn 2)
include h d
theorem execSafeStrobe_twin (x1 x2 : SafeSample) : (outState (execSafeStrobe x1 x2 s) s).safe = (outState (execSafeStrobe x1 x2 u) u).safe := by
  unfold execSafeStrobe; rw [d]
  split
  · simpa only [outState_next] using h
  · extract_lets s1 u1
    have e : s1.safe = u1.safe := strobeReset_twin (modSafe_twin h _) _ _
    rw [e]
    split
    · simpa only [outState_next] using e
    · simp only [outState_next]; exact State.each_twin e _ _ _ (fun s u n k => strobePair_twin k _ _ _ _)
theorem execSafeDiscrepancyTimeout_twin (i : Fin 16) : (outState (execSafeDiscrepancyTimeout i s) s).safe = (outState (execSafeDiscrepancyTimeout i u) u).safe := by
  unfold execSafeDiscrepancyTimeout; rw [d, h, safePair_twin h]
  extract_lets n
  split
  · simpa only [outState_next] using h
  · extract_lets due
    split
    · simpa only [outState_next] using h
    · simp only [outState_next]; exact safeFault_twin (modSafe_twin h _) _ _
theorem execSafeEval_twin (a b : Byte) (ok : Bool) : (outState (execSafeEval a b ok s) s).safe = (outState (execSafeEval a b ok u) u).safe := by
  unfold execSafeEval; rw [d, h, channelsDiffer_twin h]
  extract_lets n s1 s2 s3 s4 s5 s6 u1 u2 u3 u4 u5 u6
  have e1 : s1.safe = u1.safe := modSafe_twin h _
  have e2 : s2.safe = u2.safe := by
    simp only [s2, u2]; split
    · exact safeFault_twin e1 _ _
    · exact e1
  have e3 : s3.safe = u3.safe := by
    simp only [s3, u3]; split
    · exact e2
    · exact safeFault_twin e2 _ _
  have e4 : s4.safe = u4.safe := State.each_twin e3 _ _ _ (fun s u n k => readback_twin k _ _)
  have e5 : s5.safe = u5.safe := by
    simp only [s5, u5, e4]; split
    · exact State.each_twin e4 _ _ _ (fun s u n k => edmCheck_twin k _ _)
    · exact e4
  have e6 : s6.safe = u6.safe := modSafe_twin e5 _
  split
  · simpa only [outState_next] using h
  · simp only [outState_next, State.safeView_safe]; exact safeGroups_twin e6 _
theorem execSafeEncTransition_twin (e : Fin 8) (a b sh : Bool) : (outState (execSafeEncTransition e a b sh s) s).safe = (outState (execSafeEncTransition e a b sh u) u).safe := by
  unfold execSafeEncTransition; rw [d, h]
  split
  · simpa only [outState_next] using h
  · extract_lets n x il up c s1 us u1 uu
    have e1 : s1.safe = u1.safe := modSafe_twin h _
    have e2 : us = uu := by simp only [us, uu, e1]
    clear_value s1 u1 us uu; subst e2
    simp only [outState_next]; split
    · exact encFault_twin e1 _ _
    · exact e1
theorem execSafeEncEval_twin : (outState (execSafeEncEval s) s).safe = (outState (execSafeEncEval u) u).safe := by
  unfold execSafeEncEval; rw [d, h]
  split
  · simpa only [outState_next] using h
  · rename_i b hb
    split
    · simpa only [outState_next] using h
    · extract_lets s1 s2 v pack u1 u2 w
      have e1 : s1.safe = u1.safe := State.each_twin h _ _ _ (fun s u n k => encSpeed_twin k _ _)
      have e2 : s2.safe = u2.safe := by
        refine State.each_twin e1 _ _ _ (fun s u e k => ?_)
        rw [encAgree_twin k, k]
        extract_lets n p q
        have f : p.safe = q.safe := modSafe_twin k _
        split
        · exact encFault_twin f _ _
        · exact f
      simp only [outState_next, State.modSafe_safe, e2, v, w, slsOf_twin e2, slpOf_twin e2]
theorem execSafeResetPulse_twin : (outState (execSafeResetPulse s) s).safe = (outState (execSafeResetPulse u) u).safe := by
  unfold execSafeResetPulse; rw [d, h]
  split
  · simpa only [outState_next] using h
  · split
    · simpa only [outState_next] using h
    · extract_lets s1 c u1 c2
      have e1 : s1.safe = u1.safe := modSafe_twin h _
      split
      · simp only [outState_next, State.raise_safe]; exact e1
      · rw [e1]; split
        · simpa only [outState_next] using e1
        · simp only [outState_next]; exact safeGroups_twin e1 _
        · rw [resetBar_twin e1]; split
          · simp only [outState_next, State.raise_safe]; exact e1
          · simp only [outState_next]; refine suPending_twin ?_
            simp only [State.raise_safe]; exact modSafe_twin e1 _
theorem execSafeSs1Expire_twin (g : Fin 4) : (outState (execSafeSs1Expire g s) s).safe = (outState (execSafeSs1Expire g u) u).safe := by
  unfold execSafeSs1Expire; rw [d, h, safeGrp_twin h]
  split
  · simpa only [outState_next] using h
  · dsimp only; split
    · simpa only [outState_next] using h
    · simp only [outState_next]; exact safeDrive_twin (setGrp_twin h _ _)
theorem execSafeTestPulse_twin (p : Fin 8) (hb rl : Bool) : (outState (execSafeTestPulse p hb rl s) s).safe = (outState (execSafeTestPulse p hb rl u) u).safe := by
  unfold execSafeTestPulse; rw [d, h]
  split
  · simpa only [outState_next] using h
  · extract_lets k x ta tb due o low s1 s2 u1 u2
    have e1 : s1.safe = u1.safe := by simp only [s1, u1]; split <;> exact h
    have e2 : s2.safe = u2.safe := modSafe_twin e1 _
    split
    · simpa only [outState_next] using h
    · simp only [outState_next]; split
      · exact e2
      · exact safeFault_twin e2 _ _
theorem execSafeBgTest_twin (p : Bool) : (outState (execSafeBgTest p s) s).safe = (outState (execSafeBgTest p u) u).safe := by
  unfold execSafeBgTest; rw [d, h]
  split
  · simpa only [outState_next] using h
  · simp only [outState_next]; split
    · exact modSafe_twin h _
    · exact safeFault_twin (modSafe_twin h _) _ _
theorem execSafeSelftestDone_twin (p : Bool) : (outState (execSafeSelftestDone p s) s).safe = (outState (execSafeSelftestDone p u) u).safe := by
  unfold execSafeSelftestDone; rw [d, h]
  extract_lets x s1 s2 s3 s4 r s5 s6 u1 u2 u3 u4 u5 u6
  have e2 : s2.safe = u2.safe := by simp only [s2, u2, s1, u1]; repeat' split
                                    all_goals simp [h]
  have e3 : s3.safe = u3.safe := by
    simp only [s3, u3]; split
    · exact blkActivate_twin e2 _ _ _
    · exact e2
  have e4 : s4.safe = u4.safe := suPending_twin e3
  have e6 : s6.safe = u6.safe := by simp only [s6, u6, s5, u5, State.raise_safe]; exact modSafe_twin e4 _
  split
  · simpa only [outState_next] using h
  · simp only [outState_next]; split
    · exact modSafe_twin e6 _
    · exact safeLock_twin e6 _ _
theorem execSafeCommitDone_twin (ok : Bool) : (outState (execSafeCommitDone ok s) s).safe = (outState (execSafeCommitDone ok u) u).safe := by
  unfold execSafeCommitDone; rw [d, h]
  split
  · simpa only [outState_next] using h
  · split
    · simpa only [outState_next] using h
    · extract_lets s1 c s2 u1 c' u2
      have e1 : s1.safe = u1.safe := modSafe_twin h _
      have ec : c = c' := by simp only [c, c', e1]
      clear_value s1 u1 c c'; subst ec
      split
      · simpa only [outState_next, State.mbxDone_safe] using e1
      · simp only [outState_next, State.mbxDone_safe, State.raise_safe]; exact blkActivate_twin (modSafe_twin e1 _) _ _ _
end

/-- What a mailbox command does to the island depends on the island, the mailbox registers and the counter of free values (R475, R483). -/
theorem mbxCmd_twin {s u : State} (h : s.safe = u.safe) (f : s.freeCtr = u.freeCtr) (r : ∀ a, 0x1B000 ≤ a → a < 0x1C000 → s.rd a = u.rd a) (code : Nat) :
    (s.mbxCmd code).safe = (u.mbxCmd code).safe := by
  have ra : s.rd Reg.SAFE_MBX_ARG = u.rd Reg.SAFE_MBX_ARG := r _ (by decide) (by decide)
  have rc : s.rd Reg.SAFE_CAND_CHECK = u.rd Reg.SAFE_CAND_CHECK := r _ (by decide) (by decide)
  have ro : s.mbxOff = u.mbxOff := by unfold State.mbxOff; rw [ra]
  unfold State.mbxCmd State.mbx; rw [h]; split
  · exact h
  · dsimp only; split
    · unfold State.mbxBegin; rw [f]; dsimp only; simp only [State.mbxDone_safe, State.modSafe_safe, h]
    · unfold State.mbxWrite; rw [h, ro]; split
      · exact h
      · exact h
      · have : (List.range 8).flatMap (fun k => wordBytes (s.rd (Reg.SAFE_MBX_DATA k))) = (List.range 8).flatMap (fun k => wordBytes (u.rd (Reg.SAFE_MBX_DATA k))) := by
          apply List.flatMap_congr; intro k hk
          have := List.mem_range.mp hk
          rw [r _ (by unfold Reg.SAFE_MBX_DATA; omega) (by unfold Reg.SAFE_MBX_DATA; omega)]
        simp only [this, State.mbxDone_safe, State.modSafe_safe, h]
    · unfold State.mbxEnd; rw [h]; split
      · exact h
      · extract_lets s1 c s2 u1 u2
        have q1 : s1.safe = u1.safe := modSafe_twin h _
        have q2 : s2.safe = u2.safe := q1
        split
        · simpa only [State.mbxDone_safe] using q1
        · split
          · simpa only [State.mbxDone_safe] using q2
          · simp only [State.mbxDone_safe]; exact modSafe_twin q2 _
    · unfold State.mbxConfirm; rw [h]; extract_lets x n1 s1 n2 u1
      split
      · exact h
      · split
        · exact h
        · rw [ra, rc]; split
          · simp only [State.mbxDone_safe, State.raise_safe]; exact modSafe_twin h _
          · extract_lets v w
            have : v.safe = w.safe := modSafe_twin (safeLock_twin h 10 0) _
            exact this
    · rw [State.mbxRead_safe, State.mbxRead_safe, h]
    · unfold State.mbxDiscard; rw [h]; split
      · exact h
      · simp only [State.mbxDone_safe]; exact modSafe_twin h _
    · exact h

/-! The safe outputs outside OPERATIONAL (R458, R465). -/

/-- Outside OPERATIONAL every safe output is off. -/
def State.dark (s : State) : Prop := s.safe.state ≠ .operational → s.safe.out = 0

theorem dark_of_eq {s t : State} (h : s.dark) (a : t.safe.state = s.safe.state) (b : t.safe.out = s.safe.out) : t.dark := by
  intro c; rw [b]; exact h (a ▸ c)
theorem dark_of_safe {s t : State} (h : s.dark) (a : t.safe = s.safe) : t.dark := dark_of_eq h (by rw [a]) (by rw [a])
theorem dark_modSafe {s : State} (h : s.dark) (f : Safe → Safe) (a : (f s.safe).state = s.safe.state) (b : (f s.safe).out = s.safe.out) : (s.modSafe f).dark :=
  dark_of_eq h a b
theorem each_dark {s : State} (h : s.dark) (l : List Nat) (f : State → Nat → State) (k : ∀ (s : State) n, s.dark → (f s n).dark) : (s.each l f).dark := by
  unfold State.each; induction l generalizing s with
  | nil => exact h
  | cons a l ih => exact ih (k s a h)

/-- Driving the outputs leaves none on outside OPERATIONAL, whatever was on before. -/
theorem safeDrive_dark (s : State) : s.safeDrive.dark := by
  intro c
  unfold State.safeDrive at c ⊢
  extract_lets n o at c ⊢
  have k : s.safe.state ≠ .operational := by revert c; split <;> exact id
  have z : o = 0 := by
    have : n = 0 := by
      simp only [n]; split
      · rw [if_neg (by simpa using k)]
      · rfl
    simp only [o, this]; rfl
  split
  · rename_i e; rw [← e]; exact z
  · exact z
theorem safeGroups_dark (s : State) (r : Bool) : (s.safeGroups r).dark := by
  unfold State.safeGroups; split <;> exact safeDrive_dark _
theorem safeLock_dark (s : State) (c i : Nat) : (s.safeLock c i).dark := safeGroups_dark _ _
theorem safeFault_dark {s : State} (h : s.dark) (c i : Nat) : (s.safeFault c i).dark := by
  unfold State.safeFault; split
  · exact h
  · exact safeLock_dark _ _ _
theorem encFault_dark {s : State} (h : s.dark) (c e : Nat) : (s.encFault c e).dark := by
  unfold State.encFault; refine safeFault_dark ?_ _ _
  split
  · split
    · exact dark_modSafe h _ rfl rfl
    · exact h
  · exact h
theorem suPending_dark {s : State} (h : s.dark) : s.suPending.dark := by
  unfold State.suPending; split
  · exact h
  · exact each_dark h _ _ (fun s n k => dark_modSafe k _ rfl rfl)
theorem blkActivate_dark {s : State} (h : s.dark) (b : List Byte) (c : Nat) (g : Word) : (s.blkActivate b c g).dark := dark_of_eq h rfl rfl
theorem strobeReset_dark {s : State} (h : s.dark) (x1 x2 : SafeSample) : (s.strobeReset x1 x2).dark := by
  unfold State.strobeReset; refine dark_modSafe h _ ?_ ?_ <;> (repeat' split) <;> rfl
theorem encSpeed_dark {s : State} (h : s.dark) (b : List Byte) (n : Nat) : (s.encSpeed b n).dark := dark_of_eq h rfl rfl
theorem readback_dark {s : State} (h : s.dark) (k : Nat) (g : Bool) : (s.readback k g).dark := by
  unfold State.readback; extract_lets n t
  have e : t.dark := dark_modSafe h _ rfl rfl
  split
  · exact safeFault_dark e _ _
  · exact e
theorem edmCheck_dark {s : State} (h : s.dark) (b : List Byte) (i : Nat) : (s.edmCheck b i).dark := by
  unfold State.edmCheck; split
  · exact h
  · dsimp only; split
    · exact dark_modSafe h _ rfl rfl
    · split
      · exact dark_modSafe h _ rfl rfl
      · split
        · exact safeFault_dark h _ _
        · exact h
theorem strobePair_dark {s : State} (h : s.dark) (b : List Byte) (x1 x2 : SafeSample) (i : Nat) : (s.strobePair b x1 x2 i).dark := by
  unfold State.strobePair
  extract_lets m raw e go r1 r2 was s1 s2 e2 s3
  have h1 : s1.dark := dark_modSafe h _ rfl rfl
  have h2 : s2.dark := by simp only [s2]; split
                          · exact dark_of_eq h1 rfl rfl
                          · exact h1
  have h3 : s3.dark := by simp only [s3]; split
                          · exact dark_modSafe h2 _ rfl rfl
                          · exact h2
  split
  · exact dark_modSafe h _ rfl rfl
  · split
    · exact safeFault_dark h3 _ _
    · exact h3

/-- Every event of the island keeps it: no output is left on outside OPERATIONAL. -/
theorem execSafeStrobe_dark {s : State} (h : s.dark) (x1 x2 : SafeSample) : (outState (execSafeStrobe x1 x2 s) s).dark := by
  unfold execSafeStrobe; split
  · exact h
  · extract_lets t
    have e : t.dark := strobeReset_dark (dark_modSafe h _ rfl rfl) _ _
    split
    · exact e
    · exact each_dark e _ _ (fun s n k => strobePair_dark k _ _ _ _)
theorem execSafeDiscrepancyTimeout_dark {s : State} (h : s.dark) (i : Fin 16) : (outState (execSafeDiscrepancyTimeout i s) s).dark := by
  unfold execSafeDiscrepancyTimeout; extract_lets n; split
  · exact h
  · extract_lets due; split
    · exact h
    · exact safeFault_dark (dark_modSafe h _ rfl rfl) _ _
theorem execSafeEval_dark {s : State} (h : s.dark) (a b : Byte) (ok : Bool) : (outState (execSafeEval a b ok s) s).dark := by
  unfold execSafeEval; split
  · exact h
  · refine dark_of_safe (safeGroups_dark _ false) (State.safeView_safe _ _ _)
theorem execSafeEncTransition_dark {s : State} (h : s.dark) (e : Fin 8) (a b sh : Bool) : (outState (execSafeEncTransition e a b sh s) s).dark := by
  unfold execSafeEncTransition; split
  · exact h
  · extract_lets n x il up d t us
    have k : t.dark := dark_modSafe h _ rfl rfl
    simp only [outState_next]; split
    · exact encFault_dark k _ _
    · exact k
theorem execSafeEncEval_dark {s : State} (h : s.dark) : (outState (execSafeEncEval s) s).dark := by
  unfold execSafeEncEval; split
  · exact h
  · split
    · exact h
    · extract_lets s1 s2 v pack
      have e1 : s1.dark := each_dark h _ _ (fun s n k => encSpeed_dark k _ _)
      have e2 : s2.dark := each_dark e1 _ _ (fun s e k => by
        extract_lets n t
        have q : t.dark := dark_modSafe k (fun x => { x with mism := x.mism.set 0 e n }) rfl rfl
        split
        · exact encFault_dark q _ _
        · exact q)
      exact dark_of_eq e2 rfl rfl
theorem execSafeResetPulse_dark {s : State} (h : s.dark) : (outState (execSafeResetPulse s) s).dark := by
  unfold execSafeResetPulse; split
  · exact h
  · split
    · exact h
    · extract_lets t c
      have k : t.dark := dark_modSafe h _ rfl rfl
      split
      · exact dark_of_safe k (State.raise_safe _ _ _ _)
      · split
        · exact k
        · exact safeGroups_dark _ _
        · split
          · exact dark_of_safe k (State.raise_safe _ _ _ _)
          · refine suPending_dark (dark_of_safe (t := State.raise _ _ _ _) (s := t.modSafe _) ?_ (State.raise_safe _ _ _ _))
            intro x; exact absurd rfl x
theorem execSafeSs1Expire_dark {s : State} (h : s.dark) (g : Fin 4) : (outState (execSafeSs1Expire g s) s).dark := by
  unfold execSafeSs1Expire; split
  · exact h
  · dsimp only; split
    · exact h
    · exact safeDrive_dark _
theorem execSafeTestPulse_dark {s : State} (h : s.dark) (p : Fin 8) (hb rl : Bool) : (outState (execSafeTestPulse p hb rl s) s).dark := by
  unfold execSafeTestPulse; split
  · exact h
  · extract_lets k x ta tb due o low t v
    have e1 : t.dark := by simp only [t]; split <;> exact h
    have e2 : v.dark := dark_modSafe e1 _ rfl rfl
    split
    · exact h
    · simp only [outState_next]; split
      · exact e2
      · exact safeFault_dark e2 _ _
theorem execSafeBgTest_dark {s : State} (h : s.dark) (p : Bool) : (outState (execSafeBgTest p s) s).dark := by
  unfold execSafeBgTest; split
  · exact h
  · simp only [outState_next]; split
    · exact dark_modSafe h _ rfl rfl
    · exact safeFault_dark (dark_modSafe h _ rfl rfl) _ _
theorem execPd2PowerOn_dark (s : State) : (outState (execPd2PowerOn s) s).dark := fun _ => rfl
theorem execSafeSupplyLoss_dark {s : State} (h : s.dark) : (outState (execSafeSupplyLoss s) s).dark := by
  unfold execSafeSupplyLoss; split
  · exact h
  · simp only [outState_next]; split <;> exact fun _ => rfl
theorem execSafeSelftestDone_dark {s : State} (h : s.dark) (p : Bool) : (outState (execSafeSelftestDone p s) s).dark := by
  unfold execSafeSelftestDone
  extract_lets x s1 s2 s3 s4 r s5 s6
  clear_value s6
  split
  · exact h
  · simp only [outState_next]; by_cases z : r = 0
    · rw [if_pos z]; intro x; exact absurd rfl x
    · rw [if_neg z]; exact safeLock_dark _ _ _
theorem setCopy_keeps (x : Safe) (n : Nat) (c : SafeCopy) : (x.setCopy n c).state = x.state ∧ (x.setCopy n c).out = x.out := by
  unfold Safe.setCopy; split <;> exact ⟨rfl, rfl⟩
theorem execSafeCommitDone_dark {s : State} (h : s.dark) (ok : Bool) : (outState (execSafeCommitDone ok s) s).dark := by
  unfold execSafeCommitDone; split
  · exact h
  · rename_i n _
    split
    · exact h
    · extract_lets t c v
      have e : t.dark := dark_modSafe h _ rfl rfl
      have ev : v.dark := dark_modSafe e (fun x => { x.setCopy n { c with marker := true } with cand := none }) (setCopy_keeps _ _ _).1 (setCopy_keeps _ _ _).2
      split
      · exact dark_of_safe e rfl
      · refine dark_of_safe (blkActivate_dark ev c.bytes n c.gen) ?_
        simp only [State.mbxDone_safe, State.raise_safe, outState_next]

theorem mbxBegin_dark {s : State} (h : s.dark) : s.mbxBegin.dark := dark_of_eq h rfl rfl
theorem mbxWrite_dark {s : State} (h : s.dark) : s.mbxWrite.dark := by
  unfold State.mbxWrite; split
  · exact dark_of_safe h rfl
  · exact dark_of_safe h rfl
  · exact dark_of_eq h rfl rfl
theorem mbxEnd_dark {s : State} (h : s.dark) : s.mbxEnd.dark := by
  unfold State.mbxEnd; split
  · exact dark_of_safe h rfl
  · extract_lets; split
    · exact dark_of_eq h rfl rfl
    · split <;> exact dark_of_eq h rfl rfl
theorem mbxConfirm_dark {s : State} (h : s.dark) : s.mbxConfirm.dark := by
  unfold State.mbxConfirm; extract_lets x n1 t n2; split
  · exact dark_of_safe h rfl
  · split
    · exact dark_of_safe h rfl
    · rename_i b _
      split
      · have e : t.dark := dark_modSafe h _ (by split <;> rfl) (by split <;> rfl)
        exact dark_of_safe e (by rw [State.mbxDone_safe, State.raise_safe])
      · extract_lets v
        have e : v.dark := dark_modSafe (safeLock_dark s 10 0)
          (fun x => { x.setCopy n2 { bytes := b, gen := x.gen + 1, marker := false } with commit := some n2, confirms := 0 }) (setCopy_keeps _ _ _).1 (setCopy_keeps _ _ _).2
        exact dark_of_safe e rfl
theorem mbxDiscard_dark {s : State} (h : s.dark) : s.mbxDiscard.dark := by
  unfold State.mbxDiscard; split
  · exact dark_of_safe h rfl
  · exact dark_of_eq h rfl rfl

/-- So does every mailbox command. -/
theorem mbxCmd_dark {s : State} (h : s.dark) (code : Nat) : (s.mbxCmd code).dark := by
  unfold State.mbxCmd State.mbx; split
  · exact dark_of_safe h rfl
  · dsimp only; split
    · exact mbxBegin_dark h
    · exact mbxWrite_dark h
    · exact mbxEnd_dark h
    · exact mbxConfirm_dark h
    · exact dark_of_safe h (State.mbxRead_safe s)
    · exact mbxDiscard_dark h
    · exact dark_of_safe h rfl
theorem mbxGate_dark {s : State} (h : s.dark) (code : Nat) : (s.mbxGate code).dark := by
  unfold State.mbxGate State.gated
  cases e : s.dropped Reg.SAFE_MBX_CMD with
  | none =>
    show (if s.domOn 2 then s.mbxCmd code else s).dark
    split
    · exact mbxCmd_dark h code
    · exact h
  | some t => exact dark_of_safe h (safe_of_still (State.dropped_still s _ t e))

end Sys2Proof.Machine
end

