-- ==== Sys2Proof/Laws/Packet.lean ====
section
/-!
SUPPORT. A packet of the fabric and the blocks that carry it: what is read from the blocks of a packet is that packet, and what is read from its
LINK blocks is the serial they were formed of (R275, R277, R278).
-/
namespace Sys2Proof.Machine

/-- A number of less than 64 bits, as a 64-bit vector and back. -/
theorem toNat_ofNat64 (x : Nat) (h : x < 2 ^ 64) : (BitVec.ofNat 64 x).toNat = x := by
  rw [BitVec.toNat_ofNat]; exact Nat.mod_eq_of_lt h

/-- A bit of a number, as a 64-bit vector. -/
theorem getLsbD_ofNat64 (x k : Nat) (hk : k < 64) : (BitVec.ofNat 64 x).getLsbD k = decide (x / 2 ^ k % 2 = 1) := by
  rw [BitVec.getLsbD_ofNat, Nat.testBit_eq_decide_div_mod_eq, decide_eq_true hk, Bool.true_and]

/-- The blocks of a packet spell it, whatever its fields and data are, whether it is bad or not. -/
theorem packetOf_wire (q : Packet) (h : q.data.length < 1024) : packetOf q.wire = some q := by
  obtain ⟨tc, dest, src, typ, alt, hops, seq, data, bad⟩ := q
  have b1 := tc.isLt; have b2 := dest.isLt; have b3 := src.isLt; have b4 := typ.isLt; have b5 := hops.isLt; have b6 := seq.isLt
  have b7 : alt.toNat < 2 := by cases alt <;> decide
  have b8 : bad.toNat < 2 := by cases bad <;> decide
  dsimp only at h
  have c1 : data.map (fun d => (false, d)) |>.all (fun x : Block => !x.1) := by simp
  let q : Packet := ⟨tc, dest, src, typ, alt, hops, seq, data, bad⟩
  have b9 := q.crc.isLt
  have hs : q.start.2.toNat = 0x1E + (tc.toNat * 2 ^ 8 + dest.toNat * 2 ^ 10 + src.toNat * 2 ^ 18 + typ.toNat * 2 ^ 26 + data.length * 2 ^ 32
    + alt.toNat * 2 ^ 42 + hops.toNat * 2 ^ 43 + seq.toNat * 2 ^ 48) := by
    simp only [Packet.start, ctlBlock, q, Nat.mod_eq_of_lt h]
    apply toNat_ofNat64; omega
  obtain ⟨z, hz⟩ : ∃ z, z = ctlBlock 0x78 (q.crc.toNat * 2 ^ 8 + bad.toNat * 2 ^ 40) := ⟨_, rfl⟩
  have he : z.2.toNat = 0x78 + (q.crc.toNat * 2 ^ 8 + bad.toNat * 2 ^ 40) := by
    rw [hz]; apply toNat_ofNat64; omega
  have hd : ∀ l : List DWord, (l.map (fun d => ((false, d) : Block)) ++ [z]).dropLast
      = l.map (fun d => (false, d)) := fun l => List.dropLast_concat
  have hl : ∀ l : List DWord, (l.map (fun d => ((false, d) : Block)) ++ [z]).getLast?
      = some z := fun l => List.getLast?_concat
  have f : ∀ hi lo, blkField q.start hi lo = q.start.2.toNat / 2 ^ lo % 2 ^ (hi + 1 - lo) := fun hi lo => by
    simp only [blkField, Nat.shiftRight_eq_div_pow]
  have g : ∀ hi lo, blkField z hi lo = (0x78 + (q.crc.toNat * 2 ^ 8 + bad.toNat * 2 ^ 40)) / 2 ^ lo % 2 ^ (hi + 1 - lo) := fun hi lo => by
    simp only [blkField, Nat.shiftRight_eq_div_pow, he]
  have t0 : blkType q.start = some 0x1E := by
    have e : blkField q.start 7 0 = 0x1E := by rw [f, hs]; omega
    rw [blkType, e]; rfl
  have t1 : blkType z = some 0x78 := by
    have e : blkField z 7 0 = 0x78 := by rw [g]; omega
    rw [blkType, e, hz]; rfl
  have e1 : BitVec.ofNat 2 (blkField q.start 9 8) = tc := by
    apply BitVec.eq_of_toNat_eq; rw [BitVec.toNat_ofNat, f, hs]; omega
  have e2 : BitVec.ofNat 8 (blkField q.start 17 10) = dest := by
    apply BitVec.eq_of_toNat_eq; rw [BitVec.toNat_ofNat, f, hs]; omega
  have e3 : BitVec.ofNat 8 (blkField q.start 25 18) = src := by
    apply BitVec.eq_of_toNat_eq; rw [BitVec.toNat_ofNat, f, hs]; omega
  have e4 : BitVec.ofNat 6 (blkField q.start 31 26) = typ := by
    apply BitVec.eq_of_toNat_eq; rw [BitVec.toNat_ofNat, f, hs]; omega
  have e5 : BitVec.ofNat 5 (blkField q.start 47 43) = hops := by
    apply BitVec.eq_of_toNat_eq; rw [BitVec.toNat_ofNat, f, hs]; omega
  have e6 : BitVec.ofNat 16 (blkField q.start 63 48) = seq := by
    apply BitVec.eq_of_toNat_eq; rw [BitVec.toNat_ofNat, f, hs]; omega
  have e7 : q.start.2.getLsbD 42 = alt := by
    have : q.start.2 = BitVec.ofNat 64 q.start.2.toNat := by rw [BitVec.ofNat_toNat, BitVec.setWidth_eq]
    rw [this, getLsbD_ofNat64 _ _ (by decide), hs]
    cases alt <;> simp only [Bool.toNat_true, Bool.toNat_false, decide_eq_true_eq, decide_eq_false_iff_not] <;> omega
  have e8 : z.2.getLsbD 40 = bad := by
    rw [hz, ctlBlock, getLsbD_ofNat64 _ _ (by decide)]
    cases bad <;> simp only [Bool.toNat_true, Bool.toNat_false, decide_eq_true_eq, decide_eq_false_iff_not] <;> omega
  have e9 : blkField q.start 41 32 = data.length := by rw [f, hs]; omega
  have e10 : blkField z 39 8 = q.crc.toNat := by rw [g]; omega
  have hm : (data.map (fun d => ((false, d) : Block))).map Prod.snd = data := by simp
  have hc : ∀ b : Bool, (Packet.crc ⟨tc, dest, src, typ, alt, hops, seq, data, b⟩) = q.crc := fun b => rfl
  have hw : q.wire = q.start :: data.map (fun d => (false, d)) ++ [z] := by rw [hz]; rfl
  show packetOf q.wire = some q
  rw [hw]
  simp only [packetOf, List.cons_append, hd, hl, t0, ne_eq, not_true_eq_false, if_false, Option.getD_some, e1, e2, e3, e4, e5, e6, e7, e8, e9, e10, t1, hm, hc, c1,
    List.length_map, beq_self_eq_true, Bool.and_self, Bool.not_true, Bool.false_or, bne_self_eq_false, Bool.or_false]
  rfl
/-- The pair of LINK blocks of a port names the serial it was formed of. -/
theorem linkSerial_linkPair (k : Nat) (h : k < 8) (x : DWord) : linkSerial (ctlBlock 0x33 (k * 2 ^ 9 + (lo32 x).toNat * 2 ^ 16)) (ctlBlock 0x33 (2 ^ 8 + k * 2 ^ 9 + (hi32 x).toNat * 2 ^ 16)) = some x := by
  have hl := (lo32 x).isLt; have hh := (hi32 x).isLt
  have a : (ctlBlock 0x33 (k * 2 ^ 9 + (lo32 x).toNat * 2 ^ 16)).2.toNat = 0x33 + (k * 2 ^ 9 + (lo32 x).toNat * 2 ^ 16) := toNat_ofNat64 _ (by omega)
  have b : (ctlBlock 0x33 (2 ^ 8 + k * 2 ^ 9 + (hi32 x).toNat * 2 ^ 16)).2.toNat = 0x33 + (2 ^ 8 + k * 2 ^ 9 + (hi32 x).toNat * 2 ^ 16) := toNat_ofNat64 _ (by omega)
  have f : ∀ (z : Block) hi lo, blkField z hi lo = z.2.toNat / 2 ^ lo % 2 ^ (hi + 1 - lo) := fun z hi lo => by
    simp only [blkField, Nat.shiftRight_eq_div_pow]
  have ta : blkType (ctlBlock 0x33 (k * 2 ^ 9 + (lo32 x).toNat * 2 ^ 16)) = some 0x33 := by
    have e : blkField (ctlBlock 0x33 (k * 2 ^ 9 + (lo32 x).toNat * 2 ^ 16)) 7 0 = 0x33 := by rw [f, a]; omega
    rw [blkType, e]; rfl
  have tb : blkType (ctlBlock 0x33 (2 ^ 8 + k * 2 ^ 9 + (hi32 x).toNat * 2 ^ 16)) = some 0x33 := by
    have e : blkField (ctlBlock 0x33 (2 ^ 8 + k * 2 ^ 9 + (hi32 x).toNat * 2 ^ 16)) 7 0 = 0x33 := by rw [f, b]; omega
    rw [blkType, e]; rfl
  have ia : (ctlBlock 0x33 (k * 2 ^ 9 + (lo32 x).toNat * 2 ^ 16)).2.getLsbD 8 = false := by
    rw [ctlBlock, getLsbD_ofNat64 _ _ (by decide), decide_eq_false_iff_not]; omega
  have ib : (ctlBlock 0x33 (2 ^ 8 + k * 2 ^ 9 + (hi32 x).toNat * 2 ^ 16)).2.getLsbD 8 = true := by
    rw [ctlBlock, getLsbD_ofNat64 _ _ (by decide), decide_eq_true_eq]; omega
  have ea : wd (blkField (ctlBlock 0x33 (k * 2 ^ 9 + (lo32 x).toNat * 2 ^ 16)) 47 16) = lo32 x := by
    apply BitVec.eq_of_toNat_eq; rw [wd, BitVec.toNat_ofNat, f, a]; omega
  have eb : wd (blkField (ctlBlock 0x33 (2 ^ 8 + k * 2 ^ 9 + (hi32 x).toNat * 2 ^ 16)) 47 16) = hi32 x := by
    apply BitVec.eq_of_toNat_eq; rw [wd, BitVec.toNat_ofNat, f, b]; omega
  have e : dw (lo32 x) (hi32 x) = x := by
    apply BitVec.eq_of_toNat_eq; simp only [dw, lo32, hi32]; bv_omega
  simp only [linkSerial, ta, tb, ia, ib, ea, eb, e, decide_true, Bool.not_false, Bool.and_self, if_true]

end Sys2Proof.Machine
end

