-- ==== Sys2Proof/Laws/Read.lean ====
section
/-!
SUPPORT. What the read requests of the part can change (R81, R577): the log of what leaves the part and the requests, nothing else.
-/
namespace Sys2Proof.Machine
variable (s : State)

/-- Recording requests adds them to the log. -/
theorem State.emitReads_frame (l : List HostRd) : s.emitReads l = { s with out := (s.emitReads l).out } := by
  unfold State.emitReads
  induction l generalizing s with
  | nil => rfl
  | cons r l ih => rw [List.foldl_cons, ih (s.emit _)]; rfl

/-- Issuing requests changes the log and the requests. -/
theorem State.pumpReads_frame :
    s.pumpReads = { s with out := s.pumpReads.out, host := { s.host with reads := s.pumpReads.host.reads } } := by
  unfold State.pumpReads; dsimp only; rw [State.emitReads_frame]

/-- So does a new read. -/
theorem State.request_frame (o : RdOwner) (a k : Nat) :
    s.request o a k = { s with out := (s.request o a k).out, host := { s.host with reads := (s.request o a k).host.reads } } := by
  unfold State.request; dsimp only; rw [State.pumpReads_frame]

/-- So does a read that is given up. -/
theorem State.dropReads_frame (p : RdOwner → Bool) :
    s.dropReads p = { s with out := (s.dropReads p).out, host := { s.host with reads := (s.dropReads p).host.reads } } := by
  unfold State.dropReads; rw [State.pumpReads_frame]

/-- So does the arrival of all data of an owner. -/
theorem State.readsDone_frame (o : RdOwner) :
    s.readsDone o = { s with out := (s.readsDone o).out, host := { s.host with reads := (s.readsDone o).host.reads } } := by
  unfold State.readsDone; rw [State.dropReads_frame, State.emitReads_frame]

/-- With no request outstanding nothing changes. -/
theorem State.readsDone_none (o : RdOwner) (h : s.host.reads = []) : s.readsDone o = s := by
  have e : { s.host with reads := [] } = s.host := by rw [← h]
  simp only [State.readsDone, State.dropReads, State.pumpReads, h, List.filter_nil, State.emitReads, List.foldl_nil, issueReads]
  rw [e]

end Sys2Proof.Machine
end

