-- ==== Sys2Proof/WellFormed.lean ====
section
/-!
DEFINITION. What a command's operands must be beyond their types: offsets lie in a function's BAR, descriptors have sixteen words,
what a wire carried has a length that the wire can carry.
-/
namespace Sys2Proof

/-- A byte of BAR0 (128 KiB) or, from 0x20000, of BAR2 (64 KiB) (R82, R83); it need not lie on a word: such an access is a host error
(R11). -/
def offsetOk (off : Nat) : Bool := decide (off < 0x30000)

/-- A processor's access has 1, 2, 4 or 8 bytes (R11). -/
def accessOk (off width : Nat) : Bool := offsetOk off && (width == 1 || width == 2 || width == 4 || width == 8)

/-- A descriptor has 64 bytes (R93). -/
def descOk (d : List Word) : Bool := d.length == 16

/-- Buffer words lie in 64 MiB, and none is found twice (R146). -/
def eccOk (l : List EccHit) : Bool := l.all (fun h => decide (h.word < 2097152)) && decide ((l.map EccHit.word).Nodup)

/-- A packet has a START, up to 1,023 data blocks and an END; what is broken off has less (R278). -/
def packetOk (l : List Block) : Bool := l != [] && decide (l.length ≤ 1025)

/-- A return frame has at most the blocks of the longest window (R232, R251). -/
def returnOk (l : List Block) : Bool := l != [] && decide (l.length ≤ 122)

/-- A transmission on Station Bus has at most 3 I, J and K, the two code-groups of each of 76 bytes, T and R (R389, R390). -/
def groupsOk (l : List CodeGroup) : Bool := decide (l.length ≤ 159)

/-- What an Ethernet port receives has bytes (R440). -/
def ethOk (l : List Byte) : Bool := l != []

/-- A CAN frame carries at most 64 bytes, 8 without FDF (R421). -/
def canFrameOk (f : CanFrame) : Bool := decide (f.payload.length ≤ if f.fdf then 64 else 8)

/-- A command's operands are such as the outside can send. -/
def Instr.wf : Instr → Bool
  | .reg64LowRead _ off => offsetOk off
  | .reg64LowWrite _ off _ => offsetOk off
  | .reg64HighWrite _ off _ => offsetOk off
  | .registerWrite _ off width _ => accessOk off width
  | .w1cWrite _ off _ _ => offsetOk off
  | .rcRead _ off width _ => accessOk off width
  | .frameBoundary ecc => eccOk ecc
  | .lineScreen _ ecc => eccOk ecc
  | .lineCompensate _ ecc => eccOk ecc
  | .nozPendingReady _ ecc => eccOk ecc
  | .nozArmLoadDone _ ecc => eccOk ecc
  | .descNop _ d => descOk d
  | .descPage _ d => descOk d
  | .descTile _ d => descOk d
  | .descBlank _ d => descOk d
  | .descTableLoad _ d => descOk d
  | .descMark _ d => descOk d
  | .descInvalidOp _ d => descOk d
  | .mgmtNop d => descOk d
  | .mgmtInvalidOp d => descOk d
  | .ctxArm d => descOk d
  | .ctxStart d => descOk d
  | .ctxDrain d => descOk d
  | .ctxHalt d => descOk d
  | .ctxReset d => descOk d
  | .mgmtSchedWrite d => descOk d
  | .forceSet d => descOk d
  | .forceClear d => descOk d
  | .fabHelloRx _ p => packetOk p
  | .fabBeaconRx _ p => packetOk p
  | .fabDiscReqRx _ p => packetOk p
  | .fabRouteRx _ p => packetOk p
  | .fabRouteAckRx _ p => packetOk p
  | .fabDoneRx _ p => packetOk p
  | .fabTopoChangeRx _ p => packetOk p
  | .fabSampleRx _ p => packetOk p
  | .fabZedgeRx _ p => packetOk p
  | .fabSnapRx _ p => packetOk p
  | .fabImageRx _ p => packetOk p
  | .twinHeartbeatRx _ p => packetOk p
  | .twinCkptRx _ p => packetOk p
  | .twinCkptEndRx _ p => packetOk p
  | .twinSampleRx _ p => packetOk p
  | .twinSeqRx _ p => packetOk p
  | .twinCtxRx _ p => packetOk p
  | .twinEpochReplyRx _ p => packetOk p
  | .twinSwapRx _ p => packetOk p
  | .hlReturnFrame _ l => returnOk l
  | .sbFrameRx _ _ l _ => groupsOk l
  | .sbEventFrameRx _ _ l _ => groupsOk l
  | .ethFrameRx _ l _ _ => ethOk l
  | .canFrameRx _ f _ => canFrameOk f
  | .cycLoadDone fault header _ _ => fault || header.length == 64
  | _ => true

end Sys2Proof
end

