-- ==== Sys2Proof/Tests/Slice0.lean ====
section
/-!
SUPPORT. Tests: for every statement that has hypotheses, states and operands that meet them together; the checks of operands; and the worked
examples of the specification, each with the result that the specification states.
-/
namespace Sys2Proof.Tests
open Sys2Proof Sys2Proof.Machine


/-- A unit that has started, all domains on, its host link up and its outputs enabled. -/
def rdy : State := { power := { on := 0xFF, phase := 7, started := true, ready := true, s4Done := true, s5Done := true }, safe := { state := .operational }, regs := [(Reg.HOST_LINK, 0x100000)] }
/-- The same unit with PD0 to PD2 alone on. -/
def cold : State := { rdy with power := { rdy.power with on := 0x07 } }
/-- The same unit with a long operation running. -/
def busy : State := { rdy with host := { op := some {} } }
/-- A packet without data. -/
def pk : Packet := { tc := 0, dest := 0, src := 0, typ := 0, alt := false, hops := 0, seq := 0, data := [] }
/-- A CAN frame without payload. -/
def cf : CanFrame := { id := 0, ide := false, rtr := false, dlc := 0, fdf := false, brs := false, esi := false, payload := [] }
/-- A sample of a channel pair, both contacts open. -/
def ss : SafeSample := { inA := 0, inB := 0, rst := false }

/-- The unit with rings enabled and one record in each. -/
def prt (c : Ctx) : State :=
  ((({ rdy with ctx := [(63, c)], host := { mgmtPi := 1, ring := [(63, { sqPi := 1 })] } }.orW (Reg.HOST_RING_CTRL 63) 1).orW Reg.HOST_MGMT_CTRL 1).orW Reg.HOST_EVT_CTRL 1)
/-- A descriptor of sixteen words. -/
def dsc (ws : List Word) : List Word := padTo 16 0 ws
/-- A context that runs. -/
def act : Ctx := { state := .running }

/-- The unit with its fabric and its twin as given. -/
def fbq (f : Fabric) (x : Twin) : State :=
  (({ rdy with tb := { count := 60000000000 }, twin := x, fab := { f with port := [(7, { up := true, lock := true })] } }.wr Reg.FAB_CFG 1).wr Reg.FAB_PORT_CTRL 0x80).wr Reg.TWIN_CFG 5
/-- The unit with its fabric as given. -/
def fb (f : Fabric) : State := fbq f {}
/-- A packet for this unit. -/
def pkt (tc : BitVec 2) (typ : BitVec 6) (data : List DWord) : Packet := { tc := tc, dest := 1, src := 2, typ := typ, alt := false, hops := 0, seq := 0, data := data }
/-- Blocks that spell a packet are handed over when what the packet and the unit must be holds. -/
theorem hands {s : State} {k : Nat} {q : Packet} {typ : Nat} (l : q.data.length < 1024)
    (h : (s.portUp k && !q.bad && decide (q.typ.toNat = typ) && typeOk typ q.tc.toNat && s.fabOn && (s.fab.addr != 0 || q.tc == 3) &&
      (if q.tc = 0 then (s.tc0Fits k q).2 else true) &&
      (if q.dest = 255 then ((if q.tc = 0 then (s.tc0Fits k q).1 else s.giveCredit k q).newSeq q).isSome else q.dest.toNat == s.fab.addr)) = true) :
    s.handsOver k q.wire q typ = true := by
  simp only [State.handsOver, packetOf_wire q l, beq_self_eq_true, Bool.and_true]; exact h
/-- And a message of the twin path acts when it is from the partner, with the epoch in force. -/
theorem twhands {s : State} {k : Nat} {q : Packet} {kind : Nat} (l : q.data.length < 1024)
    (h : (s.portUp k && !q.bad && decide (q.typ.toNat = 0x20) && typeOk 0x20 q.tc.toNat && s.fabOn && (s.fab.addr != 0 || q.tc == 3) &&
      (if q.tc = 0 then (s.tc0Fits k q).2 else true) &&
      (if q.dest = 255 then ((if q.tc = 0 then (s.tc0Fits k q).1 else s.giveCredit k q).newSeq q).isSome else q.dest.toNat == s.fab.addr)) = true)
    (r : (twinKind q == kind && q.src.toNat == (s.arrives k q).twin.partnerAddr && (s.arrives k q).flag Reg.TWIN_CFG 0 &&
      hi32 (pktBlock q 0) == (s.arrives k q).twin.epoch &&
      ((s.arrives k q).twin.role != .off || ((s.arrives k q).twin.startWait.isSome && kind == 1))) = true) :
    s.twinHands k q.wire q kind = true := by
  simp only [State.twinHands, hands l h, Bool.true_and]; exact r
/-- A twin message of a kind and a length. -/
def twm (kind : DWord) (n : Nat) : Packet := pkt 1 0x20 ([kind] ++ List.replicate (n - 1) 0)

/-- A good station-bus frame. -/
def sbf : SbFrame := { slot := 0, dyn := false, null := false, sync := false, beacon := false, force := false, active := false, ctrl := false, unit := false, node := 0,
                       epoch := 0, cycle := 0, payload := [] }
/-- The unit with one station bus as given. -/
def sbs (b : Sb) : State := (({ rdy with sb := [(1, b)] }.wr (Reg.SB_CH_CFG 1) 0x01000003).wr (Reg.SB_CYCLE 1) 5000000).wr (Reg.SB_STAR_CFG 1) 0x1FF
/-- A PAUSE frame of nine quanta without its FCS. -/
def ethPause : List Byte := List.replicate 12 0 ++ [0x88, 0x08, 0, 1, 0, 9] ++ List.replicate 42 0
theorem serial_next_ne : Config.serial + 1 ≠ Config.serial := by simp

/-- A block of the safety configuration without its check word. -/
def blkHead : List Byte := wordBytes 0x5AFEB10C ++ wordBytes 1 ++ List.replicate 1012 0
/-- The block with its check word. -/
def blkOk : List Byte := blkHead ++ wordBytes (crc32c blkHead)
theorem blkHead_length : blkHead.length = 1020 := by simp only [blkHead, wordBytes, List.length_append, List.length_replicate, List.length_cons, List.length_nil]
theorem take_head (h x : List Byte) (l : h.length = 1020) : (h ++ x).take 1020 = h := by rw [← l, List.take_left]
theorem last_word (h : List Byte) (w : Word) (l : h.length = 1020) : blkW (h ++ wordBytes w) 1020 = w := by
  have e : (h ++ wordBytes w).drop 1020 = wordBytes w := by rw [← l, List.drop_left]
  unfold blkW leAt; rw [e]
  simp only [wordBytes, List.take, bytesNat]
  apply BitVec.eq_of_toNat_eq
  simp [wd, BitVec.toNat_ofNat, Nat.shiftRight_eq_div_pow]
  omega
theorem blkOk_check : crc32c (blkOk.take 1020) = blkW blkOk 1020 := by
  unfold blkOk; rw [take_head _ _ blkHead_length, last_word _ _ blkHead_length]
theorem blkOk_good : blkBad blkOk = none := by decide +kernel
theorem blkOk_best : ({ copy0 := { bytes := blkOk, marker := true } } : Safe).bestCopy = some (0, { bytes := blkOk, marker := true }) := by
  have h : ({ bytes := blkOk, marker := true } : SafeCopy).checks = true := by
    unfold SafeCopy.checks; rw [blkOk_check]
    simp only [blkOk, List.length_append, blkHead_length, wordBytes, List.length_cons, List.length_nil, beq_self_eq_true, Bool.and_self]
  simpa [Safe.bestCopy] using h

/-- The blocks of a return frame without reports. -/
def retHead (port : Nat) : List Block := [ctlBlock 0x1E 0, ctlBlock port 0, ctlBlock 0xCC 0, ctlBlock 0xD2 0] ++ List.replicate (frameBlocks 0 - 5) (false, 0)
/-- The return frame with its END. -/
def ret (port : Nat) : List Block := retHead port ++ [ctlBlock 0x78 ((crc32c (blockBytes (retHead port))).toNat * 256)]

theorem retHead_length (p : Nat) : (retHead p).length = 121 := by
  simp only [retHead, List.length_append, List.length_cons, List.length_nil, List.length_replicate]; decide
theorem end_crc (c : Word) : blkType (ctlBlock 0x78 (c.toNat * 256)) = some 0x78 ∧ blkField (ctlBlock 0x78 (c.toNat * 256)) 39 8 = c.toNat := by
  have := c.isLt
  have h : (ctlBlock 0x78 (c.toNat * 256)).2.toNat = 0x78 + c.toNat * 256 := toNat_ofNat64 _ (by omega)
  have f : ∀ hi lo, blkField (ctlBlock 0x78 (c.toNat * 256)) hi lo = (0x78 + c.toNat * 256) / 2 ^ lo % 2 ^ (hi + 1 - lo) := fun hi lo => by
    simp only [blkField, Nat.shiftRight_eq_div_pow, h]
  refine ⟨?_, by rw [f]; omega⟩
  have e : blkField (ctlBlock 0x78 (c.toNat * 256)) 7 0 = 0x78 := by rw [f]; omega
  rw [blkType, e]; rfl
theorem ret_good (p : Nat) : returnGood (ret p) = true := by
  have hl := retHead_length p
  have a : (ret p).headD (false, 0) = ctlBlock 0x1E 0 := rfl
  have n : frameBlocks (blkField (ctlBlock 0x1E 0) 37 32) = 122 := by decide
  have b : (ret p).getD (122 - 1) (false, 0) = ctlBlock 0x78 ((crc32c (blockBytes (retHead p))).toNat * 256) := by
    rw [ret, List.getD_eq_getElem?_getD, List.getElem?_append_right (by omega), hl]; rfl
  have d : (ret p).dropLast = retHead p := List.dropLast_concat
  have l : (ret p).length = 122 := by rw [ret, List.length_append, hl]; rfl
  have ⟨e1, e2⟩ := end_crc (crc32c (blockBytes (retHead p)))
  have t : blkType (ctlBlock 0x1E 0) = some 0x1E := by decide
  simp only [returnGood, a, n, b, d, l, e1, e2, t, beq_self_eq_true, Bool.and_self]
theorem ret_reports (p : Nat) : (returnFrame (ret p)).reports = [] := by
  have d : (ret p).drop 4 = List.replicate 117 (false, 0) ++ [ctlBlock 0x78 ((crc32c (blockBytes (retHead p))).toNat * 256)] := rfl
  unfold returnFrame; dsimp only; rw [d, List.dropLast_concat, List.filter_replicate]; rfl

/-! For every statement, in the order of their file, what meets the premises of each of its clauses. -/

theorem test_witness_EmptyQueueLetsOneTickPass :
    (∃ (s : State), s.pending = [] ∧ s.upset = none) ∧
    (∃ (s : State) (n : Nat), s.pending = [] ∧ s.upset = some n) :=
  ⟨⟨rdy, by decide⟩,
   ⟨({ rdy with upset := some 114 } : State), 114, by decide⟩⟩

theorem test_witness_ResetLeavesEveryPartAtRest :
    ∃ (n : Nat), 1 ≤ n ∧ n ≤ 63 :=
  ⟨63, by decide⟩

/-! The operands that the outside cannot send are told apart (Sys2Proof/WellFormed.lean): one term for each check. -/

theorem test_witness_SixtyFourBitRegistersKeepTheirHalves :
    (∃ (s : State) (pf1 : Bool) (off : Nat), pairAt off = some false ∧ off ≠ Reg.FAB_ZRX_TIME ∧ (∀ u : Fin 16, off ≠ Reg.CAP_TIME u) ∧ off % 4 = 0 ∧ s.readable = true ∧ s.readMiss pf1 off = none) ∧
    (∃ (s : State) (u : Fin 16), s.readable = true ∧ s.readMiss false (Reg.CAP_TIME u) = none) ∧
    (∃ (s : State) (u : Fin 16), s.readable = true ∧ s.readMiss true (Reg.CAP_TIME u) = none) ∧
    (∃ (s : State), s.readable = true ∧ s.readMiss false Reg.FAB_ZRX_TIME = none) ∧
    (∃ (s : State) (pf1 : Bool) (off : Nat) (w : Word), pairAt off = some false ∧ off % 4 = 0 ∧ s.readable = true ∧ s.readMiss pf1 off = some w) ∧
    (∃ (s : State) (off : Nat), off < 0x20000 ∧ off % 4 = 0 ∧ pairAt off = some false ∧ s.dropped off = none) ∧
    (∃ (s : State) (low : Word), s.dropped (Reg.HOST_EVT_BASE + 4) = none ∧ s.flag Reg.HOST_EVT_CTRL 0 = false ∧ s.hold.get none Reg.HOST_EVT_BASE = some low) ∧
    (∃ (s : State), s.dropped (Reg.HOST_EVT_BASE + 4) = none ∧ s.flag Reg.HOST_EVT_CTRL 0 = false ∧ s.hold.get none Reg.HOST_EVT_BASE = none) :=
  ⟨⟨rdy, true, Reg.HOST_EVT_BASE, by decide⟩,
   ⟨rdy, 15, by decide⟩,
   ⟨rdy, 15, by decide⟩,
   ⟨rdy, by decide⟩,
   ⟨busy, false, Reg.HOST_EVT_BASE, 0xB5B5B5B5, by decide⟩,
   ⟨rdy, Reg.HOST_EVT_BASE, by decide⟩,
   ⟨({ rdy with hold := [(Reg.HOST_EVT_BASE, some 5)] } : State), 5, by decide⟩,
   ⟨rdy, by decide⟩⟩

theorem test_witness_RegisterAccessesFollowTheirCodes :
    (∃ (s : State) (k : Nat), k < 8 ∧ s.dropped (Reg.HOST_EVT_MASK k) = none) ∧
    (∃ (s : State) (n : Nat), 1 ≤ n ∧ n ≤ 63 ∧ s.dropped (Reg.CTX_SLACK_HYST n) = none) ∧
    (∃ (off : Nat), off < 0x20000 ∧ off % 4 = 0) ∧
    (∃ (s : State) (off : Nat), off < 0x20000 ∧ off % 4 = 0 ∧ off ≠ Reg.GLOBAL_RESET_CMD ∧ s.power.ready = false ∧ s.power.recovery = false) ∧
    (∃ (s : State) (off : Nat), off < 0x20000 ∧ off % 4 = 0 ∧ off ≠ Reg.GLOBAL_RESET_CMD ∧ s.power.ready = true ∧ s.host.op.isSome = true) ∧
    (∃ (s : State) (off : Nat), off < 0x20000 ∧ off % 4 = 0 ∧ off ≠ Reg.GLOBAL_RESET_CMD ∧ s.power.ready = true ∧ s.host.op = none ∧ s.regOn off = false) ∧
    (∃ (off : Nat) (width : Nat), off < 0x20000 ∧ (width ≠ 4 ∨ off % 4 ≠ 0)) ∧
    (∃ (s : State) (n : Nat), 1 ≤ n ∧ n ≤ 63 ∧ s.dropped (Reg.CTX_FAULTS n) = none) ∧
    (∃ (s : State), s.readable = true ∧ s.readMiss false Reg.HOST_EVT_LOST = none) ∧
    (∃ (s : State), s.readable = true ∧ s.readMiss true Reg.HOST_EVT_LOST = none) ∧
    (∃ (s : State) (ch : Nat), ch < 64 ∧ s.readable = true ∧ s.readMiss false (Reg.HL_HEALTH ch) = none) :=
  ⟨⟨rdy, 7, by decide⟩,
   ⟨rdy, 63, by decide⟩,
   ⟨0x1FFFC, by decide⟩,
   ⟨State.reset, 0x1FFFC, by decide⟩,
   ⟨busy, 0x1FFFC, by decide⟩,
   ⟨cold, Reg.TWIN_CFG, by decide⟩,
   ⟨0x1FFFE, 2, by decide⟩,
   ⟨rdy, 63, by decide⟩,
   ⟨rdy, by decide⟩,
   ⟨rdy, by decide⟩,
   ⟨rdy, 63, by decide⟩⟩

theorem test_witness_ClocksStopPrintingAndSysrefAligns :
    (∃ (s : State), s.power.refLost = false) ∧
    (∃ (s : State), s.power.refLost = true) ∧
    (∃ (s : State) (p : Pll), s.pllLost p = false ∧ s.domOn (pllDom p) = true ∧ p ≠ .dot) ∧
    (∃ (s : State) (t : State), s.pllLost .dot = false ∧ s.domOn (pllDom .dot) = true ∧ t = s.clockStop.each (List.range 64) State.hlCut) ∧
    (∃ (s : State), s.pos.frame.aligned = false ∧ s.power.phase < 6) ∧
    (∃ (s : State) (d : Fin 6), (s.pos.frame.aligned = true ∨ 6 ≤ s.power.phase) ∧ s.pos.frame.realign = false ∧ (s.sysrefDev d.val).natAbs ≤ 5) ∧
    (∃ (s : State) (d : Fin 6), (s.pos.frame.aligned = true ∨ 6 ≤ s.power.phase) ∧ s.pos.frame.realign = false ∧ 5 < (s.sysrefDev d.val).natAbs) ∧
    (∃ (s : State) (d : Fin 6), (s.pos.frame.aligned = true ∨ 6 ≤ s.power.phase) ∧ s.pos.frame.realign = true ∧ s.noneActive = true ∧ (s.sysrefDev d.val).natAbs ≤ 5) ∧
    (∃ (s : State) (d : Fin 6), (s.pos.frame.aligned = true ∨ 6 ≤ s.power.phase) ∧ s.pos.frame.realign = true ∧ s.noneActive = true ∧ 5 < (s.sysrefDev d.val).natAbs) :=
  ⟨⟨rdy, by decide⟩,
   ⟨({ rdy with power := { rdy.power with refLost := true } } : State), by decide⟩,
   ⟨rdy, .bus, by decide⟩,
   ⟨rdy, _, by decide, by decide, rfl⟩,
   ⟨State.reset, by decide⟩,
   ⟨rdy, 1, by decide⟩,
   ⟨({ rdy with tb := { count := 641 } } : State), 0, by decide⟩,
   ⟨({ rdy with pos := { frame := { realign := true } } } : State), -1, by decide⟩,
   ⟨({ rdy with tb := { count := 641 }, pos := { frame := { realign := true } } } : State), 0, by decide⟩⟩

theorem test_witness_EncoderEdgesCount :
    (∃ (s : State) (e : Fin 8) (run : Nat), run ≤ s.fld (Reg.ENC_CTRL e.val) 3 0) ∧
    (∃ (s : State) (e : Fin 8) (a : Bool) (b : Bool) (up : Bool) (run : Nat), s.dotRuns = true ∧ s.fld (Reg.ENC_CTRL e.val) 3 0 < run ∧ ((s.encOf e.val).a != a) ≠ ((s.encOf e.val).b != b) ∧ up = decide ((quadPos (s.encOf e.val).a (s.encOf e.val).b + 1) % 4 = quadPos a b)) ∧
    (∃ (s : State) (e : Fin 8) (a : Bool) (b : Bool) (run : Nat), s.dotRuns = true ∧ s.fld (Reg.ENC_CTRL e.val) 3 0 < run ∧ (s.encOf e.val).a ≠ a ∧ (s.encOf e.val).b ≠ b) ∧
    (∃ (s : State) (e : Fin 8) (run : Nat), s.dotRuns = true ∧ s.fld (Reg.ENC_CTRL e.val) 3 0 < run ∧ (s.encOf e.val).z = true) ∧
    (∃ (s : State) (e : Fin 8) (run : Nat), s.dotRuns = true ∧ s.fld (Reg.ENC_CTRL e.val) 3 0 < run ∧ (s.encOf e.val).z = false ∧ bit (s.rd (Reg.ENC_CTRL e.val)) 4 = true ∧ ((s.encOf e.val).a && (s.encOf e.val).b) = false ∧ (∀ k ∈ s.ctxNums, s.fld (Reg.CTX_CFG k) 20 16 ≠ e.val + 1)) ∧
    (∃ (s : State) (e : Fin 8) (run : Nat), s.dotRuns = true ∧ s.fld (Reg.ENC_CTRL e.val) 3 0 < run ∧ (s.encOf e.val).z = false ∧ (∀ k ∈ s.ctxNums, s.fld (Reg.CTX_CFG k) 20 16 ≠ e.val + 1) ∧ (bit (s.rd (Reg.ENC_CTRL e.val)) 4 = true → (s.encOf e.val).a = true ∧ (s.encOf e.val).b = true) ∧ bit (s.rd (Reg.ENC_CTRL e.val)) 5 = false ∧ bit (s.rd (Reg.ENC_CTRL e.val)) 6 = false) ∧
    (∃ (s : State) (e : Fin 8) (run : Nat) (z : Word), s.dotRuns = true ∧ s.fld (Reg.ENC_CTRL e.val) 3 0 < run ∧ (s.encOf e.val).z = false ∧ (∀ k ∈ s.ctxNums, s.fld (Reg.CTX_CFG k) 20 16 ≠ e.val + 1) ∧ (bit (s.rd (Reg.ENC_CTRL e.val)) 4 = true → (s.encOf e.val).a = true ∧ (s.encOf e.val).b = true) ∧ bit (s.rd (Reg.ENC_CTRL e.val)) 5 = true ∧ bit (s.rd (Reg.ENC_CTRL e.val)) 6 = false ∧ (s.encOf e.val).zref = some z ∧ ((s.encOf e.val).movedUp && (s.encOf e.val).movedDn) = false ∧ (((s.encOf e.val).count - z).toInt.natAbs + 1 < s.fld (Reg.ENC_ZCOUNT e.val) 23 0 ∨ s.fld (Reg.ENC_ZCOUNT e.val) 23 0 + 1 < ((s.encOf e.val).count - z).toInt.natAbs)) :=
  ⟨⟨rdy.wr (Reg.ENC_CTRL 7) 0xF, 7, 15, by decide⟩,
   ⟨rdy, 7, true, false, true, 4, by decide⟩,
   ⟨rdy, 7, true, true, 4, by decide⟩,
   ⟨({ rdy with pos := { enc := [(7, { z := true })] } } : State), 7, 4, by decide⟩,
   ⟨rdy.wr (Reg.ENC_CTRL 7) 0x10, 7, 1, by decide⟩,
   ⟨rdy, 7, 4, by decide⟩,
   ⟨({ rdy.wr (Reg.ENC_CTRL 7) 0x20 with pos := { enc := [(7, { zref := some 5 })] } } : State), 7, 1, 5, by decide⟩⟩

theorem test_witness_PositionReferencesChangeState :
    (∃ (s : State) (n : Fin 4) (v : Word), s.dropped (Reg.PREF_CTRL n.val) = none ∧ s.flag (Reg.PREF_CTRL n.val) 0 = false ∧ bit v 0 = true ∧ bit v 11 = false ∧ (s.prefNM n.val).1 ≠ 0 ∧ (s.prefNM n.val).2 ≠ 0 ∧ (s.prefNM n.val).1 ≤ 16 * (s.prefNM n.val).2) ∧
    (∃ (s : State) (n : Fin 4) (v : Word), s.dropped (Reg.PREF_CTRL n.val) = none ∧ s.flag (Reg.PREF_CTRL n.val) 0 = false ∧ bit v 0 = true ∧ bit v 11 = false ∧ ((s.prefNM n.val).1 = 0 ∨ (s.prefNM n.val).2 = 0 ∨ 16 * (s.prefNM n.val).2 < (s.prefNM n.val).1)) ∧
    (∃ (s : State) (n : Fin 4) (v : Word), s.dropped (Reg.PREF_CTRL n.val) = none ∧ s.flag (Reg.PREF_CTRL n.val) 0 = true ∧ bit v 0 = true ∧ bit v 11 = true ∧ s.prefSrc n.val < 8 ∧ (s.prefOf n.val).state = .invalid) ∧
    (∃ (s : State) (n : Fin 4), s.dotRuns = true ∧ (s.prefOf n.val).state = .tracking ∧ (s.rd (Reg.PREF_STOP_NS n.val)).toNat ≤ (s.count - (s.prefOf n.val).tk).toNat) ∧
    (∃ (s : State) (n : Fin 4), s.dotRuns = true ∧ s.prefState n.val = .coast ∧ s.follows n.val = false ∧ 0 < (s.prefOf n.val).v.toInt ∧ (s.fld (Reg.PREF_COAST n.val) 7 0 : Int) * 2 ^ 32 ≤ wrapPos (s.prefOut n.val s.count - (s.prefOf n.val).mlast.toInt)) ∧
    (∃ (s : State) (n : Fin 4), s.dotRuns = true ∧ s.prefState n.val ≠ .off ∧ s.prefState n.val ≠ .invalid ∧ s.prefSrc n.val = 8 ∧ (s.prefOf n.val).lossCoast = false ∧ 4 ≤ (s.prefOf n.val).missed) ∧
    (∃ (s : State) (n : Fin 4), s.dotRuns = true ∧ s.prefEn n.val = true ∧ s.prefSrc n.val = 9 ∧ s.follows n.val = true ∧ (s.prefOf n.val).fstate ≠ .invalid ∧ (s.prefOf n.val).state ≠ .invalid ∧ 4 ≤ (s.prefOf n.val).missed ∧ s.count + 640 = s.pos.frame.next) ∧
    (∃ (s : State) (n : Fin 4), s.dotRuns = true ∧ s.prefEn n.val = true ∧ s.prefSrc n.val = 9 ∧ s.follows n.val = true ∧ (s.prefOf n.val).fstate ≠ .invalid ∧ (s.prefOf n.val).state = .invalid ∧ 4 ≤ (s.prefOf n.val).missed ∧ s.count + 640 = s.pos.frame.next) :=
  ⟨⟨rdy, 3, 1, by decide⟩,
   ⟨rdy.wr (Reg.PREF_N 3) 0, 3, 1, by decide⟩,
   ⟨({ rdy with pos := { pref := [(3, { state := .invalid })] } }.wr (Reg.PREF_CTRL 3) 1 : State), 3, 0x801, by decide⟩,
   ⟨({ rdy with tb := { count := 0x8000000000 }, pos := { pref := [(3, { state := .tracking, missed := 4 })] } } : State), 3, by decide⟩,
   ⟨({ rdy with pos := { pref := [(3, { state := .coast, v := 1, p := 0x8000000000 })] } }.wr (Reg.PREF_CTRL 3) 1 |>.wr (Reg.PREF_COAST 3) 1 : State), 3, by decide⟩,
   ⟨({ rdy with pos := { pref := [(3, { fstate := .tracking, missed := 4 })] } }.wr (Reg.PREF_CTRL 3) 0x11 : State), 3, by decide⟩,
   ⟨({ rdy with twin := { role := .standby }, pos := { frame := { next := 640 }, pref := [(3, { missed := 4 })] } }.wr (Reg.PREF_CTRL 3) 0x13 : State), 3, by decide⟩,
   ⟨({ rdy with twin := { role := .standby }, pos := { frame := { next := 640 }, pref := [(3, { state := .invalid, missed := 4 })] } }.wr (Reg.PREF_CTRL 3) 0x13 : State), 3, by decide⟩⟩

theorem test_witness_TimeBaseIsSteered :
    (∃ (s : State) (v : DWord), s.dropped Reg.TB_INCR = none ∧ 0xF333333333 ≤ v.toNat % 2 ^ 48 ∧ v.toNat % 2 ^ 48 ≤ 0x10CCCCCCCCC) ∧
    (∃ (s : State) (v : DWord), s.dropped Reg.TB_INCR = none ∧ (v.toNat % 2 ^ 48 < 0xF333333333 ∨ 0x10CCCCCCCCC < v.toNat % 2 ^ 48)) ∧
    (∃ (s : State) (v : DWord), s.dropped Reg.TB_OFFSET = none ∧ v.toInt < s.offsetInt ∧ s.offsetInt - v.toInt ≤ ((s.rd Reg.TB_JUMP_LIMIT).toNat : Int)) ∧
    (∃ (s : State) (v : DWord), s.dropped Reg.TB_OFFSET = none ∧ (s.rd Reg.TB_JUMP_LIMIT).toNat < v.toInt - s.offsetInt ∧ s.tb.armed = none) ∧
    (∃ (s : State) (v : DWord), s.dropped Reg.TB_OFFSET = none ∧ s.offsetInt < v.toInt ∧ v.toInt - s.offsetInt ≤ ((s.rd Reg.TB_JUMP_LIMIT).toNat : Int)) ∧
    (∃ (s : State), 0 < s.tb.slew ∧ s.tb.slew ≤ s.slewStep ∧ s.upset = none) ∧
    (∃ (s : State), s.dropped Reg.TB_ARM = none) ∧
    (∃ (s : State) (k : DWord), s.dropped Reg.TB_ARM = none ∧ s.tb.armKey = some k ∧ (s.count - k).toNat ≤ 1000000) ∧
    (∃ (s : State) (k : DWord), s.tb.armed = some k ∧ 10000000 ≤ (s.count - k).toNat) :=
  ⟨⟨rdy, 0xF333333333, by decide⟩,
   ⟨rdy, 0x10CCCCCCCCD, by decide⟩,
   ⟨rdy, -1, by decide⟩,
   ⟨rdy, 0x7FFFFFFFFFFFFFFF, by decide⟩,
   ⟨rdy, 1, by decide⟩,
   ⟨({ rdy with tb := { slew := 1 } }.wr Reg.TB_SLEW 1 : State), by decide⟩,
   ⟨rdy, by decide⟩,
   ⟨({ rdy with tb := { count := 1000000, armKey := some 0 } } : State), 0, by decide⟩,
   ⟨({ rdy with tb := { count := 10000000, armed := some 0 } } : State), 0, by decide⟩⟩

theorem test_witness_IncrementWritesContinueTime :
    (∃ (s : State) (v : DWord), s.dropped Reg.TB_INCR = none ∧ 0xF333333333 ≤ v.toNat % 2 ^ 48 ∧ v.toNat % 2 ^ 48 ≤ 0x10CCCCCCCCC) ∧
    (∃ (s : State) (v : DWord), s.dropped Reg.TB_INCR = none ∧ (v.toNat % 2 ^ 48 < 0xF333333333 ∨ 0x10CCCCCCCCC < v.toNat % 2 ^ 48)) :=
  ⟨⟨rdy, 0x10CCCCCCCCC, by decide⟩,
   ⟨rdy, 0xF333333332, by decide⟩⟩

theorem test_witness_TimeBaseCountsEveryTick :
    (∃ (s : State), s.pending = []) ∧
    (∃ (c : Instr) (s : State) (t : State), exec c s = .next t ∧ c ≠ .pd0PowerOn ∧ (∀ torn, c ≠ .powerLoss torn)) :=
  ⟨⟨rdy, rfl⟩,
   ⟨.resetPin, rdy, rdy.deviceReset 2, rfl, by decide, by intro torn h; cases h⟩⟩

theorem test_witness_DoorbellsMoveIndicesAndCompletionsArePosted :
    (∃ (s : State) (v : Word), s.power.ready = true ∧ s.host.op = none ∧ s.flag Reg.HOST_MGMT_CTRL 0 = true ∧ bits v 15 0 < 2 ^ s.fld Reg.HOST_MGMT_CTRL 5 1 ∧ ringCount s.host.mgmtPi s.host.mgmtCi (s.fld Reg.HOST_MGMT_CTRL 5 1) + (bits v 15 0 + 2 ^ s.fld Reg.HOST_MGMT_CTRL 5 1 - s.host.mgmtPi) % 2 ^ s.fld Reg.HOST_MGMT_CTRL 5 1 < 2 ^ s.fld Reg.HOST_MGMT_CTRL 5 1) ∧
    (∃ (s : State) (v : Word), s.power.ready = true ∧ s.host.op = none ∧ s.flag Reg.HOST_EVT_CTRL 0 = true ∧ bits v 15 0 < 2 ^ s.evtSize ∧ (bits v 15 0 + 2 ^ s.evtSize - s.host.evt.ci) % 2 ^ s.evtSize ≤ ringCount s.host.evt.pi s.host.evt.ci s.evtSize ∧ s.host.evt.lost = 0) ∧
    (∃ (s : State) (n : Fin 64) (v : Word), n ≠ 0 ∧ s.power.ready = true ∧ s.flag (Reg.HOST_RING_CTRL n.val) 0 = true ∧ bits v 15 0 < 2 ^ s.sqSize n.val ∧ ringCount (s.ringOf n.val).sqPi (s.ringOf n.val).sqCi (s.sqSize n.val) + (bits v 15 0 + 2 ^ s.sqSize n.val - (s.ringOf n.val).sqPi) % 2 ^ s.sqSize n.val < 2 ^ s.sqSize n.val) ∧
    (∃ (s : State) (n : Fin 64) (v : Word), n ≠ 0 ∧ s.power.ready = true ∧ s.flag (Reg.HOST_RING_CTRL n.val) 0 = true ∧ bits v 15 0 < 2 ^ s.cqSize n.val ∧ (bits v 15 0 + 2 ^ s.cqSize n.val - (s.ringOf n.val).cqCi) % 2 ^ s.cqSize n.val ≤ ringCount (s.ringOf n.val).cqPi (s.ringOf n.val).cqCi (s.cqSize n.val)) ∧
    (∃ (s : State) (n : Fin 64), n ≠ 0 ∧ s.power.ready = true ∧ s.flag (Reg.HOST_RING_CTRL n.val) 0 = false) ∧
    (∃ (s : State) (n : Fin 64) (v : Word), n ≠ 0 ∧ s.power.ready = true ∧ s.flag (Reg.HOST_RING_CTRL n.val) 0 = true ∧ 2 ^ s.sqSize n.val ≤ bits v 15 0) ∧
    (∃ (s : State) (n : Nat), s.flag (Reg.HOST_RING_CTRL n) 0 = true ∧ s.twin.role ≠ .standby ∧ (s.ringOf n).held = [] ∧ (s.ringOf n).lost = 0 ∧ s.cqSpace n = true) ∧
    (∃ (s : State) (n : Nat) (k : Nat), s.flag (Reg.HOST_RING_CTRL n) 0 = true ∧ s.twin.role ≠ .standby ∧ (s.ringOf n).held = [] ∧ (s.ringOf n).lost = 0 ∧ s.cqSpace n = true ∧ k < 64) ∧
    (∃ (s : State) (n : Nat) (a : Nat), s.flag (Reg.HOST_RING_CTRL n) 0 = true ∧ s.twin.role ≠ .standby ∧ (s.ringOf n).held = [] ∧ (s.ringOf n).lost = 0 ∧ s.cqSpace n = true ∧ (a < (s.rd64 (Reg.HOST_CQ_BASE n)).toNat + (s.ringOf n).cqPi * 64 ∨ (s.rd64 (Reg.HOST_CQ_BASE n)).toNat + (s.ringOf n).cqPi * 64 + 64 ≤ a)) :=
  ⟨⟨prt act, 3, by decide⟩,
   ⟨({ prt act with host := { evt := { pi := 3 } } } : State), 3, by decide⟩,
   ⟨prt act, 63, 63, by decide⟩,
   ⟨({ prt act with host := { ring := [(63, { cqPi := 3 })] } } : State), 63, 3, by decide⟩,
   ⟨rdy, 63, by decide⟩,
   ⟨prt act, 63, 64, by decide⟩,
   ⟨prt act, 63, by decide⟩,
   ⟨prt act, 63, 63, by decide⟩,
   ⟨prt act, 63, 64, by decide⟩⟩

theorem test_witness_RaisedEventIsPostedAndStaged :
    (∃ (s : State) (code : Nat), s.flag Reg.HOST_EVT_CTRL 0 = true ∧ s.flag (Reg.HOST_EVT_MASK (code / 256 / 32)) (code / 256 % 32) = true ∧ s.evtSpace = true) ∧
    (∃ (s : State) (code : Nat) (k : Nat), s.flag Reg.HOST_EVT_CTRL 0 = true ∧ s.flag (Reg.HOST_EVT_MASK (code / 256 / 32)) (code / 256 % 32) = true ∧ s.evtSpace = true ∧ k < 64) ∧
    (∃ (s : State) (code : Nat) (a : Nat), s.flag Reg.HOST_EVT_CTRL 0 = true ∧ s.flag (Reg.HOST_EVT_MASK (code / 256 / 32)) (code / 256 % 32) = true ∧ s.evtSpace = true ∧ (a < (s.rd64 Reg.HOST_EVT_BASE).toNat + s.host.evt.pi * 64 ∨ (s.rd64 Reg.HOST_EVT_BASE).toNat + s.host.evt.pi * 64 + 64 ≤ a)) ∧
    (∃ (s : State) (code : Nat), s.flag Reg.HOST_EVT_CTRL 0 = true ∧ s.flag (Reg.HOST_EVT_MASK (code / 256 / 32)) (code / 256 % 32) = true ∧ s.evtSpace = false) ∧
    (∃ (s : State) (code : Nat), (s.flag Reg.HOST_EVT_CTRL 0 = false ∨ s.flag (Reg.HOST_EVT_MASK (code / 256 / 32)) (code / 256 % 32) = false)) ∧
    (∃ (s : State) (code : Nat), s.cask.freeze = none ∧ (neverLimited code = true ∨ (s.cask.buckets.get {} (s.bucketOf code)).used < s.burst (s.bucketOf code)) ∧ s.cask.staging.length < 1024) :=
  ⟨⟨prt act, 0x0201, by decide⟩,
   ⟨prt act, 0x0201, 63, by decide⟩,
   ⟨prt act, 0x0201, 64, by decide⟩,
   ⟨({ prt act with host := { evt := { pi := 15, ci := 16 % 16 } } }.wr Reg.HOST_EVT_CTRL 9 : State), 0x0201, by decide⟩,
   ⟨rdy, 1, by decide⟩,
   ⟨rdy, 1, by decide⟩⟩

theorem test_witness_DescriptorsAreTakenInTheirTurn :
    (∃ (s : State) (n : Fin 64) (d : List Word), s.descReady n.val d true = true ∧ descReserved d [] = false ∧ descOp d = 0) ∧
    (∃ (s : State) (n : Fin 64) (d : List Word), s.descReady n.val d true = true ∧ descReserved d [] = false ∧ descOp d = 5) ∧
    (∃ (s : State) (n : Fin 64) (d : List Word), s.descReady n.val d true = true ∧ 6 ≤ descOp d) ∧
    (∃ (d : List Word), descOp d ≠ 2) ∧
    (∃ (s : State) (n : Fin 64) (d : List Word), s.descReady n.val d true = true ∧ descOp d = 1 ∧ descReserved d [0, 0xFFFFFFFF, 0xFFFFFFFF, 0xFFFFFFFF, 0xFFFFFF, 0x10F] = false ∧ nthW d 3 ≠ 0 ∧ bit (nthW d 3) 31 = false ∧ bits (nthW d 5) 23 0 ≠ 0 ∧ (bit (nthW d 6) 8 = true ∨ ∀ q, ((s.ctxOf n.val).items.filter (fun i => i.page && !i.anchored)).getLast? = some q → 0 ≤ ldiff (nthW d 2) q.start) ∧ (s.ctxOf n.val).drainArmed = false) ∧
    (∃ (s : State) (n : Fin 64) (d : List Word), s.descReady n.val d true = true ∧ descOp d = 3 ∧ descReserved d [0, 0xFFFFFFFF] = false ∧ nthW d 2 ≠ 0 ∧ bit (nthW d 2) 31 = false ∧ (s.ctxOf n.val).drainArmed = false) ∧
    (∃ (s : State) (n : Fin 64) (d : List Word), s.descReady n.val d true = true ∧ descOp d = 3 ∧ descReserved d [0, 0xFFFFFFFF] = false ∧ nthW d 2 = 0 ∧ (s.ctxOf n.val).drainArmed = false ∧ (s.ctxOf n.val).firing = false) ∧
    (∃ (s : State) (n : Nat) (d : List Word) (p : Word) (i : Item) (u : State) (t : State) (c : Ctx), (s.ctxOf n).firing = false ∧ u = (s.descTake n d p).2 ∧ c = (u.ctxOf n).closePages none ∧ t = u.setItems n (Ctx.place { c with items := c.items ++ [i] })) ∧
    (∃ (s : State) (n : Nat) (d : List Word) (p : Word) (i : Item) (u : State) (t : State) (c : Ctx) (k : Nat), (s.ctxOf n).firing = false ∧ u = (s.descTake n d p).2 ∧ c = (u.ctxOf n).closePages none ∧ t = u.setItems n (Ctx.place { c with items := c.items ++ [i] }) ∧ k ≠ n) ∧
    (∃ (s : State) (d : List Word), s.mgmtReady true = true ∧ descOp d = 0 ∧ mgmtReserved d [] = false) ∧
    (∃ (s : State) (d : List Word), s.mgmtReady true = true ∧ mgmtListed d = false) ∧
    (∃ (s : State) (d : List Word), s.mgmtReady true = true ∧ descOp d = 0x11 ∧ mgmtReserved d [0xFFFFFFFF, if bit (nthW d 5) 30 then 0xFFFF else 0xFFFFFFFF, 0xFFFFFFFF, 0xFF00FFFF, 0x7FF] = false) ∧
    (∃ (k : Nat), k < 4) ∧
    (∃ (s : State) (a : Nat), (a < (s.rd64 Reg.HOST_MGMT_BASE).toNat + s.host.mgmtCi * 64 + 4 ∨ (s.rd64 Reg.HOST_MGMT_BASE).toNat + s.host.mgmtCi * 64 + 8 ≤ a)) :=
  ⟨⟨prt act, 63, dsc [], by decide⟩,
   ⟨prt act, 63, dsc [5], by decide⟩,
   ⟨prt act, 63, dsc [6], by decide⟩,
   ⟨dsc [1], by decide⟩,
   ⟨prt act, 63, dsc [1, 0, 0, 0x7FFFFFFF, 0, 1, 0x100], by decide⟩,
   ⟨prt act, 63, dsc [3, 0, 1], by decide⟩,
   ⟨prt { state := .armed }, 63, dsc [3], by decide⟩,
   ⟨rdy, 63, dsc [1], 0, {}, _, _, _, by decide, rfl, rfl, rfl⟩,
   ⟨rdy, 63, dsc [1], 0, {}, _, _, _, 62, by decide, rfl, rfl, rfl, by decide⟩,
   ⟨prt act, dsc [], by decide⟩,
   ⟨prt act, dsc [0x14], by decide⟩,
   ⟨prt act, dsc [0x11], by decide⟩,
   ⟨3, by decide⟩,
   ⟨rdy, 8, by decide⟩⟩

theorem test_witness_TilesAreReadFetchedAndChecked :
    (∃ (s : State) (n : Fin 64) (d : List Word) (i : Item), s.descReady n.val d true = true ∧ descOp d = 2 ∧ descReserved d [0, 0xFFFFFFFF, 0xFFFFFFFF, 0x1FFFFF, 0x1F0F, 0xFFFFFF, 0xFFFFFFFF, 0xFFFFFFFF] = false ∧ (s.ctxOf n.val).openPage = some i ∧ i.pageId = nthW d 8 ∧ 32 ≤ bits (nthW d 4) 20 0 ∧ bits (nthW d 4) 20 0 ≤ 263200 ∧ (nthW d 2).toNat % 64 = 0 ∧ s.bufMeets ((dw (nthW d 2) (nthW d 3)).toNat, bits (nthW d 4) 20 0) = false ∧ bits (nthW d 4) 20 0 ≤ (s.alloc (Reg.BUF_CTX_ING n.val)).2 ∧ i.lastY0 ≤ (nthW d 7).toNat) ∧
    (∃ (s : State) (n : Fin 64) (d : List Word), s.descReady n.val d true = true ∧ descOp d = 2 ∧ descReserved d [0, 0xFFFFFFFF, 0xFFFFFFFF, 0x1FFFFF, 0x1F0F, 0xFFFFFF, 0xFFFFFFFF, 0xFFFFFFFF] = false ∧ (s.ctxOf n.val).openPage.filter (fun i => i.pageId == nthW d 8) = none ∧ 32 ≤ bits (nthW d 4) 20 0 ∧ bits (nthW d 4) 20 0 ≤ 263200) ∧
    (∃ (s : State) (n : Fin 64) (t : Tile) (o : Nat), s.nextFetch n.val = some (t, o) ∧ s.pf1Can = true ∧ s.bufRuns = true ∧ s.fetchesFirst n.val = false) ∧
    (∃ (s : State) (n : Fin 64) (data : List Byte) (t : Tile) (i : Item) (r : Nat), (s.ctxOf n.val).arriving = some (t, i) ∧ s.pf1Can = true ∧ s.pllLost .buffer = false ∧ r ≠ 0 ∧ arrivalCheck (padTo t.len 0 data) t.len t.format t.x0 t.y0 i.width i.count (s.fmtEntry n.val i.tset t.format) = some r) ∧
    (∃ (s : State) (n : Fin 64) (data : List Byte) (t : Tile) (v : Tile) (i : Item) (h : List Word) (f : List Word), (s.ctxOf n.val).arriving = some (t, i) ∧ s.pf1Can = true ∧ s.pllLost .buffer = false ∧ h = bytesWords ((padTo t.len 0 data).take 32) ∧ f = (s.fmtEntry n.val i.tset t.format).getD [] ∧ arrivalCheck (padTo t.len 0 data) t.len t.format t.x0 t.y0 i.width i.count (s.fmtEntry n.val i.tset t.format) = some 0 ∧ hdrReserved h = false ∧ v = { t with state := .resident, hdr := h, fmt := f, mplane := planeMap f t.plane, dec := { mode := bits (nthW h 0) 27 26 } } ∧ i.planes.any (fun p => p.1 == v.mplane && p.2 != (bits (nthW f 0) 3 1 == 4)) = false ∧ i.areas.any (tilesClash v.area) = false) :=
  ⟨⟨(prt { act with items := [{ pageId := 7, width := 64, count := 8, first := some 0 }] }).wr (Reg.BUF_CTX_ING 63) 0x00400100 |>.wr (Reg.BUF_CTX_TBL 63) 0x00400000, 63, dsc [2, 0, 0, 1, 32, 0, 0, 0, 7], ({ pageId := 7, width := 64, count := 8, first := some 0 } : Item), by decide⟩,
   ⟨prt act, 63, dsc [2, 0, 0, 0, 32], by decide⟩,
   ⟨(prt { act with tiles := [{ len := 64 }] }).wr (Reg.BUF_CTX_ING 63) 0x00400100 |>.wr (Reg.BUF_CTX_TBL 63) 0x00400000, 63, ({ len := 64 } : Tile), 0, by decide⟩,
   ⟨prt { act with items := [{ pageId := 7, width := 64, count := 8, first := some 0 }], tiles := [{ len := 64, state := .fetching }] }, 63, [], ({ len := 64, state := .fetching } : Tile), ({ pageId := 7, width := 64, count := 8, first := some 0 } : Item), 1, by decide⟩,
   ⟨({ prt { act with items := [{ pageId := 0, width := 64, count := 8, first := some 0 }], tiles := [{ len := 33, state := .fetching }] } with buf := { mem := [(0, 1)], dirs := [(63, [{ kind := 1, len := 512 }])] } } : State), 63, (wordsBytes [0x00017247, 0x00010008, 0, 1, 0, 0, 0, 0] ++ [0xA5]), ({ len := 33, state := .fetching } : Tile), _, ({ pageId := 0, width := 64, count := 8, first := some 0 } : Item), _, _, by decide, by decide, by decide, rfl, rfl, by decide, by decide, rfl, by decide, by decide⟩⟩

theorem test_witness_TablesAreLoadedIntoTheirRegion :
    (∃ (s : State) (n : Fin 64) (d : List Word), s.descReady n.val d true = true ∧ descOp d = 4 ∧ descReserved d [0, 0xFFFFFFFF, 0xFFFFFFFF, 0x7FFFFF, 0xFFFFF, 0x3FFFFFF] = false ∧ 0 < bits (nthW d 4) 22 0 ∧ bits (nthW d 4) 22 0 ≤ 4194304 ∧ bits (nthW d 4) 22 0 % 64 = 0 ∧ bits (nthW d 6) 25 0 % 64 = 0 ∧ bits (nthW d 6) 25 0 + bits (nthW d 4) 22 0 ≤ (s.alloc (Reg.BUF_CTX_TBL n.val)).2 ∧ (nthW d 2).toNat % 64 = 0 ∧ s.bufMeets ((dw (nthW d 2) (nthW d 3)).toNat, bits (nthW d 4) 22 0) = false ∧ 1 ≤ bits (nthW d 5) 7 0 ∧ bits (nthW d 5) 7 0 ≤ 9 ∧ 16384 ≤ bits (nthW d 6) 25 0 ∧ s.tabInUse n.val (bits (nthW d 6) 25 0) (bits (nthW d 4) 22 0) = false ∧ (s.tabKeys n.val).length < 1024) ∧
    (∃ (s : State) (n : Fin 64) (d : List Word), s.descReady n.val d true = true ∧ descOp d = 4 ∧ descReserved d [0, 0xFFFFFFFF, 0xFFFFFFFF, 0x7FFFFF, 0xFFFFF, 0x3FFFFFF] = false ∧ (bits (nthW d 4) 22 0 = 0 ∨ 4194304 < bits (nthW d 4) 22 0 ∨ bits (nthW d 4) 22 0 % 64 ≠ 0 ∨ bits (nthW d 6) 25 0 % 64 ≠ 0 ∨ (s.alloc (Reg.BUF_CTX_TBL n.val)).2 < bits (nthW d 6) 25 0 + bits (nthW d 4) 22 0)) ∧
    (∃ (s : State) (n : Fin 64) (data : List Byte) (c : TableCopy) (r : List TableCopy), (s.ctxOf n.val).copies = c :: r ∧ s.pf1Can = true ∧ s.pllLost .buffer = false ∧ tableBad c.kind c.inst c.tset (padTo c.len 0 data) = none) :=
  ⟨⟨(prt act).wr (Reg.BUF_CTX_ING 63) 0x00400100 |>.wr (Reg.BUF_CTX_TBL 63) 0x00400000, 63, dsc [4, 0, 0, 1, 64, 1, 16384], by decide⟩,
   ⟨(prt act).wr (Reg.BUF_CTX_ING 63) 0x00400100 |>.wr (Reg.BUF_CTX_TBL 63) 0x00400000, 63, dsc [4], by decide⟩,
   ⟨prt { act with copies := [{ kind := 1, len := 512 }] }, 63, [], ({ kind := 1, len := 512 } : TableCopy), ({} : List TableCopy), by decide +kernel⟩⟩

theorem test_witness_ContextCommandsChangeContextState :
    (∃ (s : State) (d : List Word) (n : Nat), s.mgmtReady true = true ∧ descOp d = 0x10 ∧ mgmtReserved d [0x73F] = false ∧ n = bits (nthW d 2) 5 0 ∧ n ≠ 0 ∧ s.twin.role = .off ∧ bits (nthW d 2) 10 8 = 0 ∧ (s.ctxOf n).state = .idle ∧ s.armRefused n = true) ∧
    (∃ (s : State) (d : List Word) (n : Nat), s.mgmtReady true = true ∧ descOp d = 0x10 ∧ mgmtReserved d [0x73F] = false ∧ n = bits (nthW d 2) 5 0 ∧ n ≠ 0 ∧ s.twin.role = .off ∧ bits (nthW d 2) 10 8 = 0 ∧ (s.ctxOf n).state = .idle ∧ s.armRefused n = false ∧ s.armError n = none) ∧
    (∃ (s : State) (d : List Word) (n : Nat), s.mgmtReady true = true ∧ descOp d = 0x10 ∧ mgmtReserved d [0x73F] = false ∧ n = bits (nthW d 2) 5 0 ∧ n ≠ 0 ∧ s.twin.role = .off ∧ bits (nthW d 2) 10 8 = 1 ∧ (s.ctxOf n).state = .armed) ∧
    (∃ (s : State) (d : List Word) (n : Nat), s.mgmtReady true = true ∧ descOp d = 0x10 ∧ mgmtReserved d [0x73F] = false ∧ n = bits (nthW d 2) 5 0 ∧ n ≠ 0 ∧ s.twin.role = .off ∧ bits (nthW d 2) 10 8 = 1 ∧ (s.ctxOf n).state = .running) ∧
    (∃ (s : State) (d : List Word) (n : Nat), s.mgmtReady true = true ∧ descOp d = 0x10 ∧ mgmtReserved d [0x73F] = false ∧ n = bits (nthW d 2) 5 0 ∧ n ≠ 0 ∧ s.twin.role = .off ∧ bits (nthW d 2) 10 8 = 2 ∧ ((s.ctxOf n).state = .armed ∨ (s.ctxOf n).state = .running)) ∧
    (∃ (s : State) (d : List Word) (n : Nat), s.mgmtReady true = true ∧ descOp d = 0x10 ∧ mgmtReserved d [0x73F] = false ∧ n = bits (nthW d 2) 5 0 ∧ n ≠ 0 ∧ s.twin.role = .off ∧ bits (nthW d 2) 10 8 = 3 ∧ (s.ctxOf n).active = true) ∧
    (∃ (s : State) (d : List Word) (n : Nat), s.mgmtReady true = true ∧ descOp d = 0x10 ∧ mgmtReserved d [0x73F] = false ∧ n = bits (nthW d 2) 5 0 ∧ n ≠ 0 ∧ s.twin.role = .off ∧ bits (nthW d 2) 10 8 = 3 ∧ ((s.ctxOf n).state = .idle ∨ (s.ctxOf n).state = .halted)) ∧
    (∃ (s : State) (d : List Word) (n : Nat), s.mgmtReady true = true ∧ descOp d = 0x10 ∧ mgmtReserved d [0x73F] = false ∧ n = bits (nthW d 2) 5 0 ∧ n ≠ 0 ∧ s.twin.role = .off ∧ bits (nthW d 2) 10 8 = 4 ∧ (s.ctxOf n).state = .halted) ∧
    (∃ (s : State) (d : List Word) (n : Nat), s.mgmtReady true = true ∧ descOp d = 0x10 ∧ mgmtReserved d [0x73F] = false ∧ n = bits (nthW d 2) 5 0 ∧ n ≠ 0 ∧ s.twin.role = .off ∧ bits (nthW d 2) 10 8 = 4 ∧ (s.ctxOf n).state = .idle) ∧
    (∃ (s : State) (n : Nat), (s.ctxOf n).active = true ∧ (s.ctxOf n).halt = none) ∧
    (∃ (s : State) (n : Nat) (k : Nat), (s.ctxOf n).active = true ∧ (s.ctxOf n).halt = none ∧ k ≠ n) ∧
    (∃ (s : State) (n : Fin 64) (h : HaltReq), (s.ctxOf n.val).halt = some h ∧ (s.ctxOf n.val).active = true ∧ s.atBoundary = true ∧ s.haltStands n.val = true) ∧
    (∃ (s : State) (n : Fin 64), (s.ctxOf n.val).state = .draining ∧ (s.ctxOf n.val).drain = some (s.ringOf n.val).sqCi ∧ (s.ctxOf n.val).flight = [] ∧ (s.ringOf n.val).held = [] ∧ s.divergedHere n.val = false) :=
  ⟨⟨prt { state := .idle }, dsc [0x10, 0, 63], 63, by decide⟩,
   ⟨({ prt {} with buf := { ready := true } }.wr (Reg.BUF_CTX_ING 63) 0x00400100 |>.wr (Reg.BUF_CTX_TBL 63) 0x00400000 : State), dsc [0x10, 0, 63], 63, by decide⟩,
   ⟨prt { state := .armed }, dsc [0x10, 0, 319], 63, by decide⟩,
   ⟨prt { state := .running }, dsc [0x10, 0, 319], 63, by decide⟩,
   ⟨prt { state := .armed }, dsc [0x10, 0, 575], 63, by decide⟩,
   ⟨prt { state := .draining }, dsc [0x10, 0, 831], 63, by decide⟩,
   ⟨prt { state := .halted }, dsc [0x10, 0, 831], 63, by decide⟩,
   ⟨prt { state := .halted }, dsc [0x10, 0, 1087], 63, by decide⟩,
   ⟨prt { state := .idle }, dsc [0x10, 0, 1087], 63, by decide⟩,
   ⟨prt act, 63, by decide⟩,
   ⟨prt act, 63, 62, by decide⟩,
   ⟨({ prt { act with halt := some {} } with pos := { frame := { next := 640 } } } : State), 63, ({} : HaltReq), by decide⟩,
   ⟨prt { state := .draining, drain := some 0 }, 63, by decide⟩⟩

theorem test_witness_HostLinkChangesAndErrorsAreReported :
    (∃ (s : State) (sp : BitVec 3) (w : BitVec 5), 1 ≤ sp.toNat ∧ sp.toNat ≤ 5 ∧ (w.toNat = 8 ∨ w.toNat = 16) ∧ s.linkUp = false) ∧
    (∃ (s : State), s.linkUp = true) ∧
    (∃ (s : State), s.host.op = none) ∧
    (∃ (s : State), s.host.bmeOff1 = false) ∧
    (∃ (s : State), s.host.bmeOff0 = false) :=
  ⟨⟨rdy.wr Reg.HOST_LINK 0, 5, 16, by decide⟩,
   ⟨rdy, by decide⟩,
   ⟨rdy, by decide⟩,
   ⟨rdy, by decide⟩,
   ⟨rdy, by decide⟩⟩

theorem test_witness_ModerationAndFunctionResets :
    (∃ (s : State) (n : Fin 64) (t0 : DWord), (s.ringOf n.val).first = some t0 ∧ s.fld (Reg.HOST_RING_MOD n.val) 15 0 ≠ 0 ∧ s.mgmtRuns = true ∧ t0.toNat + s.fld (Reg.HOST_RING_MOD n.val) 15 0 * 1000 ≤ s.now.toNat) ∧
    (∃ (s : State) (t0 : DWord), s.host.evt.first = some t0 ∧ s.fld Reg.HOST_EVT_CTRL 31 24 ≠ 0 ∧ s.mgmtRuns = true ∧ t0.toNat + s.fld Reg.HOST_EVT_CTRL 31 24 * 10000 ≤ s.now.toNat) ∧
    (∃ (s : State), s.host.op = none) :=
  ⟨⟨({ rdy with tb := { count := 1000 }, host := { ring := [(63, { first := some 0 })] } }.wr (Reg.HOST_RING_MOD 63) 1 : State), 63, 0, by decide⟩,
   ⟨({ rdy with tb := { count := 10000 }, host := { evt := { first := some 0 } } }.wr Reg.HOST_EVT_CTRL 0x01000000 : State), 0, by decide⟩,
   ⟨rdy, by decide⟩⟩

theorem test_witness_LongOperationsRunFromBusyToDone :
    (∃ (s : State) (v : Word), s.dropped Reg.OP_CMD = none ∧ bits v 3 0 = 1) ∧
    (∃ (s : State) (v : Word), s.dropped Reg.OP_CMD = none ∧ bits v 3 0 = 2) ∧
    (∃ (s : State) (v : Word), s.dropped Reg.OP_CMD = none ∧ bits v 3 0 = 3) ∧
    (∃ (s : State) (v : Word), s.dropped Reg.OP_CMD = none ∧ bits v 3 0 = 4) ∧
    (∃ (s : State) (v : Word), s.dropped Reg.OP_CMD = none ∧ bits v 3 0 = 5) ∧
    (∃ (s : State) (v : Word), s.dropped Reg.OP_CMD = none ∧ (bits v 3 0 = 0 ∨ 6 ≤ bits v 3 0)) ∧
    (∃ (s : State) (v : Word), bits v 3 0 = 3 ∧ s.opCheck 3 = none) ∧
    (∃ (s : State) (u : State) (o : OpRun), s.host.op = some o ∧ s.mgmtRuns = true ∧ s.readsWait .op = false ∧ o.fail = none ∧ s.sec.commit = none ∧ s.opCode = 3 ∧ u = s.readsDone .op) ∧
    (∃ (s : State) (o : OpRun) (r : Nat), s.host.op = some o ∧ s.mgmtRuns = true ∧ s.readsWait .op = false ∧ o.fail = some r ∧ s.sec.commit = none ∧ o.froze = false ∧ r ≠ 6) ∧
    (∃ (s : State) (r : Nat) (o : OpRun), r < 256 ∧ s.host.op = some o) ∧
    (∃ (s : State) (r : Nat) (o : OpRun) (a : Nat), r < 256 ∧ s.host.op = some o ∧ a ≠ Reg.OP_STATUS ∧ a ≠ Reg.OP_ELAPSED ∧ a ≠ Reg.HOST_EVT_LOST ∧ a ≠ Reg.CASK_OVERFLOW ∧ a ≠ Reg.CASK_MISSED ∧ a ≠ Reg.CASK_SUPPR) :=
  ⟨⟨rdy, 1, by decide⟩,
   ⟨rdy, 2, by decide⟩,
   ⟨rdy, 3, by decide⟩,
   ⟨rdy, 4, by decide⟩,
   ⟨rdy, 5, by decide⟩,
   ⟨rdy, 15, by decide⟩,
   ⟨rdy, 3, by decide⟩,
   ⟨busy.wr Reg.OP_STATUS 0x300, _, {}, by decide, by decide, by decide, by decide, by decide, by decide, rfl⟩,
   ⟨({ rdy with host := { op := some { fail := some 3 } } } : State), ({ fail := some 3 } : OpRun), 3, by decide⟩,
   ⟨busy, 255, {}, by decide⟩,
   ⟨busy, 255, {}, Reg.OP_CMD, by decide⟩⟩

theorem test_witness_OperationWritesWhileBusyAreDropped :
    (∃ (s : State), s.power.ready = true ∧ s.host.op.isSome = true) ∧
    (∃ (s : State) (v : Word), s.power.ready = true ∧ s.host.op.isSome = true ∧ bits v 3 0 = 1) ∧
    (∃ (s : State) (v : Word), s.power.ready = true ∧ s.host.op.isSome = true ∧ bits v 3 0 = 2) ∧
    (∃ (s : State) (v : Word), s.power.ready = true ∧ s.host.op.isSome = true ∧ bits v 3 0 = 3) ∧
    (∃ (s : State) (v : Word), s.power.ready = true ∧ s.host.op.isSome = true ∧ bits v 3 0 = 4) ∧
    (∃ (s : State) (v : Word), s.power.ready = true ∧ s.host.op.isSome = true ∧ bits v 3 0 = 5) ∧
    (∃ (s : State) (v : Word), s.power.ready = true ∧ s.host.op.isSome = true ∧ (bits v 3 0 = 0 ∨ 6 ≤ bits v 3 0)) ∧
    (∃ (s : State) (k : Nat), s.power.ready = true ∧ s.host.op.isSome = true ∧ k < 4) :=
  ⟨⟨busy, by decide⟩,
   ⟨busy, 1, by decide⟩,
   ⟨busy, 2, by decide⟩,
   ⟨busy, 3, by decide⟩,
   ⟨busy, 4, by decide⟩,
   ⟨busy, 5, by decide⟩,
   ⟨busy, 6, by decide⟩,
   ⟨busy, 3, by decide⟩⟩

theorem test_witness_LinesAreScreenedAndFramesFollow :
    (∃ (s : State) (ch : Fin 64) (n : Nat) (lw : LineWork), s.ownerOf ch.val = some n ∧ (s.ctxOf n).lines.find? (fun l => !l.late && !l.codes.any (fun e => e.1 == ch.val)) = some lw ∧ s.laneRuns ch.val = true ∧ s.seamReady n ch.val lw.line = true) ∧
    (∃ (s : State) (ch : Fin 64) (n : Nat) (lw : LineWork), s.ownerOf ch.val = some n ∧ (∀ l ∈ (s.ctxOf n).lines, l.late = false) ∧ (s.ctxOf n).lines.find? (fun l => !l.late && !l.comp.contains ch.val) = some lw ∧ s.laneRuns ch.val = true ∧ s.codesDone n ch.val lw = true) ∧
    (∃ (s : State), s.pos.frame.next.toNat ≤ s.count.toNat) ∧
    (∃ (s : State), s.count.toNat < s.pos.frame.next.toNat) :=
  ⟨⟨(prt { act with lines := [{}] }).wr (Reg.CTX_CHMAP 63 + 4) 0x80000000, 63, 63, ({} : LineWork), by decide⟩,
   ⟨(prt { act with lines := [{ codes := [(63, [])] }] }).wr (Reg.CTX_CHMAP 63 + 4) 0x80000000, 63, 63, ({ codes := [(63, [])] } : LineWork), by decide⟩,
   ⟨rdy, by decide⟩,
   ⟨({ rdy with pos := { frame := { next := 1 } } } : State), by decide⟩⟩

theorem test_witness_NozzleMapsSwitch :
    (∃ (s : State) (ch : Fin 64) (v : Word) (n : Nat) (refs : List DirEntry), s.dropped (Reg.NOZ_CH_SWCTL ch.val) = none ∧ s.tableCtx ch.val = some n ∧ s.nozFind n ch.val (bits v 7 4) (s.buf.dirs.get [] n) = .ok refs) ∧
    (∃ (s : State) (ch : Fin 64), s.dropped (Reg.NOZ_CH_SWCTL ch.val) = none ∧ s.tableCtx ch.val = none) ∧
    (∃ (s : State) (ch : Fin 64), s.dropped (Reg.NOZ_CH_SWCTL ch.val) = none) ∧
    (∃ (s : State) (ch : Fin 64) (p : NozTabs) (refs : List DirEntry) (n : Nat) (k : Nat), (s.nozOf ch.val).pending = some p ∧ (s.nozOf ch.val).fetch = some (refs, n, k) ∧ (s.nozOf ch.val).ready = false ∧ (s.hlOf ch.val).uploads.any (fun u => u.forSwitch) = false ∧ s.domOn (chDom ch.val) = true ∧ s.nozBad n ch.val refs p = none ∧ s.mapDmax ch.val p.map + 5 ≤ s.rowCap ch.val) ∧
    (∃ (s : State) (u : State) (n : Fin 64) (ecc : List EccHit) (t : State), (s.ctxOf n.val).nozLoad = true ∧ u = (s.setCtx n.val { s.ctxOf n.val with nozLoad := false, nozRefs := [] }).eccHits ecc none ∧ State.armLoad n.val (s.ctxOf n.val).nozRefs (s.chans n.val) u = .ok t) ∧
    (∃ (s : State) (u : State) (n : Fin 64) (ecc : List EccHit) (r : Nat), (s.ctxOf n.val).nozLoad = true ∧ u = (s.setCtx n.val { s.ctxOf n.val with nozLoad := false, nozRefs := [] }).eccHits ecc none ∧ State.armLoad n.val (s.ctxOf n.val).nozRefs (s.chans n.val) u = .error r) ∧
    (∃ (s : State) (n : Nat) (ch : Nat) (dir : List DirEntry) (refs : List DirEntry) (x : Nat) (p : NozTabs), (s.ctxOf n).nozTsets.find? (fun e => e.1 == ch) = some (ch, x) ∧ s.receives ch = false ∧ s.nozFind n ch x dir = .ok refs ∧ p = s.nozRead n ch x (s.hlOf ch).bank refs ∧ s.nozBad n ch refs p = none ∧ s.mapDmax ch p.map + 5 ≤ s.rowCap ch) :=
  ⟨⟨({ prt act with buf := { dirs := [(63, [{ kind := 6, inst := 63 }, { kind := 7 }])] } }.wr (Reg.CTX_CHMAP 63 + 4) 0x80000000 : State), 63, 0, 63, [{ kind := 6, inst := 63 }, { kind := 7 }], by decide⟩,
   ⟨rdy, 63, by decide⟩,
   ⟨rdy, 63, by decide⟩,
   ⟨({ rdy with noz := [(63, { pending := some {}, fetch := some ([{ kind := 6, inst := 63, len := 256 }, { kind := 7, len := 128 }], 1, 0) })] }.wr (Reg.MASH_CH_CFG 63) 0x00400000).wr (Reg.BUF_CH_DLY 63) 0x00020000, 63, ({} : NozTabs), [{ kind := 6, inst := 63, len := 256 }, { kind := 7, len := 128 }], 1, 0, by decide⟩,
   ⟨({ rdy with ctx := [(63, { nozLoad := true })] } : State), _, 63, [], _, by decide, rfl, rfl⟩,
   ⟨((({ rdy with ctx := [(63, { nozLoad := true, nozTsets := [(63, 0)], nozRefs := [{ kind := 6, inst := 63, len := 0 }, { kind := 7, len := 128 }] })] } : State).wr (Reg.CTX_CHMAP 63 + 4) 0x80000000).wr (Reg.MASH_CH_CFG 63) 0x10000).wr (Reg.NOZ_CH_CFG 63) 1 |>.wr (Reg.BUF_CH_DLY 63) 0x20000, _, 63, [], 223, by decide, rfl, by decide +kernel⟩,
   ⟨((({ rdy with ctx := [(63, { nozLoad := true, nozTsets := [(63, 0)], nozRefs := [{ kind := 6, inst := 63, len := 64 }, { kind := 7, len := 128 }] })] } : State).wr (Reg.CTX_CHMAP 63 + 4) 0x80000000).wr (Reg.MASH_CH_CFG 63) 0x10000).wr (Reg.NOZ_CH_CFG 63) 1 |>.wr (Reg.BUF_CH_DLY 63) 0x20000, 63, 63, [{ kind := 6, inst := 63, len := 64 }, { kind := 7, len := 128 }], [{ kind := 6, inst := 63, len := 64 }, { kind := 7, len := 128 }], 0, _, by decide, by decide, by decide +kernel, rfl, by decide +kernel, by decide +kernel⟩⟩

theorem test_witness_HeadLinksTrain :
    (∃ (s : State) (ch : Fin 64) (v : Word), s.dropped (Reg.HL_CTRL ch.val) = none ∧ s.chLocked ch.val = false ∧ s.flag (Reg.HL_CTRL ch.val) 0 = false ∧ bit v 0 = true ∧ ((s.hlOf ch.val).state = .off ∨ (s.hlOf ch.val).state = .fault)) ∧
    (∃ (s : State) (ch : Fin 64) (v : Word), s.dropped (Reg.HL_CTRL ch.val) = none ∧ s.chLocked ch.val = false ∧ s.flag (Reg.HL_CTRL ch.val) 0 = true ∧ bit v 0 = false ∧ (s.hlOf ch.val).state = .up) ∧
    (∃ (s : State) (ch : Fin 64), s.dropped (Reg.HL_TRAIN ch.val) = none) ∧
    (∃ (s : State) (ch : Fin 64), s.dropped (Reg.HL_TRAIN ch.val) = none ∧ ((s.hlOf ch.val).state = .train ∨ (s.hlOf ch.val).state = .cal ∨ (s.hlOf ch.val).state = .load)) ∧
    (∃ (s : State) (ch : Fin 64), (s.hlOf ch.val).state ≠ .off) ∧
    (∃ (s : State) (ch : Fin 64), (s.hlOf ch.val).state = .train ∧ (s.hlOf ch.val).lock = true) ∧
    (∃ (s : State) (ch : Fin 64) (q : Byte), (s.hlOf ch.val).state = .cal ∧ (s.hlOf ch.val).upPend = false ∧ q.toNat = (s.hlOf ch.val).calSeq % 256 ∧ (s.hlOf ch.val).cal.length + 1 < 256) ∧
    (∃ (s : State) (ch : Fin 64), (s.hlOf ch.val).state = .load ∧ (s.hlOf ch.val).reload = none ∧ (s.hlOf ch.val).uploads.any (fun u => !u.forSwitch) = false ∧ (s.hlOf ch.val).loaded = true ∧ s.chLocked ch.val = false) ∧
    (∃ (s : State) (ch : Fin 64), (s.hlOf ch.val).state = .train ∧ (s.hlOf ch.val).lock = false ∧ 200000 ≤ (s.count - (s.hlOf ch.val).since).toNat) ∧
    (∃ (s : State) (ch : Fin 64), (s.hlOf ch.val).state = .train ∧ (s.hlOf ch.val).lock = true ∧ 300000 ≤ (s.count - (s.hlOf ch.val).since).toNat) ∧
    (∃ (s : State) (ch : Fin 64), (s.hlOf ch.val).state = .fault ∧ s.fld (Reg.HL_CTRL ch.val) 1 0 = 3 ∧ 10000 ≤ (s.count - (s.hlOf ch.val).since).toNat) :=
  ⟨⟨rdy, 63, 1, by decide⟩,
   ⟨({ rdy with tb := { count := 300000 }, hl := [(63, { state := .up })] }.wr (Reg.HL_CTRL 63) 1 : State), 63, 0, by decide⟩,
   ⟨rdy, 63, by decide⟩,
   ⟨({ rdy with tb := { count := 300000 }, hl := [(63, { state := .load })] } : State), 63, by decide⟩,
   ⟨({ rdy with tb := { count := 300000 }, hl := [(63, { state := .train })] } : State), 63, by decide⟩,
   ⟨({ rdy with tb := { count := 300000 }, hl := [(63, { state := .train, lock := true })] } : State), 63, by decide⟩,
   ⟨({ rdy with tb := { count := 300000 }, hl := [(63, { state := .cal, calSeq := 255 })] } : State), 63, 255, by decide⟩,
   ⟨({ rdy with tb := { count := 300000 }, hl := [(63, { state := .load, loaded := true })] } : State), 63, by decide⟩,
   ⟨({ rdy with tb := { count := 300000 }, hl := [(63, { state := .train })] } : State), 63, by decide⟩,
   ⟨({ rdy with tb := { count := 300000 }, hl := [(63, { state := .train, lock := true })] } : State), 63, by decide⟩,
   ⟨({ rdy with tb := { count := 300000 }, hl := [(63, { state := .fault })] }.wr (Reg.HL_CTRL 63) 3 : State), 63, by decide⟩⟩

theorem test_witness_HeadLinkFaultsAndWaveforms :
    (∃ (s : State) (ch : Fin 64), (s.hlOf ch.val).lock = true ∧ (s.hlOf ch.val).state = .up) ∧
    (∃ (s : State) (ch : Fin 64), (s.hlOf ch.val).state = .up) ∧
    (∃ (s : State) (ch : Fin 64) (r : Word) (ht : Word), (s.hlOf ch.val).state = .up ∧ (s.hlOf ch.val).latOut = true ∧ (s.hlOf ch.val).lat = [] ∧ 16 < (r.toNat - ht.toNat : Int) - 2 * (s.hlOf ch.val).d) ∧
    (∃ (s : State) (ch : Fin 64) (bs : List Block), (s.hlOf ch.val).state ≠ .off ∧ returnGood bs = false ∧ (s.hlOf ch.val).badRun < 3) ∧
    (∃ (s : State) (ch : Fin 64) (bs : List Block), (s.hlOf ch.val).state ≠ .off ∧ returnGood bs = true ∧ returnLaid bs = false) ∧
    (∃ (s : State) (ch : Fin 64) (bs : List Block) (f : ReturnFrame), (s.hlOf ch.val).state ≠ .off ∧ returnGood bs = true ∧ returnLaid bs = true ∧ f = returnFrame bs ∧ f.reports = [] ∧ f.mismatch = false ∧ f.dmiss = false ∧ f.wiring = false ∧ f.used = (s.hlOf ch.val).used ∧ epochAbove f.keyEpoch s.twin.epoch = false ∧ f.keyActive = false ∧ s.twin.role = .off) ∧
    (∃ (s : State) (ch : Fin 64), s.dropped (Reg.HL_WDATA ch.val) = none) ∧
    (∃ (s : State) (ch : Fin 64), s.dropped (Reg.HL_WCTL ch.val) = none ∧ s.flag (Reg.HL_WCTL ch.val) 0 = false) ∧
    (∃ (s : State) (ch : Fin 64), s.dropped (Reg.HL_WCTL ch.val) = none ∧ s.flag (Reg.HL_WCTL ch.val) 0 = true) :=
  ⟨⟨({ rdy with tb := { count := 300000 }, hl := [(63, { state := .up, lock := true })] } : State), 63, by decide⟩,
   ⟨({ rdy with tb := { count := 300000 }, hl := [(63, { state := .up })] } : State), 63, by decide⟩,
   ⟨({ rdy with tb := { count := 300000 }, hl := [(63, { state := .up, latOut := true })] } : State), 63, 17, 0, by decide⟩,
   ⟨({ rdy with tb := { count := 300000 }, hl := [(63, { state := .up, badRun := 2 })] } : State), 63, [], by decide⟩,
   ⟨({ rdy with tb := { count := 300000 }, hl := [(63, { state := .up })] } : State), 63, ret 0, by decide, ret_good 0, by decide⟩,
   ⟨({ rdy with tb := { count := 300000 }, hl := [(63, { state := .up })] } : State), 63, ret 0xE1, _, by decide, ret_good _, by decide, rfl, ret_reports _, by decide⟩,
   ⟨rdy, 63, by decide⟩,
   ⟨rdy, 63, by decide⟩,
   ⟨rdy.wr (Reg.HL_WCTL 63) 1, 63, by decide⟩⟩

theorem test_witness_SchedulerEntriesAreWrittenAndFire :
    (∃ (s : State), s.dropped Reg.SCHED_CMD = none) ∧
    (∃ (s : State) (e : Fin 2048), (s.schedOf e.val).en = true ∧ (s.schedOf e.val).dom = false ∧ (s.schedOf e.val).time.toNat ≤ s.now.toNat ∧ s.dotRuns = true ∧ s.schedTurn e.val = true ∧ (s.schedOf e.val).passed = false ∧ bits (s.schedOf e.val).w3 27 24 = 5 ∧ s.domOn 7 = true ∧ s.twin.role ≠ .standby) ∧
    (∃ (s : State) (e : Fin 2048), ((s.schedOf e.val).en = false ∨ ((s.schedOf e.val).dom = false ∧ s.now.toNat < (s.schedOf e.val).time.toNat) ∨ s.schedTurn e.val = false)) :=
  ⟨⟨rdy, by decide⟩,
   ⟨({ rdy with pos := { sched := [(2047, { w3 := 0x85000000 })] } } : State), 2047, by decide⟩,
   ⟨({ rdy with pos := { sched := [(2047, { w0 := 1, w3 := 0x80000000 })] } } : State), 2047, by decide⟩⟩

theorem test_witness_PinsAndInhibitAct :
    (∃ (s : State) (pin : Fin 16) (p : Pulse), s.pos.pulses.get none pin.val = some p ∧ p.endAt.toNat ≤ s.count.toNat) ∧
    (∃ (s : State) (u : Fin 16) (src : Fin 32) (rising : Bool) (run : Nat), s.dotRuns = true ∧ s.capTakes (s.rd (Reg.CAP_CTRL u.val)) src.val rising run = true ∧ (s.capOf u.val).valid = false) ∧
    (∃ (s : State) (u : Fin 16) (src : Fin 32) (rising : Bool) (run : Nat), s.dotRuns = true ∧ s.capTakes (s.rd (Reg.CAP_CTRL u.val)) src.val rising run = true ∧ (s.capOf u.val).valid = true) ∧
    (∃ (s : State) (u : Fin 16) (src : Fin 32) (rising : Bool), (s.flag (Reg.CAP_CTRL u.val) 0 = false ∨ s.fld (Reg.CAP_CTRL u.val) 5 1 ≠ src.val ∨ (s.fld (Reg.CAP_CTRL u.val) 7 6 = 0 ∧ rising = false) ∨ (s.fld (Reg.CAP_CTRL u.val) 7 6 = 1 ∧ rising = true))) ∧
    (∃ (ctl : Word) (src : Nat) (rising : Bool), bit ctl 0 = true ∧ bits ctl 5 1 = src ∧ (bits ctl 7 6 = 0 → rising = true) ∧ (bits ctl 7 6 = 1 → rising = false) ∧ src = 0) ∧
    (∃ (ctl : Word) (src : Nat) (rising : Bool), bit ctl 0 = true ∧ bits ctl 5 1 = src ∧ (bits ctl 7 6 = 0 → rising = true) ∧ (bits ctl 7 6 = 1 → rising = false) ∧ 1 ≤ src ∧ src ≤ 8) ∧
    (∃ (ctl : Word) (src : Nat) (rising : Bool), bit ctl 0 = true ∧ bits ctl 5 1 = src ∧ (bits ctl 7 6 = 0 → rising = true) ∧ (bits ctl 7 6 = 1 → rising = false) ∧ 16 ≤ src) ∧
    (∃ (s : State), s.pos.pi.low = false ∧ s.pos.pi.latch = false) ∧
    (∃ (s : State), s.pos.pi.low = false ∧ s.pos.pi.latch = true) ∧
    (∃ (s : State), s.pos.pi.low = true) ∧
    (∃ (s : State), s.dropped Reg.PI_CTRL = none) ∧
    (∃ (s : State), s.dotRuns = true ∧ s.pos.pi.latch = true ∧ s.pos.pi.low = false ∧ 1280 ≤ (s.count - s.pos.pi.riseAt).toNat ∧ (s.flag Reg.PI_CTRL 0 = true ∨ s.pos.pi.resumed = true) ∧ s.count = s.pos.frame.next) ∧
    (∃ (s : State), (s.pos.pi.latch = false ∨ s.pos.pi.low = true ∨ (s.count - s.pos.pi.riseAt).toNat < 1280 ∨ (s.flag Reg.PI_CTRL 0 = false ∧ s.pos.pi.resumed = false) ∨ s.count ≠ s.pos.frame.next)) ∧
    (∃ (s : State), s.domOn 7 = true) ∧
    (∃ (s : State) (pin : Fin 16), (∀ n ∈ s.ctxNums, s.fld (Reg.CTX_CFG n) 20 16 ≠ 16 + pin.val)) ∧
    (∃ (s : State) (w : Fin 2097152) (flip : Code304) (e : Code304), s.bufRuns = true ∧ s.buf.ready = true ∧ s.flag Reg.BUF_SCRUB_CTRL 0 = true ∧ w.val = s.buf.scrub ∧ e = s.buf.flips.get 0 w.val ^^^ flip ∧ e = 0 ∧ w.val + 1 < 2097152) ∧
    (∃ (s : State) (w : Fin 2097152) (flip : Code304) (e : Code304), s.bufRuns = true ∧ s.buf.ready = true ∧ s.flag Reg.BUF_SCRUB_CTRL 0 = true ∧ w.val = s.buf.scrub ∧ e = s.buf.flips.get 0 w.val ^^^ flip ∧ e = 0 ∧ w.val + 1 = 2097152) ∧
    (∃ (s : State) (w : Fin 2097152) (flip : Code304) (e : Code304), s.bufRuns = true ∧ s.buf.ready = true ∧ s.flag Reg.BUF_SCRUB_CTRL 0 = true ∧ w.val = s.buf.scrub ∧ e = s.buf.flips.get 0 w.val ^^^ flip ∧ 1 ≤ symbols e ∧ symbols e ≤ 3 ∧ w.val + 1 < 2097152) ∧
    (∃ (s : State) (w : Fin 2097152) (flip : Code304) (e : Code304), s.bufRuns = true ∧ s.buf.ready = true ∧ s.flag Reg.BUF_SCRUB_CTRL 0 = true ∧ w.val = s.buf.scrub ∧ e = s.buf.flips.get 0 w.val ^^^ flip ∧ 4 ≤ symbols e ∧ w.val + 1 < 2097152) :=
  ⟨⟨({ rdy with pos := { pulses := [(15, some {})] } } : State), 15, ({} : Pulse), by decide⟩,
   ⟨rdy.wr (Reg.CAP_CTRL 15) 0xBF, 15, 31, true, 0, by decide⟩,
   ⟨({ rdy with pos := { cap := [(15, { valid := true })] } }.wr (Reg.CAP_CTRL 15) 1 : State), 15, 0, true, 0, by decide⟩,
   ⟨rdy, 15, 31, true, by decide⟩,
   ⟨1, 0, true, by decide⟩,
   ⟨0x51, 8, false, by decide⟩,
   ⟨0xBF, 31, false, by decide⟩,
   ⟨rdy, by decide⟩,
   ⟨({ rdy with tb := { count := 0 }, pos := { frame := { next := 640 }, pi := { latch := true } } } : State), by decide⟩,
   ⟨({ rdy with tb := { count := 0 }, pos := { frame := { next := 640 }, pi := { low := true } } } : State), by decide⟩,
   ⟨rdy, by decide⟩,
   ⟨({ rdy with tb := { count := 1280 }, pos := { frame := { next := 1280 }, pi := { latch := true, resumed := true } } } : State), by decide⟩,
   ⟨({ rdy with tb := { count := 1279 }, pos := { frame := { next := 1919 }, pi := { latch := true, resumed := true } } } : State), by decide⟩,
   ⟨rdy, by decide⟩,
   ⟨rdy, 15, by decide⟩,
   ⟨({ rdy with buf := { ready := true, scrub := 2097150 } }.wr Reg.BUF_SCRUB_CTRL 1 : State), 2097150, 0, 0, by decide +kernel⟩,
   ⟨({ rdy with buf := { ready := true, scrub := 2097151 } }.wr Reg.BUF_SCRUB_CTRL 1 : State), 2097151, 0, 0, by decide +kernel⟩,
   ⟨({ rdy with buf := { ready := true, scrub := 2097150 } }.wr Reg.BUF_SCRUB_CTRL 1 : State), 2097150, 0x010101, 0x010101, by decide +kernel⟩,
   ⟨({ rdy with buf := { ready := true, scrub := 0 } }.wr Reg.BUF_SCRUB_CTRL 1 : State), 0, 0x01010101, 0x01010101, by decide +kernel⟩⟩

theorem test_witness_FabricPortsComeUpAndCheckPackets :
    (∃ (s : State) (k : Fin 8), s.domOn 6 = true ∧ s.portEn k.val = true ∧ (s.portOf k.val).lock = false) ∧
    (∃ (s : State) (k : Fin 8) (a : Block) (b : Block) (sn : DWord), s.domOn 6 = true ∧ s.portEn k.val = true ∧ (s.portOf k.val).lock = true ∧ (s.portOf k.val).up = false ∧ (s.portOf k.val).loop = false ∧ linkSerial a b = some sn ∧ sn = Config.serial) ∧
    (∃ (s : State) (k : Fin 8) (a : Block) (b : Block) (sn : DWord), s.domOn 6 = true ∧ s.portEn k.val = true ∧ (s.portOf k.val).lock = true ∧ (s.portOf k.val).up = false ∧ (s.portOf k.val).loop = false ∧ linkSerial a b = some sn ∧ sn ≠ Config.serial) ∧
    (∃ (a : Block) (b : Block), linkSerial a b = none) ∧
    (∃ (s : State) (k : Fin 8), s.domOn 6 = true ∧ ((s.portPump k.val).portOf k.val).up = false) ∧
    (∃ (s : State) (k : Fin 8), s.domOn 6 = true ∧ ((s.portPump k.val).portOf k.val).up = true) ∧
    (∃ (s : State) (k : Fin 8) (b : Block), s.portUp k.val = true ∧ blkType b = some 0x4B ∧ blkField b 9 8 ≠ 0) ∧
    (∃ (s : State) (k : Fin 8) (b : Block), s.portUp k.val = true ∧ blkType b = some 0x4B ∧ blkField b 9 8 ≠ 0 ∧ (s.portOf k.val).wait0 = [] ∧ (s.portOf k.val).cur = [] ∧ (s.portOf k.val).ctl = [] ∧ (s.portOf k.val).wait = []) ∧
    (∃ (s : State) (k : Nat) (bs : List Block) (q : Packet) (mine : Packet → Bool) (ok : Packet → Bool), s.handsOver k bs q q.typ.toNat = true ∧ mine q = true ∧ ok q = true) ∧
    (∃ (s : State) (k : Nat) (bs : List Block), (s.portUp k = false ∨ packetOf bs = none)) ∧
    (∃ (s : State) (k : Nat) (bs : List Block) (q : Packet) (mine : Packet → Bool) (ok : Packet → Bool), s.portUp k = true ∧ packetOf bs = some q ∧ q.tc ≠ 0 ∧ (typeOk q.typ.toNat q.tc.toNat = false ∨ (mine q = true ∧ ok q = false))) ∧
    (∃ (s : State) (k : Nat) (bs : List Block) (q : Packet) (mine : Packet → Bool) (ok : Packet → Bool), s.portUp k = true ∧ packetOf bs = some q ∧ q.tc = 3 ∧ typeOk q.typ.toNat 3 = true ∧ mine q = true ∧ ok q = true ∧ q.bad = true) ∧
    (∃ (s : State) (k : Nat) (bs : List Block) (q : Packet) (mine : Packet → Bool), s.portUp k = true ∧ packetOf bs = some q ∧ q.tc = 0 ∧ mine q = true ∧ (s.tc0Fits k q).2 = false) ∧
    (∃ (s : State) (k : Nat) (bs : List Block) (q : Packet) (mine : Packet → Bool) (ok : Packet → Bool), s.portUp k = true ∧ packetOf bs = some q ∧ q.tc ≠ 0 ∧ typeOk q.typ.toNat q.tc.toNat = true ∧ mine q = true ∧ ok q = true ∧ q.bad = false ∧ q.dest = 255 ∧ (s.giveCredit k q).newSeq q = none) ∧
    (∃ (s : State) (k : Nat) (bs : List Block) (q : Packet) (mine : Packet → Bool) (ok : Packet → Bool), s.portUp k = true ∧ packetOf bs = some q ∧ q.tc ≠ 0 ∧ typeOk q.typ.toNat q.tc.toNat = true ∧ mine q = true ∧ ok q = true ∧ q.bad = false ∧ q.dest ≠ 255 ∧ s.fabOn = true ∧ s.fab.addr ≠ 0 ∧ q.dest.toNat ≠ s.fab.addr) ∧
    (∃ (k : Nat) (j : Nat), j ≠ k) :=
  ⟨⟨({ rdy with fab := { port := [(7, {  })] } }.wr Reg.FAB_PORT_CTRL 0x80 : State), 7, by decide⟩,
   ⟨({ rdy with fab := { port := [(7, { lock := true })] } }.wr Reg.FAB_PORT_CTRL 0x80 : State), 7, _, _, Config.serial, by decide, by decide, by decide, by decide, by decide, linkSerial_linkPair 7 (by decide) _, rfl⟩,
   ⟨({ rdy with fab := { port := [(7, { lock := true })] } }.wr Reg.FAB_PORT_CTRL 0x80 : State), 7, _, _, Config.serial + 1, by decide, by decide, by decide, by decide, by decide, linkSerial_linkPair 7 (by decide) _, serial_next_ne⟩,
   ⟨idleBlock, idleBlock, by decide⟩,
   ⟨rdy, 7, by decide⟩,
   ⟨({ rdy with fab := { port := [(7, { up := true })] } }.wr Reg.FAB_PORT_CTRL 0x80 : State), 7, by decide⟩,
   ⟨({ rdy with fab := { port := [(7, { up := true })] } }.wr Reg.FAB_PORT_CTRL 0x80 : State), 7, creditBlock 3 65535, by decide⟩,
   ⟨({ rdy with fab := { port := [(7, { up := true })] } }.wr Reg.FAB_PORT_CTRL 0x80 : State), 7, creditBlock 3 65535, by decide⟩,
   ⟨fb { addr := 1 }, 7, _, pkt 3 0x01 [], fun _ => true, fun _ => true, hands (by decide) (by decide), rfl, rfl⟩,
   ⟨fb { addr := 1 }, 7, [], by decide⟩,
   ⟨fb { addr := 1 }, 7, _, pkt 3 0x01 [], fun _ => true, fun _ => false, by decide, packetOf_wire _ (by decide), by decide, .inr ⟨rfl, rfl⟩⟩,
   ⟨fb { addr := 1 }, 7, _, ({ pkt 3 0x01 [] with bad := true } : Packet), fun _ => true, fun _ => true, by decide, packetOf_wire _ (by decide), by decide⟩,
   ⟨({ fb {} with fab := { port := [(7, { up := true, tc0 := [(10000000000000, 255)] })] } } : State), 7, _, pkt 0 0x10 [], fun _ => true, by decide, packetOf_wire _ (by decide), by decide⟩,
   ⟨fb { addr := 1, seen := [(11, [0])] }, 7, _, ({ pkt 3 0x01 [] with dest := 255 } : Packet), fun _ => true, fun _ => true, by decide, packetOf_wire _ (by decide), by decide⟩,
   ⟨fb { addr := 3 }, 7, _, pkt 3 0x01 [], fun _ => true, fun _ => true, by decide, packetOf_wire _ (by decide), by decide⟩,
   ⟨7, 6, by decide⟩⟩

theorem test_witness_DiscoveryPacketsAct :
    (∃ (s : State) (k : Fin 8) (bs : List Block) (q : Packet) (d : Disc), s.handsOver k.val bs q 1 = true ∧ q.data.length = 10 ∧ (s.arrives k.val q).fab.disc = some d) ∧
    (∃ (s : State) (k : Fin 8) (bs : List Block) (q : Packet), s.handsOver k.val bs q 3 = true ∧ q.data.length = 1) ∧
    (∃ (s : State) (k : Fin 8) (bs : List Block) (q : Packet) (d : Disc), s.handsOver k.val bs q 4 = true ∧ q.data.length = 66 ∧ (s.arrives k.val q).fab.disc = some d ∧ q.data.getD 0 0 = Config.serial) ∧
    (∃ (s : State) (k : Fin 8) (bs : List Block) (q : Packet) (d : Disc), s.handsOver k.val bs q 4 = true ∧ q.data.length = 66 ∧ (s.arrives k.val q).fab.disc = some d ∧ q.data.getD 0 0 ≠ Config.serial) ∧
    (∃ (s : State) (k : Fin 8) (bs : List Block) (q : Packet) (d : Disc), s.handsOver k.val bs q 5 = true ∧ q.data.length = 1 ∧ (s.arrives k.val q).fab.disc = some d) ∧
    (∃ (s : State) (k : Fin 8) (bs : List Block) (q : Packet) (d : Disc), s.handsOver k.val bs q 6 = true ∧ q.data.length = 2 ∧ (s.arrives k.val q).fab.disc = some d) ∧
    (∃ (s : State) (k : Fin 8) (bs : List Block) (q : Packet), s.handsOver k.val bs q 2 = true ∧ q.data.length = 1) ∧
    (∃ (s : State) (k : Fin 8) (bs : List Block) (q : Packet), s.handsOver k.val bs q 7 = true ∧ q.data.length = 1) ∧
    (∃ (s : State) (k : Fin 8) (bs : List Block) (q : Packet) (typ : Nat), s.handsOver k.val bs q typ = true ∧ (s.arrives k.val q).fab.disc = none ∧ typ = 1 ∧ q.data.length = 10) ∧
    (∃ (s : State) (k : Fin 8) (bs : List Block) (q : Packet) (typ : Nat), s.handsOver k.val bs q typ = true ∧ (s.arrives k.val q).fab.disc = none ∧ typ = 4 ∧ q.data.length = 66) ∧
    (∃ (s : State) (k : Fin 8) (bs : List Block) (q : Packet) (typ : Nat), s.handsOver k.val bs q typ = true ∧ (s.arrives k.val q).fab.disc = none ∧ typ = 5 ∧ q.data.length = 1) :=
  ⟨⟨fb { addr := 1, disc := some {} }, 7, _, pkt 3 1 (List.replicate 10 0), {}, hands (by decide) (by decide), by decide⟩,
   ⟨fb { addr := 1 }, 7, _, pkt 3 3 [0], hands (by decide) (by decide), by decide⟩,
   ⟨fb { addr := 1, disc := some {} }, 7, _, pkt 3 4 (Config.serial :: List.replicate 65 0), {}, hands (by simp [pkt]) (by rfl), by simp [pkt], by rfl, by rfl⟩,
   ⟨fb { addr := 1, disc := some {} }, 7, _, pkt 3 4 ((Config.serial + 1) :: List.replicate 65 0), {}, hands (by simp [pkt]) (by rfl), by simp [pkt], by rfl, serial_next_ne⟩,
   ⟨fb { addr := 1, disc := some {} }, 7, _, pkt 3 5 [0], {}, hands (by decide) (by decide), by decide⟩,
   ⟨fb { addr := 1, disc := some {} }, 7, _, pkt 3 6 [0, 0], {}, hands (by decide) (by decide), by decide⟩,
   ⟨fb { addr := 1 }, 7, _, pkt 3 2 [0], hands (by decide) (by decide), by decide⟩,
   ⟨fb { addr := 1 }, 7, _, pkt 3 7 [0], hands (by decide) (by decide), by decide⟩,
   ⟨fb { addr := 1 }, 7, _, pkt 3 1 (List.replicate 10 0), 1, hands (by decide) (by decide), by decide⟩,
   ⟨fb { addr := 1 }, 7, _, pkt 3 4 (List.replicate 66 0), 4, hands (by decide) (by decide), by decide⟩,
   ⟨fb { addr := 1 }, 7, _, pkt 3 5 [0], 5, hands (by decide) (by decide), by decide⟩⟩

theorem test_witness_DiscoveryStepsInTime :
    (∃ (s : State) (d : Disc), s.fab.disc = some d ∧ d.done = none ∧ d.helloAt.toNat + 200000 ≤ s.count.toNat) ∧
    (∃ (s : State) (d : Disc), s.fab.disc = some d ∧ d.coord = none ∧ d.newAt.toNat + 4000000 ≤ s.count.toNat ∧ s.fld Reg.FAB_CFG 15 8 = 0 ∧ ((s.hellosNow d).head?.map Prod.fst).getD Config.serial ≠ Config.serial) ∧
    (∃ (s : State) (d : Disc), s.fab.disc = some d ∧ d.coord = none ∧ d.newAt.toNat + 4000000 ≤ s.count.toNat ∧ s.fld Reg.FAB_CFG 15 8 = 0 ∧ ((s.hellosNow d).head?.map Prod.fst).getD Config.serial = Config.serial) ∧
    (∃ (s : State) (d : Disc), s.fab.disc = some d ∧ d.unacked ≠ [] ∧ d.routeAt.toNat + 1000000 ≤ s.count.toNat) ∧
    (∃ (s : State) (d : Disc) (gen : Word) (tsw : DWord), s.fab.disc = some d ∧ d.done = some (gen, tsw) ∧ tsw.toNat ≤ s.now.toNat) ∧
    (∃ (s : State) (d : Disc) (gen : Word) (tsw : DWord), s.fab.disc = some d ∧ d.done = some (gen, tsw) ∧ s.now.toNat < tsw.toNat) ∧
    (∃ (s : State) (d : Disc), s.fab.disc = some d ∧ d.done = none ∧ d.start.toNat + 40000000 ≤ s.count.toNat) ∧
    (∃ (s : State), s.fab.coord = some Config.serial ∧ s.fab.beaconTx.toNat + 1000000 ≤ s.count.toNat) ∧
    (∃ (s : State) (c : DWord), s.fabOn = true ∧ s.fab.coord = some c ∧ c ≠ Config.serial ∧ s.fab.lost = false ∧ s.fab.beaconRx.toNat + 4000000 ≤ s.count.toNat ∧ s.flag Reg.FAB_CFG 1 = false) ∧
    (∃ (s : State) (t : DWord), s.fab.hold = some t ∧ t.toNat ≤ s.count.toNat ∧ s.fab.coord = some Config.serial ∧ s.flag Reg.FAB_CFG 1 = true ∧ s.fab.disc = none) ∧
    (∃ (s : State) (t : DWord), s.fab.hold = some t ∧ (s.count.toNat < t.toNat ∨ s.fab.disc.isSome = true)) :=
  ⟨⟨({ rdy with tb := { count := 200000 }, fab := { disc := some {} } } : State), ({} : Disc), by decide⟩,
   ⟨({ rdy with tb := { count := 4000000 }, fab := { disc := some { hellos := [(Config.serial + 1, [])] } } } : State), ({ hellos := [(Config.serial + 1, [])] } : Disc), by rfl, by rfl, by decide, by decide, by simp [State.hellosNow]⟩,
   ⟨({ rdy with tb := { count := 4000000 }, fab := { disc := some { hellos := [(Config.serial, rdy.helloData)] } } } : State), ({ hellos := [(Config.serial, rdy.helloData)] } : Disc), by rfl, by rfl, by decide, by decide, by simp [State.hellosNow]⟩,
   ⟨({ rdy with tb := { count := 1000000 }, fab := { disc := some { unacked := [0] } } } : State), ({ unacked := [0] } : Disc), by decide⟩,
   ⟨({ rdy with tb := { count := 5 }, fab := { disc := some { done := some (0, 5) } } } : State), ({ done := some (0, 5) } : Disc), 0, 5, by decide⟩,
   ⟨({ rdy with tb := { count := 4 }, fab := { disc := some { done := some (0, 5) } } } : State), ({ done := some (0, 5) } : Disc), 0, 5, by decide⟩,
   ⟨({ rdy with tb := { count := 40000000 }, fab := { disc := some {} } } : State), ({} : Disc), by decide⟩,
   ⟨({ rdy with tb := { count := 1000000 }, fab := { coord := some Config.serial } } : State), by and_intros <;> rfl⟩,
   ⟨fb { coord := some (Config.serial + 1) }, Config.serial + 1, by and_intros <;> first | rfl | decide | exact serial_next_ne⟩,
   ⟨(fb { coord := some Config.serial, hold := some 0 }).wr Reg.FAB_CFG 3, 0, by and_intros <;> first | rfl | decide⟩,
   ⟨({ rdy with fab := { hold := some 1 } } : State), 1, by decide⟩⟩

theorem test_witness_FabricDataAndSnapshots :
    (∃ (s : State) (k : Fin 8) (bs : List Block) (q : Packet), s.handsOver k.val bs q 0x10 = true ∧ q.data.length = 3) ∧
    (∃ (s : State) (k : Fin 8) (bs : List Block) (q : Packet), s.handsOver k.val bs q 0x11 = true ∧ q.data.length = 2 ∧ (s.arrives k.val q).flag Reg.FAB_ZSRC 15 = true ∧ (s.arrives k.val q).fld Reg.FAB_ZSRC 7 0 = q.src.toNat ∧ (s.arrives k.val q).fld Reg.FAB_ZSRC 10 8 = (q.data.getD 1 0).toNat / 2 ^ 32 % 8) ∧
    (∃ (s : State) (k : Fin 8) (bs : List Block) (q : Packet) (ch : Nat), s.handsOver k.val bs q 0x30 = true ∧ imageLen q = true ∧ ch = (q.data.getD 0 0).toNat / 2 ^ 32 % 64 ∧ ((s.arrives k.val q).flag (Reg.FAB_FWD_RX ch) 15 = false ∨ (s.arrives k.val q).fld (Reg.FAB_FWD_RX ch) 7 0 ≠ q.src.toNat)) ∧
    (∃ (s : State) (k : Fin 8) (bs : List Block) (q : Packet) (ch : Nat), s.handsOver k.val bs q 0x30 = true ∧ imageLen q = true ∧ ch = (q.data.getD 0 0).toNat / 2 ^ 32 % 64 ∧ (s.arrives k.val q).flag (Reg.FAB_FWD_RX ch) 15 = true ∧ (s.arrives k.val q).fld (Reg.FAB_FWD_RX ch) 7 0 = q.src.toNat) ∧
    (∃ (s : State) (k : Fin 8) (bs : List Block) (q : Packet), s.handsOver k.val bs q 0x12 = true ∧ q.data.length = 2) ∧
    (∃ (s : State) (v : Word), s.dropped Reg.FAB_SNAP_CMD = none ∧ bit v 8 = true ∧ bit v 9 = false ∧ (s.rd64 Reg.FAB_SNAP_TIME).toNat < s.now.toNat + 1000) ∧
    (∃ (s : State) (v : Word), s.dropped Reg.FAB_SNAP_CMD = none ∧ bit v 8 = true ∧ bit v 9 = false ∧ s.now.toNat + 1000 ≤ (s.rd64 Reg.FAB_SNAP_TIME).toNat) ∧
    (∃ (s : State) (v : Word), s.dropped Reg.FAB_SNAP_CMD = none ∧ bit v 9 = true ∧ bit v 8 = false) ∧
    (∃ (s : State), s.flag Reg.FAB_SNAP_STATUS 1 = true) ∧
    (∃ (s : State) (t : DWord), s.flag Reg.FAB_SNAP_STATUS 1 = false ∧ s.now.toNat ≤ t.toNat) ∧
    (∃ (s : State) (a : SnapArm) (u : State), s.flag Reg.FAB_SNAP_STATUS 1 = false ∧ s.fab.arm = some a ∧ u = (s.wr Reg.FAB_SNAP_STATUS (s.rd Reg.FAB_SNAP_STATUS ||| 8)).raise 0x090B 0 [wd a.tag, wd a.origin]) ∧
    (∃ (s : State) (a : SnapArm), s.fab.arm = some a ∧ s.domOn 6 = true ∧ a.time.toNat ≤ s.now.toNat) :=
  ⟨⟨fb { addr := 1 }, 7, _, pkt 0 0x10 [0, 0, 0], hands (by decide) (by decide), by decide⟩,
   ⟨(fb { addr := 1 }).wr Reg.FAB_ZSRC 0x8702, 7, _, pkt 0 0x11 [0, 0x700000000], hands (by decide) (by decide), by decide⟩,
   ⟨fb { addr := 1 }, 7, _, pkt 2 0x30 [0x3F00000000], 63, hands (by decide) (by decide), by decide⟩,
   ⟨(fb { addr := 1 }).wr (Reg.FAB_FWD_RX 63) 0x8002, 7, _, pkt 2 0x30 [0x3F00000000], 63, hands (by decide) (by decide), by decide⟩,
   ⟨fb { addr := 1 }, 7, _, pkt 0 0x12 [0, 0], hands (by decide) (by decide), by decide⟩,
   ⟨rdy.wr (Reg.FAB_SNAP_TIME) 999, 0x1FF, by decide⟩,
   ⟨rdy.wr (Reg.FAB_SNAP_TIME) 1000, 0x1FF, by decide⟩,
   ⟨rdy, 0x200, by decide⟩,
   ⟨rdy.wr Reg.FAB_SNAP_STATUS 2, by decide⟩,
   ⟨rdy, 0, by decide⟩,
   ⟨({ rdy with fab := { arm := some { time := 5, tag := 1, origin := 2 } } } : State), ({ time := 5, tag := 1, origin := 2 } : SnapArm), _, by decide, by decide, rfl⟩,
   ⟨({ rdy with fab := { arm := some {} } } : State), ({} : SnapArm), by decide⟩⟩

theorem test_witness_TwinMessagesAndHeartbeats :
    (∃ (s : State) (q : Packet), hi32 (q.data.getD 0 0) = s.twin.epoch) ∧
    (∃ (s : State) (q : Packet), 0 < (s.twin.epoch - hi32 (q.data.getD 0 0)).toInt) ∧
    (∃ (s : State) (q : Packet), 0 < (hi32 (q.data.getD 0 0) - s.twin.epoch).toInt ∧ (s.twin.epoch - hi32 (q.data.getD 0 0)).toInt < 0 ∧ s.twin.role ≠ .active) ∧
    (∃ (s : State) (k : Nat) (bs : List Block) (q : Packet) (kind : Nat) (len : Packet → Bool), s.handsOver k bs q 0x20 = true ∧ twinKind q = kind ∧ len q = true ∧ (q.src.toNat ≠ (s.arrives k q).twin.partnerAddr ∨ (s.arrives k q).flag Reg.TWIN_CFG 0 = false)) ∧
    (∃ (s : State) (k : Nat) (bs : List Block) (q : Packet) (kind : Nat) (len : Packet → Bool), 1 ≤ kind ∧ kind ≤ 8 ∧ s.portUp k = true ∧ packetOf bs = some q ∧ q.tc = 1 ∧ q.typ = 0x20 ∧ (twinKind q = 0 ∨ 8 < twinKind q ∨ (twinKind q = kind ∧ len q = false))) ∧
    (∃ (s : State) (k : Fin 8) (bs : List Block) (q : Packet), s.twinHands k.val bs q 7 = true ∧ q.data.length = 2) ∧
    (∃ (s : State), s.flag Reg.TWIN_CFG 0 = true ∧ s.twin.hbTx.toNat + 50000 ≤ s.count.toNat) ∧
    (∃ (s : State) (k : Fin 8) (bs : List Block) (q : Packet), s.twinHands k.val bs q 1 = true ∧ q.data.length = 24 ∧ s.twin.role = .active ∧ (q.data.getD 0 0).getLsbD 5 = true ∧ s.twin.hbLost = false) ∧
    (∃ (s : State), s.twin.role ≠ .off ∧ s.twin.partner = true ∧ s.twin.hbRx.toNat + s.fld Reg.TWIN_CFG 5 2 * 50000 ≤ s.count.toNat) ∧
    (∃ (s : State) (t : DWord), s.twin.lostAt = some t ∧ t.toNat + 100000 ≤ s.count.toNat ∧ s.twin.role = .standby ∧ s.twin.taking = none ∧ s.power.unitB = false ∧ s.headsServed.any (fun ch => s.flag (Reg.HL_PORT ch) 3 && epochAbove (s.rd (Reg.HL_KEY ch)) s.twin.epoch) = false) ∧
    (∃ (s : State) (t : DWord), s.twin.lostAt = some t ∧ t.toNat + 100000 ≤ s.count.toNat ∧ s.twin.role = .active) ∧
    (∃ (s : State) (t : DWord), s.twin.startWait = some t ∧ t.toNat + s.fld Reg.TWIN_CFG 15 8 * 1000000 ≤ s.count.toNat) :=
  ⟨⟨rdy, pk, by decide⟩,
   ⟨({ rdy with twin := { epoch := 1 } } : State), pk, by decide⟩,
   ⟨rdy, pkt 1 0x20 [0x100000000], by decide⟩,
   ⟨fb { addr := 1 }, 7, _, twm 1 2, 1, fun _ => true, hands (by decide) (by decide), by decide, rfl, by decide⟩,
   ⟨fb { addr := 1 }, 7, _, twm 1 2, 1, fun _ => false, by decide, by decide, by decide, packetOf_wire _ (by decide), by decide, by decide, .inr (.inr ⟨by decide, rfl⟩)⟩,
   ⟨fbq { addr := 1 } { partnerAddr := 2, role := .standby }, 7, _, twm 7 2, twhands (by decide) (by decide) (by decide), by decide⟩,
   ⟨({ rdy with tb := { count := 50000 } }.wr Reg.TWIN_CFG 1 : State), by decide⟩,
   ⟨fbq { addr := 1 } { partnerAddr := 2, role := .active }, 7, _, twm 0x21 24, twhands (by decide) (by decide) (by decide), by decide⟩,
   ⟨({ rdy with tb := { count := 50000 }, twin := { role := .standby, partner := true } }.wr Reg.TWIN_CFG 4 : State), by decide⟩,
   ⟨({ rdy with tb := { count := 100000 }, twin := { role := .standby, lostAt := some 0 } } : State), 0, by decide⟩,
   ⟨({ rdy with tb := { count := 100000 }, twin := { role := .active, lostAt := some 0 } } : State), 0, by decide⟩,
   ⟨({ rdy with tb := { count := 1000000 }, twin := { startWait := some 0 } }.wr Reg.TWIN_CFG 0x100 : State), 0, by decide⟩⟩

theorem test_witness_TakeoverAndSwap :
    (∃ (s : State) (c : Nat), s.twin.taking = some c ∧ s.twin.role = .standby ∧ s.count + 640 = s.pos.frame.next) ∧
    (∃ (s : State) (c : Nat), s.twin.taking = some c ∧ s.count + 640 ≠ s.pos.frame.next) ∧
    (∃ (s : State) (m : Word), m = (if 0 < (s.twin.seen - s.twin.epoch).toInt then s.twin.seen else s.twin.epoch)) ∧
    (∃ (s : State), s.twin.role = .active ∧ s.twin.postHold = true ∧ s.twin.tookAt.toNat + 300000 ≤ s.now.toNat) ∧
    (∃ (s : State), s.flag Reg.TWIN_CFG 1 = true ∧ s.twin.chgAt.toNat + s.fld Reg.TWIN_CFG 26 16 * 60000000000 ≤ s.count.toNat ∧ s.twin.role = .active ∧ s.twin.swap = none) ∧
    (∃ (s : State), s.dropped Reg.TWIN_SWAP_CMD = none ∧ s.twin.role = .active ∧ s.twin.swap = none) ∧
    (∃ (s : State), s.dropped Reg.TWIN_SWAP_CMD = none ∧ s.twin.role ≠ .active) ∧
    (∃ (s : State) (w : Swap), s.dropped Reg.TWIN_SWAP_CMD = none ∧ s.twin.swap = some w ∧ w.sent = none) ∧
    (∃ (s : State) (w : Swap), s.dropped Reg.TWIN_SWAP_CMD = none ∧ s.twin.swap = some w ∧ w.sent.isSome = true) ∧
    (∃ (s : State) (w : Swap), s.twin.swap = some w ∧ w.deferred = false ∧ w.sent = none ∧ w.since.toNat + 60000000000 ≤ s.count.toNat ∧ s.redundant = false) :=
  ⟨⟨({ rdy with pos := { frame := { next := 640 } }, twin := { role := .standby, taking := some 1 } } : State), 1, by decide⟩,
   ⟨({ rdy with pos := { frame := { next := 641 } }, twin := { role := .standby, taking := some 1 } } : State), 1, by decide⟩,
   ⟨rdy, 0, by decide⟩,
   ⟨({ rdy with tb := { count := 300000 }, twin := { role := .active, postHold := true } } : State), by decide⟩,
   ⟨({ rdy with tb := { count := 60000000000 }, twin := { role := .active } }.wr Reg.TWIN_CFG 0x10002 : State), by decide⟩,
   ⟨({ rdy with tb := { count := 60000000000 }, twin := { role := .active } } : State), by decide⟩,
   ⟨({ rdy with tb := { count := 60000000000 }, twin := { role := .standby } } : State), by decide⟩,
   ⟨({ rdy with tb := { count := 60000000000 }, twin := { role := .active, swap := some {} } } : State), ({} : Swap), by decide⟩,
   ⟨({ rdy with tb := { count := 60000000000 }, twin := { role := .active, swap := some { sent := some 0 } } } : State), ({ sent := some 0 } : Swap), by decide⟩,
   ⟨({ rdy with tb := { count := 60000000000 }, twin := { role := .active, swap := some {} } } : State), ({} : Swap), by decide⟩⟩

theorem test_witness_StandbyTakesTheActivesMessages :
    (∃ (s : State) (k : Fin 8) (bs : List Block) (q : Packet), s.twinHands k.val bs q 2 = true ∧ 2 ≤ q.data.length ∧ q.data.length ≤ 1023 ∧ s.twin.role = .standby) ∧
    (∃ (s : State) (k : Fin 8) (bs : List Block) (q : Packet) (c : Word) (l : List (Nat × List DWord)), s.twinHands k.val bs q 3 = true ∧ q.data.length = 3 ∧ s.twin.role = .standby ∧ s.twin.stage = some (c, l) ∧ c ≠ lo32 (q.data.getD 1 0)) ∧
    (∃ (s : State) (k : Fin 8) (bs : List Block) (q : Packet) (n : Nat), s.twinHands k.val bs q 4 = true ∧ q.data.length = 4 ∧ s.twin.role = .standby ∧ n = bits (hi32 (q.data.getD 1 0)) 1 0 ∧ s.dotRuns = true ∧ s.prefEn n = true ∧ s.prefSrc n = 9) ∧
    (∃ (s : State) (k : Fin 8) (bs : List Block) (q : Packet), s.twinHands k.val bs q 5 = true ∧ 3 ≤ q.data.length ∧ q.data.length ≤ 10 ∧ s.twin.role = .standby ∧ (lo32 (q.data.getD 1 0) + 8 - s.pairFrame).toInt ≤ 0) ∧
    (∃ (s : State) (k : Fin 8) (bs : List Block) (q : Packet), s.twinHands k.val bs q 5 = true ∧ 3 ≤ q.data.length ∧ q.data.length ≤ 10 ∧ s.twin.role = .standby ∧ 0 < (lo32 (q.data.getD 1 0) + 8 - s.pairFrame).toInt) ∧
    (∃ (s : State) (k : Fin 8) (bs : List Block) (q : Packet), s.twinHands k.val bs q 6 = true ∧ q.data.length = 3 ∧ s.twin.role = .standby ∧ bits (lo32 (q.data.getD 1 0)) 9 8 ≠ 1 ∧ (hi32 (q.data.getD 1 0) - s.pairFrame).toInt ≤ 0) ∧
    (∃ (s : State) (k : Fin 8) (bs : List Block) (q : Packet), s.twinHands k.val bs q 6 = true ∧ q.data.length = 3 ∧ s.twin.role = .standby ∧ bits (lo32 (q.data.getD 1 0)) 9 8 ≠ 1 ∧ 0 < (hi32 (q.data.getD 1 0) - s.pairFrame).toInt) ∧
    (∃ (s : State) (k : Fin 8) (bs : List Block) (q : Packet), s.twinHands k.val bs q 8 = true ∧ q.data.length = 2 ∧ s.twin.role = .standby ∧ bits (lo32 (q.data.getD 1 0)) 1 0 = 1 ∧ s.twin.loaded = none) ∧
    (∃ (s : State) (k : Fin 8) (bs : List Block) (q : Packet) (w : Swap) (n : Word), s.twinHands k.val bs q 8 = true ∧ q.data.length = 2 ∧ s.twin.role = .active ∧ bits (lo32 (q.data.getD 1 0)) 1 0 = 2 ∧ s.twin.swap = some w ∧ w.sent = some n) :=
  ⟨⟨fbq { addr := 1 } { partnerAddr := 2, role := .standby, frameOfs := 100 }, 7, _, twm 2 1023, twhands (by decide +kernel) (by decide +kernel) (by decide +kernel), by decide +kernel⟩,
   ⟨fbq { addr := 1 } { partnerAddr := 2, role := .standby, frameOfs := 100, stage := some (1, []) }, 7, _, twm 3 3, 1, [], twhands (by decide) (by decide) (by decide), by decide⟩,
   ⟨(fbq { addr := 1 } { partnerAddr := 2, role := .standby, frameOfs := 100 }).wr (Reg.PREF_CTRL 3) 0x13, 7, _, pkt 1 0x20 [4, 0x300000000, 0, 0], 3, twhands (by decide) (by decide) (by decide), by decide⟩,
   ⟨fbq { addr := 1 } { partnerAddr := 2, role := .standby, frameOfs := 100 }, 7, _, pkt 1 0x20 ([5, 92] ++ List.replicate 8 0), twhands (by decide) (by decide) (by decide), by decide⟩,
   ⟨fbq { addr := 1 } { partnerAddr := 2, role := .standby, frameOfs := 100 }, 7, _, pkt 1 0x20 [5, 93, 0], twhands (by decide) (by decide) (by decide), by decide⟩,
   ⟨fbq { addr := 1 } { partnerAddr := 2, role := .standby, frameOfs := 100 }, 7, _, pkt 1 0x20 [6, 0x6400000000, 0], twhands (by decide) (by decide) (by decide), by decide⟩,
   ⟨fbq { addr := 1 } { partnerAddr := 2, role := .standby, frameOfs := 100 }, 7, _, pkt 1 0x20 [6, 0x6500000000, 0], twhands (by decide) (by decide) (by decide), by decide⟩,
   ⟨fbq { addr := 1 } { partnerAddr := 2, role := .standby, frameOfs := 100 }, 7, _, pkt 1 0x20 [8, 1], twhands (by decide) (by decide) (by decide), by decide⟩,
   ⟨fbq { addr := 1 } { partnerAddr := 2, role := .active, swap := some { sent := some 7 } }, 7, _, pkt 1 0x20 [8, 2], ({ sent := some 7 } : Swap), 7, twhands (by decide) (by decide) (by decide), by decide⟩⟩

theorem test_witness_ProgramsAndForces :
    (∃ (s : State), s.dropped Reg.CYC_CMD = none ∧ s.cyc.loading = false ∧ s.cyc.change = none) ∧
    (∃ (s : State), s.dropped Reg.CYC_CMD = none ∧ s.cyc.loading = true) ∧
    (∃ (s : State) (u : State) (hf : Bool) (rf : Bool) (h : List Word) (b : List Byte) (rest : List Byte) (r : Nat), s.cyc.loading = true ∧ s.ctlRuns = true ∧ s.readsWait .program = false ∧ b = padTo (s.cyc.image.2 - 256) 0 (rest.take (s.cyc.image.2 - 256)) ∧ r = loadResult h s.cyc.image.2 hf rf b ∧ u = s.loadReads hf h) ∧
    (∃ (s : State) (h : List Word), imageTooLarge h s.cyc.image.2 = true) ∧
    (∃ (s : State) (h : List Word), imageTooLarge h s.cyc.image.2 = false) ∧
    (∃ (s : State), (s.cyc.loading = false ∨ s.readsWait .program = true)) ∧
    (∃ (h : List Word) (len : Nat), imageTooLarge h len = true) ∧
    (∃ (h : List Word) (len : Nat), imageTooLarge h len = false) ∧
    (∃ (h : List Word) (len : Nat) (b : List Byte), imageTooLarge h len = false ∧ crc32c b ≠ nthW h 9) ∧
    (∃ (s : State), s.dropped Reg.CYC_CMD = none ∧ s.cyc.loading = false ∧ s.cyc.state ≠ .running) ∧
    (∃ (s : State) (p : Program) (q : Program), s.dropped Reg.CYC_CMD = none ∧ s.cyc.loading = false ∧ s.cyc.state = .running ∧ s.cyc.prog = some p ∧ s.cyc.pend = some q ∧ changeOk p q = true) ∧
    (∃ (s : State) (d : List Word), s.mgmtReady true = true ∧ descOp d = 0x12 ∧ mgmtReserved d [0xFFFFFFFF, 0xFFFFFFFF, 3] = false ∧ s.domOn 7 = false) ∧
    (∃ (s : State) (d : List Word), s.mgmtReady true = true ∧ descOp d = 0x12 ∧ mgmtReserved d [0xFFFFFFFF, 0xFFFFFFFF, 3] = false ∧ s.domOn 7 = true ∧ bits (nthW d 2) 31 24 = 7) ∧
    (∃ (s : State) (d : List Word), s.mgmtReady true = true ∧ descOp d = 0x12 ∧ mgmtReserved d [0xFFFFFFFF, 0xFFFFFFFF, 3] = false ∧ s.domOn 7 = true ∧ bits (nthW d 2) 31 24 ≠ 7 ∧ imgOk (nthW d 2) (forceLen (bits (nthW d 4) 1 0)) false = false) ∧
    (∃ (s : State) (d : List Word) (f : Force), s.mgmtReady true = true ∧ descOp d = 0x12 ∧ mgmtReserved d [0xFFFFFFFF, 0xFFFFFFFF, 3] = false ∧ f = { addr := (nthW d 2).toNat, width := bits (nthW d 4) 1 0, value := nthW d 3 } ∧ s.domOn 7 = true ∧ bits (nthW d 2) 31 24 ≠ 7 ∧ imgOk (nthW d 2) (forceLen f.width) false = true ∧ s.cyc.forces.length < 1024 ∧ s.kiln.tune = none ∧ (∀ g ∈ s.cyc.forces, g.width = f.width → if f.width = 0 then g.addr ≠ f.addr else g.base ≠ f.base)) ∧
    (∃ (s : State) (d : List Word), s.mgmtReady true = true ∧ descOp d = 0x13 ∧ mgmtReserved d [0xFFFFFFFF] = false ∧ s.domOn 7 = false) ∧
    (∃ (s : State) (d : List Word), s.mgmtReady true = true ∧ descOp d = 0x13 ∧ mgmtReserved d [0xFFFFFFFF] = false ∧ s.domOn 7 = true ∧ nthW d 2 = 0xFFFFFFFF ∧ s.cyc.forces = []) ∧
    (∃ (s : State) (d : List Word), s.mgmtReady true = true ∧ descOp d = 0x13 ∧ mgmtReserved d [0xFFFFFFFF] = false ∧ s.domOn 7 = true ∧ nthW d 2 = 0xFFFFFFFF ∧ s.cyc.forces ≠ []) :=
  ⟨⟨rdy, by decide⟩,
   ⟨({ rdy with tb := { count := 0 }, cyc := { loading := true } } : State), by decide⟩,
   ⟨({ rdy with cyc := { loading := true } } : State), _, false, false, (List.replicate 16 0), _, [], _, by decide, by decide, by decide, rfl, rfl, rfl⟩,
   ⟨rdy, [], by decide⟩,
   ⟨({ rdy with cyc := { image := (0, 512) } } : State), [], by decide⟩,
   ⟨rdy, by decide⟩,
   ⟨(List.replicate 16 0), 255, by decide⟩,
   ⟨(List.replicate 16 0), 256, by decide⟩,
   ⟨(List.replicate 9 0 ++ [5]), 256, [], by decide⟩,
   ⟨rdy, by decide⟩,
   ⟨({ rdy with tb := { count := 0 }, cyc := { state := .running, prog := some { tasks := [{ en := true, mult := 1 }, { en := true, mult := 1 }] }, pend := some { tasks := [{ en := true, mult := 1 }, { en := true, mult := 1 }] } } } : State), ({ tasks := [{ en := true, mult := 1 }, { en := true, mult := 1 }] } : Program), ({ tasks := [{ en := true, mult := 1 }, { en := true, mult := 1 }] } : Program), by decide⟩,
   ⟨({ prt act with power := cold.power } : State), dsc [0x12, 0, 0x81000000], by decide⟩,
   ⟨prt act, dsc [0x12, 0, 0x07000000], by decide⟩,
   ⟨prt act, dsc [0x12, 0, 0xFFFFFF], by decide⟩,
   ⟨prt act, dsc [0x12, 0, 0x81000000], ({ addr := 0x81000000, width := 0, value := 0 } : Force), by decide⟩,
   ⟨({ prt act with power := cold.power } : State), dsc [0x13], by decide⟩,
   ⟨prt act, dsc [0x13, 0, 0xFFFFFFFF], by decide⟩,
   ⟨({ prt act with cyc := { forces := [{}] } } : State), dsc [0x13, 0, 0xFFFFFFFF], by decide⟩⟩

theorem test_witness_StartsAndStopsOfTheCycleEngine :
    (∃ (s : State) (p : Program), s.dropped Reg.CYC_CMD = none ∧ s.cyc.loading = false ∧ (s.cyc.state = .stopped ∨ s.cyc.state = .halted) ∧ s.cyc.pend = some p ∧ s.sbMismatch p = false) ∧
    (∃ (s : State), s.dropped Reg.CYC_CMD = none ∧ s.cyc.loading = false ∧ (s.cyc.state = .stopped ∨ s.cyc.state = .halted) ∧ s.cyc.pend = none ∧ s.cyc.prog = none) ∧
    (∃ (s : State) (p : Program), s.dropped Reg.CYC_CMD = none ∧ s.cyc.loading = false ∧ (s.cyc.state = .stopped ∨ s.cyc.state = .halted) ∧ s.cyc.pend = some p ∧ s.sbMismatch p = true) ∧
    (∃ (s : State) (p : Program), s.dropped Reg.CYC_CMD = none ∧ s.cyc.loading = false ∧ (s.cyc.state = .stopped ∨ s.cyc.state = .halted) ∧ s.cyc.pend = some p ∧ s.sbMismatch p = false ∧ s.cyc.ret0 = none ∧ s.cyc.ret1 = none) ∧
    (∃ (s : State) (p : Program) (r : RetCopy), s.dropped Reg.CYC_CMD = none ∧ s.cyc.loading = false ∧ (s.cyc.state = .stopped ∨ s.cyc.state = .halted) ∧ s.cyc.pend = some p ∧ s.sbMismatch p = false ∧ s.cyc.retained = some r ∧ r.ident = p.ident) ∧
    (∃ (s : State), s.dropped Reg.CYC_CMD = none ∧ s.cyc.loading = false ∧ (s.cyc.state = .running ∨ s.cyc.state = .standby)) ∧
    (∃ (s : State), s.dropped Reg.CYC_CMD = none ∧ s.cyc.loading = false ∧ s.cyc.state = .stopped) ∧
    (∃ (s : State), s.dropped Reg.CYC_CMD = none ∧ s.cyc.loading = false ∧ s.cyc.state = .running ∧ s.cyc.change = none ∧ s.cycIdle = false) :=
  ⟨⟨({ rdy with tb := { count := 0 }, cyc := { pend := some { tasks := [{ en := true, mult := 1 }, { en := true, mult := 1 }] } } } : State), ({ tasks := [{ en := true, mult := 1 }, { en := true, mult := 1 }] } : Program), by decide⟩,
   ⟨rdy, by decide⟩,
   ⟨({ rdy with tb := { count := 0 }, cyc := { state := .halted, pend := some { tasks := [{ en := true, mult := 1 }, { en := true, mult := 1 }] } } }).wr (Reg.SB_CH_CFG 0) 1 |>.wr (Reg.SB_CYCLE 0) 999999, ({ tasks := [{ en := true, mult := 1 }, { en := true, mult := 1 }] } : Program), by decide⟩,
   ⟨({ rdy with tb := { count := 0 }, cyc := { pend := some { tasks := [{ en := true, mult := 1 }, { en := true, mult := 1 }] } } } : State), ({ tasks := [{ en := true, mult := 1 }, { en := true, mult := 1 }] } : Program), by decide⟩,
   ⟨({ rdy with tb := { count := 0 }, cyc := { ret1 := some {}, pend := some { tasks := [{ en := true, mult := 1 }, { en := true, mult := 1 }] } } } : State), ({ tasks := [{ en := true, mult := 1 }, { en := true, mult := 1 }] } : Program), ({} : RetCopy), by decide⟩,
   ⟨({ rdy with tb := { count := 0 }, cyc := { state := .standby } } : State), by decide⟩,
   ⟨rdy, by decide⟩,
   ⟨({ rdy with tb := { count := 0 }, cyc := { state := .running, task := [(0, { job := some {} })] } } : State), by decide⟩⟩

theorem test_witness_NativeCyclesRun :
    (∃ (s : State) (t : Fin 24) (p : Program) (k : Int), 1 ≤ t.val ∧ t.val < 4 ∧ s.ctlRuns = true ∧ s.cyc.state = .running ∧ s.cyc.start = none ∧ s.cyc.prog = some p ∧ p.compat = false ∧ (p.task t.val).en = true ∧ (p.task t.val).event = false ∧ (p.task t.val).ext = false ∧ (s.taskRun t.val).job = none ∧ (s.taskRun t.val).outAt = none ∧ (s.taskRun t.val).late = false ∧ s.cyc.stopReq = false ∧ k = s.cycIdx p t.val s.now.toNat ∧ k = (s.taskRun t.val).last + 1) ∧
    (∃ (s : State) (t : Fin 24) (p : Program), t ≠ 0 ∧ s.cyc.state = .running ∧ s.cyc.start = none ∧ s.cyc.prog = some p ∧ s.cycIdx p t.val s.now.toNat ≤ (s.taskRun t.val).last) ∧
    (∃ (s : State) (t : Fin 24) (p : Program) (j : Job), 1 ≤ t.val ∧ t.val < 4 ∧ s.ctlRuns = true ∧ s.cyc.state = .running ∧ s.cyc.prog = some p ∧ p.compat = false ∧ (s.taskRun t.val).job = some j ∧ j.begun = true ∧ (s.taskRun t.val).late = false) ∧
    (∃ (s : State) (c : Fin 4) (p : Program) (at_ : DWord), s.ctlRuns = true ∧ s.cyc.state = .running ∧ s.cyc.prog = some p ∧ p.compat = false ∧ (s.taskRun c.val).outAt = some at_ ∧ at_.toNat ≤ s.now.toNat ∧ (s.taskRun c.val).job = none) ∧
    (∃ (s : State) (c : Fin 4) (p : Program) (at_ : DWord), s.ctlRuns = true ∧ s.cyc.state = .running ∧ s.cyc.prog = some p ∧ p.compat = false ∧ (s.taskRun c.val).outAt = some at_ ∧ at_.toNat ≤ s.now.toNat ∧ (s.taskRun c.val).job.isSome = true) ∧
    (∃ (w : SMap Byte) (a : Nat), (∀ e ∈ w, e.1 ≠ a)) ∧
    (∃ (s : State) (c : Fin 4) (p : Program) (j : Job), s.ctlRuns = true ∧ s.cyc.state = .running ∧ s.cyc.prog = some p ∧ p.compat = false ∧ (s.taskRun c.val).job = some j) ∧
    (∃ (s : State) (c : Fin 4) (p : Program) (j : Job), s.ctlRuns = true ∧ s.cyc.state = .running ∧ s.cyc.prog = some p ∧ p.compat = false ∧ (s.taskRun c.val).job = some j ∧ j.start.toNat + 2000 + s.fld Reg.CYC_CFG 11 8 * p.taskNs c.val ≤ s.now.toNat) ∧
    (∃ (s : State) (c : Fin 4) (p : Program) (j : Job), s.ctlRuns = true ∧ s.cyc.state = .running ∧ s.cyc.prog = some p ∧ p.compat = false ∧ (s.taskRun c.val).job = some j ∧ s.now.toNat < j.start.toNat + 2000 + s.fld Reg.CYC_CFG 11 8 * p.taskNs c.val) ∧
    (∃ (s : State) (t : Fin 24) (p : Program), s.ctlRuns = true ∧ s.cyc.state = .running ∧ s.cyc.prog = some p ∧ p.compat = true ∧ (p.task t.val).en = true ∧ (p.task t.val).event = true ∧ ((p.task t.val).trig < 0x20 ∨ 0x23 < (p.task t.val).trig) ∧ s.cyc.stopReq = false ∧ (s.taskRun t.val).job.isSome = true) ∧
    (∃ (s : State) (t : Fin 24) (p : Program), s.ctlRuns = true ∧ s.cyc.state = .running ∧ s.cyc.prog = some p ∧ p.compat = true ∧ (p.task t.val).en = true ∧ (p.task t.val).event = true ∧ ((p.task t.val).trig < 0x20 ∨ 0x23 < (p.task t.val).trig) ∧ s.cyc.stopReq = false ∧ (s.taskRun t.val).job = none) ∧
    (∃ (s : State) (r : RetCopy), s.cyc.retBusy = some r) :=
  ⟨⟨({ rdy with tb := { count := 1000000 }, cyc := { state := .running, prog := some { tasks := List.replicate 4 { en := true, mult := 1 } } } } : State), 3, ({ tasks := List.replicate 4 { en := true, mult := 1 } } : Program), 1, by decide⟩,
   ⟨({ rdy with tb := { count := 999999 }, cyc := { state := .running, prog := some { tasks := List.replicate 4 { en := true, mult := 1 } } } } : State), 3, ({ tasks := List.replicate 4 { en := true, mult := 1 } } : Program), by decide⟩,
   ⟨({ rdy with tb := { count := 0 }, cyc := { state := .running, prog := some { tasks := List.replicate 4 { en := true, mult := 1 } }, task := [(3, { job := some { begun := true } })] } } : State), 3, ({ tasks := List.replicate 4 { en := true, mult := 1 } } : Program), ({ begun := true } : Job), by decide⟩,
   ⟨({ rdy with tb := { count := 0 }, cyc := { state := .running, prog := some { tasks := List.replicate 4 { en := true, mult := 1 } }, task := [(3, { outAt := some 0 })] } } : State), 3, ({ tasks := List.replicate 4 { en := true, mult := 1 } } : Program), 0, by decide⟩,
   ⟨({ rdy with tb := { count := 0 }, cyc := { state := .running, prog := some { tasks := List.replicate 4 { en := true, mult := 1 } }, task := [(3, { outAt := some 0, job := some {} })] } } : State), 3, ({ tasks := List.replicate 4 { en := true, mult := 1 } } : Program), 0, by decide⟩,
   ⟨[], 1, by decide⟩,
   ⟨({ rdy with tb := { count := 0 }, cyc := { state := .running, prog := some { tasks := List.replicate 4 { en := true, mult := 1 } }, task := [(3, { job := some {} })] } } : State), 3, ({ tasks := List.replicate 4 { en := true, mult := 1 } } : Program), ({} : Job), by decide⟩,
   ⟨({ rdy with tb := { count := 1002000 }, cyc := { state := .running, prog := some { tasks := List.replicate 4 { en := true, mult := 1 } }, task := [(3, { job := some {} })] } }).wr Reg.CYC_CFG 0x100, 3, ({ tasks := List.replicate 4 { en := true, mult := 1 } } : Program), ({} : Job), by decide⟩,
   ⟨({ rdy with tb := { count := 999999 }, cyc := { state := .running, prog := some { tasks := List.replicate 4 { en := true, mult := 1 } }, task := [(3, { job := some {} })] } }).wr Reg.CYC_CFG 0x100, 3, ({ tasks := List.replicate 4 { en := true, mult := 1 } } : Program), ({} : Job), by decide⟩,
   ⟨({ rdy with tb := { count := 0 }, cyc := { state := .running, prog := some { compat := true, tasks := List.replicate 24 { en := true, event := true } }, task := [(23, { job := some {} })] } } : State), 23, ({ compat := true, tasks := List.replicate 24 { en := true, event := true } } : Program), by decide⟩,
   ⟨({ rdy with tb := { count := 0 }, cyc := { state := .running, prog := some { compat := true, tasks := List.replicate 24 { en := true, event := true } } } } : State), 23, ({ compat := true, tasks := List.replicate 24 { en := true, event := true } } : Program), by decide⟩,
   ⟨({ rdy with tb := { count := 0 }, cyc := { retBusy := some {} } } : State), ({} : RetCopy), by decide⟩⟩

theorem test_witness_KilnCommandsAndTunes :
    (∃ (s : State) (n : Nat) (e : List Word), s.dropped Reg.KILN_CMD = none ∧ n = s.fld Reg.KILN_INDEX 8 0 ∧ e = (List.range 13).map (fun k => s.rd (Reg.KILN_W k)) ∧ s.kilnBad n e = true) ∧
    (∃ (s : State) (n : Nat) (e : List Word), s.dropped Reg.KILN_CMD = none ∧ n = s.fld Reg.KILN_INDEX 8 0 ∧ e = (List.range 13).map (fun k => s.rd (Reg.KILN_W k)) ∧ s.kilnBad n e = false ∧ s.tuning n = false) ∧
    (∃ (s : State) (n : Nat), s.dropped Reg.KILN_CMD = none ∧ n = s.fld Reg.KILN_INDEX 8 0) ∧
    (∃ (s : State) (n : Nat), s.dropped Reg.KILN_CMD = none ∧ n = s.fld Reg.KILN_INDEX 8 0 ∧ s.tuning n = false) ∧
    (∃ (s : State) (n : Nat), s.dropped Reg.KILN_CMD = none ∧ n = s.fld Reg.KILN_INDEX 8 0 ∧ s.tuning n = true) ∧
    (∃ (s : State) (n : Nat), s.dropped Reg.KILN_CMD = none ∧ n = s.fld Reg.KILN_TUNE_CFG 8 0 ∧ s.kiln.tune.isSome = true) ∧
    (∃ (s : State) (n : Nat), s.dropped Reg.KILN_CMD = none ∧ n = s.fld Reg.KILN_TUNE_CFG 8 0 ∧ s.kiln.tune = none ∧ (s.kloop n).mode = 0) ∧
    (∃ (s : State) (n : Nat), s.dropped Reg.KILN_CMD = none ∧ n = s.fld Reg.KILN_TUNE_CFG 8 0 ∧ s.kiln.tune = none ∧ entryEn (s.kloop n).entry = true ∧ (s.kloop n).mode ≠ 0 ∧ (s.kloop n).i32 9 < (s.kloop n).u + (s.rd Reg.KILN_TUNE_D).toInt) ∧
    (∃ (s : State) (n : Nat), s.dropped Reg.KILN_CMD = none ∧ n = s.fld Reg.KILN_TUNE_CFG 8 0 ∧ s.kiln.tune = none ∧ entryEn (s.kloop n).entry = true ∧ (s.kloop n).mode ≠ 0 ∧ (s.kloop n).u + (s.rd Reg.KILN_TUNE_D).toInt ≤ (s.kloop n).i32 9 ∧ (s.kloop n).i32 8 ≤ (s.kloop n).u - (s.rd Reg.KILN_TUNE_D).toInt) ∧
    (∃ (s : State), s.dropped Reg.KILN_CMD = none) ∧
    (∃ (s : State) (t : Tune), s.kiln.tune = some t ∧ s.kilnRuns = true ∧ s.pllLost .control = false ∧ t.start.toNat + s.fld Reg.KILN_TUNE_LIMIT 15 0 * 1000000000 ≤ s.now.toNat) ∧
    (∃ (s : State) (t : Tune), s.kiln.tune = some t ∧ s.kilnRuns = true ∧ s.pllLost .control = false ∧ s.now.toNat < t.start.toNat + s.fld Reg.KILN_TUNE_LIMIT 15 0 * 1000000000) ∧
    (∃ (s : State) (t : Tune), s.kiln.tune = some t) ∧
    (∃ (s : State) (t : Tune) (k : Nat), s.kiln.tune = some t ∧ k ≠ t.loop) :=
  ⟨⟨rdy.wr (Reg.KILN_W 0) 0x31, 0, (List.range 13).map (fun k => (rdy.wr (Reg.KILN_W 0) 0x31).rd (Reg.KILN_W k)), by decide⟩,
   ⟨rdy, 0, (List.range 13).map (fun k => rdy.rd (Reg.KILN_W k)), by decide⟩,
   ⟨rdy, 0, by decide⟩,
   ⟨rdy, 0, by decide⟩,
   ⟨({ rdy with kiln := { tune := some { loop := 0 } } } : State), 0, by decide⟩,
   ⟨({ rdy with kiln := { tune := some { loop := 0 } } } : State), 0, by decide⟩,
   ⟨rdy, 0, by decide⟩,
   ⟨({ rdy with kiln := { loop := [(0, { mode := 1, entry := ([1] ++ List.replicate 7 0 ++ [0, 0]) })] } }).wr Reg.KILN_TUNE_D 1, 0, by decide⟩,
   ⟨({ rdy with kiln := { loop := [(0, { mode := 1, entry := ([1] ++ List.replicate 7 0 ++ [-1, 1]) })] } }).wr Reg.KILN_TUNE_D 1, 0, by decide⟩,
   ⟨rdy, by decide⟩,
   ⟨({ rdy with tb := { count := 1000000000 }, kiln := { tune := some { loop := 0 } } }.wr Reg.KILN_CTRL 1 |>.wr Reg.KILN_TUNE_LIMIT 1 : State), ({ loop := 0 } : Tune), by decide⟩,
   ⟨({ rdy with tb := { count := 999999999 }, kiln := { tune := some { loop := 0 } } }.wr Reg.KILN_CTRL 1 |>.wr Reg.KILN_TUNE_LIMIT 1 : State), ({ loop := 0 } : Tune), by decide⟩,
   ⟨({ rdy with tb := { count := 0 }, kiln := { tune := some { loop := 0 } } }.wr Reg.KILN_CTRL 1 |>.wr Reg.KILN_TUNE_LIMIT 1 : State), ({ loop := 0 } : Tune), by decide⟩,
   ⟨({ rdy with tb := { count := 0 }, kiln := { tune := some { loop := 0 } } }.wr Reg.KILN_CTRL 1 |>.wr Reg.KILN_TUNE_LIMIT 1 : State), ({ loop := 0 } : Tune), 511, by decide⟩⟩

theorem test_witness_KilnGroupsRun :
    (∃ (s : State), s.dropped Reg.KILN_CTRL = none ∧ s.flag Reg.KILN_CTRL 0 = false) ∧
    (∃ (s : State) (g : Fin 8), s.kilnRuns = true ∧ s.pllLost .control = false ∧ s.flag (Reg.KILN_GRP_CFG g.val) 16 = false ∧ s.flag (Reg.KILN_GRP_CFG g.val) 17 = true ∧ (s.kgrp g.val).outAt = none ∧ (s.kgrp g.val).last < s.kilnIdx g.val s.now.toNat) ∧
    (∃ (s : State) (g : Fin 8), s.kilnRuns = true ∧ (s.kilnIdx g.val s.now.toNat ≤ (s.kgrp g.val).last ∨ (s.kgrp g.val).outAt.isSome = true)) ∧
    (∃ (s : State) (g : Fin 8) (at_ : DWord), s.kilnRuns = true ∧ s.pllLost .control = false ∧ (s.kgrp g.val).outAt = some at_ ∧ at_.toNat ≤ s.now.toNat) ∧
    (∃ (l : KLoop), l.i32 8 ≤ l.i32 9) ∧
    (∃ (l : KLoop), l.mode = 1 ∧ l.i32 8 ≤ l.i32 12 ∧ l.i32 12 ≤ l.i32 9) ∧
    (∃ (l : KLoop), l.i32 8 ≤ l.i32 9 ∧ l.mode ≠ 2) :=
  ⟨⟨rdy, by decide⟩,
   ⟨({ rdy with tb := { count := 50000 }, kiln := { grp := [(7, {  })] } }.wr Reg.KILN_CTRL 1 |>.wr (Reg.KILN_GRP_CFG 7) 0x20001 : State), 7, by decide⟩,
   ⟨({ rdy with tb := { count := 49999 }, kiln := { grp := [(7, {  })] } }.wr Reg.KILN_CTRL 1 |>.wr (Reg.KILN_GRP_CFG 7) 1 : State), 7, by decide⟩,
   ⟨({ rdy with tb := { count := 0 }, kiln := { grp := [(7, { outAt := some 0 })] } }.wr Reg.KILN_CTRL 1 : State), 7, 0, by decide⟩,
   ⟨({} : KLoop), by decide⟩,
   ⟨({ mode := 1 } : KLoop), by decide⟩,
   ⟨({} : KLoop), by decide⟩⟩

theorem test_witness_StationBusFramesAreSentAndReceived :
    (∃ (s : State) (c : Fin 2) (n : Fin 256) (k : Int) (t0 : DWord), s.busRuns = true ∧ (s.sbOf c.val).cyc = some (k, t0) ∧ (s.sbOf c.val).state = 2 ∧ (s.sbOf c.val).own n.val = true ∧ n.val < s.sbNs c.val ∧ n.val ∉ (s.sbOf c.val).sent ∧ t0.toNat + n.val * s.sbSlotLen c.val ≤ s.now.toNat) ∧
    (∃ (s : State) (c : Fin 2) (n : Fin 256), n.val ∈ (s.sbOf c.val).sent) ∧
    (∃ (s : State) (c : Fin 2) (n : Fin 256) (g : List CodeGroup) (k : Int) (t0 : DWord), s.busRuns = true ∧ (s.sbOf c.val).cyc = some (k, t0) ∧ (s.sbOf c.val).state ≠ 0 ∧ s.sbStar c.val = false ∧ ((s.sbOf c.val).own n.val = true ∨ s.sbNs c.val ≤ n.val ∨ sbFrameOf g n.val (bits ((s.sbOf c.val).entry n.val) 13 8) false k = none)) ∧
    (∃ (s : State) (c : Fin 2) (n : Fin 256) (g : List CodeGroup) (k : Int) (t0 : DWord) (f : SbFrame), s.busRuns = true ∧ (s.sbOf c.val).cyc = some (k, t0) ∧ (s.sbOf c.val).state ≠ 0 ∧ s.sbStar c.val = false ∧ (s.sbOf c.val).own n.val = false ∧ (s.sbOf c.val).branch n.val < 8 ∧ n.val < s.sbNs c.val ∧ sbFrameOf g n.val (bits ((s.sbOf c.val).entry n.val) 13 8) false k = some f ∧ f.null = false ∧ (f.epoch - s.rd (Reg.SB_EPOCH_SEEN c.val)).toInt ≤ 0 ∧ (f.ctrl = false ∨ f.epoch = s.twin.epoch)) ∧
    (∃ (s : State) (c : Fin 2) (n : Fin 256), s.busRuns = true ∧ s.sbStar c.val = true ∧ (s.sbOf c.val).branch n.val < 8 ∧ s.sbOpen c.val ((s.sbOf c.val).branch n.val) = false ∧ (s.sbOf c.val).state ≠ 0) ∧
    (∃ (s : State) (c : Fin 2) (n : Fin 256) (arr : Int), s.busRuns = true ∧ s.sbStar c.val = true ∧ (s.sbOf c.val).branch n.val < 8 ∧ s.sbOpen c.val ((s.sbOf c.val).branch n.val) = true ∧ (s.sbOf c.val).state = 2 ∧ s.sbG c.val < arr.natAbs) ∧
    (∃ (s : State) (c : Fin 2) (n : Fin 64) (g : List CodeGroup) (k : Int) (t0 : DWord), s.busRuns = true ∧ (s.sbOf c.val).cyc = some (k, t0) ∧ (s.sbOf c.val).state ≠ 0 ∧ s.sbStar c.val = false ∧ sbFrameOf g n.val n.val true k = none) ∧
    (∃ (s : State) (c : Fin 2) (n : Fin 64) (g : List CodeGroup) (k : Int) (t0 : DWord) (f : SbFrame), s.busRuns = true ∧ (s.sbOf c.val).cyc = some (k, t0) ∧ (s.sbOf c.val).state ≠ 0 ∧ s.sbStar c.val = false ∧ sbFrameOf g n.val n.val true k = some f ∧ (f.epoch - s.rd (Reg.SB_EPOCH_SEEN c.val)).toInt ≤ 0 ∧ (f.ctrl = false ∨ f.epoch = s.twin.epoch) ∧ (s.sbOf c.val).evtRx.length < 16) ∧
    (∃ (s : State) (c : Fin 2) (n : Fin 64) (g : List CodeGroup) (k : Int) (t0 : DWord) (f : SbFrame), s.busRuns = true ∧ (s.sbOf c.val).cyc = some (k, t0) ∧ (s.sbOf c.val).state ≠ 0 ∧ s.sbStar c.val = false ∧ sbFrameOf g n.val n.val true k = some f ∧ (f.epoch - s.rd (Reg.SB_EPOCH_SEEN c.val)).toInt ≤ 0 ∧ (f.ctrl = false ∨ f.epoch = s.twin.epoch) ∧ 16 ≤ (s.sbOf c.val).evtRx.length) ∧
    (∃ (s : State) (c : Fin 2) (v : Word), s.dropped (Reg.SB_EVT_TXCTL c.val) = none ∧ bits v 5 0 ≤ 60 ∧ bit v 8 = true ∧ (s.sbOf c.val).evtPend = false) ∧
    (∃ (s : State) (c : Fin 2), s.readable = true ∧ s.readMiss false (Reg.SB_EVT_RXCTL c.val) = none ∧ (s.sbOf c.val).evtRx = []) ∧
    (∃ (s : State) (c : Fin 2) (e : Nat × List Byte) (r : List (Nat × List Byte)), s.readable = true ∧ s.readMiss false (Reg.SB_EVT_RXCTL c.val) = none ∧ (s.sbOf c.val).evtRx = e :: r) :=
  ⟨⟨({ sbs { state := 2, cyc := some (0, 0), slot := [(255, 8)] } with tb := { count := 1000000000 } } : State), 1, 255, 0, 0, by decide⟩,
   ⟨sbs { sent := [255] }, 1, 255, by decide⟩,
   ⟨((sbs { state := 2, cyc := some (0, 0), slot := [(255, 8)] }).wr (Reg.SB_CH_CFG 1) 0x01000001), 1, 255, [], 0, 0, by decide +kernel⟩,
   ⟨((sbs { state := 1, cyc := some (0, 0), slot := [(255, 0x3F07)] }).wr (Reg.SB_CH_CFG 1) 0x01000001), 1, 255, sbGroups ({ sbf with slot := 255, node := 63 } : SbFrame), 0, 0, ({ sbf with slot := 255, node := 63 } : SbFrame), by decide +kernel⟩,
   ⟨((sbs { state := 1, slot := [(255, 0x3F07)] }).wr (Reg.SB_STAR_CFG 1) 0), 1, 255, by decide⟩,
   ⟨sbs { state := 2, slot := [(255, 0x3F07)] }, 1, 255, -4096, by decide⟩,
   ⟨((sbs { state := 1, cyc := some (0, 0) }).wr (Reg.SB_CH_CFG 1) 0x01000001), 1, 63, [], 0, 0, by decide +kernel⟩,
   ⟨((sbs { state := 1, cyc := some (0, 0) }).wr (Reg.SB_CH_CFG 1) 0x01000001), 1, 63, sbGroups ({ sbf with slot := 63, node := 63, dyn := true } : SbFrame), 0, 0, ({ sbf with slot := 63, node := 63, dyn := true } : SbFrame), by decide +kernel⟩,
   ⟨((sbs { state := 1, cyc := some (0, 0), evtRx := List.replicate 16 (0, []) }).wr (Reg.SB_CH_CFG 1) 0x01000001), 1, 63, sbGroups ({ sbf with slot := 63, node := 63, dyn := true } : SbFrame), 0, 0, ({ sbf with slot := 63, node := 63, dyn := true } : SbFrame), by decide +kernel⟩,
   ⟨rdy, 1, 0x13C, by decide⟩,
   ⟨rdy, 1, by decide⟩,
   ⟨sbs { evtRx := [(63, [])] }, 1, (63, []), [], by decide⟩⟩

theorem test_witness_StationBusChannelsListenRunAndAreGuarded :
    (∃ (s : State) (c : Fin 2) (v : Word) (u : State), s.dropped (Reg.SB_CH_CFG c.val) = none ∧ s.flag (Reg.SB_CH_CFG c.val) 0 = false ∧ bit v 0 = true ∧ u = ((s.setF (Reg.SB_CH_CFG c.val) 1 1 (bits v 1 1)).setF (Reg.SB_CH_CFG c.val) 13 8 (bits v 13 8)).setF (Reg.SB_CH_CFG c.val) 24 16 (if bits v 24 16 = 0 ∨ 256 < bits v 24 16 then s.fld (Reg.SB_CH_CFG c.val) 24 16 else bits v 24 16) ∧ u.sbOk c.val = false) ∧
    (∃ (s : State) (c : Fin 2) (v : Word) (u : State), s.dropped (Reg.SB_CH_CFG c.val) = none ∧ s.flag (Reg.SB_CH_CFG c.val) 0 = false ∧ bit v 0 = true ∧ u = ((s.setF (Reg.SB_CH_CFG c.val) 1 1 (bits v 1 1)).setF (Reg.SB_CH_CFG c.val) 13 8 (bits v 13 8)).setF (Reg.SB_CH_CFG c.val) 24 16 (if bits v 24 16 = 0 ∨ 256 < bits v 24 16 then s.fld (Reg.SB_CH_CFG c.val) 24 16 else bits v 24 16) ∧ u.sbOk c.val = true ∧ (u.sbStar c.val = false ∨ u.sbTwice c.val = false)) ∧
    (∃ (s : State) (c : Fin 2) (v : Word) (u : State), s.dropped (Reg.SB_CH_CFG c.val) = none ∧ s.flag (Reg.SB_CH_CFG c.val) 0 = false ∧ bit v 0 = true ∧ u = ((s.setF (Reg.SB_CH_CFG c.val) 1 1 (bits v 1 1)).setF (Reg.SB_CH_CFG c.val) 13 8 (bits v 13 8)).setF (Reg.SB_CH_CFG c.val) 24 16 (if bits v 24 16 = 0 ∨ 256 < bits v 24 16 then s.fld (Reg.SB_CH_CFG c.val) 24 16 else bits v 24 16) ∧ u.sbOk c.val = true ∧ u.sbStar c.val = true ∧ u.sbTwice c.val = true) ∧
    (∃ (s : State) (c : Fin 2) (v : Word), s.dropped (Reg.SB_CH_CFG c.val) = none ∧ s.flag (Reg.SB_CH_CFG c.val) 0 = true ∧ bit v 0 = false ∧ v &&& 0x01FF3F02 = s.rd (Reg.SB_CH_CFG c.val) &&& 0x01FF3F02) ∧
    (∃ (s : State) (c : Fin 2), s.busRuns = true ∧ (s.sbOf c.val).state = 1 ∧ (s.sbOf c.val).heard = false ∧ (s.sbOf c.val).listen.toNat ≤ s.now.toNat) ∧
    (∃ (s : State) (c : Fin 2), s.busRuns = true ∧ (s.sbOf c.val).state ≠ 0 ∧ (s.sbOf c.val).last < s.sbIdx c.val s.now.toNat) ∧
    (∃ (s : State) (c : Fin 2), s.busRuns = true ∧ (s.sbOf c.val).state ≠ 0) ∧
    (∃ (s : State) (c : Fin 2) (k : Int) (t0 : DWord), s.busRuns = true ∧ (s.sbOf c.val).cyc = some (k, t0) ∧ (s.sbOf c.val).state ≠ 0 ∧ (s.sbOf c.val).corrected = false ∧ t0.toNat + s.sbSegments c.val ≤ s.now.toNat) ∧
    (∃ (s : State) (c : Fin 2), (s.sbOf c.val).corrected = true) ∧
    (∃ (v : List Int) (lo : Int) (hi : Int), v ≠ [] ∧ (∀ x ∈ v, lo ≤ x ∧ x ≤ hi)) ∧
    (∃ (s : State) (c : Fin 2) (br : Fin 8), s.busRuns = true ∧ s.sbStar c.val = true ∧ (s.sbOf c.val).state = 2 ∧ s.flag (Reg.SB_STAR_CFG c.val) br.val = true ∧ (s.sbOf c.val).closed.getLsbD br.val = false ∧ (s.sbOf c.val).viol.getLsbD br.val = true) ∧
    (∃ (s : State) (c : Fin 2) (br : Fin 8), s.busRuns = true ∧ s.sbStar c.val = true ∧ (s.sbOf c.val).state = 2 ∧ s.flag (Reg.SB_STAR_CFG c.val) br.val = true ∧ (s.sbOf c.val).closed.getLsbD br.val = false ∧ (s.sbOf c.val).viol.getLsbD br.val = false ∧ s.fld (Reg.SB_STAR_CFG c.val) 11 8 ≠ 1 ∧ (s.sbOf c.val).violRun.get 0 br.val = 0) ∧
    (∃ (s : State) (c : Fin 2) (br : Fin 8), s.busRuns = true ∧ s.sbStar c.val = true ∧ (s.sbOf c.val).state = 2 ∧ s.flag (Reg.SB_STAR_CFG c.val) br.val = true ∧ (s.sbOf c.val).closed.getLsbD br.val = false ∧ (s.sbOf c.val).viol.getLsbD br.val = false ∧ s.fld (Reg.SB_STAR_CFG c.val) 11 8 = (s.sbOf c.val).violRun.get 0 br.val + 1) ∧
    (∃ (s : State) (c : Fin 2), s.dropped (Reg.SB_STAR_CMD c.val) = none) ∧
    (∃ (s : State) (c : Fin 2), s.busRuns = true ∧ s.sbStar c.val = true ∧ (s.sbOf c.val).state ≠ 0) :=
  ⟨⟨rdy.wr (Reg.SB_CYCLE 1) 49992, 1, 1, (((rdy.wr (Reg.SB_CYCLE 1) 49992).setF (Reg.SB_CH_CFG 1) 1 1 0).setF (Reg.SB_CH_CFG 1) 13 8 0).setF (Reg.SB_CH_CFG 1) 24 16 ((rdy.wr (Reg.SB_CYCLE 1) 49992).fld (Reg.SB_CH_CFG 1) 24 16), by decide +kernel⟩,
   ⟨rdy, 1, 1, _, by decide, by decide, by decide, rfl, by decide +kernel, by decide +kernel⟩,
   ⟨({ rdy with sb := [(1, { slot := [(255, 7)] })] } : State), 1, 3, _, by decide, by decide, by decide, rfl, by decide +kernel, by decide +kernel, by decide +kernel⟩,
   ⟨sbs {  }, 1, 0x01000002, by decide⟩,
   ⟨sbs { state := 1 }, 1, by decide⟩,
   ⟨({ sbs { state := 1 } with tb := { count := 5000000 } } : State), 1, by decide⟩,
   ⟨sbs { state := 2 }, 1, by decide⟩,
   ⟨({ sbs { state := 2, cyc := some (0, 0) } with tb := { count := 1000000000 } } : State), 1, 0, 0, by decide⟩,
   ⟨sbs { corrected := true }, 1, by decide⟩,
   ⟨[-1, 1], -1, 1, by decide⟩,
   ⟨sbs { state := 2, viol := 0x80 }, 1, 7, by decide⟩,
   ⟨(sbs { state := 2 }).wr (Reg.SB_STAR_CFG 1) 0x2FF, 1, 7, by decide⟩,
   ⟨sbs { state := 2 }, 1, 7, by decide⟩,
   ⟨rdy, 1, by decide⟩,
   ⟨sbs { state := 1 }, 1, by decide⟩⟩

theorem test_witness_CanFramesAreSentFilteredAndQueued :
    (∃ (s : State) (n : Fin 4) (b : Fin 64), s.dropped (Reg.CAN_TXB_CMD n.val) = none ∧ ((s.canOf n.val).txb b.val).req = true) ∧
    (∃ (s : State) (n : Fin 4) (b : Fin 64), s.dropped (Reg.CAN_TXB_CMD n.val) = none ∧ ((s.canOf n.val).txb b.val).req = false ∧ (bits (s.rd (Reg.CAN_TXB n.val 1)) 7 6 = 0 ∨ (bits (s.rd (Reg.CAN_TXB n.val 1)) 7 6 < 3 ∧ b.val < 32))) ∧
    (∃ (s : State) (n : Fin 4), s.dropped (Reg.CAN_TXB_CMD n.val) = none) ∧
    (∃ (s : State) (n : Fin 4) (b : Fin 64), s.dropped (Reg.CAN_TXB_CMD n.val) = none ∧ bit ((s.canOf n.val).txb b.val).w1 4 = true ∧ bit ((s.canOf n.val).txb b.val).w0 30 = true) ∧
    (∃ (s : State) (n : Fin 4) (b : Fin 64), s.dropped (Reg.CAN_TXB_CMD n.val) = none ∧ bit ((s.canOf n.val).txb b.val).w0 30 = false ∧ (s.canMode n.val = 0 ∨ s.canMode n.val = 2 ∨ s.twin.role = .standby)) ∧
    (∃ (s : State) (n : Fin 4) (b : Fin 64), s.dropped (Reg.CAN_TXB_CMD n.val) = none ∧ bit ((s.canOf n.val).txb b.val).w0 30 = false ∧ (s.canMode n.val = 1 ∨ s.canMode n.val = 3) ∧ s.twin.role ≠ .standby) ∧
    (∃ (s : State) (n : Fin 4), s.dropped (Reg.CAN_RXQ0_POP n.val) = none ∧ (s.canOf n.val).q0.q = []) ∧
    (∃ (s : State) (n : Fin 4) (e : CanRx) (r : List CanRx), s.dropped (Reg.CAN_RXQ0_POP n.val) = none ∧ (s.canOf n.val).q0.q = e :: r) ∧
    (∃ (s : State) (n : Fin 4) (e : CanRx) (r : List CanRx), s.dropped (Reg.CAN_RXQ1_POP n.val) = none ∧ (s.canOf n.val).q1.q = e :: r) ∧
    (∃ (s : State) (n : Fin 4), s.dropped (Reg.CAN_FLT_CMD n.val) = none ∧ bits (s.rd (Reg.CAN_FLT_W n.val 2)) 8 4 ≠ 31) ∧
    (∃ (s : State) (n : Fin 4) (p : Word × Word × Word), s.dropped (Reg.CAN_FLT_CMD n.val) = none ∧ p = (s.canOf n.val).filter (s.fld (Reg.CAN_FLT_SEL n.val) 6 0)) ∧
    (∃ (s : State) (n : Fin 4) (q : Fin 2), s.readable = true ∧ s.readMiss false (0x19200 + n.val * 0x400 + q.val * 0x80) = none ∧ ((s.canOf n.val).queue q.val).q = []) ∧
    (∃ (s : State) (n : Fin 4) (q : Fin 2) (e : CanRx) (r : List CanRx), s.readable = true ∧ s.readMiss false (0x19200 + n.val * 0x400 + q.val * 0x80) = none ∧ ((s.canOf n.val).queue q.val).q = e :: r) ∧
    (∃ (s : State) (n : Fin 4) (f : CanFrame), s.busRuns = true ∧ (s.canOf n.val).state = 2 ∧ (f.fdf = true → s.flag (Reg.CAN_CTRL n.val) 2 = true)) ∧
    (∃ (s : State) (n : Nat) (f : CanFrame), (∀ k, k < 128 → filterMatch ((s.canOf n).filter k) f = false)) ∧
    (∃ (s : State) (n : Nat) (f : CanFrame) (k : Nat), k < 128 ∧ filterMatch ((s.canOf n).filter k) f = true ∧ (∀ j, j < k → filterMatch ((s.canOf n).filter j) f = false) ∧ bit ((s.canOf n).filter k).2.2 1 = true) ∧
    (∃ (s : State) (n : Nat) (f : CanFrame) (k : Nat), k < 128 ∧ filterMatch ((s.canOf n).filter k) f = true ∧ (∀ j, j < k → filterMatch ((s.canOf n).filter j) f = false) ∧ bit ((s.canOf n).filter k).2.2 1 = false ∧ bit ((s.canOf n).filter k).2.2 3 = false ∧ bits ((s.canOf n).filter k).2.2 0 0 = 0 ∧ (s.canOf n).q0.q.length < 64) :=
  ⟨⟨({ rdy with can := [(3, { buf := [(63, { req := true })] })] } : State), 3, 63, by decide⟩,
   ⟨rdy, 3, 63, by decide⟩,
   ⟨rdy, 3, by decide⟩,
   ⟨({ rdy with can := [(3, { buf := [(63, { w0 := 0x40000000, w1 := 0x10 })] })] } : State), 3, 63, by decide⟩,
   ⟨({ rdy with can := [(3, {  })] }).wr (Reg.CAN_CTRL 3) 2, 3, 63, by decide⟩,
   ⟨({ rdy with can := [(3, {  })] }).wr (Reg.CAN_CTRL 3) 1, 3, 63, by decide⟩,
   ⟨rdy, 3, by decide⟩,
   ⟨({ rdy with can := [(3, { q0 := { q := [{ f := cf }] } })] } : State), 3, ({ f := cf } : CanRx), [], by decide⟩,
   ⟨({ rdy with can := [(3, { q1 := { q := [{ f := cf }] } })] } : State), 3, ({ f := cf } : CanRx), [], by decide⟩,
   ⟨rdy, 3, by decide⟩,
   ⟨rdy, 3, (0, 0, 0), by decide⟩,
   ⟨rdy, 3, 1, by decide⟩,
   ⟨({ rdy with can := [(3, { q1 := { q := [{ f := cf }] } })] } : State), 3, 1, ({ f := cf } : CanRx), [], by decide⟩,
   ⟨({ rdy with can := [(3, { state := 2 })] } : State), 3, cf, by decide⟩,
   ⟨rdy, 3, cf, by decide⟩,
   ⟨({ rdy with can := [(3, { flt := [(127, (0x80000000, 0, 2))] })] } : State), 3, cf, 127, by decide⟩,
   ⟨({ rdy with can := [(3, { flt := [(127, (0x80000000, 0, 0))] })] } : State), 3, cf, 127, by decide⟩⟩

theorem test_witness_CanControllersEndAndChangeMode :
    (∃ (s : State) (n : Fin 4) (v : Word), s.dropped (Reg.CAN_CTRL n.val) = none ∧ (s.canOf n.val).state = 0 ∧ bits v 1 0 ≠ 0 ∧ bit v 3 = false ∧ bit v 4 = false) ∧
    (∃ (s : State) (n : Fin 4), s.busRuns = true ∧ (s.canOf n.val).state = 1) ∧
    (∃ (s : State) (n : Fin 4), s.dropped (Reg.CAN_CTRL n.val) = none ∧ (s.canOf n.val).state = 3 ∧ (s.canOf n.val).recover = none) ∧
    (∃ (s : State) (n : Fin 4), s.dropped (Reg.CAN_CTRL n.val) = none ∧ (s.canOf n.val).state ≠ 3) ∧
    (∃ (s : State) (n : Fin 4) (auto : Bool), s.busRuns = true ∧ (s.canOf n.val).state = 3 ∧ (s.canOf n.val).recover = some auto) ∧
    (∃ (s : State) (n : Fin 4), s.busRuns = true ∧ (s.canOf n.val).state = 2) ∧
    (∃ (s : State) (n : Fin 4) (b : Nat) (f : CanFrame), s.busRuns = true ∧ b < 64 ∧ (s.canOf n.val).cur = some (b, f) ∧ (f.brs = false ∨ s.flag (Reg.CAN_TDC n.val) 8 = false) ∧ s.canMode n.val ≠ 3) ∧
    (∃ (c : Can) (ok : CanTx → Bool) (b : Nat), c.best ok = some b) ∧
    (∃ (c : Can) (ok : CanTx → Bool) (x : Nat × CanTx), c.best ok = none ∧ x ∈ c.buf ∧ x.2.req = true) ∧
    (∃ (s : State) (n : Fin 4) (b : Nat) (f : CanFrame), s.busRuns = true ∧ (s.canOf n.val).cur = some (b, f)) ∧
    (∃ (s : State) (n : Fin 4) (tec : BitVec 9), s.busRuns = true ∧ (s.canOf n.val).state = 2 ∧ 255 < tec.toNat) ∧
    (∃ (s : State) (n : Fin 4) (tec : BitVec 9) (r : BitVec 8), s.busRuns = true ∧ (s.canOf n.val).state = 2 ∧ tec.toNat < 128 ∧ r.toNat < 128 ∧ (s.canOf n.val).passive = false) :=
  ⟨⟨rdy, 3, 1, by decide⟩,
   ⟨({ rdy with can := [(3, { state := 1 })] } : State), 3, by decide⟩,
   ⟨({ rdy with can := [(3, { state := 3 })] } : State), 3, by decide⟩,
   ⟨rdy, 3, by decide⟩,
   ⟨({ rdy with can := [(3, { state := 3, recover := some true })] } : State), 3, true, by decide⟩,
   ⟨({ rdy with can := [(3, { state := 2 })] } : State), 3, by decide⟩,
   ⟨({ rdy with can := [(3, { cur := some (63, cf) })] }).wr (Reg.CAN_CTRL 3) 1, 3, 63, cf, by decide⟩,
   ⟨({ buf := [(63, { req := true })] } : Can), fun _ => true, 63, by decide⟩,
   ⟨({ buf := [(63, { req := true })] } : Can), fun _ => false, (63, { req := true }), by decide⟩,
   ⟨({ rdy with can := [(3, { cur := some (63, cf) })] } : State), 3, 63, cf, by decide⟩,
   ⟨({ rdy with can := [(3, { state := 2 })] } : State), 3, 256, by decide⟩,
   ⟨({ rdy with can := [(3, { state := 2 })] } : State), 3, 127, 127, by decide⟩⟩

theorem test_witness_EthernetAndPrecisionTime :
    (∃ (s : State) (m : Fin 2) (sp : BitVec 2) (an : Bool) (v : Nat), s.domOn 6 = true ∧ s.flag (Reg.ETH_CTRL m.val) 0 = true ∧ s.flag (Reg.ETH_STATUS m.val) 0 = false ∧ an = (s.flag (Reg.ETH_CTRL m.val) 3 && s.fld (Reg.ETH_CTRL m.val) 2 1 != 2) ∧ v = (if s.fld (Reg.ETH_CTRL m.val) 2 1 = 0 then (if an = true then sp.toNat else s.fld (Reg.ETH_CTRL m.val) 5 4) else if s.fld (Reg.ETH_CTRL m.val) 2 1 = 1 then 2 else 3)) ∧
    (∃ (s : State) (m : Fin 2), s.domOn 6 = true ∧ s.flag (Reg.ETH_STATUS m.val) 0 = true) ∧
    (∃ (s : State) (m : Fin 2) (f : List Byte) (code : Bool), s.ethLink m.val = true ∧ (code = true ∨ f.length < 64 ∨ 9216 < f.length ∨ f.drop (f.length - 4) ≠ fcsOf (f.take (f.length - 4)))) ∧
    (∃ (s : State) (m : Fin 2) (f : List Byte) (q : Nat), s.ethLink m.val = true ∧ frameGood f false = true ∧ s.flag (Reg.ETH_CTRL m.val) 6 = true ∧ pauseOf f = some q) ∧
    (∃ (s : State) (m : Fin 2) (f : List Byte), s.ethLink m.val = true ∧ frameGood f false = true ∧ (s.flag (Reg.ETH_CTRL m.val) 6 = false ∨ pauseOf f = none) ∧ s.flag (Reg.ETH_CTRL m.val) 13 = false ∧ ptpEvent f = false) ∧
    (∃ (s : State) (m : Fin 2), s.ethLink m.val = true ∧ s.eth.pause.get 0 m.val ≤ s.count.toNat) ∧
    (∃ (s : State) (m : Fin 2), s.ethLink m.val = true ∧ s.eth.pause.get 0 m.val ≤ s.count.toNat ∧ (s.eth.txts.get [] m.val).length < 16) ∧
    (∃ (s : State) (m : Fin 2), s.count.toNat < s.eth.pause.get 0 m.val) ∧
    (∃ (s : State) (m : Fin 2), s.dropped (Reg.ETH_TXTS_POP m.val) = none) ∧
    (∃ (s : State) (theta : Int), s.ptpOn = true ∧ (s.eth.ptp = 2 ∨ s.eth.ptp = 3) ∧ s.eth.servo.first = false ∧ s.eth.servo.steering = false ∧ theta.natAbs ≤ (s.rd Reg.PTP_STEP_NS).toNat) ∧
    (∃ (s : State), s.ptpOn = true ∧ (s.eth.ptp = 1 ∨ s.eth.ptp = 2 ∨ s.eth.ptp = 3)) ∧
    (∃ (s : State), s.ptpOn = true ∧ s.eth.ptp = 4 ∧ s.eth.servo.holdAt.toNat + (s.rd Reg.PTP_HOLD_MS).toNat * 1000000 ≤ s.count.toNat) ∧
    (∃ (s : State) (id : DWord), s.ptpOn = true ∧ s.eth.ptp ≠ 0 ∧ s.rd64 Reg.PTP_MASTER_ID ≠ id ∧ id ≠ Config.clockId) ∧
    (∃ (s : State), s.ppsOk = true ∧ s.eth.pps.last + 1 = s.ppsIdx) ∧
    (∃ (s : State), s.eth.pps.high = true ∧ s.eth.pps.fall.toNat ≤ s.now.toNat) ∧
    (∃ (s : State), s.ppsOk = false) :=
  ⟨⟨rdy.wr (Reg.ETH_CTRL 1) 1, 1, 2, _, _, by decide, by decide, by decide, rfl, rfl⟩,
   ⟨({ rdy with tb := { count := 0 }, eth := {  } }.wr (Reg.ETH_CTRL 1) 1 |>.wr (Reg.ETH_STATUS 1) 1), 1, by decide⟩,
   ⟨({ rdy with tb := { count := 0 }, eth := {  } }.wr (Reg.ETH_CTRL 1) 1 |>.wr (Reg.ETH_STATUS 1) 1), 1, List.replicate 59 0, true, by decide⟩,
   ⟨((rdy.wr (Reg.ETH_STATUS 1) 1).wr (Reg.ETH_CTRL 1) 0x41), 1, ethPause ++ fcsOf ethPause, 9, by decide +kernel⟩,
   ⟨((rdy.wr (Reg.ETH_STATUS 1) 1).wr (Reg.ETH_CTRL 1) 1), 1, List.replicate 60 0 ++ fcsOf (List.replicate 60 0), by decide +kernel⟩,
   ⟨({ rdy with tb := { count := 0 }, eth := {  } }.wr (Reg.ETH_CTRL 1) 1 |>.wr (Reg.ETH_STATUS 1) 1), 1, by decide⟩,
   ⟨({ rdy with tb := { count := 0 }, eth := { txts := [(1, List.replicate 15 (0, 0))] } }.wr (Reg.ETH_CTRL 1) 1 |>.wr (Reg.ETH_STATUS 1) 1), 1, by decide⟩,
   ⟨({ rdy with tb := { count := 0 }, eth := { pause := [(1, 1)] } }.wr (Reg.ETH_CTRL 1) 1 |>.wr (Reg.ETH_STATUS 1) 1), 1, by decide⟩,
   ⟨rdy, 1, by decide⟩,
   ⟨({ rdy with eth := { ptp := 3, servo := { first := false } } } : State), 0, by decide⟩,
   ⟨({ rdy with eth := { ptp := 3 } } : State), by decide⟩,
   ⟨({ rdy with tb := { count := 0x1000000000000 }, eth := { ptp := 4 } } : State), by decide⟩,
   ⟨({ rdy with eth := { ptp := 1 } } : State), if Config.clockId = 1 then 2 else 1, by and_intros <;> first | rfl | decide | (split <;> first | decide | exact Ne.symm ‹_› | simp_all)⟩,
   ⟨({ rdy with eth := { pps := { last := -1 } } }.wr Reg.PPS_CTRL 1 : State), by decide⟩,
   ⟨({ rdy with eth := { pps := { high := true } } } : State), by decide⟩,
   ⟨rdy, by decide⟩⟩

theorem test_witness_SafetyInputsAreSampledAndJudged :
    (∃ (s : State), s.domOn 2 = true) ∧
    (∃ (f : SafeFilt) (x : Bool), x = f.level) ∧
    (∃ (f : SafeFilt) (n : Nat) (x : Bool), x ≠ f.level ∧ f.run + 1 < n) ∧
    (∃ (f : SafeFilt) (n : Nat) (x : Bool), x ≠ f.level ∧ n ≤ f.run + 1) ∧
    (∃ (s : State) (i : Fin 16) (b : List Byte) (ab : Bool) (k1 : Nat), s.domOn 2 = true ∧ s.safe.block = some b ∧ (s.safePair 0 i.val).epi = some (ab, k1) ∧ k1 + blkTd b i.val + blkFilt b i.val - 1 ≤ s.safe.k) ∧
    (∃ (s : State), s.domOn 2 = true ∧ s.safe.evalAt + 10 ≤ s.safe.k) ∧
    (∃ (s : State), s.safe.k < s.safe.evalAt + 10) ∧
    (∃ (s : State) (e : Fin 8) (a : Bool) (b : Bool), s.domOn 2 = true ∧ ((s.safe.enc.get {} e.val).a = a ∨ (s.safe.enc.get {} e.val).b = b)) ∧
    (∃ (s : State) (b : List Byte), s.domOn 2 = true ∧ s.safe.block = some b ∧ s.safe.encAt + 100 ≤ s.safe.k) :=
  ⟨⟨rdy, by decide⟩,
   ⟨({} : SafeFilt), false, by decide⟩,
   ⟨({ run := 1 } : SafeFilt), 3, true, by decide⟩,
   ⟨({ run := 2 } : SafeFilt), 3, true, by decide⟩,
   ⟨({ rdy with safe := { k := 1, block := some (List.replicate 1024 0), pair := [(15, { epi := some (true, 1) })] } } : State), 15, (List.replicate 1024 0), true, 1, by decide +kernel⟩,
   ⟨({ rdy with safe := { k := 10 } } : State), by decide⟩,
   ⟨({ rdy with safe := { k := 9 } } : State), by decide⟩,
   ⟨rdy, 7, false, true, by decide⟩,
   ⟨({ rdy with safe := { k := 100, block := some (List.replicate 1024 0) } } : State), (List.replicate 1024 0), by decide +kernel⟩⟩

theorem test_witness_SafetyResetsTestsAndPower :
    (∃ (s : State) (n : Nat), s.domOn 2 = true ∧ s.safe.pulse = some n ∧ (n < 10000 ∨ 300000 < n)) ∧
    (∃ (s : State) (n : Nat), s.domOn 2 = true ∧ s.safe.pulse = some n ∧ 10000 ≤ n ∧ n ≤ 300000 ∧ s.safe.state = .lockout ∧ s.safe.faultAt ≠ some s.safe.k ∧ s.resetBar = none) ∧
    (∃ (s : State) (n : Nat) (c : Nat), s.domOn 2 = true ∧ s.safe.pulse = some n ∧ 10000 ≤ n ∧ n ≤ 300000 ∧ s.safe.state = .lockout ∧ s.safe.faultAt ≠ some s.safe.k ∧ s.resetBar = some c) ∧
    (∃ (s : State) (n : Nat), s.domOn 2 = true ∧ s.safe.pulse = some n ∧ 10000 ≤ n ∧ n ≤ 300000 ∧ s.safe.state = .lockout ∧ s.safe.faultAt = some s.safe.k) ∧
    (∃ (s : State) (g : Fin 4) (b : List Byte), s.domOn 2 = true ∧ s.safe.block = some b ∧ (s.safeGrp g.val).state = 1 ∧ (s.safeGrp g.val).since + blkSs1 b g.val ≤ s.safe.k) ∧
    (∃ (s : State) (p : Fin 8) (b : List Byte), s.domOn 2 = true ∧ s.safe.block = some b ∧ s.safe.out.getLsbD p.val = true ∧ bit (blkOut b p.val) 4 = true ∧ s.safe.tested.get none p.val = none) ∧
    (∃ (s : State) (p : Fin 8) (b : List Byte), s.domOn 2 = true ∧ s.safe.block = some b ∧ s.safe.out.getLsbD p.val = true ∧ bit (blkOut b p.val) 4 = true ∧ s.safe.tested.get none p.val = none ∧ s.safe.state = .operational) ∧
    (∃ (s : State), s.domOn 2 = true ∧ s.safe.state = .operational) ∧
    (∃ (s : State), s.domOn 2 = true) ∧
    (∃ (s : State), s.domOn 2 = true ∧ s.safe.state = .selftest ∧ s.safe.bestCopy = none) ∧
    (∃ (s : State) (n : Nat) (c : SafeCopy), s.domOn 2 = true ∧ s.safe.state = .selftest ∧ s.safe.bestCopy = some (n, c)) :=
  ⟨⟨({ rdy with safe := { pulse := some 9999 } } : State), 9999, by decide⟩,
   ⟨({ rdy with safe := { state := .lockout, cause := 1, pulse := some 10000, block := some (List.replicate 1024 0) } } : State), 10000, by decide⟩,
   ⟨({ rdy with safe := { state := .lockout, pulse := some 300000 } } : State), 300000, 9, by decide⟩,
   ⟨({ rdy with safe := { state := .lockout, pulse := some 300000, faultAt := some 0 } } : State), 300000, by decide⟩,
   ⟨({ rdy with safe := { block := some (List.replicate 1024 0), grp := [(3, { state := 1 })] } } : State), 3, (List.replicate 1024 0), by decide +kernel⟩,
   ⟨({ rdy with safe := { block := some (List.replicate 192 0 ++ List.replicate 64 0x10 ++ List.replicate 768 0), out := 0x80 } } : State), 7, (List.replicate 192 0 ++ List.replicate 64 0x10 ++ List.replicate 768 0), by decide +kernel⟩,
   ⟨({ rdy with safe := { state := .operational, block := some (List.replicate 192 0 ++ List.replicate 64 0x10 ++ List.replicate 768 0), out := 0x80 } } : State), 7, (List.replicate 192 0 ++ List.replicate 64 0x10 ++ List.replicate 768 0), by decide +kernel⟩,
   ⟨rdy, by decide⟩,
   ⟨rdy, by decide⟩,
   ⟨({ rdy with safe := {  } } : State), by decide⟩,
   ⟨({ rdy with safe := { copy0 := { bytes := blkOk, marker := true } } } : State), 0, ({ bytes := blkOk, marker := true } : SafeCopy), by decide, by decide, blkOk_best⟩⟩

theorem test_witness_SafetyBlocksAreCommissioned :
    (∃ (s : State), s.dropped Reg.SAFE_MBX_CMD = none ∧ s.domOn 2 = true ∧ s.safe.commit = none) ∧
    (∃ (s : State) (b : List Byte), s.dropped Reg.SAFE_MBX_CMD = none ∧ s.domOn 2 = true ∧ s.safe.commit = none ∧ s.safe.loading = some b ∧ (s.rd Reg.SAFE_MBX_ARG).toNat % 32 = 0 ∧ (s.rd Reg.SAFE_MBX_ARG).toNat < 1024) ∧
    (∃ (s : State), s.dropped Reg.SAFE_MBX_CMD = none ∧ s.domOn 2 = true ∧ s.safe.commit = none ∧ s.safe.loading = none) ∧
    (∃ (s : State) (b : List Byte) (o : Nat), s.dropped Reg.SAFE_MBX_CMD = none ∧ s.domOn 2 = true ∧ s.safe.commit = none ∧ s.safe.loading = some b ∧ blkBad b = some o) ∧
    (∃ (s : State) (b : List Byte), s.dropped Reg.SAFE_MBX_CMD = none ∧ s.domOn 2 = true ∧ s.safe.commit = none ∧ s.safe.loading = some b ∧ blkBad b = none ∧ crc32c (b.take 1020) = blkW b 1020) ∧
    (∃ (s : State), s.dropped Reg.SAFE_MBX_CMD = none ∧ s.domOn 2 = true ∧ s.safe.commit.isSome = true) ∧
    (∃ (s : State) (b : List Byte), s.dropped Reg.SAFE_MBX_CMD = none ∧ s.domOn 2 = true ∧ s.safe.commit = none ∧ s.safe.state ≠ .selftest ∧ s.safe.grp = [] ∧ s.safe.cand = some b ∧ s.rd Reg.SAFE_MBX_ARG ≠ s.rd Reg.SAFE_CAND_CHECK ∧ s.safe.confirms = 0) ∧
    (∃ (s : State) (b : List Byte), s.dropped Reg.SAFE_MBX_CMD = none ∧ s.domOn 2 = true ∧ s.safe.commit = none ∧ s.safe.state ≠ .selftest ∧ s.safe.grp = [] ∧ s.safe.cand = some b ∧ s.rd Reg.SAFE_MBX_ARG = s.rd Reg.SAFE_CAND_CHECK) ∧
    (∃ (s : State) (b : List Byte), s.dropped Reg.SAFE_MBX_CMD = none ∧ s.domOn 2 = true ∧ s.safe.commit = none ∧ s.safe.block = some b ∧ (s.rd Reg.SAFE_MBX_ARG).toNat % 32 = 0 ∧ (s.rd Reg.SAFE_MBX_ARG).toNat < 1024) ∧
    (∃ (s : State), s.dropped Reg.SAFE_MBX_CMD = none ∧ s.domOn 2 = true ∧ s.safe.commit = none ∧ s.safe.cand = none ∧ s.safe.loading = none) ∧
    (∃ (s : State), s.dropped Reg.SAFE_MBX_CMD = none ∧ s.domOn 2 = true ∧ s.safe.commit = none ∧ s.safe.cand.isSome = true) ∧
    (∃ (s : State) (v : Word), s.dropped Reg.SAFE_MBX_CMD = none ∧ s.domOn 2 = true ∧ s.safe.commit = none ∧ (bits v 3 0 = 0 ∨ 6 < bits v 3 0)) ∧
    (∃ (s : State) (n : Nat), s.safe.commit = some n ∧ s.domOn 2 = true) :=
  ⟨⟨rdy, by decide⟩,
   ⟨({ rdy with safe := { loading := some (List.replicate 1024 0) } }).wr Reg.SAFE_MBX_ARG 992, (List.replicate 1024 0), by decide +kernel⟩,
   ⟨rdy, by decide⟩,
   ⟨({ rdy with safe := { loading := some (List.replicate 1024 0xFF) } } : State), (List.replicate 1024 0xFF), 0, by decide +kernel⟩,
   ⟨({ rdy with safe := { loading := some blkOk } } : State), blkOk, by decide, by decide, by decide, rfl, blkOk_good, blkOk_check⟩,
   ⟨({ rdy with safe := { commit := some 0 } } : State), by decide⟩,
   ⟨({ rdy with safe := { state := .lockout, cand := some [] } }).wr Reg.SAFE_MBX_ARG 5, [], by decide⟩,
   ⟨({ rdy with safe := { state := .lockout, cand := some [] } } : State), [], by decide⟩,
   ⟨({ rdy with safe := { block := some (List.replicate 1024 0) } }).wr Reg.SAFE_MBX_ARG 992, (List.replicate 1024 0), by decide +kernel⟩,
   ⟨rdy, by decide⟩,
   ⟨({ rdy with safe := { cand := some [] } } : State), by decide⟩,
   ⟨rdy, 7, by decide⟩,
   ⟨({ rdy with safe := { commit := some 1 } } : State), 1, by decide⟩⟩

theorem test_witness_IslandIsReachedByItsOwnCommandsOnly :
    (∃ (c : Instr) (s : State) (t : State), exec c s = .next t ∧ islandEvent c = false ∧ mailboxWrite c = false) ∧
    (∃ (c : Instr) (s : State) (t : State), exec c s = .next t ∧ c ≠ .safeSupplyLoss ∧ s.domOn 2 = true) ∧
    (∃ (c : Instr) (s : State) (u : State) (t : State) (v : State), islandEvent c = true ∧ exec c s = .next t ∧ exec c u = .next v ∧ s.safe = u.safe ∧ s.domOn 2 = u.domOn 2) ∧
    (∃ (c : Instr) (s : State) (u : State) (t : State) (v : State), mailboxWrite c = true ∧ exec c s = .next t ∧ exec c u = .next v ∧ s.safe = u.safe ∧ s.domOn 2 = u.domOn 2 ∧ s.dropped Reg.SAFE_MBX_CMD = none ∧ u.dropped Reg.SAFE_MBX_CMD = none ∧ s.freeCtr = u.freeCtr ∧ (∀ a, 0x1B000 ≤ a → a < 0x1C000 → s.rd a = u.rd a)) :=
  ⟨⟨.resetPin, rdy, rdy.deviceReset 2, rfl, rfl, rfl⟩,
   ⟨.resetPin, rdy, rdy.deviceReset 2, rfl, by decide, by decide⟩,
   ⟨.safeSupplyLoss, rdy, rdy, _, _, rfl, rfl, rfl, rfl, rfl⟩,
   ⟨.safeMbxDiscard, rdy, rdy, _, _, rfl, rfl, rfl, rfl, rfl, by decide, by decide, rfl, fun _ _ _ => rfl⟩⟩

theorem test_witness_SafeOutputsStayOffOutsideOperational :
    ∃ (s : State) (t : State), (s.safe.state ≠ .operational → s.safe.out = 0) ∧ step s = .next t ∧ t.safe.state ≠ .operational :=
  ⟨State.reset, State.reset.tick, by decide, rfl, by decide⟩

theorem test_witness_CurrentLoopsConvertAndTrim :
    (∃ (s : State) (n : Fin 8), s.ctlRuns = true ∧ s.flag (Reg.LOOP_CH_CFG n.val) 1 = false ∧ (s.loopOf n.val).conv = none ∧ (s.loopOf n.val).grid ≠ s.now.toNat / 100000) ∧
    (∃ (s : State) (n : Fin 8) (t0 : DWord), s.ctlRuns = true ∧ (s.loopOf n.val).conv = some t0 ∧ t0.toNat + 20000 ≤ s.count.toNat) ∧
    (∃ (s : State) (n : Fin 8), s.ctlRuns = true ∧ s.flag Reg.LOOP_CTRL 0 = true ∧ s.loopEn n.val = true ∧ (s.loopOf n.val).sp < 24000) ∧
    (∃ (s : State) (b : TrimBtn), s.trim = some b ∧ s.ctlRuns = true ∧ s.flag Reg.LOOP_CTRL 0 = true ∧ s.loopEn b.ch = true ∧ b.both = false ∧ b.next.toNat ≤ s.count.toNat) ∧
    (∃ (s : State) (b : TrimBtn), s.trim = some b ∧ s.ctlRuns = true) ∧
    (∃ (s : State) (n : Nat), (s.loopUpdate n).loopRow n = .off) :=
  ⟨⟨({ rdy with tb := { count := 100000 }, loop := [(7, {  })] } : State), 7, by decide⟩,
   ⟨({ rdy with tb := { count := 20000 }, loop := [(7, { conv := some 0 })] } : State), 7, 0, by decide⟩,
   ⟨({ rdy with tb := { count := 0 }, loop := [(7, { sp := 23999 })] }).wr Reg.LOOP_CTRL 1 |>.wr (Reg.LOOP_CH_CFG 7) 1, 7, by decide⟩,
   ⟨({ rdy with trim := some { ch := 7 } }.wr Reg.LOOP_CTRL 1 |>.wr (Reg.LOOP_CH_CFG 7) 1 : State), ({ ch := 7 } : TrimBtn), by decide⟩,
   ⟨({ rdy with trim := some {} } : State), ({} : TrimBtn), by decide⟩,
   ⟨rdy, 7, by decide⟩⟩

theorem test_witness_CaskRecordsAreFlushedAndRead :
    (∃ (s : State), s.cask.flushing = true ∧ s.cask.clearing = false ∧ s.cask.overflow = 0) ∧
    (∃ (c : Cask), c.late = 0) ∧
    (∃ (c : Cask), c.late ≤ c.staging.length) ∧
    (∃ (s : State), s.cask.flushing = false) ∧
    (∃ (l : List CaskRec) (n : Nat), (∀ r ∈ l, caskSlotOf r.seq ≠ n)) ∧
    (∃ (l : List CaskRec) (r : CaskRec), r ∈ l ∧ (∀ x ∈ l, caskSlotOf x.seq = caskSlotOf r.seq → x = r)) ∧
    (∃ (q : Nat), q < 8192) ∧
    (∃ (q : Nat), 8192 ≤ q) ∧
    (∃ (s : State), s.count.toNat % 100000000 = 0 ∧ s.cask.staging ≠ []) ∧
    (∃ (s : State), s.dropped Reg.CASK_CMD = none ∧ s.cask.clearing = false ∧ s.cask.flushCmd = false) ∧
    (∃ (s : State), s.dropped Reg.CASK_CMD = none ∧ (s.cask.clearing = true ∨ s.cask.flushCmd = true)) ∧
    (∃ (s : State), s.dropped Reg.CASK_CMD = none ∧ s.cask.clearing = false ∧ s.cask.flushCmd = false ∧ s.cask.held (s.rd64 Reg.CASK_RD_SEQ).toNat = none) ∧
    (∃ (s : State) (r : CaskRec), s.dropped Reg.CASK_CMD = none ∧ s.cask.clearing = false ∧ s.cask.flushCmd = false ∧ s.cask.held (s.rd64 Reg.CASK_RD_SEQ).toNat = some r) ∧
    (∃ (s : State) (b : Fin 256), s.count.toNat % (1000000000 / s.fld (Reg.CASK_BKT b.val) 15 0) = 0 ∧ (s.cask.buckets.get {} b.val).used ≠ 0 ∧ (s.cask.buckets.get {} b.val).gain ≠ some s.count) ∧
    (∃ (s : State), s.count.toNat % 1000000000 = 0 ∧ s.cask.freeze.isSome = true) ∧
    (∃ (s : State), s.count.toNat % 1000000000 = 0 ∧ s.cask.freeze = none ∧ (∀ b, (s.cask.buckets.get {} b).suppr = 0)) ∧
    (∃ (s : State) (b : Fin 256) (v : Word), s.dropped (Reg.CASK_BKT b.val) = none ∧ 1 ≤ bits v 15 0 ∧ 1 ≤ bits v 26 16 ∧ bits v 26 16 ≤ 1024) :=
  ⟨⟨({ rdy with tb := { count := 0 }, cask := { flushing := true, staging := [{}] } } : State), by decide⟩,
   ⟨{}, rfl⟩,
   ⟨{ late := 1, staging := [{}] }, by decide⟩,
   ⟨rdy, by decide⟩,
   ⟨[{}], 1, by decide⟩,
   ⟨[{}], ({} : CaskRec), by decide⟩,
   ⟨8191, by decide⟩,
   ⟨8192, by decide⟩,
   ⟨({ rdy with tb := { count := 100000000 }, cask := { staging := [{}] } } : State), by decide⟩,
   ⟨rdy, by decide⟩,
   ⟨({ rdy with tb := { count := 0 }, cask := { flushCmd := true } } : State), by decide⟩,
   ⟨rdy, by decide⟩,
   ⟨({ rdy with tb := { count := 0 }, cask := { staging := [{}] } } : State), ({} : CaskRec), by decide⟩,
   ⟨({ rdy with tb := { count := 0 }, cask := { buckets := [(255, { used := 1 })] } } : State), 255, by decide⟩,
   ⟨({ rdy with tb := { count := 1000000000 }, cask := { freeze := some {} } } : State), by decide⟩,
   ⟨({ rdy with tb := { count := 1000000000 }, cask := {  } } : State), by and_intros <;> first | rfl | decide | (intro x; rfl)⟩,
   ⟨rdy, 255, 0x04000001, by decide⟩⟩

theorem test_witness_CaskIsClearedAndFrozen :
    (∃ (s : State), s.dropped Reg.CASK_CMD = none ∧ s.cask.clearing = false ∧ s.cask.flushCmd = false) ∧
    (∃ (s : State) (b : List Byte) (t0 : DWord), s.cask.nonce = some (b, t0) ∧ t0.toNat + 600000000000 ≤ s.count.toNat) ∧
    (∃ (s : State) (b : List Byte) (t0 : DWord), s.cask.nonce = some (b, t0) ∧ s.count.toNat < t0.toNat + 600000000000) ∧
    (∃ (s : State), s.cask.freeze = none ∧ s.cask.freezeReq = false ∧ s.cask.nonce = none) ∧
    (∃ (s : State) (fp : List Word), s.cask.marker = some fp ∧ s.cask.clearing = true ∧ s.power.pfail = false) ∧
    (∃ (s : State) (v : Word), s.dropped Reg.CASK_FREEZE = none ∧ bit v 0 = true ∧ s.cask.clearing = false ∧ s.cask.freeze = none) ∧
    (∃ (s : State), s.cask.freezeReq = true ∧ s.cask.flushing = false ∧ s.cask.clearing = false ∧ s.cask.late = 0 ∧ s.power.pfail = false) ∧
    (∃ (s : State) (f : Freeze), s.cask.freeze = some f ∧ s.fld Reg.CASK_FREEZE 13 8 * 1000000000 ≤ (s.count - f.since).toNat ∧ s.cask.deferred = false) ∧
    (∃ (s : State) (f : Freeze), s.cask.freeze = some f ∧ (s.count - f.since).toNat < s.fld Reg.CASK_FREEZE 13 8 * 1000000000) :=
  ⟨⟨rdy, by decide⟩,
   ⟨({ rdy with tb := { count := 600000000000 }, cask := { nonce := some ([], 0) } } : State), [], 0, by decide⟩,
   ⟨({ rdy with tb := { count := 599999999999 }, cask := { nonce := some ([], 0) } } : State), [], 0, by decide⟩,
   ⟨rdy, by decide⟩,
   ⟨({ rdy with tb := { count := 0 }, cask := { marker := some [], clearing := true } } : State), [], by decide⟩,
   ⟨rdy, 1, by decide⟩,
   ⟨({ rdy with tb := { count := 0 }, cask := { freezeReq := true } } : State), by decide⟩,
   ⟨({ rdy with tb := { count := 1000000000 }, cask := { freeze := some {} } }).wr Reg.CASK_FREEZE 0x100, ({} : Freeze), by decide⟩,
   ⟨({ rdy with tb := { count := 999999999 }, cask := { freeze := some {} } }).wr Reg.CASK_FREEZE 0x100, ({} : Freeze), by decide⟩⟩

theorem test_witness_TrustCommandsAct :
    (∃ (s : State) (n : Nat), s.dropped Reg.SEC_CMD = none ∧ s.sec.staging = none ∧ s.sec.bank = some n) ∧
    (∃ (s : State), s.dropped Reg.SEC_CMD = none ∧ s.sec.staging.isSome = true) ∧
    (∃ (s : State) (n : Nat) (len : Nat), s.sec.staging = some (n, len) ∧ s.mgmtRuns = true ∧ s.readsWait .firmware = false) ∧
    (∃ (s : State) (n : Nat) (len : Nat) (img : List Byte), s.sec.staging = some (n, len) ∧ s.mgmtRuns = true ∧ s.readsWait .firmware = false ∧ img.length = len ∧ s.power.recovery = false) ∧
    (∃ (s : State), (s.sec.staging = none ∨ s.readsWait .firmware = true)) ∧
    (∃ (s : State) (b : List Byte), s.dropped Reg.SEC_CMD = none ∧ s.sec.staging = none ∧ s.power.recovery = false ∧ s.sec.running = some b ∧ fwSvn b ≤ s.sec.svnMin) ∧
    (∃ (s : State) (b : List Byte), s.dropped Reg.SEC_CMD = none ∧ s.sec.staging = none ∧ s.power.recovery = false ∧ s.sec.running = some b ∧ s.sec.svnMin < fwSvn b) ∧
    (∃ (s : State), s.dropped Reg.SEC_CMD = none ∧ s.sec.staging = none ∧ s.power.recovery = false) ∧
    (∃ (s : State) (b : List Byte) (t0 : DWord), s.sec.nonce = some (b, t0) ∧ t0.toNat + 600000000000 ≤ s.count.toNat) ∧
    (∃ (s : State) (b : List Byte) (t0 : DWord), s.sec.nonce = some (b, t0) ∧ s.count.toNat < t0.toNat + 600000000000) ∧
    (∃ (s : State), s.dropped Reg.SEC_CMD = none ∧ s.sec.staging = none ∧ s.power.recovery = false ∧ s.sec.nonce = none) :=
  ⟨⟨({ rdy with tb := { count := 0 }, sec := { bank := some 1 } } : State), 1, by decide⟩,
   ⟨({ rdy with tb := { count := 0 }, sec := { staging := some (0, 0) } } : State), by decide⟩,
   ⟨({ rdy with tb := { count := 0 }, sec := { staging := some (1, 0) } } : State), 1, 0, by decide⟩,
   ⟨({ rdy with tb := { count := 0 }, sec := { staging := some (1, 0) } } : State), 1, 0, [], by decide⟩,
   ⟨rdy, by decide⟩,
   ⟨({ rdy with tb := { count := 0 }, sec := { bank := some 0, bank0 := { image := [] } } } : State), [], by decide⟩,
   ⟨({ rdy with tb := { count := 0 }, sec := { bank := some 0, bank0 := { image := (List.replicate 8 0 ++ [1]) } } } : State), (List.replicate 8 0 ++ [1]), by decide⟩,
   ⟨rdy, by decide⟩,
   ⟨({ rdy with tb := { count := 600000000000 }, sec := { nonce := some ([], 0) } } : State), [], 0, by decide⟩,
   ⟨({ rdy with tb := { count := 599999999999 }, sec := { nonce := some ([], 0) } } : State), [], 0, by decide⟩,
   ⟨rdy, by decide⟩⟩

theorem test_witness_FusesAreOnlyEverSet :
    ∃ (s : State) (t : State), step s = .next t :=
  ⟨rdy, rdy.tick, rfl⟩

theorem test_witness_ResetsLeaveWhatTheyMust :
    (∃ (s : State), s.power.started = true) ∧
    (∃ (s : State) (a : Nat), s.power.started = true ∧ 0x1B000 ≤ a ∧ a < 0x1C000) ∧
    (∃ (s : State), s.power.started = false) ∧
    (∃ (s : State), s.flag Reg.GLOBAL_CFG 0 = false) ∧
    (∃ (s : State), s.flag Reg.GLOBAL_CFG 0 = true) ∧
    (∃ (s : State), s.power.started = true ∧ s.host.op = none) ∧
    (∃ (s : State) (t0 : Nat), s.power.started = true ∧ s.host.op = none ∧ s.power.resetKey = some t0 ∧ (s.count - t0).toNat ≤ 1000000) ∧
    (∃ (s : State) (t0 : Nat), s.power.started = true ∧ s.host.op = none ∧ s.power.resetKey = some t0 ∧ 1000000 < (s.count - t0).toNat) ∧
    (∃ (s : State), s.power.started = true ∧ s.host.op = none ∧ s.power.resetKey = none) :=
  ⟨⟨rdy, by decide⟩,
   ⟨rdy, 0x1BFFF, by decide⟩,
   ⟨State.reset, by decide⟩,
   ⟨rdy.wr Reg.GLOBAL_CFG 0, by decide⟩,
   ⟨rdy.wr Reg.GLOBAL_CFG 1, by decide⟩,
   ⟨rdy, by decide⟩,
   ⟨({ rdy with tb := { count := 1000000 }, power := { rdy.power with resetKey := some 0 } } : State), 0, by decide⟩,
   ⟨({ rdy with tb := { count := 1000001 }, power := { rdy.power with resetKey := some 0 } } : State), 0, by decide⟩,
   ⟨rdy, by decide⟩⟩

theorem test_witness_StartUpGoesThroughItsPhases :
    (∃ (s : State), s.power.started = true ∧ s.power.phase = 1 ∧ s.power.pfail = false ∧ s.power.refLost = false) ∧
    (∃ (s : State) (n : Nat), s.power.phase = 2 ∧ s.power.recovery = false ∧ s.sec.bank = some n) ∧
    (∃ (s : State), s.power.phase = 2 ∧ s.power.recovery = false ∧ s.sec.bank = none ∧ s.sec.bank0.marker ≠ markValid ∧ s.sec.bank1.marker ≠ markValid) ∧
    (∃ (s : State), s.power.phase = 3) ∧
    (∃ (s : State), s.power.phase = 4 ∧ s.safe.state ≠ .selftest) ∧
    (∃ (s : State), s.power.phase = 5 ∧ s.power.s5Done = false ∧ s.fab.disc = none ∧ s.flag Reg.FAB_CFG 0 = false) ∧
    (∃ (s : State), s.power.phase = 5 ∧ s.power.s5Done = true ∧ s.twin.startWait = none) ∧
    (∃ (s : State), s.power.phase = 6 ∧ (∀ ch, ch < 64 → (s.hlOf ch).state = .up ∨ (s.hlOf ch).state = .off)) ∧
    (∃ (s : State), s.power.phase = 6 ∧ (∃ ch, ch < 64 ∧ (s.hlOf ch).state = .train)) ∧
    (∃ (s : State), s.power.phase = 1) :=
  ⟨⟨({ rdy with tb := { count := 0 }, power := { rdy.power with phase := 1 } } : State), by decide⟩,
   ⟨({ rdy with power := { rdy.power with phase := 2 }, sec := { bank := some 1 } } : State), 1, by decide⟩,
   ⟨({ rdy with tb := { count := 0 }, power := { rdy.power with phase := 2 } } : State), by decide⟩,
   ⟨({ rdy with tb := { count := 0 }, power := { rdy.power with phase := 3 } } : State), by decide⟩,
   ⟨({ rdy with tb := { count := 0 }, power := { rdy.power with phase := 4 } } : State), by decide⟩,
   ⟨({ rdy with tb := { count := 0 }, power := { rdy.power with phase := 5, s5Done := false } }).wr Reg.FAB_CFG 0, by decide⟩,
   ⟨({ rdy with tb := { count := 0 }, power := { rdy.power with phase := 5 } } : State), by decide⟩,
   ⟨({ rdy with tb := { count := 0 }, power := { rdy.power with phase := 6 } } : State), by decide⟩,
   ⟨({ rdy with power := { rdy.power with phase := 6 }, hl := [(63, { state := .train })] } : State), by decide, ⟨63, by decide⟩⟩,
   ⟨({ rdy with tb := { count := 0 }, power := { rdy.power with phase := 1 } } : State), by decide⟩⟩

theorem test_witness_DomainsSwitchInTheirTurn :
    (∃ (s : State) (v : Word), s.dropped Reg.GLOBAL_PD_CTRL = none ∧ s.power.goingOn = 0 ∧ s.power.goingOff = 0 ∧ (BitVec.ofNat 8 v.toNat ||| 7) = s.power.on) ∧
    (∃ (s : State) (v : Word), s.dropped Reg.GLOBAL_PD_CTRL = none ∧ s.power.goingOn = 0 ∧ s.power.goingOff = 0 ∧ s.power.on = 7 ∧ bit v 5 = true) ∧
    (∃ (s : State) (v : Word), s.dropped Reg.GLOBAL_PD_CTRL = none ∧ s.power.goingOn = 0 ∧ s.power.goingOff = 0 ∧ s.power.on = 7 ∧ bit v 5 = false ∧ bit v 3 = true ∧ bit v 4 = false) ∧
    (∃ (s : State) (d : Domain), s.power.goingOff = 0 ∧ turnOf onOrder s.power.goingOn d.val = true) ∧
    (∃ (s : State) (d : Domain), turnOf onOrder s.power.goingOn d.val = false) ∧
    (∃ (s : State) (d : Domain), turnOf offOrder s.power.goingOff d.val = true ∧ s.activeIn d.val ≠ []) ∧
    (∃ (s : State) (d : Domain), turnOf offOrder s.power.goingOff d.val = true ∧ s.activeIn d.val = []) ∧
    (∃ (s : State), s.power.pfail = false) ∧
    (∃ (s : State), s.power.pfail = true) :=
  ⟨⟨rdy, 0xF8, by decide⟩,
   ⟨cold, 0x20, by decide⟩,
   ⟨cold, 0x08, by decide⟩,
   ⟨({ rdy with power := { on := 0x07, goingOn := 0xF8 } } : State), 5, by decide⟩,
   ⟨rdy, 7, by decide⟩,
   ⟨({ prt act with power := { rdy.power with goingOff := 0x10 } }).wr (Reg.CTX_CHMAP 63 + 4) 0x80000000, 4, by decide⟩,
   ⟨({ rdy with tb := { count := 0 }, power := { rdy.power with goingOff := 0x10 } } : State), 4, by decide⟩,
   ⟨rdy, by decide⟩,
   ⟨({ rdy with power := { rdy.power with pfail := true } } : State), by decide⟩⟩

theorem test_witness_StepsTakeTheFrontCommandAlone :
    ∃ (s : State) (t : State), step s = .next t :=
  ⟨{ rdy with pending := [.resetPin, .resetPin] }, _, rfl⟩

theorem test_witness_ResetMeetsTheInvariants :
    State.reset.safe.state ≠ .operational :=
  by decide

/-! The operands that the outside cannot send are told apart (Sys2Proof/WellFormed.lean): one term for each check. -/

theorem test_wf_access_width : (Instr.registerWrite false 0 3 0).wf = false := by decide
theorem test_wf_offset_in_a_bar : (Instr.rcRead false 0x30000 4 0).wf = false := by decide
theorem test_wf_descriptor_has_sixteen_words : (Instr.descPage 1 (List.replicate 15 0)).wf = false := by decide
theorem test_wf_hit_in_the_buffer : (Instr.frameBoundary [{ word := 2097152, flip := 1 }]).wf = false := by decide
theorem test_wf_hit_once : (Instr.frameBoundary [{ word := 5, flip := 1 }, { word := 5, flip := 2 }]).wf = false := by decide
theorem test_wf_packet_fits_len : (Instr.fabHelloRx 0 (List.replicate 1026 (false, 0))).wf = false := by decide +kernel
theorem test_wf_return_frame_fits_its_window : (Instr.hlReturnFrame 0 (List.replicate 123 (false, 0))).wf = false := by decide +kernel
theorem test_wf_code_groups_fit_a_frame : (Instr.sbFrameRx 0 0 (List.replicate 160 0) 0).wf = false := by decide +kernel
theorem test_wf_ethernet_frame_has_bytes : (Instr.ethFrameRx 0 [] false 0).wf = false := by decide
theorem test_wf_classical_can_payload : (Instr.canFrameRx 0 { cf with payload := List.replicate 9 0 } 0).wf = false := by decide
theorem test_wf_can_fd_payload : (Instr.canFrameRx 0 { cf with fdf := true, payload := List.replicate 65 0 } 0).wf = false := by decide
theorem test_wf_program_header : (Instr.cycLoadDone false (List.replicate 63 0) false []).wf = false := by decide
theorem test_wf_accepts :
    (Instr.registerWrite false 0x2FFFE 2 0).wf = true ∧ (Instr.descPage 1 (List.replicate 16 0)).wf = true ∧
    (Instr.frameBoundary [{ word := 2097151, flip := 1 }]).wf = true ∧ (Instr.fabHelloRx 0 [idleBlock]).wf = true ∧
    (Instr.hlReturnFrame 0 (List.replicate 122 (false, 0))).wf = true ∧ (Instr.sbFrameRx 0 0 (List.replicate 159 0) 0).wf = true ∧
    (Instr.ethFrameRx 0 [0] false 0).wf = true ∧ (Instr.canFrameRx 0 { cf with fdf := true, payload := List.replicate 64 0 } 0).wf = true ∧
    (Instr.cycLoadDone true [] false []).wf = true := by decide +kernel

/-! The worked examples and check values of the specification. -/

/-- "123456789". -/
def digits : List Byte := [0x31, 0x32, 0x33, 0x34, 0x35, 0x36, 0x37, 0x38, 0x39]

/-- R168's check value. -/
theorem test_crc32c_check_value : crc32c digits = 0xE3069283 := by decide +kernel

/-- The check value of the head link's frame check (05 and 08 give the two check values). -/
theorem test_crc16_check_value : crc16 digits = 0x29B1 := by decide +kernel

/-- The example of R45: 1,000 counts at 15/127 lines each. -/
theorem test_position_of_1000_counts : ({} : Pref).convert 15 127 1000 = { ({} : Pref) with pos := 7740472, acc := 56 } := by decide

/-- The payload of the worked example of 05. -/
def gristPayload : List Byte := [0x08, 0x00, 0xC8, 0x43, 0x00, 0x44, 0x80, 0x14, 0x00, 0x40, 0x00, 0x40, 0x18, 0x00]
/-- The header of the worked example of 05. -/
def gristHeader : List Word := [0x05017247, 0x00020006, 3, 0xE, 0, 0, 0, 0]

theorem test_grist_example_decodes :
    gristDecode gristPayload 8 6 2 1 = .ok [100, 102, 102, 101, 101, 101, 100, 103, 102, 101, 101, 101] := by decide +kernel
theorem test_grist_example_passes :
    arrivalCheck (gristHeader.flatMap wordBytes ++ gristPayload) 46 3 0 0 6 2 (some [7, 0x76543210, 0xFEDCBA98, 0]) = some 0 := by decide +kernel
theorem test_grist_example_cut_underruns : gristDecode (gristPayload.take 13) 8 6 2 1 = .error 0x0A := by decide +kernel

/-- The cell of the threshold example of 06: tones 2,200 and 2,201. -/
theorem test_threshold_is_strict : sizeOf3 2200 1000 2200 3400 = 1 ∧ sizeOf3 2201 1000 2200 3400 = 2 := by decide

/-- The DIFFUSE table of the worked example of 06. -/
def diffuseTable : List Byte := ([0x07F35107, 0x07FF02AA, 0x00000D54, 0x05550000, 0x0FFF0AAA] : List Word).flatMap wordBytes
/-- Its WAVESEL table. -/
def waveTable : List Byte := ([0xE4E4E4E4, 0x08000400, 0x00000C00] : List Word).flatMap wordBytes
/-- Its curve: v = 32 gives the tone 500. -/
def curveTable : List Byte := List.replicate 64 0 ++ [0xF4, 0x01]

theorem test_diffusion_line_L :
    diffuseLine curveTable waveTable diffuseTable 0 [some 32, some 32, some 32, some 32, some 32] [0, 0, 0, 0, 0] 0 0 0
      = ([0, 4, 0, 0, 4], [31, -40, 14, 37, -38], 0) := by decide +kernel
theorem test_diffusion_next_line :
    (diffuseLine curveTable waveTable diffuseTable 0 [some 32, some 32, some 32, some 32, some 32] [31, -40, 14, 37, -38] 0 0 0).2.1.take 3
      = [33, 38, -29] := by decide +kernel

/-- The lane partition of the worked example of 06: head 9 prints the rest of the page, and heads 0 and 1 what stands before it. -/
theorem test_lane_partition :
    ({ plane := 0, cols := 5376, x0 := -688, sx := 0, sn := 4560 } : LaneCfg).count 50079 = 4560 ∧
    ({ plane := 0, cols := 5376, x0 := 45392, sx := 45520, sn := 5120 } : LaneCfg).count 50079 = 4559 := by decide

/-- The CLASS words of the worked example of 07: class 1 and remap row 1. -/
def classTable : List Word := List.replicate 1 0 ++ [0x00002662] ++ List.replicate 14 0 ++ [0xE4, 0xE4]
/-- A column of the example. -/
def exCol (code : Nat) (r : Word) : Col := { code := code, mine := true, nrec := r }

theorem test_compensation_example :
    compLine classTable none none [exCol 4 0x00610010, exCol 13 0x0071F610, exCol 9 0x00010012, exCol 0 0x00110010, exCol 0 0x00210010]
      = ([4, 13, 0, 5, 0], 16) := by decide +kernel

/-- The delay of column 1,999: ROW_DLY of row 7 is 168 lines, TRIM −10. -/
theorem test_delay_example : ((rdy.wr (Reg.NOZ_CH_RDLY 3 3) 0x00A80090).recDelay 3 0x0071F610) = 10742 := by decide +kernel

/-- The token of the worked example of 08: slot 10,001, fine 262, T 7,056. -/
theorem test_token_example : tokenBlock true { line := 10001, fine := 262, period := 7056 } = (true, 0x006E410627110133) := by decide

/-- Its calibration: R − HT = 49 ns in every exchange, HFIX 400 ns. -/
theorem test_calibration_example : calResult (List.replicate 256 784) 400 = some (392, 6792) := by decide +kernel

/-- The tune of the worked example of 12: six cycles of 48.0 s with a swing of 80, d = 2,000. -/
def tuned : State :=
  ((rdy.wr Reg.KILN_TUNE_D 2000).wr Reg.KILN_TUNE_H 5).tuneDone { loop := 17, n := 6, sumT := 288000000, sumHi := 480, sumLo := 0 }

theorem test_tune_example :
    tuned.rd Reg.KILN_TUNE_KP = 0x0026327B ∧ tuned.rd Reg.KILN_TUNE_KI = 0x00019770 ∧ tuned.rd Reg.KILN_TUNE_KD = 0x00E52EE1 ∧
    tuned.rd Reg.KILN_TUNE_PU = 48000000 := by decide +kernel

end Sys2Proof.Tests
end

section
/-!
PROOFS. The step and the queue (O1, O58), the reset (O3), and the writes of registers with reserved bits that two of the statements
leave out of account (O4, O5).
-/
open Sys2Proof
namespace Sys2Proof.Machine

/-! The step and the queue. -/

/-- With no command waiting a step is a tick. -/
theorem step_of_pending_nil {s : State} (h : s.pending = []) : step s = .next s.tick := by
  rw [step, h]

theorem step_of_pending_cons {s : State} {c : Instr} {r : List Instr} (h : s.pending = c :: r) :
    step s = exec c { s with pending := r } := by
  rw [step, h]

/-- Settles O1: the queue of the state is `c :: r`. -/
theorem stepRunsTheFrontCommand : Obligations.StepRunsTheFrontCommand :=
  fun _ _ _ => step_of_pending_cons rfl

/-- Settles O58: a tick keeps the empty queue, and the front command keeps the rest that it is run on. -/
theorem stepsTakeTheFrontCommandAlone : Obligations.StepsTakeTheFrontCommandAlone := by
  intro s t h
  cases hp : s.pending with
  | nil =>
    rw [step_of_pending_nil hp] at h
    cases h
    exact (tick_facts s).1.trans hp
  | cons c r =>
    rw [step_of_pending_cons hp] at h
    exact (exec_facts c _ t h).1

/-! The reset. -/

theorem rd_reset_hostRingCtrl (n : Nat) (h1 : 1 ≤ n) (h63 : n ≤ 63) : State.reset.rd (Reg.HOST_RING_CTRL n) = 0x18C := by
  have h : ∀ k : Fin 63, resetWord (Reg.HOST_RING_CTRL (k + 1)) = 0x18C := by decide
  obtain ⟨k, rfl⟩ := Nat.exists_eq_add_of_le' h1
  exact h ⟨k, by omega⟩

/-- Settles O3: every field of the reset state has its default, and the register file is empty, so that every register reads its reset
word. -/
theorem resetLeavesEveryPartAtRest : Obligations.ResetLeavesEveryPartAtRest :=
  ⟨fun _ => rfl, rfl, rd_reset_hostRingCtrl, rfl, fun _ => rfl, fun _ => rfl, rfl, rfl, rfl, rfl⟩

/-! Writes of registers with reserved bits: `State.plain` stores the RW bits of what is written and keeps the other bits of the stored word. -/

/-- A part that has started, with a 1 stored in the reserved bit 0 of HOST_EVT_BASE. No write of the register sets that bit,
but O4 speaks of every state. -/
def evtBaseReservedSet : State := { power := { ready := true }, regs := [(Reg.HOST_EVT_BASE, 1)] }

theorem evtBase_keeps_reserved :
    (outState (exec (.reg64HighWrite false (Reg.HOST_EVT_BASE + 4) 0) evtBaseReservedSet) {}).rd64 Reg.HOST_EVT_BASE = 1 := by
  decide

/-- Refutes O4: the clause for a high-word write with nothing held says that bits 11:0 of the event ring's base are 0 afterwards; a reserved bit
that the register file holds as 1 stays 1. -/
theorem not_sixtyFourBitRegistersKeepTheirHalves : ¬ Obligations.SixtyFourBitRegistersKeepTheirHalves := by
  intro h
  obtain ⟨-, -, -, -, -, -, -, hHigh⟩ := h
  obtain ⟨t, ht, -, hrd⟩ := hHigh evtBaseReservedSet 0 (by decide) (by decide) (by decide)
  have hkept := evtBase_keeps_reserved
  rw [ht, outState_next, hrd] at hkept
  exact absurd hkept (by decide)

/-- A part that has started, every context IDLE. -/
def startedPart : State := { power := { ready := true } }

theorem slackHyst_drops_reserved :
    (outState (exec (.registerWrite false (Reg.CTX_SLACK_HYST 1) 4 0x10000) startedPart) {}).rd (Reg.CTX_SLACK_HYST 1) = 0 := by
  decide

/-- Refutes O5: the clause for CTX_SLACK_HYST says that an IDLE context's register stores all 32 bits of what is written; the hysteresis is bits 15:0,
and bit 16 of a write is not stored. -/
theorem not_registerAccessesFollowTheirCodes : ¬ Obligations.RegisterAccessesFollowTheirCodes := by
  intro h
  obtain ⟨-, hHyst, -⟩ := h
  have hw := hHyst startedPart 1 0x10000 (by decide) (by decide) (by decide)
  have hdrop := slackHyst_drops_reserved
  rw [hw, outState_next] at hdrop
  exact absurd hdrop (by decide)

end Sys2Proof.Machine
end

section
/-!
PROOFS. Every command completes (O60): the shared operations and the register writes by a lemma each, then the rows, chapter by chapter.
-/
open Sys2Proof
namespace Sys2Proof.Machine

/-- The outcome of a command is a next state. -/
def Completes (o : Out) : Prop := ∃ t, o = .next t

theorem Completes.next (t : State) : Completes (.next t) := ⟨t, rfl⟩

theorem Completes.ite {c : Prop} [Decidable c] {a b : Out} (ha : Completes a) (hb : Completes b) : Completes (if c then a else b) := by
  split
  · exact ha
  · exact hb

theorem Completes.andThen {o : Out} {f : State → Out} (ho : Completes o) (hf : ∀ t, Completes (f t)) : Completes (andThen o f) := by
  obtain ⟨t, rfl⟩ := ho
  exact hf t

/-- A doorbell of PF0 completes when what it does in a ready part does. -/
theorem State.pf0Bell_completes (s : State) (f : State → Out) (hf : ∀ t, Completes (f t)) : Completes (s.pf0Bell f) :=
  .ite (.next _) (.ite (.next _) (hf s))

theorem State.kilnCmd_completes (s : State) (f : Nat → State → Out) (hf : ∀ n t, Completes (f n t)) : Completes (s.kilnCmd f) := by
  unfold State.kilnCmd
  split
  · exact .next _
  · exact hf _ s

theorem State.ctxCmd_completes (s : State) (cmd : Nat) (d : List Word) : Completes (s.ctxCmd cmd d) := by
  simp only [State.ctxCmd]
  (repeat' split) <;> exact .next _

theorem State.kilnReq_completes (s : State) (m : Nat) : Completes (s.kilnReq m) := State.kilnCmd_completes _ _ fun _ _ => .next _

theorem execKilnCmdWrite_completes (s : State) : Completes (execKilnCmdWrite s) :=
  State.kilnCmd_completes _ _ fun _ _ => .ite (.next _) (.next _)

theorem execKilnCmdRead_completes (s : State) : Completes (execKilnCmdRead s) := State.kilnCmd_completes _ _ fun _ _ => .next _

theorem execKilnTuneStart_completes (s : State) : Completes (execKilnTuneStart s) :=
  State.kilnCmd_completes _ _ fun _ _ => .ite (.next _) (.ite (.next _) (.ite (.next _) (.next _)))

theorem execKilnTuneCancel_completes (s : State) : Completes (execKilnTuneCancel s) := State.kilnCmd_completes _ _ fun _ _ => .next _

theorem execMgmtDoorbell_completes (v : Word) (s : State) : Completes (execMgmtDoorbell v s) :=
  State.pf0Bell_completes _ _ fun t => .ite (.next _) (by split <;> exact .next _)

theorem execEvtDoorbell_completes (v : Word) (s : State) : Completes (execEvtDoorbell v s) :=
  State.pf0Bell_completes _ _ fun t => .ite (.next _) (by split <;> exact .next _)

theorem execCtxSqDoorbell_completes (n : Nat) (v : Word) (s : State) : Completes (execCtxSqDoorbell n v s) :=
  .ite (.next _) (.ite (.next _) (by dsimp only; split <;> exact .next _))

theorem execCtxCqDoorbell_completes (n : Nat) (v : Word) (s : State) : Completes (execCtxCqDoorbell n v s) :=
  .ite (.next _) (.ite (.next _) (by dsimp only; split <;> exact .next _))

/-! Register writes. -/

theorem State.kilnCmdWrite_completes (s : State) (code : Nat) : Completes (s.kilnCmdWrite code) := by
  unfold State.kilnCmdWrite
  split
  · exact execKilnCmdWrite_completes s
  · exact execKilnCmdRead_completes s
  · exact State.kilnReq_completes s _
  · exact State.kilnReq_completes s _
  · exact State.kilnReq_completes s _
  · exact execKilnTuneStart_completes s
  · exact execKilnTuneCancel_completes s
  · exact .next _

theorem State.putKiln_completes (s : State) (off : Nat) (v : Word) : Completes (s.putKiln off v) :=
  .ite (.ite (.next _) (.next _)) (.ite (State.kilnCmdWrite_completes s _) (.ite (.next _) (.ite (.next _) (.ite (.next _) (.next _)))))

/-- In the regions whose writes run rows of their own, each branch of the write is a row that completes; Kiln's go through a shared operation. -/
theorem State.putReg_completes (s : State) (off : Nat) (v : Word) : Completes (s.putReg off v) := by
  unfold State.putReg
  cases regionOf off
  case kiln => exact State.putKiln_completes s off v
  case timePos | noz | hlink | cycle | sbus | can | cask | sec =>
    simp only [State.putPos, execTbArmWrite, State.putNoz, State.putHl, State.putCyc, State.cycCmdWrite, State.putSb, State.putCan,
      State.canTxbCmd, State.putCask, State.caskCmdWrite, State.putSec, State.secCmdWrite]
    (repeat' split) <;> exact .next _
  all_goals exact .next _

theorem State.putReg64_completes (s : State) (base : Nat) (v : DWord) : Completes (s.putReg64 base v) := by
  simp only [State.putReg64]
  (repeat' split) <;> exact .next _

theorem State.pairPut_completes (s : State) (off : Nat) (v : Word) (high : Bool) : Completes (s.pairPut off v high) :=
  .ite (.next _) (.andThen (State.putReg64_completes s _ _) fun _ => .next _)

theorem State.putWord_completes (s : State) (off : Nat) (v : Word) : Completes (s.putWord off v) := by
  unfold State.putWord
  split
  · exact .next _
  · split
    · exact State.pairPut_completes s off v _
    · split
      · exact .next _
      · exact .next _
      · exact State.putReg_completes s off v

theorem State.bar2Write_completes (s : State) (pf1 : Bool) (off : Nat) (v : Word) : Completes (s.bar2Write pf1 off v) :=
  .ite (.next _) (.ite (.ite (.next _) (.ite (execCtxSqDoorbell_completes _ v s) (.ite (execCtxCqDoorbell_completes _ v s) (.next _))))
    (.ite (execMgmtDoorbell_completes v s) (.ite (execEvtDoorbell_completes v s) (.next _))))

theorem execGlobalResetCmd_completes (v : Word) (s : State) : Completes (execGlobalResetCmd v s) := .ite (.next _) (.ite (.next _) (.next _))

theorem State.busWrite_completes (s : State) (pf1 : Bool) (off : Nat) (v : Word) : Completes (s.busWrite pf1 off v) := by
  refine .ite (State.bar2Write_completes s pf1 _ v) (.ite (.next _) (.ite (execGlobalResetCmd_completes v s) ?_))
  split
  · exact .next _
  · exact State.putWord_completes s off v

/-! The rows. -/

theorem execEncZEdge_completes (e : Nat) (z : Bool) (run : Nat) (sub : Fin 6) (s : State) : Completes (execEncZEdge e z run sub s) := by
  simp only [execEncZEdge]
  (repeat' split) <;> exact .next _

theorem execDescTile_completes (n : Nat) (d : List Word) (s : State) : Completes (execDescTile n d s) := by
  simp only [execDescTile]
  (repeat' split) <;> exact .next _

theorem execLineScreen_completes (ch : Nat) (ecc : List EccHit) (s : State) : Completes (execLineScreen ch ecc s) := by
  simp only [execLineScreen]
  (repeat' split) <;> exact .next _

theorem execFabCoordElect_completes (s : State) : Completes (execFabCoordElect s) := by
  simp only [execFabCoordElect]
  (repeat' split) <;> exact .next _

/-- Each branch of a row's definition ends in a next state or in a shared operation that completes. The rows that go through a shared operation are
named first, then those that tell cases apart by a match, a group for each file of the model; the others have guards alone, or none. -/
theorem exec_completes (c : Instr) (s : State) : Completes (exec c s) := by
  cases c
  case reg64LowWrite | reg64HighWrite => exact .ite (.next _) (.ite (State.busWrite_completes s _ _ _) (.next _))
  case registerWrite => exact .ite (.next _) (State.busWrite_completes s _ _ _)
  case w1cWrite => exact .ite (.next _) (.ite (.next _) (.andThen (State.busWrite_completes s _ _ _) fun _ => .next _))
  case ctxSqDoorbell n v => exact execCtxSqDoorbell_completes n v s
  case ctxCqDoorbell n v => exact execCtxCqDoorbell_completes n v s
  case mgmtDoorbell v => exact execMgmtDoorbell_completes v s
  case evtDoorbell v => exact execEvtDoorbell_completes v s
  case ctxArm | ctxStart | ctxDrain | ctxHalt | ctxReset => exact State.ctxCmd_completes s _ _
  case kilnCmdWrite => exact execKilnCmdWrite_completes s
  case kilnCmdRead => exact execKilnCmdRead_completes s
  case kilnManual | kilnAuto | kilnOff => exact State.kilnReq_completes s _
  case kilnTuneStart => exact execKilnTuneStart_completes s
  case kilnTuneCancel => exact execKilnTuneCancel_completes s
  case encZEdge => exact execEncZEdge_completes _ _ _ _ s
  case descTile => exact execDescTile_completes _ _ s
  case lineScreen => exact execLineScreen_completes _ _ s
  case fabCoordElect => exact execFabCoordElect_completes s
  case cycLogicEnd t r =>
    show Completes (execCycLogicEnd t r s)
    unfold execCycLogicEnd
    split
    · exact .ite (.next _) (.ite (.next _) (.ite (.next _) (.next _)))
    · exact .next _
  case prefSampleLoss =>
    simp only [exec, execPrefSampleLoss]
    (repeat' split) <;> exact .next _
  case gpioPulseEnd =>
    simp only [exec, execGpioPulseEnd]
    (repeat' split) <;> exact .next _
  case opEnd =>
    simp only [exec, execOpEnd]
    (repeat' split) <;> exact .next _
  case tableLoadCopyDone | cqModTimer | evtModTimer | ctxHaltTake | tileFetch | tileCopyDone =>
    simp only [exec, execTableLoadCopyDone, execCqModTimer, execEvtModTimer, execCtxHaltTake, execTileFetch, execTileCopyDone]
    (repeat' split) <;> exact .next _
  case cycOutputWrite | cycWatchdog | cycEventTrigger | cycRetCopyDone =>
    simp only [exec, execCycOutputWrite, execCycWatchdog, execCycEventTrigger, execCycRetCopyDone]
    (repeat' split) <;> exact .next _
  case lineCompensate | nozPendingReady | nozArmLoadDone =>
    simp only [exec, execLineCompensate, execNozPendingReady, execNozArmLoadDone]
    (repeat' split) <;> exact .next _
  case hlCalRx =>
    simp only [exec, execHlCalRx]
    (repeat' split) <;> exact .next _
  case fabPortUp | fabHelloTimer | fabRouteRepeat | fabRouteSwitch | fabDiscTimeout | fabHoldExpire | fabSnapLatch =>
    simp only [exec, execFabPortUp, execFabHelloTimer, execFabRouteRepeat, execFabRouteSwitch, execFabDiscTimeout, execFabHoldExpire,
      execFabSnapLatch]
    (repeat' split) <;> exact .next _
  case twinHbLost | twinHbDecide2 | twinTakeover | twinStartWaitExpire | twinSwapDeferred =>
    simp only [exec, execTwinHbLost, execTwinHbDecide2, execTwinTakeover, execTwinStartWaitExpire, execTwinSwapDeferred]
    (repeat' split) <;> exact .next _
  case kilnOutputWrite | kilnTuneTimeout =>
    simp only [exec, execKilnOutputWrite, execKilnTuneTimeout]
    (repeat' split) <;> exact .next _
  case sbSlotTx | sbFrameRx | sbEventFrameRx | sbCorrection =>
    simp only [exec, execSbSlotTx, execSbFrameRx, execSbEventFrameRx, execSbCorrection]
    (repeat' split) <;> exact .next _
  case canTxSuccess | canBusOffRecovered =>
    simp only [exec, execCanTxSuccess, execCanBusOffRecovered]
    (repeat' split) <;> exact .next _
  case ethFrameRx | ethFrameTx =>
    simp only [exec, execEthFrameRx, execEthFrameTx]
    (repeat' split) <;> exact .next _
  case safeStrobe | safeDiscrepancyTimeout | safeEncEval | safeResetPulse | safeSs1Expire | safeTestPulse | safeCommitDone =>
    simp only [exec, execSafeStrobe, execSafeDiscrepancyTimeout, execSafeEncEval, execSafeResetPulse, execSafeSs1Expire, execSafeTestPulse,
      execSafeCommitDone]
    (repeat' split) <;> exact .next _
  case loopConvDone | loopTrimRepeat | loopTrimRelease =>
    simp only [exec, execLoopConvDone, execLoopTrimRepeat, execLoopTrimRelease]
    (repeat' split) <;> exact .next _
  case caskClearDone | caskFreezeTimeout =>
    simp only [exec, execCaskClearDone, execCaskFreezeTimeout]
    (repeat' split) <;> exact .next _
  case fwStageDone =>
    simp only [exec, execFwStageDone]
    (repeat' split) <;> exact .next _
  all_goals
    repeat' refine .ite ?_ ?_
    all_goals exact .next _

/-- Settles O60: no branch of any row ends in a fault or a refusal. -/
theorem everyCommandCompletes : Obligations.EveryCommandCompletes := exec_completes

end Sys2Proof.Machine
end

section
/-!
PROOFS. Clocks and SYSREF (O6): what the loss and the return of a clock do, what a PLL that locks again leaves noted, and the three ways in which
a SYSREF edge is taken.
-/
open Sys2Proof
namespace Sys2Proof.Machine

/-! The reference clock and the PLLs (R35). -/

theorem exec_clkRefLost {s : State} (h : s.power.refLost = false) : exec .clkRefLost s =
    .next (({ s with tb := { s.tb with holdover := true }, power := { s.power with refLost := true } } : State).clockStop.raise 0x0101 0 []) :=
  if_neg (by simp [h])

theorem exec_clkRefRestored {s : State} (h : s.power.refLost = true) : exec .clkRefRestored s =
    .next (({ s with tb := { s.tb with holdover := false }, power := { s.power with refLost := false } } : State).raise 0x0102 0 []) :=
  if_neg (by simp [h])

/-- A PLL is noted as without lock. -/
def State.pllGone (s : State) (p : Pll) : State := { s with pos := { s.pos with unlocked := p :: s.pos.unlocked } }

/-- A PLL that had lock, in a domain that is on, loses it: the dot PLL alone stops printing. -/
theorem exec_pllUnlock {s : State} {p : Pll} (hlock : s.pllLost p = false) (hon : s.domOn (pllDom p) = true) :
    exec (.pllUnlock p) s = .next (((if p == .dot then s.dotHalt else s).pllGone p).raise 0x0104 0 [wd (pllCode p)]) :=
  if_neg (by simp [hlock, hon])

theorem State.pllLost_pllBack_self (s : State) (p : Pll) : (s.pllBack p).pllLost p = false := by
  simp [State.pllLost, State.pllBack]

theorem State.pllLost_pllBack_ne (s : State) {p q : Pll} (h : q ≠ p) : (s.pllBack p).pllLost q = s.pllLost q := by
  simp [State.pllLost, State.pllBack, h]

theorem exec_pllRelock_management (s : State) : exec (.pllRelock .management) s =
    .next ((s.pllBack .management).evtRecover.each (s.pllBack .management).ctxNums (fun s n => s.cqDrain n 34)) := rfl

theorem exec_pllRelock_of_ne {s : State} {p : Pll} (h : p ≠ .management) : exec (.pllRelock p) s = .next (s.pllBack p) :=
  congrArg _ (if_neg (by simpa using h))

/-! SYSREF (R33). -/

@[simp] theorem State.hlTrain_pos (s : State) (ch : Nat) : (s.hlTrain ch).pos = s.pos := rfl

theorem State.hlRealign_pos (s : State) (ch : Nat) : (s.hlRealign ch).pos = s.pos := by
  unfold State.hlRealign
  dsimp only
  split
  · rfl
  · rw [State.hlTrain_pos, State.raise_pos]; rfl

/-- The links that retrain leave the grid as the edge has set it. -/
theorem State.alignGrid_aligned (s : State) (sub : Nat) : (s.alignGrid sub).pos.frame.aligned = true := by
  unfold State.alignGrid
  dsimp only
  rw [State.each_keeps _ State.pos _ _ State.hlRealign_pos]

theorem exec_sysrefEdge_first {s : State} (d : Fin 6) (ha : s.pos.frame.aligned = false) (hp : s.power.phase < 6) :
    exec (.sysrefEdge d) s = .next (s.alignGrid d.val) :=
  if_pos (by simp [ha, hp])

section
variable {s : State} (d : Fin 6) (hlater : s.pos.frame.aligned = true ∨ 6 ≤ s.power.phase)
include hlater

/-- An edge that is checked: a slip is reported, and the edge realigns the grid where an edge before it has slipped and no context is active. -/
theorem exec_sysrefEdge_later : exec (.sysrefEdge d) s =
    (let t := if decide (5 < (s.sysrefDev d.val).natAbs) then s.raise 0x0103 0 [wi ((s.sysrefDev d.val).tdiv 5)] else s
     if s.pos.frame.realign && s.noneActive then .next (t.alignGrid d.val)
     else .next { t with pos := { t.pos with frame := { t.pos.frame with
       realign := decide (5 < (s.sysrefDev d.val).natAbs) && s.noneActive } } }) :=
  if_neg (by rcases hlater with h | h <;> simp [h])

theorem exec_sysrefEdge_within (hdev : (s.sysrefDev d.val).natAbs ≤ 5) : exec (.sysrefEdge d) s =
    if s.pos.frame.realign && s.noneActive then .next (s.alignGrid d.val)
    else .next { s with pos := { s.pos with frame := { s.pos.frame with realign := false } } } := by
  simp [exec_sysrefEdge_later d hlater, Nat.not_lt.mpr hdev]

theorem exec_sysrefEdge_slip (hdev : 5 < (s.sysrefDev d.val).natAbs) : exec (.sysrefEdge d) s =
    if s.pos.frame.realign && s.noneActive then .next ((s.raise 0x0103 0 [wi ((s.sysrefDev d.val).tdiv 5)]).alignGrid d.val)
    else .next { s.raise 0x0103 0 [wi ((s.sysrefDev d.val).tdiv 5)] with
      pos := { s.pos with frame := { s.pos.frame with realign := s.noneActive } } } := by
  simp [exec_sysrefEdge_later d hlater, hdev]

end

/-- Settles O6, clause by clause: the clocks first, then the first SYSREF edge and those that are checked. -/
theorem clocksStopPrintingAndSysrefAligns : Obligations.ClocksStopPrintingAndSysrefAligns := by
  unfold Obligations.ClocksStopPrintingAndSysrefAligns
  refine ⟨fun s h => exec_clkRefLost h, fun s => rfl, fun s h => exec_clkRefRestored h, ?otherPll, ?dotPll, ?relock, ?first, ?within, ?slip,
    ?realign⟩
  case otherPll =>
    intro s p hlock hon hp
    rw [exec_pllUnlock hlock hon, if_neg (by simpa using hp)]
    rfl
  case dotPll =>
    intro s t hlock hon ht
    rw [exec_pllUnlock hlock hon, if_pos (beq_self_eq_true _), State.dotHalt, ← ht]
    rfl
  case relock =>
    intro s p
    refine ⟨s.pllBack p, s.pllLost_pllBack_self p, fun q hq => s.pllLost_pllBack_ne hq, rfl, exec_pllRelock_of_ne, ?_⟩
    rintro rfl
    exact exec_pllRelock_management s
  case first => exact fun s d ha hp => ⟨exec_sysrefEdge_first d ha hp, s.alignGrid_aligned d⟩
  case within =>
    intro s d hlater hre hdev
    simp [exec_sysrefEdge_within d hlater hdev, hre]
  case slip =>
    intro s d hlater hre hdev
    simp [exec_sysrefEdge_slip d hlater hdev, hre]
  case realign =>
    intro s d hlater hre hnone
    exact ⟨fun hdev => by simp [exec_sysrefEdge_within d hlater hdev, hre, hnone],
      fun hdev => by simp [exec_sysrefEdge_slip d hlater hdev, hre, hnone]⟩

end Sys2Proof.Machine
end

section
/-!
PROOFS. The time base (R59 to R64): the tick (O2, O11), the increment (O10), and the writes that steer corrected time (O9).
-/
open Sys2Proof
namespace Sys2Proof.Machine

/-- A write that reaches its register has its effect. -/
theorem State.gated_of_reaches {s : State} {off : Nat} (f : State → State) (h : s.dropped off = none) : s.gated off f = f s := by
  rw [State.gated, h, Option.getD_none]

/-! The tick. -/

/-- While no host error is in force a tick changes the time base alone. -/
theorem State.tick_of_calm {s : State} (h : s.upset = none) :
    s.tick = { s with tb := { s.tb with count := s.tb.count + 1, slew := s.tb.slew - s.slewStep } } :=
  if_neg (by simp [h])

/-- While a host error is in force a tick disturbs the state as well. -/
theorem State.tick_of_upset {s : State} {n : Nat} (h : s.upset = some n) :
    s.tick = ({ s with tb := { s.tb with count := s.tb.count + 1, slew := s.tb.slew - s.slewStep } } : State).disturb :=
  if_pos (by simp [h])

/-- Settles O2: the step is a tick, with a host error in force or without. -/
theorem emptyQueueLetsOneTickPass : Obligations.EmptyQueueLetsOneTickPass :=
  ⟨fun _ hp hu => (step_of_pending_nil hp).trans (congrArg _ (State.tick_of_calm hu)),
    fun _ _ hp hu => (step_of_pending_nil hp).trans (congrArg _ (State.tick_of_upset hu))⟩

theorem exec_pd0PowerOn_count (s : State) : ∃ t, exec .pd0PowerOn s = .next t ∧ t.count = (0 : BitVec 64) := by
  obtain ⟨t, ht, -, -, -, -, hcount⟩ := execPd0PowerOn_keeps s
  exact ⟨t, ht, hcount⟩

/-- Settles O11: what a tick counts, and that every other command keeps the count, are the model's own laws. -/
theorem timeBaseCountsEveryTick : Obligations.TimeBaseCountsEveryTick :=
  ⟨exec_pd0PowerOn_count, fun s hp => ⟨s.tick, step_of_pending_nil hp, (tick_facts s).2.1⟩,
    fun c s t h hpd0 hloss => (exec_facts c s t h).2.1 hpd0 hloss⟩

/-! The increment (R61). -/

/-- The two terms of corrected time that an increment changes cancel out. -/
theorem State.now_setIncr (s : State) (v : BitVec 48) : (s.setIncr v).now = s.now := by
  unfold State.now TimeBase.now State.setIncr
  congr 3
  dsimp only
  ring

/-- The limits of R61 on an increment: 0.95 and 1.05. -/
theorem State.tbIncr_within (s : State) {v : DWord} (hlo : 0xF333333333 ≤ v.toNat % 2 ^ 48) (hhi : v.toNat % 2 ^ 48 ≤ 0x10CCCCCCCCC) :
    s.tbIncr v = s.setIncr (BitVec.ofNat 48 v.toNat) :=
  if_neg (by rw [BitVec.toNat_ofNat]; simp; omega)

theorem State.tbIncr_outside (s : State) {v : DWord} (h : v.toNat % 2 ^ 48 < 0xF333333333 ∨ 0x10CCCCCCCCC < v.toNat % 2 ^ 48) :
    s.tbIncr v = (s.orW Reg.TB_STATUS 0x200).raise 0x020A 0
      [lo32 (BitVec.ofNat 64 (v.toNat % 2 ^ 48)), hi32 (BitVec.ofNat 64 (v.toNat % 2 ^ 48))] :=
  (if_pos (by rw [BitVec.toNat_ofNat]; simpa using h)).trans (by rw [BitVec.toNat_ofNat])

@[simp] theorem State.hold_dropHold (s : State) (off : Nat) : (s.dropHold off).hold.get none off = none :=
  SMap.get_set_self s.hold none off none

section
variable {s : State} {v : DWord} (hreach : s.dropped Reg.TB_INCR = none)
include hreach

theorem exec_tbIncrWrite : exec (.tbIncrWrite v) s = .next ((s.dropHold Reg.TB_INCR).tbIncr v) :=
  congrArg _ (State.gated_of_reaches _ hreach)

theorem exec_tbIncrWrite_within (hlo : 0xF333333333 ≤ v.toNat % 2 ^ 48) (hhi : v.toNat % 2 ^ 48 ≤ 0x10CCCCCCCCC) :
    exec (.tbIncrWrite v) s = .next ((s.dropHold Reg.TB_INCR).setIncr (BitVec.ofNat 48 v.toNat)) := by
  rw [exec_tbIncrWrite hreach, State.tbIncr_within _ hlo hhi]

theorem exec_tbIncrWrite_outside (h : v.toNat % 2 ^ 48 < 0xF333333333 ∨ 0x10CCCCCCCCC < v.toNat % 2 ^ 48) :
    exec (.tbIncrWrite v) s = .next (((s.dropHold Reg.TB_INCR).orW Reg.TB_STATUS 0x200).raise 0x020A 0
      [lo32 (BitVec.ofNat 64 (v.toNat % 2 ^ 48)), hi32 (BitVec.ofNat 64 (v.toNat % 2 ^ 48))]) := by
  rw [exec_tbIncrWrite hreach, State.tbIncr_outside _ h]

end

theorem State.flag_orW_bit (s : State) {off i : Nat} {m : Word} (h : bit m i = true) : (s.orW off m).flag off i = true := by
  unfold bit at h
  simp [State.flag, bit, h]

/-- Raising an event leaves the bits of every register but its counters. -/
theorem State.flag_raise (s : State) {off : Nat} (i code n : Nat) (args : List Word) (h : off ∉ evtRegs) :
    (s.raise code n args).flag off i = s.flag off i := by
  rw [State.flag, State.rd_raise _ _ _ _ h, State.flag]

/-- Settles O10: the terms of corrected time that an increment changes cancel out, and a refusal is flagged and raised. -/
theorem incrementWritesContinueTime : Obligations.IncrementWritesContinueTime := by
  refine ⟨fun s v hreach hlo hhi => ⟨_, exec_tbIncrWrite_within hreach hlo hhi, State.now_setIncr _ _, ?_⟩,
    fun s v hreach hout => ⟨_, _, exec_tbIncrWrite_outside hreach hout, rfl, State.raise_tb .., ?_⟩⟩
  · rw [State.setIncr, BitVec.toNat_ofNat]
    rfl
  · rw [State.flag_raise _ _ _ _ _ (by decide)]
    exact State.flag_orW_bit _ (by decide)

/-! Writes of TB_OFFSET (R62 to R64). -/

/-- A write of TB_OFFSET ends an arming. -/
def State.disarm (s : State) : State := { s with tb := { s.tb with armed := none } }

/-- What the events of a write of TB_OFFSET carry: the step, and corrected time. -/
def State.stepArgs (s : State) (d : Int) : List Word := [lo32 (BitVec.ofInt 64 d), hi32 (BitVec.ofInt 64 d), lo32 s.now, hi32 s.now]

/-- OFFSET moves back by `d`, and S grows by as much (R62). -/
def State.slewBack (s : State) (d : Int) : State :=
  { s with tb := { s.tb with offset := s.tb.offset + d * 2 ^ 40, slew := s.tb.slew + d.natAbs * slewUnit } }

/-- What OFFSET loses S gains. -/
theorem State.now_slewBack (s : State) {d : Int} (h : d < 0) : (s.slewBack d).now = s.now := by
  unfold State.now TimeBase.now State.slewBack slewUnit
  congr 2
  push_cast [Int.ofNat_natAbs_of_nonpos h.le]
  ring

section
variable {s : State} {v : DWord}

theorem State.tbOffset_forward (hd : s.offsetInt < v.toInt) (hlim : v.toInt - s.offsetInt ≤ ((s.rd Reg.TB_JUMP_LIMIT).toNat : Int)) :
    s.tbOffset v = (s.disarm.timeStep (v.toInt - s.offsetInt).toNat (s.stepArgs (v.toInt - s.offsetInt)), false) := by
  unfold State.tbOffset
  dsimp only
  rw [if_neg (by omega), if_pos (by simp [hd, hlim])]
  rfl

theorem State.tbOffset_back (hd : v.toInt < s.offsetInt) (hlim : s.offsetInt - v.toInt ≤ ((s.rd Reg.TB_JUMP_LIMIT).toNat : Int)) :
    s.tbOffset v = ((s.disarm.slewBack (v.toInt - s.offsetInt)).raise 0x0208 0 (s.stepArgs (v.toInt - s.offsetInt)), false) := by
  unfold State.tbOffset
  dsimp only
  rw [if_neg (by omega), if_neg (by simp; omega), if_pos (by simp; omega)]
  rfl

theorem State.tbOffset_refused (hlim : (s.rd Reg.TB_JUMP_LIMIT).toNat < v.toInt - s.offsetInt) (harm : s.tb.armed = none) :
    s.tbOffset v = (((s.orW Reg.TB_STATUS 0x100).bump Reg.TB_REFUSED_CNT).raise 0x0209 0 (s.stepArgs (v.toInt - s.offsetInt)), true) := by
  have hdisarm : s.disarm = s := by rw [State.disarm, ← harm]
  have hunarmed : s.tbArmed = false := by rw [State.tbArmed, harm]
  unfold State.tbOffset
  dsimp only
  rw [if_neg (by omega), if_neg (by simp [hunarmed]; omega), if_neg (by simp; omega), ← State.disarm, hdisarm]
  rfl

end

section
variable {s : State} {v : DWord} (hreach : s.dropped Reg.TB_OFFSET = none)
include hreach

theorem exec_tbOffsetWrite : exec (.tbOffsetWrite v) s = .next ((s.dropHold Reg.TB_OFFSET).tbOffset v).1 :=
  congrArg _ (State.gated_of_reaches _ hreach)

/-- A step forwards within the limit is made. -/
theorem exec_tbOffsetWrite_forward (hd : s.offsetInt < v.toInt) (hlim : v.toInt - s.offsetInt ≤ ((s.rd Reg.TB_JUMP_LIMIT).toNat : Int)) :
    exec (.tbOffsetWrite v) s = .next ((s.dropHold Reg.TB_OFFSET).disarm.timeStep (v.toInt - s.offsetInt).toNat
      (s.stepArgs (v.toInt - s.offsetInt))) := by
  rw [exec_tbOffsetWrite hreach, State.tbOffset_forward (s := s.dropHold Reg.TB_OFFSET) hd hlim]
  rfl

/-- A step backwards within the limit is made of a slew. -/
theorem exec_tbOffsetWrite_back (hd : v.toInt < s.offsetInt) (hlim : s.offsetInt - v.toInt ≤ ((s.rd Reg.TB_JUMP_LIMIT).toNat : Int)) :
    exec (.tbOffsetWrite v) s = .next (((s.dropHold Reg.TB_OFFSET).disarm.slewBack (v.toInt - s.offsetInt)).raise 0x0208 0
      (s.stepArgs (v.toInt - s.offsetInt))) := by
  rw [exec_tbOffsetWrite hreach, State.tbOffset_back (s := s.dropHold Reg.TB_OFFSET) hd hlim]
  rfl

/-- A step forwards beyond the limit is refused while no step is armed. -/
theorem exec_tbOffsetWrite_refused (hlim : (s.rd Reg.TB_JUMP_LIMIT).toNat < v.toInt - s.offsetInt) (harm : s.tb.armed = none) :
    exec (.tbOffsetWrite v) s = .next ((((s.dropHold Reg.TB_OFFSET).orW Reg.TB_STATUS 0x100).bump Reg.TB_REFUSED_CNT).raise 0x0209 0
      (s.stepArgs (v.toInt - s.offsetInt))) := by
  rw [exec_tbOffsetWrite hreach, State.tbOffset_refused (s := s.dropHold Reg.TB_OFFSET) hlim harm]
  rfl

end

/-- The last tick of a slew takes all that is left of S (R64). -/
theorem exec_timeSlewEnd {s : State} (h0 : 0 < s.tb.slew) (hstep : s.tb.slew ≤ s.slewStep) : exec .timeSlewEnd s = .next s.tick :=
  if_pos (by simp [h0, hstep])

/-! Arming (R63). -/

section
variable {s : State} (hreach : s.dropped Reg.TB_ARM = none)
include hreach

theorem exec_tbArmWrite_first : exec (.tbArmWrite 0x7A3C) s = .next { s with tb := { s.tb with armKey := some s.count, armed := none } } :=
  congrArg _ (State.gated_of_reaches _ hreach)

theorem exec_tbArmWrite_second {k : DWord} (hkey : s.tb.armKey = some k) (hin : (s.count - k).toNat ≤ 1000000) :
    exec (.tbArmWrite 0xC5E1) s = .next { s with tb := { s.tb with armKey := none, armed := some s.count } } := by
  refine congrArg _ ((State.gated_of_reaches _ hreach).trans ?_)
  dsimp only
  rw [if_neg (by decide), hkey]
  exact if_pos (by rw [Bool.and_eq_true]; exact ⟨by decide, decide_eq_true hin⟩)

end

/-- 10 ms after arming nothing is armed; the expiry moves neither the count nor corrected time. -/
theorem exec_tbArmExpire {s : State} {k : DWord} (harm : s.tb.armed = some k) (hold : 10000000 ≤ (s.count - k).toNat) :
    ∃ t, exec .tbArmExpire s = .next t ∧ t = { s with tb := t.tb } ∧ t.tb.armed = none ∧ t.now = s.now ∧ t.count = s.count := by
  refine ⟨_, rfl, rfl, ?_, rfl, rfl⟩
  rw [harm]
  exact if_pos hold

/-- Settles O9, clause by clause: the increment, the three kinds of write of OFFSET, the end of a slew, and the keys. -/
theorem timeBaseIsSteered : Obligations.TimeBaseIsSteered := by
  refine ⟨?incr, fun s v hreach hout => exec_tbIncrWrite_outside hreach hout, ?back,
    fun s v hreach hlim harm => exec_tbOffsetWrite_refused hreach hlim harm, ?forward, ?slewEnd,
    fun s hreach => exec_tbArmWrite_first hreach, fun s k hreach hkey hin => exec_tbArmWrite_second hreach hkey hin,
    fun s k harm hold => exec_tbArmExpire harm hold⟩
  case incr =>
    exact fun s v hreach hlo hhi =>
      ⟨_, exec_tbIncrWrite_within hreach hlo hhi, rfl, rfl, State.now_setIncr _ _, rfl, rfl, s.hold_dropHold _⟩
  case back =>
    exact fun s v hreach hd hlim =>
      ⟨_, exec_tbOffsetWrite_back hreach hd hlim, rfl, rfl, rfl, State.now_slewBack _ (by omega), rfl, rfl, s.hold_dropHold _⟩
  case forward =>
    exact fun s v hreach hd hlim => ⟨_, exec_tbOffsetWrite_forward hreach hd hlim, rfl, rfl, s.hold_dropHold _⟩
  case slewEnd =>
    intro s h0 hstep hcalm
    refine ⟨_, (exec_timeSlewEnd h0 hstep).trans (congrArg _ (State.tick_of_calm hcalm)), rfl, Nat.sub_eq_zero_of_le hstep, rfl⟩

end Sys2Proof.Machine
end

section
/-!
PROOFS. The encoders (O7) and the position references (O8), with what a field of a register reads as after a write of it or of another field.
-/
open Sys2Proof
namespace Sys2Proof.Machine

/-! Fields of words. -/

theorem getLsbD_fieldMask (hi lo i : Nat) :
    (BitVec.ofNat 32 ((2 ^ (hi + 1 - lo) - 1) <<< lo)).getLsbD i = decide (lo ≤ i ∧ i ≤ hi ∧ i < 32) := by
  rw [BitVec.getLsbD_ofNat, Nat.testBit_shiftLeft, Nat.testBit_two_pow_sub_one, ← Bool.decide_and, ← Bool.decide_and]
  exact decide_eq_decide.mpr (by omega)

/-- A field's bits are those written; every other bit stays. -/
theorem getLsbD_setBits (w : Word) (hi lo v i : Nat) :
    (setBits w hi lo v).getLsbD i = if lo ≤ i ∧ i ≤ hi ∧ i < 32 then v.testBit (i - lo) else w.getLsbD i := by
  rw [setBits, BitVec.getLsbD_or, BitVec.getLsbD_and, BitVec.getLsbD_and, BitVec.getLsbD_not, getLsbD_fieldMask, BitVec.getLsbD_ofNat,
    Nat.testBit_shiftLeft]
  by_cases h32 : i < 32
  · by_cases h : lo ≤ i ∧ i ≤ hi <;> simp [h, h32]
  · simp [h32, BitVec.getLsbD_of_ge w i (Nat.le_of_not_lt h32)]

theorem testBit_bits (w : Word) (hi lo i : Nat) : (bits w hi lo).testBit i = (decide (i < hi + 1 - lo) && w.getLsbD (lo + i)) := by
  rw [bits, Nat.testBit_mod_two_pow, Nat.testBit_shiftRight, BitVec.testBit_toNat]

theorem bits_lt (w : Word) (hi lo : Nat) : bits w hi lo < 2 ^ (hi + 1 - lo) := Nat.mod_lt _ (Nat.two_pow_pos _)

/-- A field reads back what was written to it. -/
theorem bits_setBits_self (w : Word) {hi lo v : Nat} (h32 : hi < 32) (hv : v < 2 ^ (hi + 1 - lo)) : bits (setBits w hi lo v) hi lo = v := by
  refine Nat.eq_of_testBit_eq fun i => ?_
  rw [testBit_bits, getLsbD_setBits]
  by_cases h : i < hi + 1 - lo
  · rw [if_pos (by omega)]
    simp [h]
  · rw [Nat.testBit_lt_two_pow (hv.trans_le (Nat.pow_le_pow_right (by decide) (Nat.le_of_not_lt h)))]
    simp [h]

/-- Writing a field leaves a field that lies apart from it. -/
theorem bits_setBits_of_apart (w : Word) {hi lo hi' lo' : Nat} (v : Nat) (h : hi' < lo ∨ hi < lo') : bits (setBits w hi lo v) hi' lo' = bits w hi' lo' := by
  refine Nat.eq_of_testBit_eq fun i => ?_
  rw [testBit_bits, testBit_bits, getLsbD_setBits]
  by_cases hi' : i < hi' + 1 - lo'
  · rw [if_neg (by omega)]
  · simp [hi']

theorem bit_setBits_of_apart (w : Word) {hi lo i : Nat} (v : Nat) (h : i < lo ∨ hi < i) : bit (setBits w hi lo v) i = bit w i := by
  rw [bit, getLsbD_setBits, if_neg (by omega), bit]

theorem bit_setBit_self (w : Word) {i : Nat} (b : Bool) (h : i < 32) : bit (setBit w i b) i = b := by
  rw [setBit, bit, getLsbD_setBits, if_pos ⟨le_rfl, le_rfl, h⟩]
  cases b <;> simp

/-- A field of 16 bits that saturates. -/
theorem satFld_16 (n : Nat) : satFld n 16 = min 65535 (n + 1) := by
  unfold satFld
  split <;> omega

/-- A register's 16-bit field, counted up in place, reads as the saturated count. -/
theorem State.fld_setF_satFld (s : State) {off hi lo : Nat} (h32 : hi < 32) (h16 : hi + 1 - lo = 16) :
    (s.setF off hi lo (satFld (s.fld off hi lo) 16)).fld off hi lo = min 65535 (s.fld off hi lo + 1) := by
  rw [State.fld, State.rd_setF_self, bits_setBits_self _ h32 (by rw [satFld_16, h16]; omega), satFld_16]

/-! Encoders (R41 to R43). -/

theorem State.accepted_iff (s : State) (e run : Nat) : s.accepted e run = true ↔ s.fld (Reg.ENC_CTRL e) 3 0 < run := decide_eq_true_iff

theorem State.accepted_eq_false_iff (s : State) (e run : Nat) : s.accepted e run = false ↔ run ≤ s.fld (Reg.ENC_CTRL e) 3 0 :=
  decide_eq_false_iff_not.trans Nat.not_lt

/-- A MARK input of a source that no context selects changes nothing (R132). -/
theorem State.markInputs_of_none {s : State} {src : Nat} (h : ∀ k ∈ s.ctxNums, s.fld (Reg.CTX_CFG k) 20 16 ≠ src) : s.markInputs src = s := by
  rw [State.markInputs, List.filter_eq_nil_iff.mpr fun k hk => by simpa using h k hk]
  rfl

/-- Levels that are not accepted, or are the accepted ones, do nothing. -/
theorem exec_encAbEdge_unchanged {s : State} {e : Fin 8} {a b : Bool} {run : Nat} (sub : Fin 6)
    (h : s.accepted e.val run = false ∨ ((s.encOf e.val).a = a ∧ (s.encOf e.val).b = b)) : exec (.encAbEdge e a b run sub) s = .next s :=
  if_pos (by rcases h with h | ⟨ha, hb⟩ <;> simp [*])

theorem exec_encZEdge_unchanged {s : State} {e : Fin 8} {z : Bool} {run : Nat} (sub : Fin 6)
    (h : s.accepted e.val run = false ∨ (s.encOf e.val).z = z) : exec (.encZEdge e z run sub) s = .next s :=
  if_pos (by rcases h with h | h <;> simp [h])

/-- Two operations that agree on every state with the same value of what the first keeps agree along a list. -/
theorem State.each_congr {β : Type} (g : State → β) {f f' : State → Nat → State} {s : State} (l : List Nat)
    (hkeep : ∀ t n, g (f t n) = g t) (heq : ∀ t n, g t = g s → f t n = f' t n) : s.each l f = s.each l f' := by
  suffices ∀ t, g t = g s → t.each l f = t.each l f' from this s rfl
  induction l with
  | nil => exact fun _ _ => rfl
  | cons n r ih =>
    intro t ht
    show (f t n).each r f = (f' t n).each r f'
    rw [← heq t n ht]
    exact ih (f t n) ((hkeep t n).trans ht)

/-- An edge that a PREF takes leaves the time-base count, so the stamp of the run is the same for every PREF. -/
theorem State.prefEdge_count (s : State) (n : Nat) (up : Bool) (stamp : DWord) : (s.prefEdge n up stamp).count = s.count :=
  (fusing_of_still (State.prefEdge_still s n up stamp)).2.1

theorem State.runStamp_congr {s t : State} (h : t.count = s.count) (run : Nat) (sub : Fin 6) : t.runStamp run sub = s.runStamp run sub := by
  rw [State.runStamp, h, State.runStamp]

theorem prefCtrl_notMem_evtRegs {n : Nat} (h : n < 4) : Reg.PREF_CTRL n ∉ evtRegs := by
  simp only [evtRegs, List.mem_cons, List.not_mem_nil, or_false, Reg.PREF_CTRL, Reg.HOST_EVT_LOST, Reg.CASK_OVERFLOW, Reg.CASK_MISSED, Reg.CASK_SUPPR]
  omega

theorem prefCtrl_ne_encErr (n : Nat) (e : Fin 8) : Reg.PREF_CTRL n ≠ Reg.ENC_ERR e.val := by
  unfold Reg.PREF_CTRL Reg.ENC_ERR
  omega

/-- Which PREFs are on an encoder is a matter of their PREF_CTRL. -/
theorem State.prefsOn_congr {s t : State} (h : ∀ n < 4, t.rd (Reg.PREF_CTRL n) = s.rd (Reg.PREF_CTRL n)) (enc : Nat) : t.prefsOn enc = s.prefsOn enc := by
  refine List.filter_congr fun n hn => ?_
  have hen : t.prefEn n = s.prefEn n := by rw [State.prefEn, State.flag, h n (List.mem_range.mp hn)]; rfl
  have hsrc : t.prefSrc n = s.prefSrc n := by rw [State.prefSrc, State.fld, h n (List.mem_range.mp hn)]; rfl
  rw [hen, State.prefEnc, hsrc]
  rfl

/-- Counting an encoder's fault and reporting it leaves PREF_CTRL. -/
theorem State.prefsOn_encFault (s : State) (e : Fin 8) (hi lo v code : Nat) (args : List Word) (enc : Nat) :
    ((s.setF (Reg.ENC_ERR e.val) hi lo v).raise code 0 args).prefsOn enc = s.prefsOn enc :=
  State.prefsOn_congr (fun n hn => by rw [State.rd_raise _ _ _ _ (prefCtrl_notMem_evtRegs hn), State.rd_setF_ne _ _ _ _ (prefCtrl_ne_encErr n e)]) enc

/-- A rise of Z that counts: its level and the count are latched, and the Z check starts anew from a reference, or has none. -/
def State.zLatch (s : State) (e : Nat) (ref : Option Word) : State :=
  ((s.setEnc e { s.encOf e with z := true }).wr (Reg.ENC_ZPOS e) (s.encOf e).count).setEnc e
    { s.encOf e with z := true, zref := ref, movedUp := false, movedDn := false }

/-- The latch of a count writes no register but ENC_ZPOS. -/
theorem State.rd_zLatch_ne (s : State) {e a : Nat} (ref : Option Word) (h : a ≠ Reg.ENC_ZPOS e) : (s.zLatch e ref).rd a = s.rd a :=
  State.rd_wr_ne (s.setEnc e { s.encOf e with z := true }) _ h

theorem State.rd_zLatch_self (s : State) (e : Nat) (ref : Option Word) : (s.zLatch e ref).rd (Reg.ENC_ZPOS e) = (s.encOf e).count :=
  State.rd_wr_self (s.setEnc e { s.encOf e with z := true }) _ _

theorem State.fld_zLatch (s : State) {e a : Nat} (ref : Option Word) (hi lo : Nat) (h : a ≠ Reg.ENC_ZPOS e) :
    (s.zLatch e ref).fld a hi lo = s.fld a hi lo := by
  rw [State.fld, State.rd_zLatch_ne _ _ h, State.fld]

theorem State.prefsOn_zLatch (s : State) (e : Fin 8) (ref : Option Word) (enc : Nat) : (s.zLatch e.val ref).prefsOn enc = s.prefsOn enc :=
  State.prefsOn_congr (fun n _ => s.rd_zLatch_ne ref (by unfold Reg.PREF_CTRL Reg.ENC_ZPOS; omega)) enc

theorem encZcount_ne_encZpos (e : Nat) : Reg.ENC_ZCOUNT e ≠ Reg.ENC_ZPOS e := by unfold Reg.ENC_ZCOUNT Reg.ENC_ZPOS; omega

theorem encErr_ne_encZpos (e : Nat) : Reg.ENC_ERR e ≠ Reg.ENC_ZPOS e := by unfold Reg.ENC_ERR Reg.ENC_ZPOS; omega

theorem encErr_notMem_evtRegs (e : Fin 8) : Reg.ENC_ERR e.val ∉ evtRegs := by
  simp only [evtRegs, List.mem_cons, List.not_mem_nil, or_false, Reg.ENC_ERR, Reg.HOST_EVT_LOST, Reg.CASK_OVERFLOW, Reg.CASK_MISSED, Reg.CASK_SUPPR]
  omega

section
variable {s : State} {e : Fin 8} {run : Nat} (sub : Fin 6) (hdot : s.dotRuns = true) (hrun : s.fld (Reg.ENC_CTRL e.val) 3 0 < run)
include hdot hrun

/-- One edge of A or B: the count moves by one, and the PREFs on the encoder take it. -/
theorem exec_encAbEdge_one {a b up : Bool} (hone : ((s.encOf e.val).a != a) ≠ ((s.encOf e.val).b != b))
    (hup : up = decide ((quadPos (s.encOf e.val).a (s.encOf e.val).b + 1) % 4 = quadPos a b)) :
    exec (.encAbEdge e a b run sub) s = .next ((s.setEnc e.val { s.encOf e.val with
        a := a, b := b, count := if up then (s.encOf e.val).count + 1 else (s.encOf e.val).count - 1,
        movedUp := (s.encOf e.val).movedUp || up, movedDn := (s.encOf e.val).movedDn || !up }).each
      (s.prefsOn e.val) (fun s n => s.prefEdge n up (s.runStamp run sub))) := by
  have hacc := (s.accepted_iff e.val run).mpr hrun
  have hnotSame : ¬((s.encOf e.val).a = a ∧ (s.encOf e.val).b = b) := by rintro ⟨rfl, rfl⟩; simp at hone
  have hnotBoth : ((s.encOf e.val).a != a && (s.encOf e.val).b != b) ≠ true := by
    intro h
    rw [Bool.and_eq_true] at h
    exact hone (h.1.trans h.2.symm)
  refine (if_neg (by simpa [hdot, hacc] using hnotSame)).trans ((if_neg hnotBoth).trans ?_)
  rw [hup]
  exact congrArg _ (State.each_congr State.count _ (fun t n => t.prefEdge_count ..) fun t n ht => by rw [State.runStamp_congr (s := s) ht]; rfl)

/-- Both levels at once: the count stays, and the transition is counted and reported as illegal. -/
theorem exec_encAbEdge_both {a b : Bool} (ha : (s.encOf e.val).a ≠ a) (hb : (s.encOf e.val).b ≠ b) :
    exec (.encAbEdge e a b run sub) s = .next
      ((((s.setEnc e.val { s.encOf e.val with a := a, b := b }).setF (Reg.ENC_ERR e.val) 15 0
        (satFld (s.fld (Reg.ENC_ERR e.val) 15 0) 16)).raise 0x0201 0 [wd e.val, (s.encOf e.val).count]).each
        (s.prefsOn e.val) (fun s n => s.sourceFault n (some e.val))) := by
  have hacc := (s.accepted_iff e.val run).mpr hrun
  refine (if_neg (by simp [hdot, hacc, ha])).trans ((if_pos (by simp [ha, hb])).trans ?_)
  dsimp only
  rw [State.prefsOn_encFault]
  rfl

/-- The fall of Z is noted. -/
theorem exec_encZEdge_fall (hz : (s.encOf e.val).z = true) :
    exec (.encZEdge e false run sub) s = .next (s.setEnc e.val { s.encOf e.val with z := false }) := by
  have hacc := (s.accepted_iff e.val run).mpr hrun
  exact (if_neg (by simp [hdot, hacc, hz])).trans (if_pos rfl)

section
variable (hz : (s.encOf e.val).z = false) (hmark : ∀ k ∈ s.ctxNums, s.fld (Reg.CTX_CFG k) 20 16 ≠ e.val + 1)
include hz hmark

/-- With ZGATE a rise of Z counts only while A and B are high. -/
theorem exec_encZEdge_gated (hgate : bit (s.rd (Reg.ENC_CTRL e.val)) 4 = true) (hab : ((s.encOf e.val).a && (s.encOf e.val).b) = false) :
    exec (.encZEdge e true run sub) s = .next (s.setEnc e.val { s.encOf e.val with z := true }) := by
  have hacc := (s.accepted_iff e.val run).mpr hrun
  refine (if_neg (by simp [hdot, hacc, hz])).trans ((if_neg (by decide)).trans ?_)
  dsimp only
  rw [State.markInputs_of_none (s := s.setEnc e.val { s.encOf e.val with z := true }) hmark]
  exact if_pos (by simp [hgate, hab])

section
variable (hgate : bit (s.rd (Reg.ENC_CTRL e.val)) 4 = true → (s.encOf e.val).a = true ∧ (s.encOf e.val).b = true)
  (hlocal : bit (s.rd (Reg.ENC_CTRL e.val)) 6 = false)
include hgate hlocal

/-- Without the Z check a rise of Z that counts latches the count. -/
theorem exec_encZEdge_latch (hcheck : bit (s.rd (Reg.ENC_CTRL e.val)) 5 = false) :
    exec (.encZEdge e true run sub) s = .next (s.zLatch e.val none) := by
  have hacc := (s.accepted_iff e.val run).mpr hrun
  refine (if_neg (by simp [hdot, hacc, hz])).trans ((if_neg (by decide)).trans ?_)
  dsimp only
  rw [State.markInputs_of_none (s := s.setEnc e.val { s.encOf e.val with z := true }) hmark]
  rw [if_neg (by simpa using hgate)]
  simp only [State.rd_setEnc, State.encOf_setEnc_self, hlocal, hcheck, Bool.false_eq_true, if_false, Bool.not_false, Bool.true_or, if_true]
  split <;> rfl

/-- With the Z check a count since the last rise, in one direction, that differs by more than one from ENC_ZCOUNT is counted and reported. -/
theorem exec_encZEdge_miscount {z : Word} (hcheck : bit (s.rd (Reg.ENC_CTRL e.val)) 5 = true) (href : (s.encOf e.val).zref = some z)
    (hdir : ((s.encOf e.val).movedUp && (s.encOf e.val).movedDn) = false)
    (hoff : ((s.encOf e.val).count - z).toInt.natAbs + 1 < s.fld (Reg.ENC_ZCOUNT e.val) 23 0 ∨
      s.fld (Reg.ENC_ZCOUNT e.val) 23 0 + 1 < ((s.encOf e.val).count - z).toInt.natAbs) :
    exec (.encZEdge e true run sub) s = .next
      ((((s.zLatch e.val (some (s.encOf e.val).count)).setF (Reg.ENC_ERR e.val) 31 16
        (satFld (s.fld (Reg.ENC_ERR e.val) 31 16) 16)).raise 0x0202 0 [wd e.val, wd ((s.encOf e.val).count - z).toInt.natAbs]).each
        (s.prefsOn e.val) (fun s n => s.sourceFault n (some e.val))) := by
  have hacc := (s.accepted_iff e.val run).mpr hrun
  let u := s.zLatch e.val (some (s.encOf e.val).count)
  refine (if_neg (by simp [hdot, hacc, hz])).trans ((if_neg (by decide)).trans ?_)
  dsimp only
  rw [State.markInputs_of_none (s := s.setEnc e.val { s.encOf e.val with z := true }) hmark]
  rw [if_neg (by simpa using hgate)]
  simp only [State.rd_setEnc, State.encOf_setEnc_self, hlocal, hcheck, hdir, Bool.false_eq_true, if_false, Bool.not_true, Bool.false_or, if_true]
  have hcount : u.fld (Reg.ENC_ZCOUNT e.val) 23 0 = s.fld (Reg.ENC_ZCOUNT e.val) 23 0 := s.fld_zLatch _ _ _ (encZcount_ne_encZpos e)
  have herr : u.fld (Reg.ENC_ERR e.val) 31 16 = s.fld (Reg.ENC_ERR e.val) 31 16 := s.fld_zLatch _ _ _ (encErr_ne_encZpos e)
  split
  · next hnone => rw [href] at hnone; cases hnone
  · next was hwas =>
    rw [href] at hwas
    cases hwas
    change (if (decide (_ ≤ u.fld _ 23 0 + 1) && decide (u.fld _ 23 0 ≤ _ + 1)) = true then _
      else Host.Outcome.next (((u.setF _ 31 16 (satFld (u.fld _ 31 16) 16)).raise _ 0 _).each
        (((u.setF _ 31 16 (satFld (u.fld _ 31 16) 16)).raise _ 0 _).prefsOn e.val) _)) = _
    rw [hcount, herr, State.prefsOn_encFault, State.prefsOn_zLatch, if_neg]
    simp only [Bool.and_eq_true, decide_eq_true_eq]
    omega

end
end
end

/-- Settles O7, clause by clause: what does nothing, the edges of A and B, and those of Z. -/
theorem encoderEdgesCount : Obligations.EncoderEdgesCount := by
  refine ⟨?short, ?same, fun s e a b up run sub hdot hrun hone hup => exec_encAbEdge_one sub hdot hrun hone hup, ?both,
    fun s e run sub hdot hrun hz => exec_encZEdge_fall sub hdot hrun hz,
    fun s e run sub hdot hrun hz hgate hab hmark => exec_encZEdge_gated sub hdot hrun hz hmark hgate hab, ?latch, ?miscount⟩
  case short =>
    intro s e a b run sub hrun
    have hacc := (s.accepted_eq_false_iff e.val run).mpr hrun
    exact ⟨exec_encAbEdge_unchanged sub (.inl hacc), exec_encZEdge_unchanged sub (.inl hacc)⟩
  case same => exact fun s e run sub => ⟨exec_encAbEdge_unchanged sub (.inr ⟨rfl, rfl⟩), exec_encZEdge_unchanged sub (.inr rfl)⟩
  case both =>
    intro s e a b run sub hdot hrun ha hb
    exact ⟨_, exec_encAbEdge_both sub hdot hrun ha hb, rfl, State.encOf_setEnc_self .., State.fld_setF_satFld _ (by decide) (by decide),
      fun a ha => State.rd_setF_ne _ _ _ _ ha⟩
  case latch =>
    intro s e run sub hdot hrun hz hmark hgate hcheck hlocal
    exact ⟨_, exec_encZEdge_latch sub hdot hrun hz hmark hgate hlocal hcheck, rfl, State.encOf_setEnc_self .., s.rd_zLatch_self _ _,
      fun a ha => s.rd_zLatch_ne _ ha⟩
  case miscount =>
    intro s e run sub z hdot hrun hz hmark hgate hcheck hlocal href hdir hoff
    refine ⟨_, exec_encZEdge_miscount sub hdot hrun hz hmark hgate hlocal hcheck href hdir hoff, rfl, ?_, ?_, ?_⟩
    · rw [State.rd_setF_ne _ _ _ _ (encErr_ne_encZpos e).symm, State.rd_zLatch_self]
    · exact congrArg Enc.zref (State.encOf_setEnc_self ..)
    · rw [← s.fld_zLatch (some (s.encOf e.val).count) 31 16 (encErr_ne_encZpos e)]
      exact State.fld_setF_satFld _ (by decide) (by decide)

end Sys2Proof.Machine
end

section
/-!
PROOFS. The position references (O8): writes of PREF_CTRL, and the rows by which a PREF stops, coasts out, loses its samples or changes its source.
-/
open Sys2Proof
namespace Sys2Proof.Machine

/-! Writes of PREF_CTRL (R45, R46, R49). -/

/-- The word that a write of `v` to PREF_CTRL stores where EN is to be `en`: SRC is locked while EN was 1, and SRC and BETA keep their values when
theirs is not listed. -/
def State.prefCtrlWord (s : State) (n : Nat) (v : Word) (en : Bool) : Word :=
  let old := s.rd (Reg.PREF_CTRL n)
  setBits (setBits (setBit (v &&& 0x7FF) 0 en) 4 1 (if bit old 0 || !srcOk (bits v 4 1) then bits old 4 1 else bits v 4 1)) 10 8
    (if bits v 10 8 = 0 then bits old 10 8 else bits v 10 8)

section
variable (s : State) (n : Nat) (v : Word)

theorem State.bit_prefCtrlWord (en : Bool) : bit (s.prefCtrlWord n v en) 0 = en := by
  rw [State.prefCtrlWord, bit_setBits_of_apart _ _ (by decide), bit_setBits_of_apart _ _ (by decide), bit_setBit_self _ _ (by decide)]

theorem State.src_prefCtrlWord {en : Bool} (hon : s.flag (Reg.PREF_CTRL n) 0 = true) : bits (s.prefCtrlWord n v en) 4 1 = s.prefSrc n := by
  unfold State.flag at hon
  rw [State.prefCtrlWord, bits_setBits_of_apart _ _ (by decide), hon, Bool.true_or, if_pos rfl, bits_setBits_self _ (by decide) (bits_lt _ 4 1)]
  rfl

end

section
variable {s : State} {n : Nat} {v : Word}

/-- Setting EN with a valid N and M starts the PREF. -/
theorem State.prefCtrlWrite_start (hoff : s.flag (Reg.PREF_CTRL n) 0 = false) (hen : bit v 0 = true) (hresync : bit v 11 = false)
    (hN : (s.prefNM n).1 ≠ 0) (hM : (s.prefNM n).2 ≠ 0) (hratio : (s.prefNM n).1 ≤ 16 * (s.prefNM n).2) :
    s.prefCtrlWrite n v = (s.wr (Reg.PREF_CTRL n) (s.prefCtrlWord n v true)).prefStart n := by
  unfold State.flag at hoff
  simp [State.prefCtrlWrite, State.prefCtrlWord, hoff, hen, hresync, hN, hM, Nat.not_lt.mpr hratio]

/-- With an invalid N or M the write leaves EN 0. -/
theorem State.prefCtrlWrite_invalid (hoff : s.flag (Reg.PREF_CTRL n) 0 = false) (hen : bit v 0 = true) (hresync : bit v 11 = false)
    (hbad : (s.prefNM n).1 = 0 ∨ (s.prefNM n).2 = 0 ∨ 16 * (s.prefNM n).2 < (s.prefNM n).1) :
    s.prefCtrlWrite n v = s.wr (Reg.PREF_CTRL n) (s.prefCtrlWord n v false) := by
  unfold State.flag at hoff
  rcases hbad with h | h | h <;> simp [State.prefCtrlWrite, State.prefCtrlWord, hoff, hen, hresync, h]

/-- The stored word of a write while EN is 1, with PREF_FAULTS when it tries to change SRC. -/
def State.prefCtrlStored (s : State) (n : Nat) (v : Word) : State :=
  let t := s.wr (Reg.PREF_CTRL n) (s.prefCtrlWord n v true)
  if bits v 4 1 != s.prefSrc n then t.orW (Reg.PREF_FAULTS n) 4 else t

/-- RESYNC while EN is 1 and stays so restarts the PREF. -/
theorem State.prefCtrlWrite_resync (hon : s.flag (Reg.PREF_CTRL n) 0 = true) (hen : bit v 0 = true) (hresync : bit v 11 = true) :
    s.prefCtrlWrite n v = (s.prefCtrlStored n v).prefRestart n := by
  unfold State.flag at hon
  simp [State.prefCtrlWrite, State.prefCtrlStored, State.prefCtrlWord, State.prefSrc, State.fld, hon, hen, hresync]

end

/-! Starting and restarting. -/

theorem State.rd64_wr_ne (s : State) {off a : Nat} (w : Word) (hlow : a ≠ off) (hhigh : a + 4 ≠ off) : (s.wr off w).rd64 a = s.rd64 a := by
  rw [State.rd64, State.rd_wr_ne _ _ hlow, State.rd_wr_ne _ _ hhigh, State.rd64]

/-- A PREF that starts is in ACQUIRE1 at its preset; the others stay. -/
theorem State.prefStart_frame (s : State) (n : Nat) : s.prefStart n = { s with pos := (s.prefStart n).pos } ∧
    ((s.prefStart n).prefOf n).state = .acquire1 ∧
    ((s.prefStart n).prefOf n).pos = BitVec.ofNat 48 (s.rd64 (Reg.PREF_PRESET n)).toNat ∧ (∀ k, k ≠ n → (s.prefStart n).prefOf k = s.prefOf k) :=
  ⟨rfl, congrArg Pref.state (State.prefOf_setPref_self ..), congrArg Pref.pos (State.prefOf_setPref_self ..),
    fun _ hk => State.prefOf_setPref_ne _ _ hk⟩

theorem State.follows_eq_false_of_encoder {s : State} {n : Nat} (h : s.prefSrc n < 8) : s.follows n = false := by
  simp [State.follows]
  omega

/-- An INVALID PREF on an encoder restarts in ACQUIRE1. -/
theorem State.prefRestart_of_encoder {s : State} {n : Nat} (hsrc : s.prefSrc n < 8) (hinv : (s.prefOf n).state = .invalid) :
    ∃ p : Pref, p.state = .acquire1 ∧ s.prefRestart n = s.setPref n p := by
  have hfollows := State.follows_eq_false_of_encoder hsrc
  simp only [State.prefRestart, hfollows, Bool.false_and, Bool.false_eq_true, if_false, State.ownRestart, State.prefEnc, hsrc, if_true, hinv]
  exact ⟨_, rfl, rfl⟩

theorem State.prefCtrlStored_frame (s : State) (n : Nat) (v : Word) : s.prefCtrlStored n v = { s with regs := (s.prefCtrlStored n v).regs } := by
  unfold State.prefCtrlStored
  dsimp only
  split <;> rfl

theorem State.rd_prefCtrlStored_ne (s : State) {n a : Nat} (v : Word) (hctrl : a ≠ Reg.PREF_CTRL n) (hfaults : a ≠ Reg.PREF_FAULTS n) :
    (s.prefCtrlStored n v).rd a = s.rd a := by
  unfold State.prefCtrlStored
  dsimp only
  split
  · rw [State.rd_orW_ne _ _ hfaults, State.rd_wr_ne _ _ hctrl]
  · rw [State.rd_wr_ne _ _ hctrl]

theorem prefCtrl_ne_prefFaults (n : Nat) : Reg.PREF_CTRL n ≠ Reg.PREF_FAULTS n := by unfold Reg.PREF_CTRL Reg.PREF_FAULTS; omega

/-- SRC is locked while EN is 1. -/
theorem State.prefSrc_prefCtrlStored {s : State} {n : Nat} (v : Word) (hon : s.flag (Reg.PREF_CTRL n) 0 = true) :
    (s.prefCtrlStored n v).prefSrc n = s.prefSrc n := by
  have hrd : (s.prefCtrlStored n v).rd (Reg.PREF_CTRL n) = s.prefCtrlWord n v true := by
    unfold State.prefCtrlStored
    dsimp only
    split
    · rw [State.rd_orW_ne _ _ (prefCtrl_ne_prefFaults n), State.rd_wr_self]
    · rw [State.rd_wr_self]
  rw [State.prefSrc, State.fld, hrd, State.src_prefCtrlWord _ _ _ hon]

/-! The rows that write PREF_CTRL. -/

section
variable {s : State} {n : Fin 4} {v : Word} (hreach : s.dropped (Reg.PREF_CTRL n.val) = none) (hen : bit v 0 = true)
include hreach hen

theorem exec_prefEnable_start (hoff : s.flag (Reg.PREF_CTRL n.val) 0 = false) (hresync : bit v 11 = false)
    (hN : (s.prefNM n.val).1 ≠ 0) (hM : (s.prefNM n.val).2 ≠ 0) (hratio : (s.prefNM n.val).1 ≤ 16 * (s.prefNM n.val).2) :
    ∃ t, exec (.prefEnable n v) s = .next t ∧ t = { s with pos := t.pos, regs := t.regs } ∧ (t.prefOf n.val).state = .acquire1 ∧
      (t.prefOf n.val).pos = BitVec.ofNat 48 (s.rd64 (Reg.PREF_PRESET n.val)).toNat ∧ t.flag (Reg.PREF_CTRL n.val) 0 = true ∧
      (∀ a, a ≠ Reg.PREF_CTRL n.val → t.rd a = s.rd a) ∧ (∀ k, k ≠ n.val → t.prefOf k = s.prefOf k) := by
  let u := s.wr (Reg.PREF_CTRL n.val) (s.prefCtrlWord n.val v true)
  obtain ⟨-, hstate, hpos, hother⟩ := u.prefStart_frame n.val
  have hrd : ∀ a, (u.prefStart n.val).rd a = u.rd a := fun _ => rfl
  refine ⟨u.prefStart n.val, congrArg _ ((State.gated_of_reaches _ hreach).trans (State.prefCtrlWrite_start hoff hen hresync hN hM hratio)),
    rfl, hstate, hpos.trans ?_, ?_, fun a ha => (hrd a).trans (State.rd_wr_ne _ _ ha), hother⟩
  · rw [State.rd64_wr_ne _ _ (by unfold Reg.PREF_PRESET Reg.PREF_CTRL; omega) (by unfold Reg.PREF_PRESET Reg.PREF_CTRL; omega)]
  · rw [State.flag, hrd, State.rd_wr_self, State.bit_prefCtrlWord]

theorem exec_prefEnable_invalid (hoff : s.flag (Reg.PREF_CTRL n.val) 0 = false) (hresync : bit v 11 = false)
    (hbad : (s.prefNM n.val).1 = 0 ∨ (s.prefNM n.val).2 = 0 ∨ 16 * (s.prefNM n.val).2 < (s.prefNM n.val).1) :
    ∃ t, exec (.prefEnable n v) s = .next t ∧ t = { s with regs := t.regs } ∧ t.flag (Reg.PREF_CTRL n.val) 0 = false := by
  refine ⟨s.wr (Reg.PREF_CTRL n.val) (s.prefCtrlWord n.val v false),
    congrArg _ ((State.gated_of_reaches _ hreach).trans (State.prefCtrlWrite_invalid hoff hen hresync hbad)), rfl, ?_⟩
  rw [State.flag, State.rd_wr_self, State.bit_prefCtrlWord]

theorem exec_prefResync_encoder (hon : s.flag (Reg.PREF_CTRL n.val) 0 = true) (hresync : bit v 11 = true) (hsrc : s.prefSrc n.val < 8)
    (hinv : (s.prefOf n.val).state = .invalid) :
    ∃ t, exec (.prefResync n v) s = .next t ∧ t = { s with pos := t.pos, regs := t.regs } ∧ (t.prefOf n.val).state = .acquire1 ∧
      (∀ a, a ≠ Reg.PREF_CTRL n.val → a ≠ Reg.PREF_FAULTS n.val → t.rd a = s.rd a) ∧ (∀ k, k ≠ n.val → t.prefOf k = s.prefOf k) := by
  have hframe := s.prefCtrlStored_frame n.val v
  have hpref : ∀ k, (s.prefCtrlStored n.val v).prefOf k = s.prefOf k := fun k => by rw [hframe]; rfl
  obtain ⟨p, hp, hrestart⟩ := State.prefRestart_of_encoder (s := s.prefCtrlStored n.val v) (n := n.val)
    (by rwa [State.prefSrc_prefCtrlStored v hon]) (by rwa [hpref])
  refine ⟨(s.prefCtrlStored n.val v).setPref n.val p,
    congrArg _ ((State.gated_of_reaches _ hreach).trans ((State.prefCtrlWrite_resync hon hen hresync).trans hrestart)), ?_,
    (congrArg Pref.state (State.prefOf_setPref_self ..)).trans hp, fun a hctrl hfaults => s.rd_prefCtrlStored_ne v hctrl hfaults,
    fun k hk => (State.prefOf_setPref_ne _ _ hk).trans (hpref k)⟩
  rw [hframe]
  rfl

end

/-! Stops, coasting and lost samples (R50, R52, R56, R57). -/

section
variable {s : State} {n : Fin 4} (hdot : s.dotRuns = true)
include hdot

theorem exec_prefStop_due (htrack : (s.prefOf n.val).state = .tracking)
    (hdue : (s.rd (Reg.PREF_STOP_NS n.val)).toNat ≤ (s.count - (s.prefOf n.val).tk).toNat) :
    exec (.prefStop n) s = .next (s.setPref n.val { s.prefOf n.val with
      state := .stopped, p := BitVec.ofInt 64 ((s.prefOf n.val).est (s.countLen n.val) s.count), v := 0 }) :=
  if_pos (by rw [hdot, htrack, decide_eq_true hdue]; rfl)

theorem exec_prefInvalid_coasted (hcoast : s.prefState n.val = .coast) (hown : s.follows n.val = false) (hv : 0 < (s.prefOf n.val).v.toInt)
    (hdone : (s.fld (Reg.PREF_COAST n.val) 7 0 : Int) * 2 ^ 32 ≤ wrapPos (s.prefOut n.val s.count - (s.prefOf n.val).mlast.toInt)) :
    exec (.prefInvalid n) s = .next (s.invalidate n.val) := by
  have hused : s.coastDone n.val (s.prefOut n.val s.count) (s.prefOf n.val).mlast.toInt (s.prefOf n.val).v.toInt = true := by
    rw [State.coastDone, if_pos hv, mul_one, decide_eq_true hdone]
  exact (if_neg (by simp [hdot])).trans ((if_neg (by simp [hown])).trans (if_pos (by rw [hcoast, hused]; rfl)))

theorem exec_prefSampleLoss_lost (hoff : s.prefState n.val ≠ .off) (hvalid : s.prefState n.val ≠ .invalid) (hsrc : s.prefSrc n.val = 8)
    (hfirst : (s.prefOf n.val).lossCoast = false) (hmissed : 4 ≤ (s.prefOf n.val).missed) :
    exec (.prefSampleLoss n) s = .next (((s.orW (Reg.PREF_FAULTS n.val) 2).raise 0x0205 0 [wd n.val]).sourceFault n.val none) := by
  simp only [exec, execPrefSampleLoss]
  generalize s.prefState n.val = state at hoff hvalid ⊢
  cases state
  case off => exact absurd rfl hoff
  case invalid => exact absurd rfl hvalid
  all_goals exact if_pos (by simp [hdot, hsrc, hfirst, hmissed])

section
variable (hen : s.prefEn n.val = true) (hsrc : s.prefSrc n.val = 9) (hfollows : s.follows n.val = true)
  (hfvalid : (s.prefOf n.val).fstate ≠ .invalid) (hmissed : 4 ≤ (s.prefOf n.val).missed) (hbound : s.count + 640 = s.pos.frame.next)
include hen hsrc hfollows hfvalid hmissed hbound

theorem exec_prefSrcSwitch_due : exec (.prefSrcSwitch n) s = .next (s.prefToOwn n.val (s.prefState n.val)) :=
  if_pos (by simp [hdot, hen, hsrc, hfollows, hfvalid, hmissed, ← hbound])

end
end

/-- Raising an event leaves the PREFs. -/
theorem State.prefOf_raise (s : State) (code n : Nat) (args : List Word) (k : Nat) : (s.raise code n args).prefOf k = s.prefOf k := by
  rw [State.prefOf, State.raise_pos, State.prefOf]

section
variable (s : State) (n : Nat) (old : PState)

theorem State.prefOf_prefToOwn_state : (((s.setPref n { s.prefOf n with own := true }).raise 0x0206 0 [wd n]).prefOf n).state = (s.prefOf n).state := by
  rw [State.prefOf_raise, State.prefOf_setPref_self]

theorem State.prefToOwn_of_valid (h : (s.prefOf n).state ≠ .invalid) :
    s.prefToOwn n old = (s.setPref n { s.prefOf n with own := true }).raise 0x0206 0 [wd n] :=
  if_neg (by rw [State.prefOf_prefToOwn_state]; simp [h])

/-- A PREF that changes to an estimator that is INVALID by then is INVALID, and halts the contexts bound to it. -/
theorem State.prefToOwn_of_invalid (h : (s.prefOf n).state = .invalid) (hold : old ≠ .invalid) :
    ∃ u : State, u = (s.setPref n { s.prefOf n with own := true }).raise 0x0206 0 [wd n] ∧
      s.prefToOwn n old = (u.raise 0x0204 0 [wd n, wd old.code]).haltNow (u.boundTo n) 6 :=
  ⟨_, rfl, if_pos (by rw [State.prefOf_prefToOwn_state, h]; simpa using hold)⟩

end

/-- The state of an enabled PREF that follows samples is that of the samples (R58). -/
theorem State.prefState_of_follows {s : State} {n : Nat} (hen : s.prefEn n = true) (hfollows : s.follows n = true) :
    s.prefState n = (s.prefOf n).fstate := by
  rw [State.prefState, hen, hfollows]
  rfl

/-- Settles O8, clause by clause. -/
theorem positionReferencesChangeState : Obligations.PositionReferencesChangeState := by
  refine ⟨fun s n v hreach hoff hen hresync hN hM hratio => exec_prefEnable_start hreach hen hoff hresync hN hM hratio,
    fun s n v hreach hoff hen hresync hbad => exec_prefEnable_invalid hreach hen hoff hresync hbad,
    fun s n v hreach hon hen hresync hsrc hinv => exec_prefResync_encoder hreach hen hon hresync hsrc hinv,
    fun s n hdot htrack hdue => exec_prefStop_due hdot htrack hdue,
    fun s n hdot hcoast hown hv hdone => exec_prefInvalid_coasted hdot hcoast hown hv hdone,
    fun s n hdot hoff hvalid hsrc hfirst hmissed => exec_prefSampleLoss_lost hdot hoff hvalid hsrc hfirst hmissed, ?switch, ?switchInvalid⟩
  case switch =>
    intro s n hdot hen hsrc hfollows hfvalid hvalid hmissed hbound
    rw [exec_prefSrcSwitch_due hdot hen hsrc hfollows hfvalid hmissed hbound, State.prefToOwn_of_valid _ _ _ hvalid]
  case switchInvalid =>
    intro s n hdot hen hsrc hfollows hfvalid hinv hmissed hbound
    have hold : s.prefState n.val ≠ .invalid := by rwa [State.prefState_of_follows hen hfollows]
    obtain ⟨u, hu, hown⟩ := State.prefToOwn_of_invalid s n.val (s.prefState n.val) hinv hold
    exact ⟨u, hu, (exec_prefSrcSwitch_due hdot hen hsrc hfollows hfvalid hmissed hbound).trans (congrArg _ hown)⟩

end Sys2Proof.Machine
end

section
/-!
PROOFS. The event scheduler (O26): its window, and an entry that fires; with the pins that its actions drive.
-/
open Sys2Proof
namespace Sys2Proof.Machine

/-! Pins (R576). -/

section
variable (s : State)

/-- Driving a pin changes the levels and the pulses of the pins, and what leaves the part. -/
theorem State.gpioDrive_frame (pin : Nat) (level : Bool) : s.gpioDrive pin level =
    { s with pos := { s.pos with gpio := (s.gpioDrive pin level).pos.gpio, pulses := s.pos.pulses.set none pin none },
             out := (s.gpioDrive pin level).out } := by
  unfold State.gpioDrive
  dsimp only
  split <;> rfl

/-- The pin has the level, and every other pin its own. -/
theorem State.gpio_gpioDrive {pin : Nat} (hpin : pin < 16) (level : Bool) (k : Nat) :
    (s.gpioDrive pin level).pos.gpio.getLsbD k = if k = pin then level else s.pos.gpio.getLsbD k := by
  have hpos : (s.gpioDrive pin level).pos.gpio =
      if level then s.pos.gpio ||| BitVec.ofNat 16 (2 ^ pin) else s.pos.gpio &&& ~~~BitVec.ofNat 16 (2 ^ pin) := by
    unfold State.gpioDrive
    dsimp only
    split <;> rfl
  have hmask : (BitVec.ofNat 16 (2 ^ pin)).getLsbD k = decide (k = pin) := by
    rw [BitVec.getLsbD_ofNat, Nat.testBit_two_pow, ← Bool.decide_and]
    exact decide_eq_decide.mpr (by omega)
  rw [hpos]
  cases level with
  | true =>
    rw [if_pos rfl, BitVec.getLsbD_or, hmask]
    by_cases h : k = pin <;> simp [h]
  | false =>
    rw [if_neg (by decide), BitVec.getLsbD_and, BitVec.getLsbD_not, hmask]
    by_cases h : k = pin
    · simp [h]
    · simpa [h] using BitVec.lt_of_getLsbD

/-- The level that an action of mode `mode` gives a pin of level `level` (R66): clear, set, or toggle; a pulse toggles. -/
def gpioLevel (mode : Nat) (level : Bool) : Bool := match mode with | 0 => false | 1 => true | _ => !level

theorem State.gpioAction_frame (arg : Nat) : ∃ (g : BitVec 16) (p : SMap (Option Pulse)) (o : List Emit),
    s.gpioAction arg = { s with pos := { s.pos with gpio := g, pulses := p }, out := o } ∧
    ∀ k, g.getLsbD k = if k = arg % 16 then gpioLevel (arg / 16 % 4) (s.pos.gpio.getLsbD (arg % 16)) else s.pos.gpio.getLsbD k := by
  have hpin : arg % 16 < 16 := Nat.mod_lt _ (by decide)
  have hdrive : ∀ level, ∃ (g : BitVec 16) (p : SMap (Option Pulse)) (o : List Emit),
      s.gpioDrive (arg % 16) level = { s with pos := { s.pos with gpio := g, pulses := p }, out := o } ∧
      ∀ k, g.getLsbD k = if k = arg % 16 then level else s.pos.gpio.getLsbD k :=
    fun level => ⟨_, _, _, s.gpioDrive_frame _ level, fun k => s.gpio_gpioDrive hpin level k⟩
  unfold State.gpioAction
  split
  · next h => rw [h]; exact hdrive false
  · next h => rw [h]; exact hdrive true
  · next h => rw [h]; exact hdrive _
  · next h0 h1 h2 =>
    have hmode : gpioLevel (arg / 16 % 4) (s.pos.gpio.getLsbD (arg % 16)) = !s.pos.gpio.getLsbD (arg % 16) := by
      unfold gpioLevel
      split
      · contradiction
      · contradiction
      · rfl
    obtain ⟨g, p, o, hframe, hg⟩ := hdrive (!s.pos.gpio.getLsbD (arg % 16))
    dsimp only
    rw [hmode, hframe]
    exact ⟨g, _, o, rfl, hg⟩

end

/-! Entries. -/

section
variable (s : State) (e : Nat)

@[simp] theorem State.schedOf_setSched_self (x : SchedEntry) : (s.setSched e x).schedOf e = x := SMap.get_set_self _ _ _ _

theorem State.schedOf_setSched_ne {k : Nat} (x : SchedEntry) (h : k ≠ e) : (s.setSched e x).schedOf k = s.schedOf k :=
  SMap.get_set_ne _ _ _ _ h

end

theorem dw_lo32_hi32 (x : DWord) : dw (lo32 x) (hi32 x) = x := by
  apply BitVec.eq_of_toNat_eq
  simp only [dw, lo32, hi32]
  bv_omega

section
variable (x : SchedEntry) (late : Bool)

theorem SchedEntry.fired_firings : (x.fired late).firings = x.firings + 1 := by
  unfold SchedEntry.fired
  dsimp only
  split <;> rfl

/-- A one-shot entry that fires clears its EN (R69). -/
theorem SchedEntry.fired_once (h : x.w2 = 0) : (x.fired late).w3 = x.w3 &&& 0x7FFFFFFF ∧ (x.fired late).time = x.time := by
  simp [SchedEntry.fired, SchedEntry.time, h]

/-- The trigger of a periodic entry of the time domain advances by PERIOD (R69). -/
theorem SchedEntry.fired_periodic (hdom : x.dom = false) (h : x.w2 ≠ 0) :
    (x.fired late).w3 = x.w3 ∧ (x.fired late).time = x.time + BitVec.ofNat 64 x.w2.toNat := by
  unfold SchedEntry.fired
  dsimp only
  rw [if_neg h, hdom]
  exact ⟨rfl, dw_lo32_hi32 _⟩

end

/-! The window (R65, R76). -/

section
variable {s : State} (hreach : s.dropped Reg.SCHED_CMD = none)
include hreach

theorem exec_schedWriteEntry : exec .schedWriteEntry s = .next (s.schedCmd 1) := congrArg _ (State.gated_of_reaches _ hreach)

theorem exec_schedReadEntry : exec .schedReadEntry s = .next (s.schedCmd 2) := congrArg _ (State.gated_of_reaches _ hreach)

theorem exec_schedClearEn : exec .schedClearEn s = .next (s.schedCmd 3) := congrArg _ (State.gated_of_reaches _ hreach)

end

/-- The entry that the window reads stands in SCHED_W0 to SCHED_W3; every other register keeps its value. -/
theorem State.schedCmd_read (s : State) (x : SchedEntry) (hx : x = s.schedOf (s.fld Reg.SCHED_INDEX 10 0)) :
    (s.schedCmd 2).rd (Reg.SCHED_W 0) = x.w0 ∧ (s.schedCmd 2).rd (Reg.SCHED_W 1) = x.w1 ∧ (s.schedCmd 2).rd (Reg.SCHED_W 2) = x.w2 ∧
    (s.schedCmd 2).rd (Reg.SCHED_W 3) = x.w3 ∧ ∀ a, (∀ k, k < 4 → a ≠ Reg.SCHED_W k) → (s.schedCmd 2).rd a = s.rd a := by
  have hcmd : s.schedCmd 2 = (((s.wr (Reg.SCHED_W 0) x.w0).wr (Reg.SCHED_W 1) x.w1).wr (Reg.SCHED_W 2) x.w2).wr (Reg.SCHED_W 3) x.w3 := by
    rw [hx]; rfl
  rw [hcmd]
  refine ⟨?_, ?_, ?_, ?_, fun a ha => ?_⟩
  · simp [State.rd_wr]
  · simp [State.rd_wr]
  · simp [State.rd_wr]
  · exact State.rd_wr_self _ _ _
  · rw [State.rd_wr_ne _ _ (ha 3 (by decide)), State.rd_wr_ne _ _ (ha 2 (by decide)), State.rd_wr_ne _ _ (ha 1 (by decide)),
      State.rd_wr_ne _ _ (ha 0 (by decide))]

/-! An entry that is due (R67 to R70). -/

theorem exec_schedEntryDue_not {s : State} {e : Fin 2048} (h : s.schedDue (s.schedOf e.val) = false ∨ s.schedTurn e.val = false) :
    exec (.schedEntryDue e) s = .next s :=
  if_neg (by rcases h with h | h <;> simp [h])

theorem State.schedDue_of_time {s : State} {x : SchedEntry} (hdot : s.dotRuns = true) (hen : x.en = true) (hdom : x.dom = false)
    (htime : x.time.toNat ≤ s.now.toNat) : s.schedDue x = true := by
  simp [State.schedDue, hdot, hen, hdom, htime]

theorem State.schedDue_eq_false {s : State} {x : SchedEntry} (h : x.en = false ∨ (x.dom = false ∧ s.now.toNat < x.time.toNat)) :
    s.schedDue x = false := by
  rcases h with h | ⟨hdom, htime⟩
  · simp [State.schedDue, h]
  · simp [State.schedDue, hdom, htime]

/-- The entry as it stands after it fires. -/
def State.schedNext (s : State) (e : Nat) : SchedEntry :=
  let y := (s.schedOf e).fired false
  { y with passed := y.en && s.schedPassed y }

/-- Action 5 of an entry that is not late drives its pin, with PD7 on and the unit not standby. -/
theorem State.schedFire_gpio {s : State} {e : Nat} (hact : bits (s.schedOf e).w3 27 24 = 5) (hon : s.domOn 7 = true) (hrole : s.twin.role ≠ .standby) :
    s.schedFire e false = (s.setSched e (s.schedNext e)).gpioAction (bits (s.schedOf e).w3 15 0) := by
  have hpresent : (s.setSched e (s.schedNext e)).actionAbsent 5 (bits (s.schedOf e).w3 15 0) = false := by
    have hon' : (s.setSched e (s.schedNext e)).domOn 7 = true := hon
    have hrole' : (s.setSched e (s.schedNext e)).twin.role ≠ .standby := hrole
    simp [State.actionAbsent, hon', hrole']
  unfold State.schedFire
  dsimp only
  rw [hact, if_neg (by decide), State.schedAction]
  exact if_neg (by rw [← State.schedNext, hpresent]; decide)

theorem exec_schedEntryDue_gpio {s : State} {e : Fin 2048} (hdue : s.schedDue (s.schedOf e.val) = true) (hturn : s.schedTurn e.val = true)
    (hpassed : (s.schedOf e.val).passed = false) (hact : bits (s.schedOf e.val).w3 27 24 = 5) (hon : s.domOn 7 = true) (hrole : s.twin.role ≠ .standby) :
    exec (.schedEntryDue e) s = .next ((s.setSched e.val (s.schedNext e.val)).gpioAction (bits (s.schedOf e.val).w3 15 0)) := by
  rw [← State.schedFire_gpio hact hon hrole, ← hpassed]
  exact if_pos (by rw [hdue, hturn]; rfl)

/-- Settles O26: the window first, then the entry that fires and those that do not. -/
theorem schedulerEntriesAreWrittenAndFire : Obligations.SchedulerEntriesAreWrittenAndFire := by
  refine ⟨fun s hreach => exec_schedWriteEntry hreach, ?read, fun s hreach => exec_schedClearEn hreach, ?fires, ?not⟩
  case read =>
    intro s hreach
    obtain ⟨h0, h1, h2, h3, hother⟩ := s.schedCmd_read _ rfl
    exact ⟨_, exec_schedReadEntry hreach, rfl, h0, h1, h2, h3, hother⟩
  case not =>
    intro s e h
    rw [← or_assoc] at h
    exact exec_schedEntryDue_not (h.imp_left State.schedDue_eq_false)
  case fires =>
    intro s e hen hdom htime hdot hturn hpassed hact hon hrole
    obtain ⟨g, p, o, hframe, hg⟩ := (s.setSched e.val (s.schedNext e.val)).gpioAction_frame (bits (s.schedOf e.val).w3 15 0)
    have hentry : (s.setSched e.val (s.schedNext e.val)).schedOf e.val = s.schedNext e.val := State.schedOf_setSched_self ..
    refine ⟨_, (exec_schedEntryDue_gpio (State.schedDue_of_time hdot hen hdom htime) hturn hpassed hact hon hrole).trans (congrArg _ hframe),
      rfl, ?_, fun k hk => State.schedOf_setSched_ne _ _ _ hk, ?_, ?_, ?_, ?_⟩
    · exact (congrArg SchedEntry.firings hentry).trans (SchedEntry.fired_firings _ _)
    · intro h
      obtain ⟨hw3, htrigger⟩ := (s.schedOf e.val).fired_once false h
      exact ⟨(congrArg SchedEntry.w3 hentry).trans hw3, (congrArg SchedEntry.time hentry).trans htrigger⟩
    · intro h
      obtain ⟨hw3, htrigger⟩ := (s.schedOf e.val).fired_periodic false hdom h
      exact ⟨(congrArg SchedEntry.w3 hentry).trans hw3, (congrArg SchedEntry.time hentry).trans htrigger⟩
    · exact (hg _).trans (if_pos rfl)
    · exact fun k _ hk => (hg k).trans (if_neg hk)

end Sys2Proof.Machine
end

section
/-!
PROOFS. Pins, captures, PRINT_INHIBIT#, marks and the scrubber (O27).
-/
open Sys2Proof
namespace Sys2Proof.Machine

/-! Pulses (R576). -/

/-- A pulse whose end has come returns its pin to the level from before. -/
theorem exec_gpioPulseEnd_due {s : State} {pin : Fin 16} {p : Pulse} (hp : s.pos.pulses.get none pin.val = some p) (hdue : p.endAt.toNat ≤ s.count.toNat) :
    exec (.gpioPulseEnd pin) s = .next (s.gpioDrive pin.val p.back) := by
  simp only [exec, execGpioPulseEnd, hp]
  exact if_neg (Nat.not_lt.mpr hdue)

/-! Capture units (R71). -/

section
variable {s : State} {u : Fin 16} {src : Fin 32} {rising : Bool} {run : Nat} (sub : Fin 6)

theorem exec_capEdge_not (h : s.capTakes (s.rd (Reg.CAP_CTRL u.val)) src.val rising run = false) : exec (.capEdge u src rising run sub) s = .next s :=
  if_pos (by simp [h])

theorem exec_capEdge_takes (hdot : s.dotRuns = true) (htakes : s.capTakes (s.rd (Reg.CAP_CTRL u.val)) src.val rising run = true) :
    exec (.capEdge u src rising run sub) s =
      if (s.capOf u.val).valid then .next ((s.orW (Reg.CAP_STATUS u.val) 2).raiseE 0x020E 0 [wd u.val])
      else .next (s.setCap u.val { s.capOf u.val with
        valid := true, time := s.timeAt (s.runStamp run sub), pos := s.prefPos (s.fld (Reg.CAP_CTRL u.val) 9 8) (s.runStamp run sub) }) :=
  if_neg (by simp [hdot, htakes])

end

section
variable (s : State) {ctl : Word} {src : Nat} {rising : Bool} (run : Nat)

/-- A unit that is off, or has selected another source or the other direction, takes no edge. -/
theorem State.capTakes_eq_false (h : bit ctl 0 = false ∨ bits ctl 5 1 ≠ src ∨ (bits ctl 7 6 = 0 ∧ rising = false) ∨ (bits ctl 7 6 = 1 ∧ rising = true)) :
    s.capTakes ctl src rising run = false := by
  rcases h with h | h | ⟨h, rfl⟩ | ⟨h, rfl⟩ <;> simp [State.capTakes, h]

/-- A unit that has selected the source and the direction takes an edge by the rule of its source. -/
theorem State.capTakes_selected (hon : bit ctl 0 = true) (hsrc : bits ctl 5 1 = src) (hrise : bits ctl 7 6 = 0 → rising = true)
    (hfall : bits ctl 7 6 = 1 → rising = false) :
    s.capTakes ctl src rising run = if 1 ≤ src && src ≤ 8 then s.accepted (src - 1) run else decide (src < 16) || s.domOn 7 := by
  simp only [State.capTakes, hon, hsrc, beq_self_eq_true, Bool.true_and]
  generalize (if decide (1 ≤ src) && decide (src ≤ 8) then s.accepted (src - 1) run else decide (src < 16) || s.domOn 7) = rule
  split
  · next h => rw [hrise h, Bool.true_and]
  · next h => rw [hfall h, Bool.not_false, Bool.true_and]
  · rw [Bool.true_and]

end

/-! PRINT_INHIBIT# (R72, R73). -/

/-- A kill symbol on one link. -/
def State.kill (s : State) (ch : Nat) : State := (s.bump (Reg.HL_KILLS ch)).modHl ch (fun h => { h with kills := h.kills ++ [s.count] })

theorem State.killAll_eq (s : State) : s.killAll = s.each ((List.range 64).filter (fun ch => (s.hlOf ch).carries)) State.kill := rfl

section
variable (s : State) {n : Nat}

theorem State.hlOf_kill_self (n : Nat) : (s.kill n).hlOf n = { s.hlOf n with kills := (s.hlOf n).kills ++ [s.count] } := State.hlOf_modHl_self ..

theorem State.hlOf_kill_ne {ch : Nat} (h : ch ≠ n) : (s.kill n).hlOf ch = s.hlOf ch := State.hlOf_modHl_ne _ _ h

theorem State.rd_kill_self (n : Nat) : (s.kill n).rd (Reg.HL_KILLS n) = satInc (s.rd (Reg.HL_KILLS n)) := s.rd_bump_self _

theorem State.rd_kill_ne {a : Nat} (h : a ≠ Reg.HL_KILLS n) : (s.kill n).rd a = s.rd a := State.rd_bump_ne s h

end

theorem hlKills_injective {a b : Nat} (h : Reg.HL_KILLS a = Reg.HL_KILLS b) : a = b := by
  unfold Reg.HL_KILLS at h
  omega

/-- Kill symbols on some links: each of them gets one, and is counted; all else stays. -/
theorem State.each_kill (s : State) (l : List Nat) (hl : l.Nodup) :
    s.each l State.kill = { s with regs := (s.each l State.kill).regs, hl := (s.each l State.kill).hl } ∧
    (∀ ch, ch ∉ l → (s.each l State.kill).hlOf ch = s.hlOf ch) ∧
    (∀ ch ∈ l, (s.each l State.kill).hlOf ch = { s.hlOf ch with kills := (s.hlOf ch).kills ++ [s.count] } ∧
      (s.each l State.kill).rd (Reg.HL_KILLS ch) = satInc (s.rd (Reg.HL_KILLS ch))) ∧
    (∀ a, (∀ ch ∈ l, a ≠ Reg.HL_KILLS ch) → (s.each l State.kill).rd a = s.rd a) := by
  induction l generalizing s with
  | nil => exact ⟨rfl, fun _ _ => rfl, fun _ h => absurd h List.not_mem_nil, fun _ _ => rfl⟩
  | cons n r ih =>
    obtain ⟨hn, hr⟩ := List.nodup_cons.mp hl
    obtain ⟨hframe, hout, hin, hregs⟩ := ih (s.kill n) hr
    have hhead : s.each (n :: r) State.kill = (s.kill n).each r State.kill := rfl
    rw [hhead]
    refine ⟨hframe, fun ch hch => ?_, fun ch hch => ?_, fun a ha => ?_⟩
    · rw [List.mem_cons, not_or] at hch
      rw [hout ch hch.2, State.hlOf_kill_ne _ hch.1]
    · rcases List.mem_cons.mp hch with rfl | hmem
      · rw [hout ch hn, hregs _ fun k hk h => hn (by rwa [hlKills_injective h])]
        exact ⟨s.hlOf_kill_self ch, s.rd_kill_self ch⟩
      · have hne : ch ≠ n := fun h => hn (h ▸ hmem)
        obtain ⟨hkills, hcount⟩ := hin ch hmem
        rw [State.hlOf_kill_ne _ hne] at hkills
        rw [State.rd_kill_ne _ fun h => hne (hlKills_injective h)] at hcount
        exact ⟨hkills, hcount⟩
    · rw [hregs a fun k hk => ha k (List.mem_cons_of_mem _ hk), State.rd_kill_ne _ (ha n List.mem_cons_self)]

theorem hlKills_ne_piCount (ch : Nat) : Reg.HL_KILLS ch ≠ Reg.PI_COUNT := by
  unfold Reg.HL_KILLS Reg.PI_COUNT
  omega

/-- The links that carry codes get a kill symbol each (R248). -/
theorem State.killAll_frame (s : State) : s.killAll = { s with regs := s.killAll.regs, hl := s.killAll.hl } ∧
    (∀ ch, (s.hlOf ch).carries = false → s.killAll.hlOf ch = s.hlOf ch) ∧
    (∀ ch, ch < 64 → (s.hlOf ch).carries = true → s.killAll.hlOf ch = { s.hlOf ch with kills := (s.hlOf ch).kills ++ [s.count] } ∧
      s.killAll.rd (Reg.HL_KILLS ch) = satInc (s.rd (Reg.HL_KILLS ch))) ∧
    (∀ a, (∀ ch, ch < 64 → a ≠ Reg.HL_KILLS ch) → s.killAll.rd a = s.rd a) := by
  obtain ⟨hframe, hout, hin, hregs⟩ := s.each_kill _ (List.nodup_range.filter (fun ch => (s.hlOf ch).carries))
  refine ⟨hframe, fun ch h => hout ch ?_, fun ch hlt h => hin ch ?_, fun a h => hregs a fun ch hch => h ch ?_⟩
  · simp [h]
  · simp [h, hlt]
  · exact List.mem_range.mp (List.mem_of_mem_filter hch)

/-- The input and the latch of PRINT_INHIBIT# once the input has been low for 2 ns. -/
def State.inhibitSet (s : State) : State :=
  { s with pos := { s.pos with pi := { s.pos.pi with low := true, resumed := false, latch := true, setAt := s.count } } }

section
variable {s : State}

theorem exec_inhibitAssert_sets (hlow : s.pos.pi.low = false) (hlatch : s.pos.pi.latch = false) :
    exec .inhibitAssert s = .next (((s.inhibitSet.bump Reg.PI_COUNT).killAll.seqInputAll 0x21).raise 0x020C 0 []) :=
  (if_neg (by simp [hlow])).trans (congrArg _ (if_neg (by simp [hlatch])))

theorem exec_inhibitAssert_again (hlow : s.pos.pi.low = false) (hlatch : s.pos.pi.latch = true) :
    exec .inhibitAssert s = .next { s with pos := { s.pos with pi := { s.pos.pi with low := true, resumed := false } } } :=
  (if_neg (by simp [hlow])).trans (congrArg _ (if_pos (by simp [hlatch])))

theorem exec_printInhibitRise (hlow : s.pos.pi.low = true) : exec .printInhibitRise s =
    .next { s with pos := { s.pos with pi := { s.pos.pi with low := false, riseAt := s.count, resumed := false } } } :=
  if_neg (by simp [hlow])

theorem State.piCtrlWrite_frame (s : State) (v : Word) :
    s.piCtrlWrite v = { s with regs := (s.piCtrlWrite v).regs,
                               pos := { s.pos with pi := { s.pos.pi with resumed := (s.piCtrlWrite v).pos.pi.resumed } } } ∧
    (s.piCtrlWrite v).regs = (s.wr Reg.PI_CTRL (v &&& 1)).regs ∧
    (s.piCtrlWrite v).pos.pi.resumed = (s.pos.pi.resumed || (bit v 1 && !s.pos.pi.low)) := by
  unfold State.piCtrlWrite
  dsimp only
  split
  · next h => exact ⟨rfl, rfl, by rw [State.wr_pos] at h; rw [h, Bool.or_true]⟩
  · next h => exact ⟨rfl, rfl, by rw [State.wr_pos, Bool.not_eq_true] at h; rw [h, Bool.or_false]; rfl⟩

/-- Without permission, or at another tick than that of a frame boundary, the latch stays. -/
theorem exec_inhibitRelease_not (h : s.mayRelease = false ∨ s.count ≠ s.pos.frame.next) : exec .inhibitRelease s = .next s :=
  if_neg (by rcases h with h | h <;> simp [h])

theorem State.mayRelease_eq_false (h : s.pos.pi.latch = false ∨ s.pos.pi.low = true ∨ (s.count - s.pos.pi.riseAt).toNat < 1280 ∨
    (s.flag Reg.PI_CTRL 0 = false ∧ s.pos.pi.resumed = false)) : s.mayRelease = false := by
  unfold State.mayRelease
  dsimp only
  rcases h with h | h | h | ⟨hauto, hresumed⟩
  · simp [h]
  · simp [h]
  · rw [decide_eq_false (Nat.not_le.mpr h)]; simp
  · simp [hauto, hresumed]

/-- At a frame boundary the latch clears once the input has been high for 1,280 ns and resuming is permitted. -/
theorem exec_inhibitRelease_clears (hdot : s.dotRuns = true) (hlatch : s.pos.pi.latch = true) (hlow : s.pos.pi.low = false)
    (hhigh : 1280 ≤ (s.count - s.pos.pi.riseAt).toNat) (hresume : s.flag Reg.PI_CTRL 0 = true ∨ s.pos.pi.resumed = true)
    (hbound : s.count = s.pos.frame.next) : exec .inhibitRelease s = .next s.release := by
  have hmay : s.mayRelease = true := by
    unfold State.mayRelease
    dsimp only
    rw [hlatch, hlow, decide_eq_true hhigh]
    simpa using hresume
  exact if_pos (by rw [hdot, hmay, hbound]; simp)

end

/-! The scrubber (R146, R147). -/

theorem miscorrects_of_few {e : Code304} (h : symbols e ≤ 3) : miscorrects e = none := by
  rw [miscorrects, Option.filter_eq_none_iff]
  intro c _
  simp
  omega

theorem eccClass_corrected {e : Code304} (h1 : 1 ≤ symbols e) (h3 : symbols e ≤ 3) : eccClass e = .corrected := by
  have h : symbols e = 1 ∨ symbols e = 2 ∨ symbols e = 3 := by omega
  rcases h with h | h | h <;> simp [eccClass, h]

theorem eccClass_uncorrectable {e : Code304} (h4 : 4 ≤ symbols e) : eccClass e = .uncorrectable := by
  obtain ⟨k, hk⟩ := Nat.exists_eq_add_of_le' h4
  simp [eccClass, hk]

theorem symbols_zero : symbols 0 = 0 := by simp [symbols]

theorem eccClass_zero : eccClass 0 = .clean := by simp only [eccClass, symbols_zero]

section
variable {s : State} {w : Nat} {flip e : Code304} (he : e = s.buf.flips.get 0 w ^^^ flip)
include he

/-- A word whose flips lie near no other codeword keeps them. -/
theorem State.wordRead_none (hmis : miscorrects e = none) :
    s.wordRead w flip = (eccClass e, { s with buf := { s.buf with flips := s.buf.flips.set 0 w e } }) := by
  simp only [State.wordRead, ← he, hmis]

/-- A word that is taken for another codeword has the data of that one. -/
theorem State.wordRead_some {c : Code304} (hmis : miscorrects e = some c) :
    s.wordRead w flip = (.corrected, { s with buf := { s.buf with
      mem := s.buf.mem.write (w * 32) (natBytes 32 (s.wordData w ^^^ c.extractLsb' 0 256).toNat), flips := s.buf.flips.set 0 w (e ^^^ c) } }) := by
  simp only [State.wordRead, ← he, hmis]

end

/-- The scrubber goes on to the next word, and counts a pass at the end. -/
def State.scrubNext (s : State) (w : Nat) : State :=
  let t := { s with buf := { s.buf with scrub := (w + 1) % 2097152 } }
  if w + 1 = 2097152 then t.bumpWrap Reg.BUF_SCRUB_PASS else t

/-- What a scrub step makes of a word that it has read. -/
def State.scrubDone (u : State) (w : Nat) (cls : EccClass) : State :=
  match cls with
  | .clean => u
  | .corrected => { u with buf := { u.buf with flips := u.buf.flips.set 0 w 0 } }.bump Reg.BUF_CORR_CNT
  | .uncorrectable => u.eccUncorr w (u.useOf w).1 (u.useOf w).2.1

section
variable {s : State} {w : Fin 2097152} {flip : Code304} (hruns : s.bufRuns = true) (hready : s.buf.ready = true)
  (hon : s.flag Reg.BUF_SCRUB_CTRL 0 = true) (hw : w.val = s.buf.scrub)
include hruns hready hon hw

theorem exec_bufScrub : exec (.bufScrub w flip) s =
    .next (((s.scrubNext w.val).wordRead w.val flip).2.scrubDone w.val ((s.scrubNext w.val).wordRead w.val flip).1) :=
  if_neg (by simp [hruns, hready, hon, hw])

/-- Within the buffer the word after the next is the one that follows. -/
theorem exec_bufScrub_within (hlast : w.val + 1 < 2097152) : exec (.bufScrub w flip) s =
    .next ((({ s with buf := { s.buf with scrub := w.val + 1 } } : State).wordRead w.val flip).2.scrubDone w.val
      (({ s with buf := { s.buf with scrub := w.val + 1 } } : State).wordRead w.val flip).1) := by
  rw [exec_bufScrub hruns hready hon hw, State.scrubNext, if_neg (by omega), Nat.mod_eq_of_lt hlast]

section
variable {e : Code304} (he : e = s.buf.flips.get 0 w.val ^^^ flip)
include he

theorem exec_bufScrub_clean (h0 : e = 0) (hlast : w.val + 1 < 2097152) :
    exec (.bufScrub w flip) s = .next { s with buf := { s.buf with scrub := w.val + 1, flips := s.buf.flips.set 0 w.val 0 } } := by
  rw [exec_bufScrub_within hruns hready hon hw hlast,
    State.wordRead_none (s := { s with buf := { s.buf with scrub := w.val + 1 } }) he (miscorrects_of_few (by rw [h0, symbols_zero]; decide)), h0,
    eccClass_zero]
  rfl

theorem exec_bufScrub_pass (h0 : e = 0) (hlast : w.val + 1 = 2097152) :
    exec (.bufScrub w flip) s = .next (({ s with buf := { s.buf with scrub := 0, flips := s.buf.flips.set 0 w.val 0 } } : State).wr
      Reg.BUF_SCRUB_PASS (s.rd Reg.BUF_SCRUB_PASS + 1)) := by
  have hnext : s.scrubNext w.val = ({ s with buf := { s.buf with scrub := 0 } } : State).bumpWrap Reg.BUF_SCRUB_PASS := by
    rw [State.scrubNext, if_pos hlast, hlast]
  rw [exec_bufScrub hruns hready hon hw, hnext,
    State.wordRead_none (s := ({ s with buf := { s.buf with scrub := 0 } } : State).bumpWrap Reg.BUF_SCRUB_PASS) he
      (miscorrects_of_few (by rw [h0, symbols_zero]; decide)), h0, eccClass_zero]
  rfl

theorem exec_bufScrub_corrected (h1 : 1 ≤ symbols e) (h3 : symbols e ≤ 3) (hlast : w.val + 1 < 2097152) :
    exec (.bufScrub w flip) s =
      .next (({ s with buf := { s.buf with scrub := w.val + 1, flips := (s.buf.flips.set 0 w.val e).set 0 w.val 0 } } : State).wr Reg.BUF_CORR_CNT
        (satInc (s.rd Reg.BUF_CORR_CNT))) := by
  rw [exec_bufScrub_within hruns hready hon hw hlast,
    State.wordRead_none (s := { s with buf := { s.buf with scrub := w.val + 1 } }) he (miscorrects_of_few h3), eccClass_corrected h1 h3]
  rfl

theorem exec_bufScrub_uncorrectable {u : State} (h4 : 4 ≤ symbols e) (hlast : w.val + 1 < 2097152) (hmis : miscorrects e = none)
    (hu : u = { s with buf := { s.buf with scrub := w.val + 1, flips := s.buf.flips.set 0 w.val e } }) :
    exec (.bufScrub w flip) s = .next (u.eccUncorr w.val (u.useOf w.val).1 (u.useOf w.val).2.1) := by
  rw [exec_bufScrub_within hruns hready hon hw hlast, State.wordRead_none (s := { s with buf := { s.buf with scrub := w.val + 1 } }) he hmis,
    eccClass_uncorrectable h4, hu]
  rfl

/-- A word that is taken for another codeword counts as corrected, is whole, and has the data of that codeword. -/
theorem exec_bufScrub_miscorrected {c : Code304} (hlast : w.val + 1 < 2097152) (hmis : miscorrects e = some c) :
    exec (.bufScrub w flip) s = .next (({ s with buf := { s.buf with
      mem := s.buf.mem.write (w.val * 32) (natBytes 32 (s.wordData w.val ^^^ c.extractLsb' 0 256).toNat),
      flips := (s.buf.flips.set 0 w.val (e ^^^ c)).set 0 w.val 0, scrub := w.val + 1 } } : State).bump Reg.BUF_CORR_CNT) := by
  rw [exec_bufScrub_within hruns hready hon hw hlast, State.wordRead_some (s := { s with buf := { s.buf with scrub := w.val + 1 } }) he hmis]
  rfl

end
end

/-- Settles O27, clause by clause: pulses, captures, the inhibit latch, marks, and the scrubber. -/
theorem pinsAndInhibitAct : Obligations.PinsAndInhibitAct := by
  refine ⟨?pulse, ?latch, ?overrun, ?notTaken, ?takes, ?assert, fun s hlow hlatch => exec_inhibitAssert_again hlow hlatch,
    fun s hlow => exec_printInhibitRise hlow, ?resume, ?release, ?keeps, fun s pin hon => congrArg _ (if_pos hon), ?unmarked, ?scrub⟩
  case pulse =>
    intro s pin p hp hdue
    have hframe := s.gpioDrive_frame pin.val p.back
    refine ⟨_, exec_gpioPulseEnd_due hp hdue, ?_, ?_, ?_, fun k hk => ?_, ?_, ?_, ?_⟩
    · rw [hframe]
    · rw [s.gpio_gpioDrive pin.isLt, if_pos rfl]
    · rw [hframe]; exact SMap.get_set_self s.pos.pulses none pin.val none
    · rw [s.gpio_gpioDrive pin.isLt, if_neg (Fin.val_ne_of_ne hk)]
    · rw [hframe]
    · rw [hframe]
    · rw [hframe]
  case latch =>
    intro s u src rising run sub hdot htakes hvalid
    rw [exec_capEdge_takes sub hdot htakes, if_neg (by rw [hvalid]; decide)]
  case overrun =>
    intro s u src rising run sub hdot htakes hvalid
    rw [exec_capEdge_takes sub hdot htakes, if_pos hvalid]
    rfl
  case notTaken => exact fun s u src rising run sub h => exec_capEdge_not sub (s.capTakes_eq_false run h)
  case takes =>
    intro s ctl src rising run hon hsrc hrise hfall
    have h := s.capTakes_selected run hon hsrc hrise hfall
    refine ⟨fun h0 => ?_, fun h1 h8 => ?_, fun h16 => ?_⟩
    · rw [h, h0]; rfl
    · rw [h, if_pos (by simp [h1, h8]), State.accepted]
    · rw [h, if_neg (by simp; omega), decide_eq_false (by omega), Bool.false_or]
  case assert =>
    intro s hlow hlatch
    obtain ⟨hframe, hout, hin, hregs⟩ := (s.inhibitSet.bump Reg.PI_COUNT).killAll_frame
    have hpos : (s.inhibitSet.bump Reg.PI_COUNT).killAll.pos = s.inhibitSet.pos := (congrArg State.pos hframe).trans rfl
    refine ⟨_, exec_inhibitAssert_sets hlow hlatch, hframe.trans (by rw [hpos]; rfl), ?_, ?_, ?_, ?_, ?_, hout, fun ch hch hcarries => ?_⟩
    · rw [hpos]; rfl
    · rw [hpos]; rfl
    · rw [hpos]; rfl
    · exact (hregs _ fun ch _ => (hlKills_ne_piCount ch).symm).trans (State.rd_bump_self _ _)
    · rw [hpos]; rfl
    · obtain ⟨hkills, hcount⟩ := hin ch hch hcarries
      exact ⟨hkills, hcount.trans (congrArg satInc (State.rd_bump_ne s.inhibitSet (hlKills_ne_piCount ch)))⟩
  case resume =>
    intro s v hreach
    obtain ⟨hframe, hregs, hresumed⟩ := s.piCtrlWrite_frame v
    have hrd : ∀ a, (s.piCtrlWrite v).rd a = (s.wr Reg.PI_CTRL (v &&& 1)).rd a := State.rd_congr hregs
    exact ⟨s.piCtrlWrite v, congrArg _ (State.gated_of_reaches _ hreach), hframe, (hrd _).trans (State.rd_wr_self ..),
      fun a ha => (hrd a).trans (State.rd_wr_ne _ _ ha), hresumed⟩
  case release =>
    intro s hdot hlatch hlow hhigh hresume hbound
    exact ⟨_, exec_inhibitRelease_clears hdot hlatch hlow hhigh hresume hbound, rfl, rfl, hlow, rfl⟩
  case keeps =>
    intro s h
    rcases h with h | h | h | h | h
    · exact exec_inhibitRelease_not (.inl (State.mayRelease_eq_false (.inl h)))
    · exact exec_inhibitRelease_not (.inl (State.mayRelease_eq_false (.inr (.inl h))))
    · exact exec_inhibitRelease_not (.inl (State.mayRelease_eq_false (.inr (.inr (.inl h)))))
    · exact exec_inhibitRelease_not (.inl (State.mayRelease_eq_false (.inr (.inr (.inr h)))))
    · exact exec_inhibitRelease_not (.inr h)
  case unmarked =>
    intro s pin hnone
    show Host.Outcome.next _ = _
    rw [State.markInputs_of_none hnone, ite_self]
  case scrub =>
    intro s w flip e hruns hready hon hw he
    refine ⟨exec_bufScrub_clean hruns hready hon hw he, exec_bufScrub_pass hruns hready hon hw he,
      exec_bufScrub_corrected hruns hready hon hw he, fun h4 hlast => ?_⟩
    cases hmis : miscorrects e with
    | none => exact ⟨_, _, exec_bufScrub_uncorrectable hruns hready hon hw he h4 hlast hmis rfl, rfl, rfl⟩
    | some c =>
      exact ⟨_, _, exec_bufScrub_miscorrected hruns hready hon hw he hlast hmis, rfl, rfl, by simp only [State.bump_buf], rfl,
        SMap.get_set_self (s.buf.flips.set 0 w.val (e ^^^ c)) 0 w.val 0, State.rd_bump_self _ _⟩

end Sys2Proof.Machine
end

section
/-!
PROOFS. Packets of the fabric that are handed over, and the messages that a standby takes (O34).
-/
open Sys2Proof
namespace Sys2Proof.Machine

/-! What a packet that arrives leaves unchanged: it moves the ports, their counters and events, and nothing of the device's own. -/

/-- The registers that the way of a packet through the ports may write: its counters, and those of the events that it raises. -/
def packetRegs : List Nat := Reg.FAB_DROP :: Reg.FAB_TC0_WAIT :: evtRegs

/-- The part of a state that the way of a packet through the ports does not touch. -/
structure Portless where
  twin  : Twin
  pos   : PosTime
  power : Power
  /-- the device's address on the fabric -/
  addr  : Nat
  /-- the words of all registers but `packetRegs` -/
  word  : Nat → Word

def State.portless (s : State) : Portless :=
  { twin := s.twin, pos := s.pos, power := s.power, addr := s.fab.addr, word := fun a => if a ∈ packetRegs then 0 else s.rd a }

section
variable (s : State) (k : Nat) (q : Packet)

@[simp] theorem State.setPort_portless (p : FabPort) : (s.setPort k p).portless = s.portless := rfl

@[simp] theorem State.emit_portless (e : Emit) : (s.emit e).portless = s.portless := rfl

@[simp] theorem State.bump_portless {a : Nat} (h : a ∈ packetRegs) : (s.bump a).portless = s.portless := by
  unfold State.portless
  congr 1
  funext b
  split
  · rfl
  · next hb => exact State.rd_bump_ne (s := s) (ne_of_mem_of_not_mem h hb).symm

@[simp] theorem State.raise_portless (code n : Nat) (args : List Word) : (s.raise code n args).portless = s.portless := by
  unfold State.portless
  simp only [State.raise_twin, State.raise_pos, State.raise_power, State.raise_fab]
  congr 1
  funext a
  split
  · rfl
  · next ha => exact State.rd_raise s code n args (fun h => ha (by simp [packetRegs, h]))

@[simp] theorem State.portPump_portless : (s.portPump k).portless = s.portless := by
  unfold State.portPump
  dsimp only
  split <;> simp

@[simp] theorem State.portGive_portless (f : FabPort → FabPort) : (s.portGive k f).portless = s.portless := by
  simp [State.portGive]

@[simp] theorem State.portSend_portless (came : Option Nat) : (s.portSend k q came).portless = s.portless := by
  unfold State.portSend State.sendTc0
  dsimp only
  split
  · split
    · rw [State.bump_portless _ (by simp [packetRegs]), State.portGive_portless]
    · exact s.portGive_portless k _
  · simp

@[simp] theorem State.unreachable_portless (dest : Nat) : (s.unreachable dest).portless = s.portless := by
  unfold State.unreachable
  dsimp only
  split
  · exact s.bump_portless (by simp [packetRegs])
  · rw [State.raise_portless]
    exact s.bump_portless (by simp [packetRegs])

@[simp] theorem State.flood_portless (came : Option Nat) : (s.flood q came).portless = s.portless :=
  State.each_keeps _ State.portless _ _ (fun s k => s.portSend_portless k q came)

@[simp] theorem State.route_portless (came : Option Nat) : (s.route q came).portless = s.portless := by
  unfold State.route
  dsimp only
  split_ifs <;> simp

@[simp] theorem State.forward_portless : (s.forward q k).portless = s.portless := by
  unfold State.forward
  dsimp only
  split_ifs <;> simp

@[simp] theorem State.giveCredit_portless : (s.giveCredit k q).portless = s.portless := by simp [State.giveCredit]

@[simp] theorem State.tc0Fits_portless : (s.tc0Fits k q).1.portless = s.portless := by simp [State.tc0Fits]

@[simp] theorem State.tc0Hold_portless : (s.tc0Hold k q).portless = s.portless := by simp [State.tc0Hold]

@[simp] theorem State.newSeq_portless : ((s.newSeq q).getD s).portless = s.portless := by
  unfold State.newSeq
  dsimp only
  split_ifs <;> rfl

@[simp] theorem State.arrives_portless : (s.arrives k q).portless = s.portless := by
  unfold State.arrives
  dsimp only
  split_ifs <;> simp

end

section
variable {s t : State} (h : t.portless = s.portless)
include h

theorem State.twin_of_portless : t.twin = s.twin := congrArg Portless.twin h

theorem State.pos_of_portless : t.pos = s.pos := congrArg Portless.pos h

theorem State.rd_of_portless {a : Nat} (ha : a ∉ packetRegs) : t.rd a = s.rd a := by
  have hword := congrFun (congrArg Portless.word h) a
  simpa only [State.portless, if_neg ha] using hword

theorem State.fabOn_of_portless : t.fabOn = s.fabOn := by
  have hpower : t.power = s.power := congrArg Portless.power h
  have hcfg : t.rd Reg.FAB_CFG = s.rd Reg.FAB_CFG := State.rd_of_portless h (by decide)
  simp only [State.fabOn, State.domOn, State.flag, hpower, hcfg]

theorem State.fab_addr_of_portless : t.fab.addr = s.fab.addr := congrArg Portless.addr h

theorem State.pairFrame_of_portless : t.pairFrame = s.pairFrame := by
  simp only [State.pairFrame, State.twin_of_portless h, State.pos_of_portless h]

end

/-! A packet that is handed over has its effect on the state in which it arrives. -/

/-- The state once room is made in the TC0 buffer, or credits are returned (R275, R280). -/
def State.taken (s : State) (k : Nat) (q : Packet) : State := if q.tc = 0 then (s.tc0Fits k q).1 else s.giveCredit k q

@[simp] theorem State.taken_portless (s : State) (k : Nat) (q : Packet) : (s.taken k q).portless = s.portless := by
  unfold State.taken
  split <;> simp

section
variable (s : State) (k : Nat) {q : Packet}

theorem State.arrives_one (h : q.dest ≠ 255) : s.arrives k q = s.taken k q := if_neg h

theorem State.arrives_all (h : q.dest = 255) : s.arrives k q =
    if q.tc = 0 then ((((s.taken k q).newSeq q).getD (s.taken k q)).forward q k).tc0Hold k q
    else (((s.taken k q).newSeq q).getD (s.taken k q)).forward q k := if_pos h

end

/-- Where a row is about the packet and its LEN matches, a packet that is handed over acts. -/
theorem State.fabRecv_of_handsOver {s : State} {k : Nat} {bs : List Block} {q : Packet} {typ : Nat} {mine ok : Packet → Bool}
    (deliver : Packet → State → State) (h : s.handsOver k bs q typ = true) (hmine : mine q = true) (hok : ok q = true) :
    s.fabRecv k bs mine ok deliver = deliver q (s.arrives k q) := by
  simp only [State.handsOver, Bool.and_eq_true, decide_eq_true_eq, beq_iff_eq, Bool.not_eq_true'] at h
  obtain ⟨⟨⟨⟨⟨⟨⟨⟨hup, hpkt⟩, hbad⟩, rfl⟩, hlisted⟩, hon⟩, haddr⟩, hfits⟩, hdest⟩ := h
  have hrOn : (s.taken k q).fabOn = true := (State.fabOn_of_portless (s.taken_portless k q)).trans hon
  have hrAddr : (s.taken k q).fab.addr = s.fab.addr := State.fab_addr_of_portless (s.taken_portless k q)
  have hheard : (decide (s.fab.addr = 0) && decide (q.tc ≠ 3)) = false := by
    rw [Bool.and_eq_false_imp, decide_eq_true_eq]
    intro h0
    simpa [h0] using haddr
  unfold State.fabRecv
  rw [if_pos hup, hpkt]
  dsimp only
  generalize hp : (if q.tc = 0 then s.tc0Fits k q else (s, true)) = p
  have hroom : p.2 = true := by rw [← hp]; split <;> simp_all
  have htaken : (if q.tc = 0 then p.1 else p.1.giveCredit k q) = s.taken k q := by rw [← hp]; unfold State.taken; split <;> rfl
  obtain ⟨u, room⟩ := p
  dsimp only at hroom htaken ⊢
  rw [htaken]
  change (if q.dest = 255 then ((s.taken k q).newSeq q).isSome else q.dest.toNat == s.fab.addr) = true at hdest
  simp only [hlisted, hmine, hok, hbad, hroom, hrOn, hrAddr, hheard, Bool.not_true, Bool.and_false, Bool.false_and, Bool.or_self, Bool.false_eq_true,
    if_false]
  by_cases hall : q.dest = 255
  · rw [if_pos hall] at hdest ⊢
    obtain ⟨v, hv⟩ := Option.isSome_iff_exists.mp hdest
    rw [s.arrives_all k hall, hv]
    rfl
  · rw [if_neg hall, beq_iff_eq] at hdest
    rw [if_neg hall, if_pos hdest, s.arrives_one k hall]

/-! Messages of the twin path. -/

theorem epochAbove_self (e : Word) : epochAbove e e = false := by simp [epochAbove]

/-- A message with the epoch in force has its effect, and no epoch changes. -/
theorem State.twinJudge_inForce (s : State) (kind : Nat) {q : Packet} (f : State → State) (h : hi32 (pktBlock q 0) = s.twin.epoch) :
    s.twinJudge kind q f = f s := by
  simp [State.twinJudge, h, epochAbove_self]

/-- A message of the partner that is handed over has its effect on the state in which it arrives. -/
theorem State.twinRecv_of_twinHands {s : State} {k : Nat} {bs : List Block} {q : Packet} {kind : Nat} (len : Packet → Bool)
    (f : Packet → State → State) (h : s.twinHands k bs q kind = true) (hlen : len q = true) :
    s.twinRecv k bs kind len f = f q (s.arrives k q) := by
  simp only [State.twinHands, Bool.and_eq_true, beq_iff_eq] at h
  obtain ⟨⟨⟨⟨⟨hhands, hkind⟩, hsrc⟩, hcfg⟩, hepoch⟩, hrole⟩ := h
  have htyp : q.typ.toNat = 0x20 := by
    simp only [State.handsOver, Bool.and_eq_true, decide_eq_true_eq] at hhands
    tauto
  unfold State.twinRecv
  rw [State.fabRecv_of_handsOver _ hhands (by simp [htyp, hkind]) (by simp [hkind, hlen])]
  rw [if_neg, State.twinJudge_inForce _ _ _ hepoch]
  cases hr : (s.arrives k q).twin.role <;> simp_all [Option.isSome_iff_ne_none]

section
variable (s : State) (k : Nat) (q : Packet)

theorem State.arrives_twin : (s.arrives k q).twin = s.twin := State.twin_of_portless (s.arrives_portless k q)

theorem State.arrives_pos : (s.arrives k q).pos = s.pos := State.pos_of_portless (s.arrives_portless k q)

theorem State.arrives_pairFrame : (s.arrives k q).pairFrame = s.pairFrame := State.pairFrame_of_portless (s.arrives_portless k q)

end

section
variable {s : State} {k : Fin 8} {bs : List Block} {q : Packet}

/-- What is staged once a run of checkpoint `c` has come: it joins the runs of the same checkpoint, or begins a stage of its own. -/
def Twin.stageWith (t : Twin) (c : Word) (run : Nat × List DWord) : Option (Word × List (Nat × List DWord)) :=
  match t.stage with
  | some (d, l) => if d = c then some (c, l ++ [run]) else some (c, [run])
  | none => some (c, [run])

theorem exec_twinCkptRx (h : s.twinHands k.val bs q 2 = true) (hlo : 2 ≤ q.data.length) (hhi : q.data.length ≤ 1023) (hrole : s.twin.role = .standby) :
    exec (.twinCkptRx k bs) s = .next { s.arrives k.val q with twin := { (s.arrives k.val q).twin with
      stage := s.twin.stageWith (lo32 (q.data.getD 1 0)) (bits (hi32 (q.data.getD 1 0)) 16 0, q.data.drop 2) } } := by
  refine congrArg Host.Outcome.next ((State.twinRecv_of_twinHands _ _ h (by simp [hlo, hhi])).trans ?_)
  have htwin := s.arrives_twin k.val q
  generalize s.arrives k.val q = u at htwin ⊢
  rw [if_neg (by simp [htwin, hrole]), ← htwin]
  rfl

/-- A checkpoint whose end names another cycle than the one staged is discarded. -/
theorem exec_twinCkptEndRx_other {c : Word} {l : List (Nat × List DWord)} (h : s.twinHands k.val bs q 3 = true) (hlen : q.data.length = 3)
    (hrole : s.twin.role = .standby) (hstage : s.twin.stage = some (c, l)) (hc : c ≠ lo32 (q.data.getD 1 0)) :
    exec (.twinCkptEndRx k bs) s = .next { s.arrives k.val q with twin := { (s.arrives k.val q).twin with stage := none } } := by
  refine congrArg Host.Outcome.next ((State.twinRecv_of_twinHands _ _ h (by simp [hlen])).trans ?_)
  have htwin := s.arrives_twin k.val q
  generalize s.arrives k.val q = u at htwin ⊢
  rw [← htwin] at hrole hstage
  rw [hrole, hstage]
  exact if_pos (by simp only [pktBlock, hc, ne_eq, not_false_eq_true, decide_true, Bool.true_or])

theorem exec_twinSampleRx (h : s.twinHands k.val bs q 4 = true) (hlen : q.data.length = 4) :
    exec (.twinSampleRx k bs) s = .next ((s.arrives k.val q).twinSample q) :=
  congrArg Host.Outcome.next (State.twinRecv_of_twinHands _ _ h (by simp [hlen]))

/-- Inputs act eight boundaries after F; when that boundary has passed, their context diverges (R310, R312). -/
theorem exec_twinSeqRx (h : s.twinHands k.val bs q 5 = true) (hlo : 3 ≤ q.data.length) (hhi : q.data.length ≤ 10) (hrole : s.twin.role = .standby) :
    exec (.twinSeqRx k bs) s = .next
      (if (lo32 (q.data.getD 1 0) + 8 - s.pairFrame).toInt ≤ 0 then (s.arrives k.val q).diverge (bits (hi32 (q.data.getD 1 0)) 5 0) 1
      else (s.arrives k.val q).modTwin (fun t => { t with seqs := t.seqs ++ [{
        frame := lo32 (q.data.getD 1 0) + 8, ctx := bits (hi32 (q.data.getD 1 0)) 5 0,
        codes := (List.range (if bits (hi32 (q.data.getD 1 0)) 13 8 = 0 then 64 else bits (hi32 (q.data.getD 1 0)) 13 8)).map
          (fun i => (q.data.getD (2 + i / 8) 0).toNat >>> (8 * (i % 8)) % 64) }] })) := by
  refine congrArg Host.Outcome.next ((State.twinRecv_of_twinHands _ _ h (by simp [hlo, hhi])).trans ?_)
  have htwin := s.arrives_twin k.val q
  have hframe := s.arrives_pairFrame k.val q
  generalize s.arrives k.val q = u at htwin hframe ⊢
  rw [if_neg (by simp [htwin, hrole]), ← hframe]
  rfl

/-- A command or a table effect is kept for its apply frame; one that has missed it diverges its context. -/
theorem exec_twinCtxRx_act (h : s.twinHands k.val bs q 6 = true) (hlen : q.data.length = 3) (hrole : s.twin.role = .standby)
    (hkind : bits (lo32 (q.data.getD 1 0)) 9 8 ≠ 1) :
    exec (.twinCtxRx k bs) s = .next
      (if (hi32 (q.data.getD 1 0) - s.pairFrame).toInt ≤ 0 then (s.arrives k.val q).diverge (bits (lo32 (q.data.getD 1 0)) 5 0) 1
      else (s.arrives k.val q).modTwin (fun t => { t with acts := t.acts ++ [{
        frame := hi32 (q.data.getD 1 0), ctx := bits (lo32 (q.data.getD 1 0)) 5 0, kind := bits (lo32 (q.data.getD 1 0)) 9 8,
        cmd := bits (lo32 (q.data.getD 1 0)) 14 12, pi := bits (lo32 (q.data.getD 2 0)) 15 0, key := bits (lo32 (q.data.getD 2 0)) 31 16 }] })) := by
  refine congrArg Host.Outcome.next ((State.twinRecv_of_twinHands _ _ h (by simp [hlen])).trans ?_)
  have htwin := s.arrives_twin k.val q
  have hframe := s.arrives_pairFrame k.val q
  generalize s.arrives k.val q = u at htwin hframe ⊢
  rw [if_neg (by simp [htwin, hrole]), ← hframe]
  exact if_neg hkind

/-- A standby without a checkpoint cannot take over control. -/
theorem State.ctrlReady_of_loaded_none (h : s.twin.loaded = none) : s.ctrlReady = false := by
  unfold State.ctrlReady
  rw [h]

/-- A standby that is not ready refuses a swap. -/
theorem exec_twinSwapRx_refuse (h : s.twinHands k.val bs q 8 = true) (hlen : q.data.length = 2) (hrole : s.twin.role = .standby)
    (hreq : bits (lo32 (q.data.getD 1 0)) 1 0 = 1) (hloaded : s.twin.loaded = none) :
    exec (.twinSwapRx k bs) s = .next ((s.arrives k.val q).twinMsg 8 [dw 3 (hi32 (q.data.getD 1 0))]) := by
  refine congrArg Host.Outcome.next ((State.twinRecv_of_twinHands _ _ h (by simp [hlen])).trans ?_)
  have htwin := s.arrives_twin k.val q
  generalize s.arrives k.val q = u at htwin ⊢
  rw [← htwin] at hrole hloaded
  rw [hrole, State.ctrlReady_of_loaded_none hloaded]
  exact if_neg (not_not.mpr hreq)

/-- The active notes that the standby accepts the swap it has asked for. -/
theorem exec_twinSwapRx_accepted {w : Swap} {n : Word} (h : s.twinHands k.val bs q 8 = true) (hlen : q.data.length = 2) (hrole : s.twin.role = .active)
    (hans : bits (lo32 (q.data.getD 1 0)) 1 0 = 2) (hswap : s.twin.swap = some w) (hsent : w.sent = some n) :
    exec (.twinSwapRx k bs) s = .next { s.arrives k.val q with twin := { (s.arrives k.val q).twin with swap := some { w with accepted := true } } } := by
  refine congrArg Host.Outcome.next ((State.twinRecv_of_twinHands _ _ h (by simp [hlen])).trans ?_)
  have htwin := s.arrives_twin k.val q
  generalize s.arrives k.val q = u at htwin ⊢
  rw [← htwin] at hrole hswap
  rw [hrole]
  simp only [State.modTwin, hswap, Option.map_some, hsent, Option.isNone_some, Bool.false_eq_true, if_false]
  rw [if_pos (show bits (lo32 (pktBlock q 1)) 1 0 = 2 from hans)]

end

/-! Samples of the active's PREFs (R56, R58). -/

theorem prefCtrl_notMem_packetRegs {n : Nat} (h : n < 4) : Reg.PREF_CTRL n ∉ packetRegs := by
  have hevt := prefCtrl_notMem_evtRegs h
  simp only [packetRegs, List.mem_cons, hevt, or_false, Reg.PREF_CTRL, Reg.FAB_DROP, Reg.FAB_TC0_WAIT]
  omega

section
variable {s u : State} (h : u.portless = s.portless)
include h

theorem State.prefOf_of_portless (n : Nat) : u.prefOf n = s.prefOf n := by
  simp only [State.prefOf, State.pos_of_portless h]

theorem State.dotRuns_of_portless : u.dotRuns = s.dotRuns := by
  simp only [State.dotRuns, State.pllLost, State.pos_of_portless h]

theorem State.prefEn_of_portless {n : Nat} (hn : n < 4) : u.prefEn n = s.prefEn n := by
  simp only [State.prefEn, State.flag, State.rd_of_portless h (prefCtrl_notMem_packetRegs hn)]

theorem State.prefSrc_of_portless {n : Nat} (hn : n < 4) : u.prefSrc n = s.prefSrc n := by
  simp only [State.prefSrc, State.fld, State.rd_of_portless h (prefCtrl_notMem_packetRegs hn)]

theorem State.follows_of_portless {n : Nat} (hn : n < 4) : u.follows n = s.follows n := by
  simp only [State.follows, State.prefSrc_of_portless h hn, State.twin_of_portless h, State.prefOf_of_portless h]

end

/-- Whether a PREF follows samples depends on its state only by its change to its own estimator. -/
theorem State.follows_setPref (s : State) (n : Nat) (p : Pref) (h : p.own = (s.prefOf n).own) : (s.setPref n p).follows n = s.follows n := by
  have hown : ((s.setPref n p).prefOf n).own = (s.prefOf n).own := by rw [State.prefOf_setPref_self, h]
  simp only [State.follows, hown]
  rfl

/-- The sample that a message brings. -/
def Packet.psample (q : Packet) : PSample :=
  { p := q.data.getD 2 0, v := BitVec.ofInt 64 (sx 40 (q.data.getD 3 0).toNat), stamp := dw (lo32 (q.data.getD 1 0)) 0,
    state := PState.ofCode (bits (hi32 (q.data.getD 1 0)) 4 2) }

/-- PREF `n` has a sample of this frame. -/
def State.sampled (s : State) (n : Nat) (x : PSample) : State :=
  s.setPref n { s.prefOf n with missed := 0, got := true, sample := some x }

/-- The frame of the device in which the active took the sample of frame `b` of the pair. -/
def State.frameOf (s : State) (b : Word) : DWord := s.pos.frame.number - BitVec.ofInt 64 (s.pairFrame - b).toInt

/-- The work of the boundary of frame `f`, for the contexts that wait for a sample of PREF `n`. -/
def State.waitersRun (s : State) (f : DWord) (n : Nat) : State :=
  (s.ctxNums.filter (fun m => s.ctxWaits m && s.fld (Reg.CTX_CFG m) 1 0 == n)).foldl (fun s m => s.ctxBoundary [] f m) s

/-- A standby's PREF takes a sample of the active's; while it follows, the sample is S_b of its boundary, whose work the contexts that
wait for it do. -/
theorem State.twinSample_eq {u : State} {q : Packet} {n : Nat} (hn : n = bits (hi32 (q.data.getD 1 0)) 1 0) (hrole : u.twin.role = .standby)
    (hdot : u.dotRuns = true) (hen : u.prefEn n = true) (hsrc : u.prefSrc n = 9) :
    u.twinSample q =
      if u.follows n then
        ((u.sampled n q.psample).setPref n { (u.sampled n q.psample).prefOf n with
          sp := q.psample.p, sv := q.psample.v, sf := u.frameOf (lo32 (q.data.getD 1 0)) }).waitersRun (u.frameOf (lo32 (q.data.getD 1 0))) n
      else u.sampled n q.psample := by
  have hfol : (u.sampled n q.psample).follows n = u.follows n := u.follows_setPref n _ rfl
  have hact : ¬ (u.twin.role != .standby || !u.dotRuns || !u.prefEn n || u.prefSrc n != 9) = true := by simp [hrole, hdot, hen, hsrc]
  subst hn
  refine (if_neg hact).trans ?_
  rw [← hfol]
  cases hf : (u.sampled (bits (hi32 (q.data.getD 1 0)) 1 0) q.psample).follows (bits (hi32 (q.data.getD 1 0)) 1 0)
  · exact if_pos (congrArg Bool.not hf)
  · exact if_neg (ne_true_of_eq_false (congrArg Bool.not hf))

theorem State.arrives_sampled (s : State) (k : Nat) (q : Packet) (n : Nat) (x : PSample) :
    (s.arrives k q).sampled n x = (s.arrives k q).setPref n { s.prefOf n with missed := 0, got := true, sample := some x } := by
  unfold State.sampled
  rw [State.prefOf_of_portless (s.arrives_portless k q)]

theorem State.arrives_frameOf (s : State) (k : Nat) (q : Packet) (b : Word) : (s.arrives k q).frameOf b = s.frameOf b := by
  unfold State.frameOf
  rw [s.arrives_pos, s.arrives_pairFrame]

/-- Settles O34: a message of the partner acts on the state in which it arrives, which agrees with the state before in all that the
row reads. -/
theorem standbyTakesTheActivesMessages : Obligations.StandbyTakesTheActivesMessages := by
  unfold Obligations.StandbyTakesTheActivesMessages
  refine ⟨?ckpt, ?ckptEnd, ?sample, ?seq, ?ctx, ?refuse, ?accepted⟩
  case ckpt =>
    intro s k bs q h hlo hhi hrole
    refine ⟨_, exec_twinCkptRx h hlo hhi hrole, rfl, ?_⟩
    rcases hstage : s.twin.stage with _ | ⟨d, l⟩
    · simp only [Twin.stageWith, hstage]
    · simp only [Twin.stageWith, hstage]
      split
      · next hd => rw [hd]
      · rfl
  case ckptEnd => exact fun s k bs q c l h hlen hrole hstage hc => exec_twinCkptEndRx_other h hlen hrole hstage hc
  case sample =>
    intro s k bs q n h hlen hrole hn hdot hen hsrc
    have hn4 : n < 4 := hn ▸ bits_lt _ 1 0
    have hkept := s.arrives_portless k.val q
    have htake := (exec_twinSampleRx h hlen).trans (congrArg _ (State.twinSample_eq hn ((congrArg Twin.role (s.arrives_twin _ q)).trans hrole)
      ((State.dotRuns_of_portless hkept).trans hdot) ((State.prefEn_of_portless hkept hn4).trans hen)
      ((State.prefSrc_of_portless hkept hn4).trans hsrc)))
    rw [State.follows_of_portless hkept hn4] at htake
    refine ⟨q.psample, _, rfl, rfl, rfl, rfl, s.arrives_sampled k.val q n q.psample, fun hfol => ?_, fun hfol => ?_⟩
    · rwa [hfol, if_neg Bool.false_ne_true] at htake
    · rw [hfol, if_pos rfl] at htake
      exact ⟨_, _, s.arrives_frameOf k.val q (lo32 (q.data.getD 1 0)), rfl, htake⟩
  case seq =>
    intro s k bs q h hlo hhi hrole
    have hexec := exec_twinSeqRx h hlo hhi hrole
    refine ⟨fun hlate => hexec.trans (congrArg _ (if_pos hlate)), fun htime => ?_⟩
    rw [if_neg (not_le.mpr htime)] at hexec
    refine ⟨_, hexec, rfl, _, congrArg (· ++ [_]) (congrArg Twin.seqs (s.arrives_twin k.val q)), rfl, rfl⟩
  case ctx =>
    intro s k bs q h hlen hrole hkind
    have hexec := exec_twinCtxRx_act h hlen hrole hkind
    refine ⟨fun hlate => hexec.trans (congrArg _ (if_pos hlate)), fun htime => ?_⟩
    rw [if_neg (not_le.mpr htime)] at hexec
    refine ⟨_, hexec, rfl, ?_⟩
    rw [← s.arrives_twin k.val q]
    exact List.length_append
  case refuse => exact fun s k bs q h hlen hrole hreq hloaded => exec_twinSwapRx_refuse h hlen hrole hreq hloaded
  case accepted => exact fun s k bs q w n h hlen hrole hans hswap hsent => exec_twinSwapRx_accepted h hlen hrole hans hswap hsent

end Sys2Proof.Machine
end

section
/-!
PROOFS. Host memory, interrupts and the rings that the part writes: doorbells and completions (O12), events and their Cask records (O13).
-/
open Sys2Proof
namespace Sys2Proof.Machine

/-! Bytes written. -/

theorem length_wordsBytes (ws : List Word) : (wordsBytes ws).length = 4 * ws.length := by
  simp [wordsBytes, List.length_flatMap, wordBytes, Nat.mul_comm]

theorem length_padTo {α : Type} (n : Nat) (z : α) (l : List α) : (padTo n z l).length = n := by
  simp [padTo]

/-- A byte read back after a write of bytes, in the form in which the statements read the bytes written. -/
theorem Mem.byte_write_getD (m : Mem) (a : Nat) (l : List Byte) {k : Nat} (h : k < l.length) : (m.write a l).byte (a + k) = l.getD k 0 := by
  rw [Mem.byte_write_in m a l k h, List.getD_eq_getElem l 0 h]

/-! Interrupts. -/

/-- An interrupt is a message in the log, or a pending bit. -/
theorem State.irq_frame (s : State) (pf1 : Bool) (vec : Nat) :
    s.irq pf1 vec = { s with
      out := (s.irq pf1 vec).out, host := { s.host with pba0 := (s.irq pf1 vec).host.pba0, pba1 := (s.irq pf1 vec).host.pba1 } } := by
  unfold State.irq
  dsimp only
  split_ifs <;> rfl

section
variable (s : State) (pf1 : Bool) (vec : Nat)

@[simp] theorem State.irq_evt : (s.irq pf1 vec).host.evt = s.host.evt := congrArg (fun t => t.host.evt) (s.irq_frame pf1 vec)

@[simp] theorem State.irq_ringOf (n : Nat) : (s.irq pf1 vec).ringOf n = s.ringOf n := congrArg (fun t => t.ringOf n) (s.irq_frame pf1 vec)

@[simp] theorem State.irq_op : (s.irq pf1 vec).host.op = s.host.op := congrArg (fun t => t.host.op) (s.irq_frame pf1 vec)

@[simp] theorem State.rd_irq (a : Nat) : (s.irq pf1 vec).rd a = s.rd a := State.rd_congr (s.irq_regs pf1 vec) a

end

/-! Doorbells (R89, R90). -/

theorem producerTo_of_room {pi ci size idx : Nat} (hin : idx < 2 ^ size)
    (hroom : ringCount pi ci size + (idx + 2 ^ size - pi) % 2 ^ size < 2 ^ size) : producerTo pi ci size idx = some idx :=
  if_neg (by simp [hin, hroom])

theorem producerTo_of_beyond {pi ci size idx : Nat} (h : 2 ^ size ≤ idx) : producerTo pi ci size idx = none :=
  if_pos (by simp [h])

theorem consumerTo_of_passed {pi ci size idx : Nat} (hin : idx < 2 ^ size)
    (hpassed : (idx + 2 ^ size - ci) % 2 ^ size ≤ ringCount pi ci size) : consumerTo pi ci size idx = some idx :=
  if_neg (by simp [hin, hpassed])

/-- A PF0 doorbell reaches a part that is ready while no long operation runs. -/
theorem State.pf0Bell_of_ready {s : State} (f : State → Out) (hready : s.power.ready = true) (hop : s.host.op = none) : s.pf0Bell f = f s := by
  rw [State.pf0Bell, if_neg (by simp [hready]), if_neg (by simp [hop])]

/-- With nothing lost there is nothing to report. -/
theorem State.evtRecover_of_none {s : State} (h : s.host.evt.lost = 0) : s.evtRecover = s := if_pos (by simp [h])

theorem exec_mgmtDoorbell {s : State} {v : Word} {k : Nat} (hready : s.power.ready = true) (hop : s.host.op = none)
    (hen : s.flag Reg.HOST_MGMT_CTRL 0 = true)
    (hk : producerTo s.host.mgmtPi s.host.mgmtCi (s.fld Reg.HOST_MGMT_CTRL 5 1) (bits v 15 0) = some k) :
    exec (.mgmtDoorbell v) s = .next { s with host := { s.host with mgmtPi := k } } := by
  simp [exec, execMgmtDoorbell, State.pf0Bell_of_ready _ hready hop, hen, hk]

theorem exec_evtDoorbell {s : State} {v : Word} {k : Nat} (hready : s.power.ready = true) (hop : s.host.op = none)
    (hen : s.flag Reg.HOST_EVT_CTRL 0 = true) (hk : consumerTo s.host.evt.pi s.host.evt.ci s.evtSize (bits v 15 0) = some k) :
    exec (.evtDoorbell v) s = .next (State.evtRecover { s with host := { s.host with evt := { s.host.evt with ci := k } } }) := by
  simp [exec, execEvtDoorbell, State.pf0Bell_of_ready _ hready hop, hen, hk]

section
variable {s : State} {n : Fin 64} (v : Word) (hn : n ≠ 0) (hready : s.power.ready = true)
include hn hready

/-- Doorbells of a context's ring whose EN is 0 are counted, and do nothing else. -/
theorem exec_ctxDoorbells_off (hen : s.flag (Reg.HOST_RING_CTRL n.val) 0 = false) :
    exec (.ctxSqDoorbell n v) s = .next (s.bump Reg.HOST_DB_IGNORED) ∧ exec (.ctxCqDoorbell n v) s = .next (s.bump Reg.HOST_DB_IGNORED) :=
  have hgate : ¬ (n.val = 0 || !s.power.ready) = true := by simp [hn, hready]
  ⟨(if_neg hgate).trans (if_pos (by rw [hen]; rfl)), (if_neg hgate).trans (if_pos (by rw [hen]; rfl))⟩

variable (hen : s.flag (Reg.HOST_RING_CTRL n.val) 0 = true)
include hen

theorem exec_ctxSqDoorbell_on : exec (.ctxSqDoorbell n v) s =
    match producerTo (s.ringOf n.val).sqPi (s.ringOf n.val).sqCi (s.sqSize n.val) (bits v 15 0) with
    | none => .next (s.hostError 114)
    | some k => .next (s.setRing n.val { s.ringOf n.val with sqPi := k }) :=
  (if_neg (by simp [hn, hready])).trans ((if_neg (by simp [hen])).trans rfl)

theorem exec_ctxCqDoorbell_on : exec (.ctxCqDoorbell n v) s =
    match consumerTo (s.ringOf n.val).cqPi (s.ringOf n.val).cqCi (s.cqSize n.val) (bits v 15 0) with
    | none => .next (s.hostError 114)
    | some k => .next ((s.setRing n.val { s.ringOf n.val with cqCi := k }).cqDrain n.val 34) :=
  (if_neg (by simp [hn, hready])).trans ((if_neg (by simp [hen])).trans rfl)

end

/-! Completions (R97, R99). -/

/-- Moderation signals; of a ring it changes the count of entries not yet signalled. -/
theorem State.cqModerate_ring (s : State) (n : Nat) (force : Bool) :
    ((s.cqModerate n force).ringOf n).cqPi = (s.ringOf n).cqPi ∧ ((s.cqModerate n force).ringOf n).phase = (s.ringOf n).phase := by
  unfold State.cqModerate
  dsimp only
  split <;> simp

@[simp] theorem State.cqModerate_hostMem (s : State) (n : Nat) (force : Bool) : (s.cqModerate n force).hostMem = s.hostMem := by
  unfold State.cqModerate
  dsimp only
  split <;> simp

theorem length_complEntry (e : Compl) (phase : Bool) (slack : Nat) (time : DWord) (lost : Nat) :
    (complEntry e phase slack time lost).length = 64 :=
  length_wordsBytes _

section
variable (s : State) (n : Nat) (e : Compl) (lost : Nat)

theorem State.complPost_hostMem : (s.complPost n e lost).hostMem =
    s.hostMem.write ((s.rd64 (Reg.HOST_CQ_BASE n)).toNat + (s.ringOf n).cqPi * 64)
      (complEntry e (s.ringOf n).phase (s.ctxOf n).slack s.now lost) := by
  simp [State.complPost, State.hostWrite]

theorem State.complPost_ring :
    ((s.complPost n e lost).ringOf n).cqPi = (if (s.ringOf n).cqPi + 1 = 2 ^ s.cqSize n then 0 else (s.ringOf n).cqPi + 1) ∧
    ((s.complPost n e lost).ringOf n).phase =
      (if (s.ringOf n).cqPi + 1 = 2 ^ s.cqSize n then !(s.ringOf n).phase else (s.ringOf n).phase) := by
  have hsize : ∀ a b, (s.hostWrite a b).cqSize n = s.cqSize n := fun _ _ => rfl
  unfold State.complPost
  dsimp only
  obtain ⟨hpi, hphase⟩ := State.cqModerate_ring _ n e.irq
  rw [hpi, hphase, State.ringOf_setRing_self]
  simp only [hsize, beq_iff_eq, and_self]

end

/-- A completion is posted at once while EN is 1, nothing is held or lost, and it can be written. -/
theorem State.complDue_posts {s : State} {n : Nat} {e : Compl} (hen : s.flag (Reg.HOST_RING_CTRL n) 0 = true) (hrole : s.twin.role ≠ .standby)
    (hheld : (s.ringOf n).held = []) (hlost : (s.ringOf n).lost = 0) (hspace : s.cqSpace n = true) : s.complDue n e = s.complPost n e 0 :=
  (if_neg (by simp [hen, hrole])).trans (if_pos (by simp [hheld, hlost, hspace]))

/-- Settles O12: the doorbells, ring by ring, then the completion that is posted. -/
theorem doorbellsMoveIndicesAndCompletionsArePosted : Obligations.DoorbellsMoveIndicesAndCompletionsArePosted := by
  unfold Obligations.DoorbellsMoveIndicesAndCompletionsArePosted
  refine ⟨fun s v hready hop hen hin hroom => exec_mgmtDoorbell hready hop hen (producerTo_of_room hin hroom), ?evt, ?sq, ?cq,
    fun s n v hn hready hen => exec_ctxDoorbells_off v hn hready hen, ?beyond, ?posted⟩
  case evt =>
    intro s v hready hop hen hin hpassed hlost
    rw [exec_evtDoorbell hready hop hen (consumerTo_of_passed hin hpassed), State.evtRecover_of_none]
    exact hlost
  case sq =>
    intro s n v hn hready hen hin hroom
    rw [exec_ctxSqDoorbell_on v hn hready hen, producerTo_of_room hin hroom]
  case cq =>
    intro s n v hn hready hen hin hpassed
    rw [exec_ctxCqDoorbell_on v hn hready hen, consumerTo_of_passed hin hpassed]
  case beyond =>
    intro s n v hn hready hen hbeyond
    rw [exec_ctxSqDoorbell_on v hn hready hen, producerTo_of_beyond hbeyond]
  case posted =>
    intro s n e hen hrole hheld hlost hspace
    rw [State.complDue_posts hen hrole hheld hlost hspace, State.complPost_hostMem]
    refine ⟨fun k hk => Mem.byte_write_getD _ _ _ (by rwa [length_complEntry]), fun a ha => Mem.byte_write_out _ _ _ _ ?_, s.complPost_ring n e 0⟩
    rwa [length_complEntry]

/-! The event ring (R104, R105). -/

theorem length_evtEntry (code n : Nat) (phase : Bool) (time : DWord) (args : List Word) (q : Word) :
    (evtEntry code n phase time args q).length = 64 := by
  simp [evtEntry, length_wordsBytes, length_padTo]

/-- Moderation signals; of the event ring it changes the count of entries not yet signalled. -/
theorem State.evtModerate_evt (s : State) : s.evtModerate.host.evt =
    { s.host.evt with posted := s.evtModerate.host.evt.posted, first := s.evtModerate.host.evt.first } := by
  unfold State.evtModerate
  dsimp only
  split
  · rw [State.irq_evt]
  · rfl

section
variable (s : State) (code n : Nat) (args : List Word) (q : Word)

theorem State.evtPost_hostMem : (s.evtPost code n args q).hostMem =
    s.hostMem.write ((s.rd64 Reg.HOST_EVT_BASE).toNat + s.host.evt.pi * 64) (evtEntry code n s.host.evt.phase s.now args q) := by
  simp [State.evtPost, State.hostWrite]

theorem State.evtPost_evt : (s.evtPost code n args q).host.evt.seq = s.host.evt.seq ∧
    (s.evtPost code n args q).host.evt.pi = (if s.host.evt.pi + 1 = 2 ^ s.evtSize then 0 else s.host.evt.pi + 1) := by
  have hsize : ∀ a b, (s.hostWrite a b).evtSize = s.evtSize := fun _ _ => rfl
  unfold State.evtPost
  dsimp only
  rw [State.evtModerate_evt]
  exact ⟨rfl, by simp only [hsize, beq_iff_eq]⟩

/-- An event that is off or masked is not offered. -/
theorem State.offerEvt_masked (h : s.flag Reg.HOST_EVT_CTRL 0 = false ∨ s.flag (Reg.HOST_EVT_MASK (code / 256 / 32)) (code / 256 % 32) = false) :
    s.offerEvt code n args = s :=
  if_neg (by rcases h with h | h <;> simp [h])

section
variable {s code} (hen : s.flag Reg.HOST_EVT_CTRL 0 = true) (hclass : s.flag (Reg.HOST_EVT_MASK (code / 256 / 32)) (code / 256 % 32) = true)
include hen hclass

theorem State.offerEvt_posts (hspace : s.evtSpace = true) : s.offerEvt code n args = s.evtSeq.2.evtPost code n args s.host.evt.seq :=
  (if_pos (by rw [hen, hclass]; rfl)).trans (if_pos hspace)

theorem State.offerEvt_loses (hfull : s.evtSpace = false) : s.offerEvt code n args =
    ({ s with host := { s.host with evt := { s.host.evt with seq := s.host.evt.seq + 1, lost := s.host.evt.lost + 1 } } } : State).bump
      Reg.HOST_EVT_LOST :=
  (if_pos (by rw [hen, hclass]; rfl)).trans (if_neg (ne_true_of_eq_false hfull))

end
end

/-! Cask records (R501, R505, R509). -/

/-- The record of an event that is staged now. -/
def State.caskRec (s : State) (code n : Nat) (args : List Word) : CaskRec :=
  { seq := s.cask.seq, time := s.now, code := code, ctx := n, flags := s.caskFlags, boot := s.cask.boot, args := args, epoch := s.twin.epoch,
    addr := s.fab.addr }

theorem State.caskPut_stages {s : State} (code n : Nat) (args : List Word) (hroom : s.cask.staging.length < 1024) :
    (s.caskPut code n args).cask.seq = s.cask.seq + 1 ∧
      (s.caskPut code n args).cask.staging = s.cask.staging ++ [s.caskRec code n args] := by
  unfold State.caskPut
  rw [if_neg (Nat.not_le.mpr hroom)]
  exact ⟨rfl, rfl⟩

/-- Without a freeze an event that its bucket lets pass is put to staging, where a token may have been taken for it. -/
theorem State.caskStage_passes {s : State} {code : Nat} (n : Nat) (args : List Word) (hfreeze : s.cask.freeze = none)
    (hpass : neverLimited code = true ∨ (s.cask.buckets.get {} (s.bucketOf code)).used < s.burst (s.bucketOf code)) :
    ∃ l, s.caskStage code n args = ({ s with cask := { s.cask with buckets := l } } : State).caskPut code n args := by
  unfold State.caskStage
  rw [hfreeze]
  dsimp only
  by_cases hnever : neverLimited code = true
  · exact ⟨s.cask.buckets, if_pos hnever⟩
  · exact ⟨_, (if_neg hnever).trans (if_neg (Nat.not_le.mpr (hpass.resolve_left hnever)))⟩

/-- Settles O13: an event offered is posted, lost or masked, and a record that passes its bucket is staged. -/
theorem raisedEventIsPostedAndStaged : Obligations.RaisedEventIsPostedAndStaged := by
  unfold Obligations.RaisedEventIsPostedAndStaged
  refine ⟨?posted, ?lost, fun s code n args h => s.offerEvt_masked code n args h, ?staged⟩
  case posted =>
    intro s code n args hen hclass hspace
    rw [State.offerEvt_posts n args hen hclass hspace, State.evtPost_hostMem]
    obtain ⟨hseq, hpi⟩ := s.evtSeq.2.evtPost_evt code n args s.host.evt.seq
    refine ⟨fun k hk => Mem.byte_write_getD _ _ _ (by rwa [length_evtEntry]), fun a ha => Mem.byte_write_out _ _ _ _ ?_, hseq, hpi,
      State.evtPost_regs ..⟩
    rwa [length_evtEntry]
  case lost =>
    intro s code n args hen hclass hfull
    rw [State.offerEvt_loses n args hen hclass hfull]
    exact ⟨rfl, rfl, rfl, State.rd_bump_self ..⟩
  case staged =>
    intro s code n args hfreeze hpass hroom
    obtain ⟨l, hl⟩ := State.caskStage_passes n args hfreeze hpass
    rw [hl]
    obtain ⟨hseq, hstaging⟩ := State.caskPut_stages (s := { s with cask := { s.cask with buckets := l } }) code n args hroom
    exact ⟨hseq, _, hstaging, rfl, rfl, rfl, rfl, rfl, rfl⟩

end Sys2Proof.Machine
end

section
/-!
PROOFS. Submit and management descriptors that are read (O14): those without work, pages and blank lines, and the status of a management descriptor.
-/
open Sys2Proof
namespace Sys2Proof.Machine

/-! Reading a submit descriptor (R91, R157). -/

section
variable (s : State) (n : Nat) (d : List Word) (p : Word)

theorem State.descTake_sqCi : ((s.descTake n d p).2.ringOf n).sqCi = ((s.ringOf n).sqCi + 1) % 2 ^ s.sqSize n :=
  congrArg CtxRing.sqCi (State.ringOf_setRing_self ..)

theorem State.descTake_ringOf_ne {k : Nat} (h : k ≠ n) : (s.descTake n d p).2.ringOf k = s.ringOf k := State.ringOf_setRing_ne _ _ h

theorem State.descTake_ctxOf_self : ∃ f, (s.descTake n d p).2.ctxOf n =
    { s.ctxOf n with nextId := (s.ctxOf n).nextId + 1, flight := (s.ctxOf n).flight ++ [f] } :=
  ⟨_, State.ctxOf_setCtx_self ..⟩

theorem State.descTake_ctxOf_ne {k : Nat} (h : k ≠ n) : (s.descTake n d p).2.ctxOf k = s.ctxOf k := State.ctxOf_setCtx_ne _ _ h

/-- A descriptor that is no TILE closes every page. -/
theorem Ctx.descCloses_of_ne {d : List Word} (c : Ctx) (h : descOp d ≠ 2) : c.descCloses d = c.closePages none := by
  simp [Ctx.descCloses, h]

theorem State.descEnd_of_ne {d : List Word} (st : Nat) (h : descOp d ≠ 2) : s.descEnd n d p st =
    ((s.descTake n d p).2.modCtx n (fun c => c.closePages none)).finish n (s.descTake n d p).1 st := by
  simp only [State.descEnd, Ctx.descCloses_of_ne _ h]

end

/-! Items of a context (R129, R130). -/

theorem placeItem_count (prev : Option Item) (base : Option Word) (i : Item) : (placeItem prev base i).count = i.count := by
  unfold placeItem
  (repeat' split) <;> rfl

/-- Placing items changes their first lines alone; the model's counts are the ones read. -/
theorem map_count_placeItems (prev : Option Item) (base : Option Word) (l : List Item) :
    (placeItems prev base l).map Item.count = l.map Item.count := by
  induction l generalizing prev with
  | nil => rfl
  | cons i r ih => rw [placeItems, List.map_cons, List.map_cons, placeItem_count, ih]

theorem Ctx.map_count_place (c : Ctx) : c.place.items.map Item.count = c.items.map Item.count := map_count_placeItems ..

/-- A context takes an item behind those that it holds, and closes its pages. -/
def Ctx.join (c : Ctx) (i : Item) : Ctx := Ctx.place { c.closePages none with items := (c.closePages none).items ++ [i] }

theorem Ctx.length_closePages (c : Ctx) (o : Option Nat) : (c.closePages o).items.length = c.items.length := List.length_map ..

theorem Ctx.join_items_length (c : Ctx) (i : Item) : (c.join i).items.length = c.items.length + 1 := by
  have h := congrArg List.length (Ctx.map_count_place { c.closePages none with items := (c.closePages none).items ++ [i] })
  rw [List.length_map, List.length_map, List.length_append, Ctx.length_closePages] at h
  exact h

theorem Ctx.join_last_count (c : Ctx) (i : Item) : ∃ j, (c.join i).items.getLast? = some j ∧ j.count = i.count := by
  have h := congrArg List.getLast? (Ctx.map_count_place { c.closePages none with items := (c.closePages none).items ++ [i] })
  rw [List.getLast?_map, List.getLast?_map, List.getLast?_concat] at h
  exact Option.map_eq_some_iff.mp h

/-- While lines do not run, new items change their context alone. -/
theorem State.setItems_of_not_firing (s : State) (n : Nat) {c : Ctx} (h : c.firing = false) : s.setItems n c = s.setCtx n c :=
  if_pos (by rw [h]; rfl)

theorem State.setItems_join_of_not_firing (s : State) (n : Nat) (d : List Word) (p : Word) (i : Item) (h : (s.ctxOf n).firing = false) :
    (s.descTake n d p).2.setItems n (((s.descTake n d p).2.ctxOf n).join i) =
      (s.descTake n d p).2.setCtx n (((s.descTake n d p).2.ctxOf n).join i) := by
  obtain ⟨f, hctx⟩ := s.descTake_ctxOf_self n d p
  exact State.setItems_of_not_firing _ _ (by rw [hctx]; exact h)

/-- A LINE_COUNT in its range is taken as it is. -/
theorem State.lineCount_listed (s : State) {w : Word} (h0 : w ≠ 0) (h31 : bit w 31 = false) : s.lineCount w = (w.toNat, s) :=
  if_pos (by rw [h31, bne_iff_ne.mpr h0]; rfl)

theorem State.lineCount_zero (s : State) : s.lineCount 0 = (1 + s.free.1.toNat % (2 ^ 31 - 1), s.free.2) := rfl

theorem State.pageWidth_listed (s : State) {w : Word} (h : bits w 23 0 ≠ 0) : s.pageWidth w = (bits w 23 0, s) :=
  if_pos (by simp [h])

section
variable {s : State} {n : Fin 64} {d : List Word} (hready : s.descReady n.val d true = true)
include hready

theorem exec_descNop (hres : descReserved d [] = false) (hop : descOp d = 0) : exec (.descNop n d) s = .next (s.descEnd n.val d 0 0) := by
  simp [exec, execDescNop, hop, hready, hres]

theorem exec_descMark (hres : descReserved d [] = false) (hop : descOp d = 5) : exec (.descMark n d) s = .next (s.descEnd n.val d 0 0) := by
  simp [exec, execDescMark, hop, hready, hres]

theorem exec_descInvalidOp (hop : 6 ≤ descOp d) : exec (.descInvalidOp n d) s = .next (s.descEnd n.val d 0 1) := by
  simp [exec, execDescInvalidOp, hop, hready]

/-- The item of a PAGE descriptor. -/
def pageItem (id : Nat) (d : List Word) : Item :=
  { id := id, page := true, start := nthW d 2, count := (nthW d 3).toNat, pageId := nthW d 4, width := bits (nthW d 5) 23 0,
    tset := bits (nthW d 6) 3 0, anchored := bit (nthW d 6) 8 }

/-- A PAGE whose START_LINE is not before that of the last absolute page joins the items of a context that is not draining from ARMED. -/
theorem exec_descPage_joins (hop : descOp d = 1) (hres : descReserved d [0, 0xFFFFFFFF, 0xFFFFFFFF, 0xFFFFFFFF, 0xFFFFFF, 0x10F] = false)
    (h0 : nthW d 3 ≠ 0) (h31 : bit (nthW d 3) 31 = false) (hwidth : bits (nthW d 5) 23 0 ≠ 0)
    (horder : bit (nthW d 6) 8 = true ∨
      ∀ q, ((s.ctxOf n.val).items.filter (fun i => i.page && !i.anchored)).getLast? = some q → 0 ≤ ldiff (nthW d 2) q.start)
    (hdrain : (s.ctxOf n.val).drainArmed = false) :
    exec (.descPage n d) s = .next ((s.descTake n.val d (nthW d 4)).2.setItems n.val
      (((s.descTake n.val d (nthW d 4)).2.ctxOf n.val).join (pageItem (s.descTake n.val d (nthW d 4)).1 d))) := by
  obtain ⟨f, hctx⟩ := s.descTake_ctxOf_self n.val d (nthW d 4)
  have harmed : (((s.descTake n.val d (nthW d 4)).2.ctxOf n.val).closePages none).drainArmed = false := by rw [hctx]; exact hdrain
  simp only [exec, execDescPage, hop, hready, hres, s.lineCount_listed h0 h31, s.pageWidth_listed hwidth, beq_self_eq_true, Bool.not_true,
    Bool.false_eq_true, if_false]
  refine (if_neg ?_).trans (congrArg _ (if_neg (ne_true_of_eq_false harmed)))
  rcases horder with h | h
  · simp [h]
  · cases hlast : ((s.ctxOf n.val).items.filter (fun i => i.page && !i.anchored)).getLast? with
    | none => simp
    | some q => simp [h q hlast]

/-- BLANK lines join the items of a context that is not draining from ARMED. -/
theorem exec_descBlank_joins {k : Nat} {u : State} (hop : descOp d = 3) (hres : descReserved d [0, 0xFFFFFFFF] = false)
    (hcount : s.lineCount (nthW d 2) = (k, u)) (hdrain : (u.ctxOf n.val).drainArmed = false) :
    exec (.descBlank n d) s = .next ((u.descTake n.val d 0).2.setItems n.val
      (((u.descTake n.val d 0).2.ctxOf n.val).join { id := (u.descTake n.val d 0).1, page := false, count := k, closed := true })) := by
  obtain ⟨f, hctx⟩ := u.descTake_ctxOf_self n.val d 0
  have harmed : (((u.descTake n.val d 0).2.ctxOf n.val).closePages none).drainArmed = false := by rw [hctx]; exact hdrain
  simp only [exec, execDescBlank, hop, hready, hres, hcount, beq_self_eq_true, Bool.not_true, Bool.false_eq_true, if_false]
  exact congrArg _ (if_neg (ne_true_of_eq_false harmed))

/-- Of a LINE_COUNT of 0 the item holds a free number of lines in the range that R95 gives. -/
theorem exec_descBlank_zero (hop : descOp d = 3) (hres : descReserved d [0, 0xFFFFFFFF] = false) (h0 : nthW d 2 = 0)
    (hdrain : (s.ctxOf n.val).drainArmed = false) (hidle : (s.ctxOf n.val).firing = false) :
    ∃ (t : State) (i : Item), exec (.descBlank n d) s = .next t ∧ (t.ctxOf n.val).items.getLast? = some i ∧ 1 ≤ i.count ∧ i.count < 2 ^ 31 := by
  have hexec := exec_descBlank_joins (u := s.free.2) hready hop hres (by rw [h0]; exact s.lineCount_zero) hdrain
  rw [State.setItems_join_of_not_firing s.free.2 n.val d 0 _ hidle] at hexec
  obtain ⟨i, hlast, hcount⟩ := Ctx.join_last_count ((s.free.2.descTake n.val d 0).2.ctxOf n.val)
    { id := (s.free.2.descTake n.val d 0).1, page := false, count := 1 + s.free.1.toNat % (2 ^ 31 - 1), closed := true }
  refine ⟨_, i, hexec, by rw [State.ctxOf_setCtx_self, hlast], ?_, ?_⟩ <;> rw [hcount] <;> dsimp only <;> omega

end

/-- While a context fires no lines, an item that it takes changes its ring and itself alone. -/
theorem State.setItems_join_frame {s : State} {n : Nat} {d : List Word} {p : Word} {i : Item} {t : State} (hidle : (s.ctxOf n).firing = false)
    (ht : t = (s.descTake n d p).2.setItems n (((s.descTake n d p).2.ctxOf n).join i)) :
    t = { s with host := t.host, ctx := t.ctx } ∧ (t.ringOf n).sqCi = ((s.ringOf n).sqCi + 1) % 2 ^ s.sqSize n ∧
    (t.ctxOf n).items.length = (s.ctxOf n).items.length + 1 ∧ (∀ k, k ≠ n → t.ctxOf k = s.ctxOf k ∧ t.ringOf k = s.ringOf k) := by
  rw [State.setItems_join_of_not_firing _ _ _ _ _ hidle] at ht
  subst ht
  refine ⟨rfl, s.descTake_sqCi n d p, ?_, fun k hk =>
    ⟨(State.ctxOf_setCtx_ne _ _ hk).trans (s.descTake_ctxOf_ne n d p hk), s.descTake_ringOf_ne n d p hk⟩⟩
  obtain ⟨f, hctx⟩ := s.descTake_ctxOf_self n d p
  rw [State.ctxOf_setCtx_self, Ctx.join_items_length, hctx]

/-! Management descriptors (R101, R102). -/

section
variable {s : State} {d : List Word} (hready : s.mgmtReady true = true)
include hready

theorem exec_mgmtNop (hop : descOp d = 0) (hres : mgmtReserved d [] = false) : exec (.mgmtNop d) s = .next (s.mgmtDone d 0 0) := by
  simp [exec, execMgmtNop, hop, hready, hres]

theorem exec_mgmtInvalidOp (hlisted : mgmtListed d = false) : exec (.mgmtInvalidOp d) s = .next (s.mgmtDone d 1 0) := by
  simp [exec, execMgmtInvalidOp, hlisted, hready]

theorem exec_mgmtSchedWrite (hop : descOp d = 0x11)
    (hres : mgmtReserved d [0xFFFFFFFF, if bit (nthW d 5) 30 then 0xFFFF else 0xFFFFFFFF, 0xFFFFFFFF, 0xFF00FFFF, 0x7FF] = false) :
    exec (.mgmtSchedWrite d) s =
      .next ((s.schedWrite (bits (nthW d 6) 10 0) (nthW d 2) (nthW d 3) (nthW d 4) (nthW d 5)).mgmtDone d 0 0) := by
  simp only [exec, execMgmtSchedWrite, hop, hready, hres, beq_self_eq_true, Bool.not_true, Bool.false_eq_true, if_false]

end

/-- The state in which a management descriptor ends: its STATUS is written, its index passed, and an interrupt may have been raised. -/
def State.mgmtEnded (s : State) (b : List Byte) (o : List Emit) (p0 p1 : BitVec 64) : State :=
  { s with hostMem := s.hostMem.write ((s.rd64 Reg.HOST_MGMT_BASE).toNat + s.host.mgmtCi * 64 + 4) b, out := o,
           host := { s.host with mgmtCi := (s.host.mgmtCi + 1) % 2 ^ s.fld Reg.HOST_MGMT_CTRL 5 1, pba0 := p0, pba1 := p1 } }

/-- The bytes are named, since the kernel would work out `2 ^ 31` in them. -/
theorem State.mgmtDone_ended (s : State) (d : List Word) {status detail : Nat} {b : List Byte}
    (hb : wordBytes (wd (status + detail * 256 + 2 ^ 31)) = b) :
    ∃ (o : List Emit) (p0 p1 : BitVec 64), s.mgmtDone d status detail = s.mgmtEnded b o p0 p1 := by
  unfold State.mgmtDone
  rw [hb]
  by_cases hirq : bit (nthW d 0) 10
  · exact ⟨_, _, _, (if_pos hirq).trans (State.irq_frame ..)⟩
  · exact ⟨_, _, _, if_neg hirq⟩

theorem length_wordBytes (w : Word) : (wordBytes w).length = 4 := rfl

/-- Settles O14: each kind of descriptor that is read, and what its end or its item changes. -/
theorem descriptorsAreTakenInTheirTurn : Obligations.DescriptorsAreTakenInTheirTurn := by
  unfold Obligations.DescriptorsAreTakenInTheirTurn
  refine ⟨fun s n d => ⟨exec_descNop, exec_descMark, exec_descInvalidOp, fun st => ⟨s.descTake_sqCi n d 0, s.descEnd_of_ne n 0 st⟩⟩, ?page, ?blank,
    fun s n d hready hop hres h0 hdrain hidle => exec_descBlank_zero hready hop hres h0 hdrain hidle, ?item,
    fun s d hready hop hres => exec_mgmtNop hready hop hres, fun s d hready hlisted => exec_mgmtInvalidOp hready hlisted,
    fun s d hready hop hres => exec_mgmtSchedWrite hready hop hres, ?done⟩
  case page =>
    intro s n d hready hop hres h0 h31 hwidth horder hdrain
    exact ⟨_, _, _, exec_descPage_joins hready hop hres h0 h31 hwidth horder hdrain, rfl, rfl, rfl⟩
  case blank =>
    intro s n d hready hop hres h0 h31 hdrain
    exact ⟨_, _, _, exec_descBlank_joins hready hop hres (s.lineCount_listed h0 h31) hdrain, rfl, rfl, rfl⟩
  case item =>
    intro s n d p i u t c hidle hu hc ht
    subst hu hc
    exact State.setItems_join_frame hidle ht
  case done =>
    intro s d st detail
    have hlen := length_wordBytes (wd (st + detail * 256 + 2 ^ 31))
    obtain ⟨b, hb⟩ : ∃ b, wordBytes (wd (st + detail * 256 + 2 ^ 31)) = b := ⟨_, rfl⟩
    obtain ⟨o, p0, p1, hdone⟩ := s.mgmtDone_ended d hb
    rw [hdone]
    rw [hb] at hlen ⊢
    exact ⟨rfl, fun k hk => Mem.byte_write_getD _ _ _ (hlen.symm ▸ hk), fun a ha => Mem.byte_write_out _ _ _ _ (hlen.symm ▸ ha), rfl⟩

end Sys2Proof.Machine
end

section
/-!
PROOFS. Tiles and tables that are read from host memory (O15, O16): their descriptors, their fetch, and what arrives.
-/
open Sys2Proof
namespace Sys2Proof.Machine

/-- A host address is a multiple of 64 when its low word is. -/
theorem toNat_dw_mod {lo : Word} (hi : Word) (h : lo.toNat % 64 = 0) : (dw lo hi).toNat % 64 = 0 := by
  unfold dw
  rw [BitVec.toNat_ofNat]
  omega

/-! What reads of host memory leave unchanged. -/

section
variable (s : State) (o : RdOwner)

theorem State.readsDone_ctxOf (n : Nat) : (s.readsDone o).ctxOf n = s.ctxOf n := by rw [State.readsDone_frame]; rfl

theorem State.readsDone_buf : (s.readsDone o).buf = s.buf := by rw [State.readsDone_frame]

theorem State.readsDone_fmtEntry (n tset format : Nat) : (s.readsDone o).fmtEntry n tset format = s.fmtEntry n tset format := by
  rw [State.readsDone_frame]; rfl

end

/-! A tile that arrives (R160, R168). -/

/-- A tile of whose header or format a check fails: every tile of its number takes the header that arrived. -/
theorem exec_tileCopyDone_fails {s : State} {n : Fin 64} {data : List Byte} {t : Tile} {i : Item} (harr : (s.ctxOf n.val).arriving = some (t, i))
    (hpf : s.pf1Can = true) (hpll : s.pllLost .buffer = false) {r : Nat} (hr : r ≠ 0)
    (hcheck : arrivalCheck (padTo t.len 0 data) t.len t.format t.x0 t.y0 i.width i.count (s.fmtEntry n.val i.tset t.format) = some r) :
    exec (.tileCopyDone n data) s = .next ((((s.readsDone (.tile n.val t.id)).modCtx n.val (fun c => c.modTile t.id (fun x =>
      { x with state := .failed, hdr := bytesWords ((padTo t.len 0 data).take 32) }))).raise 0x0501 n.val
        [wd (r + t.plane * 256 + t.format * 65536), i.pageId, wd t.x0, wd t.y0]).finish n.val t.id 4) := by
  obtain ⟨r, rfl⟩ := Nat.exists_eq_succ_of_ne_zero hr
  simp only [exec, execTileCopyDone, harr, hpf, hpll, s.readsDone_fmtEntry, hcheck, Bool.not_true, Bool.or_self, Bool.false_eq_true, if_false]

/-- While no descriptor of a context is in flight, the end of one leaves its tiles. -/
theorem State.finish_tiles {s : State} {n : Nat} (id st : Nat) (h : (s.ctxOf n).flight = []) :
    ((s.finish n id st).ctxOf n).tiles = (s.ctxOf n).tiles := by
  have hlen : ((s.modCtx n (fun c => c.modFlight id (fun e => { e with status := some (e.status.getD st) }))).ctxOf n).flight.length = 0 := by
    rw [State.ctxOf_modCtx_self, Ctx.modFlight, h]; rfl
  rw [State.finish, State.settleAll, hlen, State.settle, State.ctxOf_modCtx_self]
  rfl

theorem State.raise_ctxOf (s : State) (code n : Nat) (args : List Word) (k : Nat) : (s.raise code n args).ctxOf k = s.ctxOf k :=
  congrArg (fun m : SMap Ctx => m.get {} k) (s.raise_ctx code n args)

/-- What a failed arrival leaves of the tiles of its context while no descriptor is in flight. -/
theorem State.tiles_of_failed_arrival {s : State} {n : Nat} (h : (s.ctxOf n).flight = []) (o : RdOwner) (code id st : Nat) (args : List Word)
    (f : Tile → Tile) : ((((((s.readsDone o).modCtx n (fun c => c.modTile id f)).raise code n args).finish n id st).ctxOf n).tiles) =
      (s.ctxOf n).tiles.map (fun t => if t.id == id then f t else t) := by
  have hctx : (((s.readsDone o).modCtx n (fun c => c.modTile id f)).raise code n args).ctxOf n = (s.ctxOf n).modTile id f := by
    rw [State.raise_ctxOf, State.ctxOf_modCtx_self, State.readsDone_ctxOf]
  rw [State.finish_tiles _ _ (by rw [hctx]; exact h), hctx]
  rfl

/-- Two tiles of one number in context 1, of 64 bytes and of none, the first of them in fetch. -/
def sameNumberTiles : State :=
  (({} : State).wr Reg.HOST_LINK 0x100000).setCtx 1 { items := [{}], tiles := [{ state := .fetching, len := 64 }, { len := 0 }] }

theorem sameNumberTiles_pf1Can : sameNumberTiles.pf1Can = true := by
  have hup : sameNumberTiles.linkUp = true := congrArg (bit · 20) (State.rd_wr_self ({} : State) Reg.HOST_LINK 0x100000)
  rw [State.pf1Can, hup]
  rfl

theorem arrivalCheck_zeros (fmt : Option (List Word)) : arrivalCheck (padTo 64 0 []) 64 0 0 0 0 0 fmt = some 1 := by
  unfold arrivalCheck
  exact if_pos (by decide)

/-- Refutes O15: its clause of a tile that fails a check gives each tile of the number the header at that tile's own LENGTH (the inner `t` hides
the tile that arrived), where the model stores the header that arrived. Of two tiles of one number, of 64 bytes and of none, which the statement
does not exclude, the second then has no header. -/
theorem not_tilesAreReadFetchedAndChecked : ¬ Obligations.TilesAreReadFetchedAndChecked := by
  unfold Obligations.TilesAreReadFetchedAndChecked
  rintro ⟨-, -, -, hfails, -⟩
  have harr : (sameNumberTiles.ctxOf 1).arriving = some ({ state := .fetching, len := 64 }, {}) := rfl
  have hstated := hfails sameNumberTiles 1 [] _ _ 1 harr sameNumberTiles_pf1Can rfl (by decide) (arrivalCheck_zeros _)
  have hmodel := exec_tileCopyDone_fails (n := 1) harr sameNumberTiles_pf1Can rfl (by decide) (arrivalCheck_zeros _)
  have htiles := congrArg (fun t : State => (t.ctxOf (1 : Fin 64).val).tiles) (Host.Outcome.next.inj (hmodel.symm.trans hstated))
  have hidle : (sameNumberTiles.ctxOf (1 : Fin 64).val).flight = [] := rfl
  rw [State.tiles_of_failed_arrival hidle, State.tiles_of_failed_arrival hidle] at htiles
  have hwords := congrArg (List.map (fun t : Tile => t.hdr.length)) htiles
  exact absurd hwords (by decide)

/-! Tables (R96, R136, R150). -/

/-- The copy of a TABLE_LOAD descriptor. -/
def descTableOf (id : Nat) (d : List Word) : TableCopy :=
  { id := id, kind := bits (nthW d 5) 7 0, inst := bits (nthW d 5) 15 8, tset := bits (nthW d 5) 19 16, dest := bits (nthW d 6) 25 0,
    len := bits (nthW d 4) 22 0, addr := dw (nthW d 2) (nthW d 3) }

section
variable {s : State} {n : Fin 64} {d : List Word} (hready : s.descReady n.val d true = true) (hop : descOp d = 4)
  (hres : descReserved d [0, 0xFFFFFFFF, 0xFFFFFFFF, 0x7FFFFF, 0xFFFFF, 0x3FFFFFF] = false)
include hready hop hres

/-- A table that breaks no rule is requested from host memory. -/
theorem exec_descTableLoad_requests (hpos : 0 < bits (nthW d 4) 22 0) (hmax : bits (nthW d 4) 22 0 ≤ 4194304) (hlen : bits (nthW d 4) 22 0 % 64 = 0)
    (hdest : bits (nthW d 6) 25 0 % 64 = 0) (hend : bits (nthW d 6) 25 0 + bits (nthW d 4) 22 0 ≤ (s.alloc (Reg.BUF_CTX_TBL n.val)).2)
    (haddr : (nthW d 2).toNat % 64 = 0) (hmeets : s.bufMeets ((dw (nthW d 2) (nthW d 3)).toNat, bits (nthW d 4) 22 0) = false)
    (hkind : 1 ≤ bits (nthW d 5) 7 0) (hkind9 : bits (nthW d 5) 7 0 ≤ 9) (hlow : 16384 ≤ bits (nthW d 6) 25 0)
    (huse : s.tabInUse n.val (bits (nthW d 6) 25 0) (bits (nthW d 4) 22 0) = false) (hkeys : (s.tabKeys n.val).length < 1024) :
    exec (.descTableLoad n d) s = .next (((s.descTake n.val d 0).2.modCtx n.val (fun c =>
        { c.closePages none with copies := c.copies ++ [descTableOf (s.descTake n.val d 0).1 d] })).request
      (.table n.val (s.descTake n.val d 0).1) (dw (nthW d 2) (nthW d 3)).toNat (bits (nthW d 4) 22 0)) := by
  simp only [exec, execDescTableLoad, hop, hready, hres, hlen, hdest, hmeets, huse, toNat_dw_mod _ haddr, Nat.pos_iff_ne_zero.mp hpos,
    Nat.pos_iff_ne_zero.mp hkind, Nat.not_lt.mpr hmax, Nat.not_lt.mpr hend, Nat.not_lt.mpr hkind9, Nat.not_lt.mpr hlow, Nat.not_le.mpr hkeys,
    beq_self_eq_true, Bool.not_true, Bool.false_eq_true, if_false, bne_self_eq_false, Bool.or_self, Bool.false_and, decide_false]
  rfl

/-- A length, destination or end outside the region completes BAD_LENGTH. -/
theorem exec_descTableLoad_badLength (hbad : bits (nthW d 4) 22 0 = 0 ∨ 4194304 < bits (nthW d 4) 22 0 ∨ bits (nthW d 4) 22 0 % 64 ≠ 0 ∨
      bits (nthW d 6) 25 0 % 64 ≠ 0 ∨ (s.alloc (Reg.BUF_CTX_TBL n.val)).2 < bits (nthW d 6) 25 0 + bits (nthW d 4) 22 0) :
    exec (.descTableLoad n d) s = .next (s.descEnd n.val d 0 2) := by
  simp only [exec, execDescTableLoad, hop, hready, hres, beq_self_eq_true, Bool.not_true, Bool.false_eq_true, if_false]
  exact if_pos (by simpa [or_assoc] using hbad)

end

/-- Bringing a load into the directory changes directories and waiting loads alone. -/
theorem State.dirAdd_frame (s : State) (n : Nat) (t : TabWait) :
    s.dirAdd n t = { s with ctx := (s.dirAdd n t).ctx, buf := { s.buf with dirs := (s.dirAdd n t).buf.dirs } } := by
  unfold State.dirAdd
  dsimp only
  (repeat' split) <;> rfl

/-- What a table's copy brings into the directory. -/
def TableCopy.arrivedAs (c : TableCopy) (data : List Byte) : TabWait :=
  { id := c.id, e := { kind := c.kind, inst := c.inst, tset := c.tset, dest := c.dest, len := c.len },
    seq := if c.kind = 9 then some (wordPairs (bytesWords data)) else none }

/-- The state in which a table has been copied to its destination, before it joins the directory. -/
def State.tableArrived (s : State) (n : Nat) (c : TableCopy) (r : List TableCopy) (data : List Byte) : State :=
  ((s.readsDone (.table n c.id)).bufWrite ((s.alloc (Reg.BUF_CTX_TBL n)).1 + c.dest) data).modCtx n (fun x => { x with copies := r })

/-- A table that arrives well formed joins the directory, and its load completes OK. -/
theorem exec_tableLoadCopyDone_fills {s : State} {n : Fin 64} {data : List Byte} {c : TableCopy} {r : List TableCopy}
    (hcopies : (s.ctxOf n.val).copies = c :: r) (hpf : s.pf1Can = true) (hpll : s.pllLost .buffer = false)
    (hform : tableBad c.kind c.inst c.tset (padTo c.len 0 data) = none) :
    exec (.tableLoadCopyDone n data) s = .next (((s.tableArrived n.val c r (padTo c.len 0 data)).dirAdd n.val
      (c.arrivedAs (padTo c.len 0 data))).finish n.val c.id 0) := by
  simp only [exec, execTableLoadCopyDone, hcopies, hpf, hpll, hform, Bool.not_true, Bool.or_self, Bool.false_eq_true, if_false]
  rfl

/-- Settles O16: a load that is requested, one without space, and one that arrives. -/
theorem tablesAreLoadedIntoTheirRegion : Obligations.TablesAreLoadedIntoTheirRegion := by
  unfold Obligations.TablesAreLoadedIntoTheirRegion
  refine ⟨?requests, fun s n d hready hop hres hbad => exec_descTableLoad_badLength hready hop hres hbad, ?fills⟩
  case requests =>
    intro s n d hready hop hres hpos hmax hlen hdest hend haddr hmeets hkind hkind9 hlow huse hkeys
    obtain ⟨f, hctx⟩ := s.descTake_ctxOf_self n.val d 0
    refine ⟨_, descTableOf (s.descTake n.val d 0).1 d,
      exec_descTableLoad_requests hready hop hres hpos hmax hlen hdest hend haddr hmeets hkind hkind9 hlow huse hkeys,
      rfl, s.descTake_sqCi n.val d 0, ?_, rfl, rfl, rfl, rfl, rfl⟩
    rw [State.ctxOf_modCtx_self, hctx]
  case fills =>
    intro s n data c r hcopies hpf hpll hform
    have hmem : ((s.tableArrived n.val c r (padTo c.len 0 data)).dirAdd n.val (c.arrivedAs (padTo c.len 0 data))).buf.mem =
        s.buf.mem.write ((s.alloc (Reg.BUF_CTX_TBL n.val)).1 + c.dest) (padTo c.len 0 data) := by
      rw [State.dirAdd_frame]
      exact congrArg (fun b : Buffer => b.mem.write _ _) (s.readsDone_buf _)
    refine ⟨_, exec_tableLoadCopyDone_fills hcopies hpf hpll hform, ?_, hmem, fun a ha => ?_⟩
    · rw [State.dirAdd_frame, State.tableArrived, State.readsDone_frame]; rfl
    · rw [hmem]
      exact Mem.byte_write_out _ _ _ _ (by rwa [length_padTo])

end Sys2Proof.Machine
end

section
/-!
PROOFS. The operation port (O20, O21): writes of OP_CMD that reach it and that are dropped, what it begins with and how it ends.
-/
open Sys2Proof
namespace Sys2Proof.Machine

/-! What an event leaves of the host interface. -/

theorem State.evtModerate_op (s : State) : s.evtModerate.host.op = s.host.op := by
  unfold State.evtModerate
  dsimp only
  split
  · rw [State.irq_op]
  · rfl

theorem State.evtPost_op (s : State) (code n : Nat) (args : List Word) (q : Word) : (s.evtPost code n args q).host.op = s.host.op :=
  State.evtModerate_op _

theorem State.offerEvt_op (s : State) (code n : Nat) (args : List Word) : (s.offerEvt code n args).host.op = s.host.op := by
  unfold State.offerEvt
  dsimp only
  split_ifs
  · exact State.evtPost_op ..
  · rfl
  · rfl

theorem State.raise_op (s : State) (code n : Nat) (args : List Word) : (s.raise code n args).host.op = s.host.op := by
  rw [State.raise, State.caskStage_host, State.offerEvt_op]

/-! Writes of OP_CMD (R107, R109, R111). -/

/-- OP_CMD with a code of the row's kind acts on the port when it reaches it. -/
theorem State.opCmd_of_ok (s : State) {v : Word} {ok : Nat → Bool} (h : ok (bits v 3 0) = true) :
    s.opCmd v ok = .next (s.gated Reg.OP_CMD (fun s => s.opBegin v)) := if_neg (by rw [h]; exact Bool.false_ne_true)

/-- The codes that R109 does not list. -/
theorem opCode_unlisted {c : Nat} (h : c = 0 ∨ 6 ≤ c) : (c == 0 || decide (6 ≤ c)) = true := by simpa using h

/-- Every row of OP_CMD does what the gate of OP_CMD makes of the write. -/
theorem exec_opRows {s t : State} {v : Word} (h : s.gated Reg.OP_CMD (fun s => s.opBegin v) = t) :
    (bits v 3 0 = 1 → exec (.opNvCommit v) s = .next t) ∧ (bits v 3 0 = 2 → exec (.opFabricRediscover v) s = .next t) ∧
    (bits v 3 0 = 3 → exec (.opNozVerify v) s = .next t) ∧ (bits v 3 0 = 4 → exec (.opFactoryRestore v) s = .next t) ∧
    (bits v 3 0 = 5 → exec (.opCaskExport v) s = .next t) ∧ (bits v 3 0 = 0 ∨ 6 ≤ bits v 3 0 → exec (.opBadOp v) s = .next t) := by
  subst h
  have listed {k : Nat} (h : bits v 3 0 = k) := s.opCmd_of_ok (v := v) (ok := (· == k)) (beq_iff_eq.mpr h)
  exact ⟨listed, listed, listed, listed, listed, fun h => s.opCmd_of_ok (ok := fun c => c == 0 || decide (6 ≤ c)) (opCode_unlisted h)⟩

/-- While an operation runs a write of any register of PF0 is dropped and counted. -/
theorem State.dropped_of_busy {s : State} (off : Nat) (hready : s.power.ready = true) (hop : s.host.op.isSome = true) :
    s.dropped off = some (s.bump Reg.OP_DROPPED) := by
  simp [State.dropped, hready, hop]

theorem State.gated_of_busy {s : State} (off : Nat) (f : State → State) (hready : s.power.ready = true) (hop : s.host.op.isSome = true) :
    s.gated off f = s.bump Reg.OP_DROPPED := by
  rw [State.gated, State.dropped_of_busy off hready hop, Option.getD_some]

/-- Of a register other than GLOBAL_RESET_CMD an aligned write through PF0 that does not reach it does what the gate says. -/
theorem exec_registerWrite_of_dropped {s t : State} {off : Nat} (v : Word) (hlow : off < 0x20000) (halign : off % 4 = 0) (hreset : off ≠ Reg.GLOBAL_RESET_CMD)
    (h : s.dropped off = some t) : exec (.registerWrite false off 4 v) s = .next t := by
  simp only [exec, execRegisterWrite, badAccess, halign, State.busWrite, Nat.not_le.mpr hlow, hreset, h, bne_self_eq_false, Bool.or_self,
    Bool.false_eq_true, if_false]

theorem satInc_eq_satAdd (w : Word) : satInc w = satAdd w 1 := by
  unfold satInc satAdd
  have hmax : (BitVec.allOnes 32).toNat = 2 ^ 32 - 1 := BitVec.toNat_allOnes
  by_cases h : w = BitVec.allOnes 32
  · subst h
    rw [if_pos rfl, if_neg (by rw [hmax]; decide)]
  · have hne : w.toNat ≠ 2 ^ 32 - 1 := fun he => h (BitVec.eq_of_toNat_eq (he.trans hmax.symm))
    have hlt := w.isLt
    rw [if_neg h, if_pos (by omega)]
    exact BitVec.eq_of_toNat_eq (by simp [wd, BitVec.toNat_add])

/-! The start of an operation (R107, R109). -/

/-- A code that is not listed fails its check with BAD_OP. -/
theorem State.opCheck_unlisted (s : State) {c : Nat} (h : c = 0 ∨ 6 ≤ c) : s.opCheck c = some 1 := by
  rcases h with rfl | h
  · rfl
  · obtain ⟨k, rfl⟩ := Nat.exists_eq_add_of_le' h
    rfl

theorem State.opBegin_unlisted (s : State) {v : Word} (h : bits v 3 0 = 0 ∨ 6 ≤ bits v 3 0) : s.opBegin v =
    ((({ s with host := { s.host with op := some { start := s.count, irq := bit v 15, vec := bits v 13 8, fail := some 1, transfers := false } } } : State).setF
      Reg.OP_STATUS 11 8 (bits v 3 0)).raise 0x0307 0 [wd (bits v 3 0)]) := by
  unfold State.opBegin
  simp only [s.opCheck_unlisted h]
  rfl

theorem State.opBegin_verify (s : State) {v : Word} (hcode : bits v 3 0 = 3) (hcheck : s.opCheck 3 = none) : s.opBegin v =
    ((({ s with host := { s.host with op := some { start := s.count, irq := bit v 15, vec := bits v 13 8, fail := none, transfers := false } } } : State).setF
      Reg.OP_STATUS 11 8 3).raise 0x0307 0 [3]) := by
  unfold State.opBegin
  simp only [hcode, hcheck]
  rfl

/-! The end of an operation (R108, R112, R222). -/

section
variable {s : State} {img : List Byte} {hf rb : Bool} {o : OpRun} (hop : s.host.op = some o) (hruns : s.mgmtRuns = true)
  (hreads : s.readsWait .op = false) (hcommit : s.sec.commit = none)
include hop hruns hreads hcommit

/-- NOZ_VERIFY ends with what the check of the maps gives once the operation's reads are over. -/
theorem exec_opEnd_verify {u : State} (hfail : o.fail = none) (hcode : s.opCode = 3) (hu : u = s.readsDone .op) :
    exec (.opEnd img hf rb) s = .next (u.opFinish
      (if (u.verifyAll (dw (s.rd (Reg.OP_ARG 0)) (s.rd (Reg.OP_ARG 1))) (s.fld (Reg.OP_ARG 2) 3 0)).1 = 0 then 0 else 4)
      (some (u.verifyAll (dw (s.rd (Reg.OP_ARG 0)) (s.rd (Reg.OP_ARG 1))) (s.fld (Reg.OP_ARG 2) 3 0)).1)
      (some (u.verifyAll (dw (s.rd (Reg.OP_ARG 0)) (s.rd (Reg.OP_ARG 1))) (s.fld (Reg.OP_ARG 2) 3 0)).2)) := by
  have hregs : u.regs = s.regs := by rw [hu, State.readsDone_frame]
  have hcommit' : u.sec.commit = none := by rw [hu, State.readsDone_frame]; exact hcommit
  have hcode' : u.opCode = 3 := (congrArg (bits · 11 8) (State.rd_congr hregs Reg.OP_STATUS)).trans hcode
  have hfld : u.fld (Reg.OP_ARG 2) 3 0 = s.fld (Reg.OP_ARG 2) 3 0 := congrArg (bits · 3 0) (State.rd_congr hregs (Reg.OP_ARG 2))
  simp only [exec, execOpEnd, hop, hruns, hreads, hfail, ← hu, hcommit', hcode', hfld, State.rd_congr hregs, Bool.not_true, Bool.or_self, Bool.false_eq_true,
    if_false]

/-- An operation that failed a start check ends with that result. -/
theorem exec_opEnd_failed {r : Nat} (hfail : o.fail = some r) (hfroze : o.froze = false) (hr : r ≠ 6) :
    exec (.opEnd img hf rb) s = .next ((s.readsDone .op).opFinish r none none) := by
  have hop' : (s.readsDone .op).host.op = some o := by rw [State.readsDone_frame]; exact hop
  have hcommit' : (s.readsDone .op).sec.commit = none := by rw [State.readsDone_frame]; exact hcommit
  have hthaw : (s.readsDone .op).exportThaw 3 = s.readsDone .op := if_pos (by rw [State.opRun, hop', Option.getD_some, hfroze]; rfl)
  simp only [exec, execOpEnd, hop, hruns, hreads, hfail, hcommit', hthaw, hr, Bool.not_true, Bool.or_self, Bool.false_eq_true, if_false, decide_false,
    Bool.false_and]

end

/-- The port once an operation without results has ended, before OP_END is raised. -/
def State.opDone (s : State) (r : Nat) (o : OpRun) : State :=
  { ((s.setF Reg.OP_STATUS 31 16 (0xFF00 + r)).setF Reg.OP_STATUS 1 1 1).wr Reg.OP_ELAPSED (wd ((s.count - o.start).toNat / 1000)) with
    host := { s.host with op := none } }

section
variable {s : State} {r : Nat} {o : OpRun} (hop : s.host.op = some o)
include hop

theorem State.opFinish_eq : s.opFinish r none none =
    let t := (s.opDone r o).raise 0x0308 0 [wd s.opCode, wd r, wd ((s.count - o.start).toNat / 1000)]
    if o.irq then t.irq false o.vec else t := by
  have hrun : s.opRun = o := by rw [State.opRun, hop, Option.getD_some]
  unfold State.opFinish
  rw [hrun]
  rfl

/-- Beyond what stands when OP_END is raised, its end may raise an interrupt. -/
theorem State.opFinish_op : (s.opFinish r none none).host.op = none := by
  rw [State.opFinish_eq hop]
  dsimp only
  split
  · rw [State.irq_op, State.raise_op]; rfl
  · rw [State.raise_op]; rfl

theorem State.rd_opFinish {a : Nat} (ha : a ∉ evtRegs) : (s.opFinish r none none).rd a = (s.opDone r o).rd a := by
  rw [State.opFinish_eq hop]
  dsimp only
  split
  · rw [State.rd_irq, State.rd_raise _ _ _ _ ha]
  · rw [State.rd_raise _ _ _ _ ha]

end

section
variable (s : State) (r : Nat) (o : OpRun)

theorem State.rd_opDone_status : (s.opDone r o).rd Reg.OP_STATUS = setBits (setBits (s.rd Reg.OP_STATUS) 31 16 (0xFF00 + r)) 1 1 1 := by
  refine (State.rd_wr_ne _ _ (by decide)).trans ?_
  rw [State.rd_setF_self, State.rd_setF_self]

theorem State.rd_opDone_elapsed : (s.opDone r o).rd Reg.OP_ELAPSED = wd ((s.count - o.start).toNat / 1000) := State.rd_wr_self ..

theorem State.rd_opDone_ne {a : Nat} (hstatus : a ≠ Reg.OP_STATUS) (helapsed : a ≠ Reg.OP_ELAPSED) : (s.opDone r o).rd a = s.rd a := by
  refine (State.rd_wr_ne _ _ helapsed).trans ?_
  rw [State.rd_setF_ne _ _ _ _ hstatus, State.rd_setF_ne _ _ _ _ hstatus]

end

/-- Settles O20: the start and the end of an operation at the port. -/
theorem longOperationsRunFromBusyToDone : Obligations.LongOperationsRunFromBusyToDone := by
  unfold Obligations.LongOperationsRunFromBusyToDone
  refine ⟨?starts, fun s v hcode hcheck => s.opBegin_verify hcode hcheck,
    fun s u img hf rb o hop hruns hreads hfail hcommit hcode hu => exec_opEnd_verify hop hruns hreads hcommit hfail hcode hu,
    fun s img hf rb o r hop hruns hreads hfail hcommit hfroze hr => exec_opEnd_failed hop hruns hreads hcommit hfail hfroze hr, ?ends⟩
  case starts =>
    intro s v hreach
    obtain ⟨hcommit, hfabric, hverify, hrestore, hexport, hbad⟩ := exec_opRows (s := s) (v := v) (State.gated_of_reaches _ hreach)
    exact ⟨hcommit, hfabric, hverify, hrestore, hexport, fun h => ⟨hbad h, s.opBegin_unlisted h⟩⟩
  case ends =>
    intro s r o hr hop
    have hstatus := (State.rd_opFinish (r := r) hop (by decide)).trans (s.rd_opDone_status r o)
    refine ⟨State.opFinish_op hop, ?_, ?_, (State.rd_opFinish hop (by decide)).trans (s.rd_opDone_elapsed r o), fun a h1 h2 h3 h4 h5 h6 => ?_⟩
    · rw [State.fld, hstatus, bits_setBits_of_apart _ _ (by decide), bits_setBits_self _ (by decide) (by omega)]
    · rw [State.flag, hstatus]
      exact bit_setBit_self _ true (by decide)
    · rw [State.rd_opFinish hop (by simp [evtRegs, h3, h4, h5, h6]), s.rd_opDone_ne r o h1 h2]

/-- Settles O21: the gate of OP_CMD while an operation runs. -/
theorem operationWritesWhileBusyAreDropped : Obligations.OperationWritesWhileBusyAreDropped := by
  unfold Obligations.OperationWritesWhileBusyAreDropped
  intro s v hready hop
  obtain ⟨hcommit, hfabric, hverify, hrestore, hexport, hbad⟩ := exec_opRows (State.gated_of_busy Reg.OP_CMD (fun s => s.opBegin v) hready hop)
  refine ⟨hcommit, hfabric, hverify, hrestore, hexport, hbad,
    exec_registerWrite_of_dropped v (by decide) (by decide) (by decide) (State.dropped_of_busy _ hready hop), rfl, fun k hk => State.rd_bump_ne _ ?_,
    (State.rd_bump_self ..).trans (satInc_eq_satAdd _)⟩
  simp only [Reg.OP_ARG, Reg.OP_DROPPED]
  omega

end Sys2Proof.Machine
end

section
/-!
PROOFS. The host link, its errors, moderation timers and Function Level Resets (O18, O19).
-/
open Sys2Proof
namespace Sys2Proof.Machine

/-! What the host link carries leaves unchanged: events, interrupts, completions and reads move the host interface, Cask and host memory alone. -/

/-- What the host link does not touch, with the register that shows it. -/
def State.beyondHost (s : State) := (s.ctx, s.buf, s.hl, s.pos, s.power, s.rd Reg.HOST_LINK)

section
variable (s : State)

@[simp] theorem State.setRing_beyondHost (n : Nat) (r : CtxRing) : (s.setRing n r).beyondHost = s.beyondHost := rfl

@[simp] theorem State.hostWrite_beyondHost (a : Nat) (b : List Byte) : (s.hostWrite a b).beyondHost = s.beyondHost := rfl

@[simp] theorem State.irq_beyondHost (pf1 : Bool) (vec : Nat) : (s.irq pf1 vec).beyondHost = s.beyondHost := by rw [State.irq_frame]; rfl

@[simp] theorem State.raise_beyondHost (code n : Nat) (args : List Word) : (s.raise code n args).beyondHost = s.beyondHost := by
  simp only [State.beyondHost, State.raise_ctx, State.raise_buf, State.raise_hl, State.raise_pos, State.raise_power,
    State.rd_raise s code n args (a := Reg.HOST_LINK) (by decide)]

@[simp] theorem State.evtPost_beyondHost (code n : Nat) (args : List Word) (q : Word) : (s.evtPost code n args q).beyondHost = s.beyondHost := by
  simp only [State.beyondHost, State.evtPost_ctx, State.evtPost_buf, State.evtPost_hl, State.evtPost_pos, State.evtPost_power,
    State.rd_congr (State.evtPost_regs s code n args q)]

@[simp] theorem State.caskStage_beyondHost (code n : Nat) (args : List Word) : (s.caskStage code n args).beyondHost = s.beyondHost := by
  simp only [State.beyondHost, State.caskStage_ctx, State.caskStage_buf, State.caskStage_hl, State.caskStage_pos, State.caskStage_power,
    State.rd_caskStage s code n args (a := Reg.HOST_LINK) (by decide)]

@[simp] theorem State.evtRecover_beyondHost : s.evtRecover.beyondHost = s.beyondHost := by
  unfold State.evtRecover
  dsimp only
  split
  · rfl
  · rw [State.caskStage_beyondHost, State.evtPost_beyondHost]; rfl

@[simp] theorem State.msixFlush_beyondHost (pf1 : Bool) : (s.msixFlush pf1).beyondHost = s.beyondHost := by
  cases pf1
  all_goals
    simp only [State.msixFlush, Bool.false_eq_true, if_false, if_true]
    split
    · rfl
    · refine State.each_keeps _ State.beyondHost _ _ fun s vec => ?_
      split_ifs <;> rfl

@[simp] theorem State.cqModerate_beyondHost (n : Nat) (force : Bool) : (s.cqModerate n force).beyondHost = s.beyondHost := by
  unfold State.cqModerate
  dsimp only
  split
  · rw [State.irq_beyondHost]; rfl
  · rfl

@[simp] theorem State.complPost_beyondHost (n : Nat) (e : Compl) (lost : Nat) : (s.complPost n e lost).beyondHost = s.beyondHost := by
  unfold State.complPost
  dsimp only
  rw [State.cqModerate_beyondHost, State.setRing_beyondHost, State.hostWrite_beyondHost]

@[simp] theorem State.cqDrain_beyondHost (n k : Nat) : (s.cqDrain n k).beyondHost = s.beyondHost := by
  induction k generalizing s with
  | zero => rfl
  | succ k ih =>
    unfold State.cqDrain
    dsimp only
    split
    · rfl
    · split
      · rw [ih, State.complPost_beyondHost, State.setRing_beyondHost]
      · split
        · rfl
        · rw [State.complPost_beyondHost, State.setRing_beyondHost]

@[simp] theorem State.pumpReads_beyondHost : s.pumpReads.beyondHost = s.beyondHost := by rw [State.pumpReads_frame]; rfl

end

/-! The link (R84, R85). -/

/-- A link that comes up at a supported speed and width: beyond the host interface only its register changes. The register's word has a name of its
own, since it holds powers that are not to be worked out. -/
theorem exec_hostLinkUp {s : State} {sp : BitVec 3} {w : BitVec 5} {tag10 : Bool} {mps : Fin 3} {mrrs : Fin 6} {word : Word} (hlo : 1 ≤ sp.toNat)
    (hhi : sp.toNat ≤ 5) (hw : w.toNat = 8 ∨ w.toNat = 16) (hdown : s.linkUp = false)
    (hword : wd (sp.toNat + w.toNat * 2 ^ 8 + tag10.toNat * 2 ^ 13 + mps.val * 2 ^ 14 + mrrs.val * 2 ^ 17 + 2 ^ 20) = word) :
    ∃ t, exec (.hostLinkUp sp w tag10 mps mrrs) s = .next t ∧ t.beyondHost = (s.wr Reg.HOST_LINK word).beyondHost := by
  have hwidth : (w.toNat != 8 && w.toNat != 16) = false := by rcases hw with h | h <;> simp [h]
  simp only [exec, execHostLinkUp, hdown, hwidth, Nat.pos_iff_ne_zero.mp hlo, Nat.not_lt.mpr hhi, decide_false, Bool.or_self, Bool.false_eq_true, if_false,
    hword, -Nat.reducePow]
  refine ⟨_, rfl, ?_⟩
  rw [State.pumpReads_beyondHost, State.each_keeps _ State.beyondHost _ _ (fun s n => s.cqDrain_beyondHost n 34)]
  split <;> simp only [State.raise_beyondHost, State.evtRecover_beyondHost, State.msixFlush_beyondHost] <;> rfl

/-! Errors (R86). -/

/-- An error sets its bit, is reported, and fails the request that it belonged to. -/
theorem exec_hostPcieError (s : State) (k : PcieErr) (addr : DWord) (t : FaultTarget) : exec (.hostPcieError k addr t) s =
    .next ((((s.setF Reg.HOST_ERR (pcieBit k) (pcieBit k) 1).emit (.aer k)).raise 0x0306 0 [lo32 addr, hi32 addr, wd (pcieBit k)]).readFailed t) := rfl

section
variable {u : State}

theorem State.readFailed_mgmt (h : u.mgmtReady true = true) : u.readFailed .mgmtDesc = u.mgmtDone [] 5 0 := if_pos h

theorem State.readFailed_submit {n : Fin 64} (h : u.descReady n.val [0x100] true = true) : u.readFailed (.submitDesc n) = u.descEnd n.val [0x100] 0 5 :=
  if_pos h

theorem State.readFailed_tile {n : Fin 64} {t : Tile} {i : Item} (h : (u.ctxOf n.val).arriving = some (t, i)) : u.readFailed (.tileData n) =
    ((u.dropReads (· == .tile n.val t.id)).modCtx n.val (fun c => c.modTile t.id (fun t => { t with state := .failed }))).finish n.val t.id 5 := by
  simp only [State.readFailed, h]

end

/-- Settles O18: the link up and down, Bus Master Enable, and errors with the request that failed. -/
theorem hostLinkChangesAndErrorsAreReported : Obligations.HostLinkChangesAndErrorsAreReported := by
  unfold Obligations.HostLinkChangesAndErrorsAreReported
  refine ⟨?up, ?down, fun s hop => if_pos (by rw [hop]; rfl), ?bme1, ?bme0, fun s k addr => rfl, fun s addr => rfl, ?failed⟩
  case up =>
    intro s sp w tag10 mps mrrs hlo hhi hw hdown
    obtain ⟨word, hword⟩ : ∃ word, wd (sp.toNat + w.toNat * 2 ^ 8 + tag10.toNat * 2 ^ 13 + mps.val * 2 ^ 14 + mrrs.val * 2 ^ 17 + 2 ^ 20) = word :=
      ⟨_, rfl⟩
    obtain ⟨t, hexec, hkept⟩ := exec_hostLinkUp hlo hhi hw hdown hword
    rw [hword]
    obtain ⟨hctx, hbuf, hhl, hpos, hpower, hlink⟩ := by simpa only [State.beyondHost, Prod.mk.injEq] using hkept
    exact ⟨t, hexec, hlink.trans (State.rd_wr_self ..), hctx, hbuf, hhl, hpos, hpower⟩
  case down => exact fun s hup => congrArg _ (if_neg (by rw [hup]; exact Bool.false_ne_true))
  case bme1 => exact fun s hoff => if_neg (ne_true_of_eq_false hoff)
  case bme0 => exact fun s hoff => if_neg (ne_true_of_eq_false hoff)
  case failed =>
    intro s k addr
    have hexec := exec_hostPcieError s k addr
    refine ⟨_, rfl, fun h => ?_, fun n h => ?_, fun n t i h => ?_⟩
    · rw [hexec, State.readFailed_mgmt h]
    · rw [hexec, State.readFailed_submit h]
    · rw [hexec, State.readFailed_tile h]

/-! Moderation timers (R100, R105). -/

theorem State.cqModerate_force (s : State) (n : Nat) : s.cqModerate n true =
    (s.setRing n { s.ringOf n with posted := 0, first := none }).irq true (s.fld (Reg.HOST_RING_CTRL n) 16 11) := by
  simp [State.cqModerate]

theorem exec_cqModTimer_signals {s : State} {n : Fin 64} {t0 : DWord} (hfirst : (s.ringOf n.val).first = some t0)
    (hset : s.fld (Reg.HOST_RING_MOD n.val) 15 0 ≠ 0) (hruns : s.mgmtRuns = true)
    (hdue : t0.toNat + s.fld (Reg.HOST_RING_MOD n.val) 15 0 * 1000 ≤ s.now.toNat) :
    exec (.cqModTimer n) s = .next ((s.setRing n.val { s.ringOf n.val with posted := 0, first := none }).irq true
      (s.fld (Reg.HOST_RING_CTRL n.val) 16 11)) := by
  simp only [exec, execCqModTimer, hfirst, hruns, hdue, bne_iff_ne.mpr hset, decide_true, Bool.and_self, if_true]
  rw [State.cqModerate_force]

theorem exec_evtModTimer_signals {s : State} {t0 : DWord} (hfirst : s.host.evt.first = some t0) (hset : s.fld Reg.HOST_EVT_CTRL 31 24 ≠ 0)
    (hruns : s.mgmtRuns = true) (hdue : t0.toNat + s.fld Reg.HOST_EVT_CTRL 31 24 * 10000 ≤ s.now.toNat) :
    exec .evtModTimer s = .next (({ s with host := { s.host with evt := { s.host.evt with posted := 0, first := none } } } : State).irq false
      (s.fld Reg.HOST_EVT_CTRL 13 8)) := by
  simp only [exec, execEvtModTimer, hfirst, hruns, hdue, bne_iff_ne.mpr hset, decide_true, Bool.and_self, if_true]

/-! Function Level Resets (R106). -/

theorem State.flag_setF_zero (s : State) (off : Nat) : (s.setF off 0 0 0).flag off 0 = false := by
  rw [State.flag, State.rd_setF_self]
  exact bit_setBit_self _ false (by decide)

/-- Without an operation a reset of PF0 clears its MSI-X table and two ENs. -/
theorem exec_flrPf0_idle {s : State} (hop : s.host.op = none) : exec .flrPf0 s =
    .next ((({ s with host := { s.host with msix0 := [], pba0 := 0 } } : State).setF Reg.HOST_MGMT_CTRL 0 0 0).setF Reg.HOST_EVT_CTRL 0 0 0) := by
  have hstop : s.opStop false = s := if_pos (by rw [hop]; rfl)
  simp only [exec, execFlrPf0, State.flr0, hstop]

/-- A halt asked for: it waits in an active context that waits for none. -/
theorem State.haltReq_waits {s : State} {n : Nat} (cause : Nat) (pageEnd : Option Nat) (hactive : (s.ctxOf n).active = true) (hhalt : (s.ctxOf n).halt = none) :
    s.haltReq n cause pageEnd = s.setCtx n { s.ctxOf n with halt := some { cause := cause, since := s.count, pageEnd := pageEnd } } := by
  simp only [State.haltReq, hactive, hhalt, Bool.not_true, Bool.false_eq_true, if_false]

/-- A halt that waits for no page end stays. -/
theorem State.haltReq_stays {s : State} {n : Nat} {h : HaltReq} (cause : Nat) (pageEnd : Option Nat) (hhalt : (s.ctxOf n).halt = some h)
    (hend : h.pageEnd = none) : s.haltReq n cause pageEnd = s := by
  unfold State.haltReq
  simp [hhalt, hend]

/-- A halt that is asked for changes what waits in its context alone. -/
theorem State.haltReq_cases (s : State) (n cause : Nat) (pageEnd : Option Nat) :
    s.haltReq n cause pageEnd = s ∨ ∃ h, s.haltReq n cause pageEnd = s.setCtx n { s.ctxOf n with halt := some h } := by
  unfold State.haltReq
  dsimp only
  split
  · exact .inl rfl
  · split
    · exact .inr ⟨_, rfl⟩
    · split
      · exact .inr ⟨_, rfl⟩
      · exact .inl rfl

theorem State.haltReq_frame (s : State) (n cause : Nat) (pageEnd : Option Nat) :
    s.haltReq n cause pageEnd = { s with ctx := (s.haltReq n cause pageEnd).ctx } := by
  obtain h | ⟨_, h⟩ := s.haltReq_cases n cause pageEnd
  · rw [h]
  · rw [h]; rfl

theorem State.haltReq_ctxOf_ne (s : State) {n k : Nat} (cause : Nat) (pageEnd : Option Nat) (hk : k ≠ n) :
    (s.haltReq n cause pageEnd).ctxOf k = s.ctxOf k := by
  obtain h | ⟨_, h⟩ := s.haltReq_cases n cause pageEnd
  · rw [h]
  · rw [h, State.ctxOf_setCtx_ne _ _ hk]

theorem State.haltReq_state (s : State) (n cause : Nat) (pageEnd : Option Nat) (k : Nat) :
    ((s.haltReq n cause pageEnd).ctxOf k).state = (s.ctxOf k).state := by
  by_cases hk : k = n
  · subst hk
    obtain h | ⟨_, h⟩ := s.haltReq_cases k cause pageEnd
    · rw [h]
    · rw [h, State.ctxOf_setCtx_self]
  · rw [State.haltReq_ctxOf_ne _ _ _ hk]

/-! Steps done for each number of a list. -/

/-- What every step keeps stays. -/
theorem State.each_stays {P : State → Prop} {f : State → Nat → State} (hstay : ∀ s m, P s → P (f s m)) (l : List Nat) {s : State} (hs : P s) :
    P (s.each l f) := by
  induction l generalizing s with
  | nil => exact hs
  | cons m l ih => exact ih (hstay s m hs)

/-- What the step of one number establishes, and every step keeps, holds once the list is done. -/
theorem State.each_reaches {P Q : State → Prop} {f : State → Nat → State} {n : Nat} (hbefore : ∀ s m, m ≠ n → Q s → Q (f s m))
    (hat : ∀ s, Q s → P (f s n)) (hstay : ∀ s m, P s → P (f s m)) {l : List Nat} (hn : n ∈ l) {s : State} (hs : Q s) : P (s.each l f) := by
  induction l generalizing s with
  | nil => exact absurd hn List.not_mem_nil
  | cons m l ih =>
    by_cases hm : m = n
    · subst hm
      exact State.each_stays hstay l (hat s hs)
    · exact ih (List.mem_of_ne_of_mem (Ne.symm hm) hn) (hbefore s m hm hs)

/-- Halts asked for of many contexts: one that was active and waited for none waits for this one. -/
theorem State.haltReqs_waits {s : State} {n : Nat} {l : List Nat} (cause : Nat) (hn : n ∈ l) (hactive : (s.ctxOf n).active = true)
    (hhalt : (s.ctxOf n).halt = none) :
    ((s.each l (fun s n => s.haltReq n cause none)).ctxOf n).halt = some { cause := cause, since := s.count, pageEnd := none } := by
  refine State.each_reaches (P := fun u => (u.ctxOf n).halt = some { cause := cause, since := s.count, pageEnd := none })
    (Q := fun u => u.ctxOf n = s.ctxOf n ∧ u.count = s.count) ?before ?here ?stay hn ⟨rfl, rfl⟩
  case before =>
    rintro u m hm ⟨hctx, hcount⟩
    exact ⟨(u.haltReq_ctxOf_ne _ _ (Ne.symm hm)).trans hctx, by rw [State.haltReq_frame]; exact hcount⟩
  case here =>
    rintro u ⟨hctx, hcount⟩
    rw [State.haltReq_waits _ _ (hctx ▸ hactive) (hctx ▸ hhalt), State.ctxOf_setCtx_self, hcount]
  case stay =>
    intro u m hu
    by_cases hm : n = m
    · subst hm
      rwa [State.haltReq_stays _ _ hu rfl]
    · rwa [u.haltReq_ctxOf_ne _ _ hm]

/-- A ring of PF1 is reset: held completions are discarded and its EN is cleared. -/
def State.ringReset (s : State) (n : Nat) : State := (s.setRing n { s.ringOf n with held := [] }).setF (Reg.HOST_RING_CTRL n) 0 0 0

theorem State.ringResets_held (s : State) {n : Nat} {l : List Nat} (hn : n ∈ l) :
    (s.each l State.ringReset).flag (Reg.HOST_RING_CTRL n) 0 = false ∧ ((s.each l State.ringReset).ringOf n).held = [] := by
  have hat (u : State) : (u.ringReset n).flag (Reg.HOST_RING_CTRL n) 0 = false ∧ ((u.ringReset n).ringOf n).held = [] :=
    ⟨State.flag_setF_zero .., congrArg CtxRing.held (State.ringOf_setRing_self u n _)⟩
  refine State.each_reaches (P := fun u => u.flag (Reg.HOST_RING_CTRL n) 0 = false ∧ (u.ringOf n).held = []) (Q := fun _ => True)
    (fun _ _ _ _ => trivial) (fun u _ => hat u) (fun u m hu => ?_) hn trivial
  by_cases hm : n = m
  · subst hm
    exact hat u
  · have hreg : Reg.HOST_RING_CTRL n ≠ Reg.HOST_RING_CTRL m := by
      unfold Reg.HOST_RING_CTRL
      omega
    exact ⟨(congrArg (bit · 0) (State.rd_setF_ne (u.setRing m _) _ _ _ hreg)).trans hu.1,
      (congrArg CtxRing.held (State.ringOf_setRing_ne u _ hm)).trans hu.2⟩

/-- MSI-X of PF1 is cleared. -/
def State.msix1Reset (s : State) : State := { s with host := { s.host with msix1 := [], pba1 := 0 } }

/-- What a reset of PF1 may change, put aside. -/
def State.besidePf1 (s : State) : State := { s with host := {}, regs := [], ctx := [] }

section
variable (s : State)

theorem State.flr1_eq : s.flr1 =
    ((s.each s.ctxNums (fun s n => s.haltReq n 8 none)).each ((List.range 63).map (· + 1)) State.ringReset).msix1Reset := rfl

theorem State.msix1Reset_besidePf1 : s.msix1Reset.besidePf1 = s.besidePf1 := rfl

theorem State.msix1Reset_ctxOf (n : Nat) : s.msix1Reset.ctxOf n = s.ctxOf n := rfl

theorem State.msix1Reset_flag (a i : Nat) : s.msix1Reset.flag a i = s.flag a i := rfl

theorem State.msix1Reset_ringOf (n : Nat) : s.msix1Reset.ringOf n = s.ringOf n := rfl

theorem State.flr1_besidePf1 : s.flr1.besidePf1 = s.besidePf1 := by
  rw [State.flr1_eq, State.msix1Reset_besidePf1, State.each_keeps _ State.besidePf1 _ State.ringReset (fun u m => rfl)]
  exact State.each_keeps _ State.besidePf1 _ _ (fun u m => by rw [State.haltReq_frame]; rfl)

/-- The contexts after a reset of PF1 are those that its halts leave. -/
theorem State.flr1_ctxOf (n : Nat) : s.flr1.ctxOf n = (s.each s.ctxNums (fun s n => s.haltReq n 8 none)).ctxOf n := by
  rw [State.flr1_eq, State.msix1Reset_ctxOf, State.each_keeps _ (fun u => u.ctxOf n) _ State.ringReset (fun u m => rfl)]

theorem State.flr1_ring {n : Nat} (hlo : 1 ≤ n) (hhi : n ≤ 63) : s.flr1.flag (Reg.HOST_RING_CTRL n) 0 = false ∧ (s.flr1.ringOf n).held = [] := by
  rw [State.flr1_eq, State.msix1Reset_flag, State.msix1Reset_ringOf]
  exact State.ringResets_held _ (List.mem_map.mpr ⟨n - 1, List.mem_range.mpr (by omega), by omega⟩)

theorem State.flr1_msix1 : s.flr1.host.msix1 = [] ∧ s.flr1.host.pba1 = 0 := by
  rw [State.flr1_eq]
  exact ⟨rfl, rfl⟩

end

/-- A state that agrees with another beside what a reset of PF1 may change. -/
theorem State.eq_of_besidePf1 {s t : State} (h : t.besidePf1 = s.besidePf1) : t = { s with host := t.host, regs := t.regs, ctx := t.ctx } :=
  congrArg (fun u : State => { u with host := t.host, regs := t.regs, ctx := t.ctx }) h

/-- Settles O19: the moderation timers, and a reset of either function. -/
theorem moderationAndFunctionResets : Obligations.ModerationAndFunctionResets := by
  unfold Obligations.ModerationAndFunctionResets
  refine ⟨fun s n t0 hfirst hset hruns hdue => exec_cqModTimer_signals hfirst hset hruns hdue,
    fun s t0 hfirst hset hruns hdue => exec_evtModTimer_signals hfirst hset hruns hdue, ?pf0, ?pf1⟩
  case pf0 =>
    intro s hop
    refine ⟨_, exec_flrPf0_idle hop, rfl, ?_, State.flag_setF_zero .., rfl, rfl, fun a hmgmt hevt => ?_⟩
    · rw [State.flag, State.rd_setF_ne _ _ _ _ (by decide)]
      exact State.flag_setF_zero ..
    · rw [State.rd_setF_ne _ _ _ _ hevt, State.rd_setF_ne _ _ _ _ hmgmt]
      rfl
  case pf1 =>
    intro s
    refine ⟨s.flr1, rfl, rfl, State.eq_of_besidePf1 s.flr1_besidePf1, fun n => s.flr1_ring, s.flr1_msix1.1, s.flr1_msix1.2, fun n => ?_,
      fun n hn hactive hhalt => ?_⟩
    · rw [State.flr1_ctxOf]
      exact State.each_keeps _ (fun u => (u.ctxOf n).state) _ _ (fun u m => u.haltReq_state m 8 none n)
    · rw [State.flr1_ctxOf]
      exact State.haltReqs_waits 8 hn hactive hhalt

end Sys2Proof.Machine
end

section
/-!
PROOFS. The commands of a context (O17): what the table of R123 gives each, and what the states of a context become.
-/
open Sys2Proof
namespace Sys2Proof.Machine

/-! Contexts stay as they are when a unit sends to its twin and when completions are posted. -/

section
variable (s : State)

@[simp] theorem State.portPump_ctx (k : Nat) : (s.portPump k).ctx = s.ctx := by
  unfold State.portPump
  dsimp only
  split <;> rfl

@[simp] theorem State.portGive_ctx (k : Nat) (f : FabPort → FabPort) : (s.portGive k f).ctx = s.ctx :=
  (State.portPump_ctx _ k).trans (s.portPump_ctx k)

@[simp] theorem State.portSend_ctx (k : Nat) (q : Packet) (came : Option Nat) : (s.portSend k q came).ctx = s.ctx := by
  unfold State.portSend State.sendTc0
  dsimp only
  split_ifs
  · rw [State.bump_ctx, State.portGive_ctx]
  · rw [State.portGive_ctx]
  · rw [State.portGive_ctx]

@[simp] theorem State.unreachable_ctx (dest : Nat) : (s.unreachable dest).ctx = s.ctx := by
  unfold State.unreachable
  dsimp only
  split
  · rfl
  · exact State.raise_ctx ..

@[simp] theorem State.route_ctx (q : Packet) (came : Option Nat) : (s.route q came).ctx = s.ctx := by
  unfold State.route
  dsimp only
  split_ifs <;> simp

@[simp] theorem State.flood_ctx (q : Packet) (came : Option Nat) : (s.flood q came).ctx = s.ctx :=
  State.each_keeps _ State.ctx _ _ (fun s k => s.portSend_ctx k q came)

@[simp] theorem State.newSeq_ctx (q : Packet) : ((s.newSeq q).getD s).ctx = s.ctx := by
  unfold State.newSeq
  dsimp only
  split_ifs <;> rfl

@[simp] theorem State.imageTake_ctx (q : Packet) : (s.imageTake q).ctx = s.ctx := by
  unfold State.imageTake
  dsimp only
  split <;> rfl

@[simp] theorem State.sendPacket_ctx (tc dest typ : Nat) (data : List DWord) : (s.sendPacket tc dest typ data).ctx = s.ctx := by
  unfold State.sendPacket
  dsimp only
  split_ifs <;> simp

@[simp] theorem State.twinMsg_ctx (kind : Nat) (data : List DWord) : (s.twinMsg kind data).ctx = s.ctx := by
  unfold State.twinMsg
  split
  · rfl
  · exact State.sendPacket_ctx ..

@[simp] theorem State.tableEffect_ctx (n id : Nat) : (s.tableEffect n id).ctx = s.ctx := by
  unfold State.tableEffect
  split
  · rfl
  · split
    · rfl
    · exact State.twinMsg_ctx ..

@[simp] theorem State.haltNote_ctx (n cause : Nat) : (s.haltNote n cause).ctx = s.ctx := by
  unfold State.haltNote State.diverge
  (repeat' split) <;> simp

@[simp] theorem State.complPost_ctx (n : Nat) (e : Compl) (lost : Nat) : (s.complPost n e lost).ctx = s.ctx :=
  congrArg Prod.fst (s.complPost_beyondHost n e lost)

@[simp] theorem State.complDue_ctx (n : Nat) (e : Compl) : (s.complDue n e).ctx = s.ctx := by
  unfold State.complDue
  dsimp only
  split_ifs
  · rfl
  · exact s.complPost_ctx n e 0
  · rfl
  · exact State.raise_ctx ..
  · rfl

end

/-! The state of a context and the cause of its halt. -/

/-- State and cause of a context. -/
def State.standing (s : State) (n : Nat) : CtxState × Nat := ((s.ctxOf n).state, (s.ctxOf n).cause)

section
variable (s : State) (n : Nat)

theorem State.standing_of_ctx {s t : State} (n : Nat) (h : t.ctx = s.ctx) : t.standing n = s.standing n :=
  congrArg (fun m : SMap Ctx => ((m.get {} n).state, (m.get {} n).cause)) h

theorem State.standing_setCtx (c : Ctx) : (s.setCtx n c).standing n = (c.state, c.cause) := by rw [State.standing, State.ctxOf_setCtx_self]

/-- Posting what is due takes descriptors out of flight and leaves the rest of the context. -/
theorem State.settle_standing (k : Nat) : (s.settle n k).standing n = s.standing n := by
  induction k generalizing s with
  | zero => rfl
  | succ k ih =>
    unfold State.settle
    dsimp only
    split
    · rfl
    · split
      · rfl
      · split
        · rfl
        · rw [ih]
          split_ifs <;> simp only [State.standing_of_ctx n (State.complDue_ctx ..), State.standing_of_ctx n (State.tableEffect_ctx ..),
            State.standing_setCtx] <;> rfl

theorem State.settleAll_standing : (s.settleAll n).standing n = s.standing n := s.settle_standing n _

theorem State.dropReads_ctx (p : RdOwner → Bool) : (s.dropReads p).ctx = s.ctx := by rw [State.dropReads_frame]

/-- What a halt ends in a channel leaves the contexts. -/
theorem State.dropSwitch_ctx (ch : Nat) : ((s.cancelSwitch ch).dropSlots ch).ctx = s.ctx := by
  simp only [State.dropSlots, State.cancelSwitch, State.modHl_ctx, State.setNoz_ctx, State.setF_ctx, State.setHl_ctx]

/-- A context that halts is HALTED with the cause. -/
theorem State.enterHalted_standing (cause : Nat) : (s.enterHalted n cause).standing n = (.halted, cause) := by
  unfold State.enterHalted
  dsimp only
  rw [State.standing_of_ctx n (State.haltNote_ctx ..), State.standing_of_ctx n (State.raise_ctx ..), State.settleAll_standing,
    State.each_keeps _ (fun u => u.standing n) _ (fun s ch => (s.cancelSwitch ch).dropSlots ch)
      (fun u ch => State.standing_of_ctx n (u.dropSwitch_ctx ch))]
  split
  · exact State.standing_setCtx ..
  · rw [State.standing_of_ctx n (State.dropReads_ctx ..), State.standing_setCtx]

theorem Ctx.tabFlush_state (c : Ctx) : c.tabFlush.state = c.state := by
  have hqueue (c : Ctx) (t : TabWait) : (c.tabQueue t).state = c.state := by
    unfold Ctx.tabQueue
    split <;> rfl
  have hfold (l : List TabWait) (c : Ctx) : (l.foldl Ctx.tabQueue c).state = c.state := by
    induction l generalizing c with
    | nil => rfl
    | cons t l ih => exact (ih _).trans (hqueue c t)
  exact hfold _ c

theorem State.dirApply_state : ((s.dirApply n).ctxOf n).state = (s.ctxOf n).state := by
  unfold State.dirApply
  dsimp only
  split
  · rfl
  · change ((s.modCtx n (fun c => { c with dirPend := [] })).ctxOf n).state = _
    rw [State.ctxOf_modCtx_self]

/-- A context that enters IDLE is IDLE. -/
theorem State.enterIdle_state : ((s.enterIdle n).ctxOf n).state = .idle := by
  rw [State.enterIdle, State.dirApply_state, State.ctxOf_modCtx_self, Ctx.tabFlush_state, State.ctxOf_modCtx_self]

theorem State.doReset_state : ((s.doReset n).ctxOf n).state = .idle := by rw [State.doReset, State.enterIdle_state]

theorem State.capRecheck_ctx (ch : Nat) : (s.capRecheck ch).ctx = s.ctx := by
  unfold State.capRecheck
  dsimp only
  split <;> rfl

theorem State.ctxOf_withTwin (t : Twin) : ({ s with twin := t } : State).ctxOf n = s.ctxOf n := rfl

/-- What ARM does for a channel leaves the contexts. -/
theorem State.armChannel_ctx (ch : Nat) (z : NozCh) (f : Hl → Hl) :
    (((((s.rowClear ch).setLane ch {}).capRecheck ch).setNoz ch z).modHl ch f).ctx = s.ctx := by
  rw [State.modHl_ctx, State.setNoz_ctx, State.capRecheck_ctx, State.setLane_ctx]
  rfl

theorem State.doArm_state : ((s.doArm n).ctxOf n).state = .armed := by
  unfold State.doArm
  dsimp only
  rw [State.ctxOf_withTwin]
  refine (State.each_keeps _ (fun u => (u.ctxOf n).state) _ _ fun u ch => ?_).trans ?_
  · exact congrArg (fun m : SMap Ctx => (m.get {} n).state) (u.armChannel_ctx ch _ _)
  · rw [State.ctxOf_setCtx_self]

end

/-! The commands (R101, R123). -/

section
variable {s : State} {d : List Word} {n cmd : Nat} (hready : s.mgmtReady true = true) (hop : descOp d = 0x10) (hres : mgmtReserved d [0x73F] = false)
  (hn : n = bits (nthW d 2) 5 0) (hn0 : n ≠ 0) (hrole : s.twin.role = .off) (hcmd : bits (nthW d 2) 10 8 = cmd)
  (hlegal : ctxIllegal cmd (s.ctxOf n).state = false)
include hready hop hres hn hn0 hrole hcmd hlegal

/-- A legal command of a single device that is not refused has its effect and completes OK. -/
theorem State.ctxCmd_applies (hrefused : (decide (cmd = 0) && s.armRefused n) = false) :
    s.ctxCmd cmd d = .next ((s.ctxApply n cmd (s.ringOf n).sqPi).mgmtDone d 0 0) := by
  subst hn
  simp only [State.ctxCmd, hop, hcmd, hready, hres, hn0, hrole, hlegal, hrefused, beq_self_eq_true, Bool.and_self, Bool.not_true, Bool.false_eq_true,
    if_false, if_true]
  rfl

/-- ARM with a channel or the buffer in a domain that is off is refused. -/
theorem State.ctxCmd_refused (harm : cmd = 0) (hrefused : s.armRefused n = true) : s.ctxCmd cmd d = .next (s.mgmtDone d 2 1) := by
  subst hn harm
  simp only [State.ctxCmd, hop, hcmd, hready, hres, hn0, hrole, hlegal, hrefused, beq_self_eq_true, Bool.and_self, Bool.not_true, Bool.false_eq_true,
    if_false, if_true, decide_true]
  rfl

end

/-! The table of R123: what each command does in the states where it does something. -/

section
variable {s : State} {n : Nat} (pi : Nat)

theorem State.ctxApply_arm (h : (s.ctxOf n).state = .idle) (hrefused : s.armRefused n = false) (herror : s.armError n = none) :
    s.ctxApply n 0 pi = s.doArm n := by
  simp only [State.ctxApply, h, State.arm, hrefused, herror, Bool.false_eq_true, if_false]

theorem State.ctxApply_start (h : (s.ctxOf n).state = .armed) (hrole : s.twin.role = .off) :
    s.ctxApply n 1 pi = s.setCtx n { s.ctxOf n with startPend := true, startAt := s.pos.frame.number + 1 } := by
  simp only [State.ctxApply, h, hrole]
  rfl

theorem State.ctxApply_start_running (h : (s.ctxOf n).state = .running) : s.ctxApply n 1 pi = s := by simp only [State.ctxApply, h]

theorem State.ctxApply_drain (h : (s.ctxOf n).state = .armed ∨ (s.ctxOf n).state = .running) (hrole : s.twin.role = .off) :
    s.ctxApply n 2 pi = s.doDrain n pi := by
  rcases h with h | h
  · simp only [State.ctxApply, h]
  · simp only [State.ctxApply, h, hrole, beq_self_eq_true, if_true]

/-- The states of an active context. -/
theorem Ctx.active_iff (c : Ctx) : c.active = true ↔ c.state = .armed ∨ c.state = .running ∨ c.state = .draining := by
  simp [Ctx.active, or_assoc]

theorem State.ctxApply_halt (h : (s.ctxOf n).active = true) : s.ctxApply n 3 pi = s.haltReq n 1 none := by
  rcases (Ctx.active_iff _).mp h with h | h | h <;> simp only [State.ctxApply, h]

theorem State.ctxApply_halt_inactive (h : (s.ctxOf n).state = .idle ∨ (s.ctxOf n).state = .halted) : s.ctxApply n 3 pi = s := by
  rcases h with h | h <;> simp only [State.ctxApply, h]

theorem State.ctxApply_reset (h : (s.ctxOf n).state = .halted) : s.ctxApply n 4 pi = s.doReset n := by simp only [State.ctxApply, h]

theorem State.ctxApply_reset_idle (h : (s.ctxOf n).state = .idle) : s.ctxApply n 4 pi = s := by simp only [State.ctxApply, h]

end

/-! Transitions that fall due (R125, R126). -/

theorem exec_ctxHaltTake_due {s : State} {n : Fin 64} {h : HaltReq} (hhalt : (s.ctxOf n.val).halt = some h) (hactive : (s.ctxOf n.val).active = true)
    (hboundary : s.atBoundary = true) (hstands : s.haltStands n.val = true) : exec (.ctxHaltTake n) s = .next (s.enterHalted n.val h.cause) := by
  simp only [exec, execCtxHaltTake, hhalt, hactive, hboundary, hstands, Bool.and_self, if_true]

theorem exec_ctxDrainDone_due {s : State} {n : Fin 64} (hstate : (s.ctxOf n.val).state = .draining)
    (hdrain : (s.ctxOf n.val).drain = some (s.ringOf n.val).sqCi) (hflight : (s.ctxOf n.val).flight = []) (hheld : (s.ringOf n.val).held = [])
    (hdiv : s.divergedHere n.val = false) : exec (.ctxDrainDone n) s = .next (s.enterIdle n.val) := by
  simp only [exec, execCtxDrainDone, hstate, hdrain, hflight, hheld, hdiv, beq_self_eq_true, Bool.not_false, Bool.and_self, decide_true, if_true]

/-- Settles O17: each command in the states of R123, and the states that contexts come to. -/
theorem contextCommandsChangeContextState : Obligations.ContextCommandsChangeContextState := by
  unfold Obligations.ContextCommandsChangeContextState
  refine ⟨?arm, ?start, ?drain, ?halt, ?reset, fun s n => s.doArm_state n, fun s n => s.doReset_state n, ?waits, ?taken, ?drained⟩
  case arm =>
    intro s d n hready hop hres hn hn0 hrole hcmd hstate
    have hlegal : ctxIllegal 0 (s.ctxOf n).state = false := by rw [hstate]; rfl
    refine ⟨fun hrefused => State.ctxCmd_refused hready hop hres hn hn0 hrole hcmd hlegal rfl hrefused, fun hrefused herror => ?_⟩
    rw [← State.ctxApply_arm _ hstate hrefused herror]
    exact State.ctxCmd_applies hready hop hres hn hn0 hrole hcmd hlegal (by rw [hrefused]; rfl)
  case start =>
    intro s d n hready hop hres hn hn0 hrole hcmd
    refine ⟨fun hstate => ?_, fun hstate => ?_⟩
    · rw [← State.ctxApply_start (s.ringOf n).sqPi hstate hrole]
      exact State.ctxCmd_applies hready hop hres hn hn0 hrole hcmd (by rw [hstate]; rfl) rfl
    · have hexec := State.ctxCmd_applies hready hop hres hn hn0 hrole hcmd (by rw [hstate]; rfl) rfl
      rwa [State.ctxApply_start_running _ hstate] at hexec
  case drain =>
    intro s d n hready hop hres hn hn0 hrole hcmd hstate
    rw [← State.ctxApply_drain _ hstate hrole]
    exact State.ctxCmd_applies hready hop hres hn hn0 hrole hcmd (by rcases hstate with h | h <;> rw [h] <;> rfl) rfl
  case halt =>
    intro s d n hready hop hres hn hn0 hrole hcmd
    have hexec := State.ctxCmd_applies hready hop hres hn hn0 hrole hcmd rfl rfl
    refine ⟨fun hactive => ?_, fun hstate => ?_⟩
    · rwa [State.ctxApply_halt _ hactive] at hexec
    · rwa [State.ctxApply_halt_inactive _ hstate] at hexec
  case reset =>
    intro s d n hready hop hres hn hn0 hrole hcmd
    refine ⟨fun hstate => ?_, fun hstate => ?_⟩
    · rw [← State.ctxApply_reset (s.ringOf n).sqPi hstate]
      exact State.ctxCmd_applies hready hop hres hn hn0 hrole hcmd (by rw [hstate]; rfl) rfl
    · have hexec := State.ctxCmd_applies hready hop hres hn hn0 hrole hcmd (by rw [hstate]; rfl) rfl
      rwa [State.ctxApply_reset_idle _ hstate] at hexec
  case waits =>
    intro s n hactive hhalt
    refine ⟨?_, fun k hk => s.haltReq_ctxOf_ne _ _ hk, s.haltReq_frame n 1 none⟩
    rw [State.haltReq_waits _ _ hactive hhalt, State.ctxOf_setCtx_self]
  case taken =>
    intro s n h hhalt hactive hboundary hstands
    have hstanding := s.enterHalted_standing n.val h.cause
    exact ⟨_, exec_ctxHaltTake_due hhalt hactive hboundary hstands, congrArg Prod.fst hstanding, congrArg Prod.snd hstanding⟩
  case drained =>
    intro s n hstate hdrain hflight hheld hdiv
    exact ⟨_, exec_ctxDrainDone_due hstate hdrain hflight hheld hdiv, s.enterIdle_state n.val⟩

end Sys2Proof.Machine
end

section
/-!
PROOFS. Lines are screened and compensated, and a frame boundary moves the frame grid (O22).
-/
open Sys2Proof
namespace Sys2Proof.Machine

/-! What a lane's work leaves unchanged: the words it reads and the image it sends move neither lanes nor power domains. -/

/-- The lanes and the power domains. -/
def State.lanePower (s : State) : SMap Lane × Power := (s.lane, s.power)

section
variable {s t : State} (h : t.lanePower = s.lanePower)
include h

theorem State.laneOf_of_lanePower (k : Nat) : t.laneOf k = s.laneOf k := by
  unfold State.laneOf
  rw [show t.lane = s.lane from congrArg Prod.fst h]

theorem State.power_of_lanePower : t.power = s.power := congrArg Prod.snd h

end

section
variable (s : State)

@[simp] theorem State.bump_lanePower (a : Nat) : (s.bump a).lanePower = s.lanePower := rfl

@[simp] theorem State.wr_lanePower (a : Nat) (v : Word) : (s.wr a v).lanePower = s.lanePower := rfl

@[simp] theorem State.setF_lanePower (a hi lo v : Nat) : (s.setF a hi lo v).lanePower = s.lanePower := rfl

@[simp] theorem State.setNoz_lanePower (ch : Nat) (z : NozCh) : (s.setNoz ch z).lanePower = s.lanePower := rfl

@[simp] theorem State.bumpBy_lanePower (a k : Nat) : (s.bumpBy a k).lanePower = s.lanePower := rfl

@[simp] theorem State.modCtx_lanePower (n : Nat) (f : Ctx → Ctx) : (s.modCtx n f).lanePower = s.lanePower := rfl

@[simp] theorem State.raise_lanePower (code n : Nat) (args : List Word) : (s.raise code n args).lanePower = s.lanePower := by
  simp only [State.lanePower, State.raise_lane, State.raise_power]

/-! Packets sent (R278, R287). -/

@[simp] theorem State.portPump_lanePower (k : Nat) : (s.portPump k).lanePower = s.lanePower := by
  unfold State.portPump
  dsimp only
  split <;> rfl

@[simp] theorem State.portGive_lanePower (k : Nat) (f : FabPort → FabPort) : (s.portGive k f).lanePower = s.lanePower :=
  (State.portPump_lanePower _ k).trans (s.portPump_lanePower k)

@[simp] theorem State.portSend_lanePower (k : Nat) (q : Packet) (came : Option Nat) : (s.portSend k q came).lanePower = s.lanePower := by
  unfold State.portSend State.sendTc0
  dsimp only
  split_ifs
  · rw [State.bump_lanePower, State.portGive_lanePower]
  · rw [State.portGive_lanePower]
  · rw [State.portGive_lanePower]

@[simp] theorem State.unreachable_lanePower (dest : Nat) : (s.unreachable dest).lanePower = s.lanePower := by
  unfold State.unreachable
  dsimp only
  split
  · rfl
  · exact State.raise_lanePower ..

@[simp] theorem State.route_lanePower (q : Packet) (came : Option Nat) : (s.route q came).lanePower = s.lanePower := by
  unfold State.route
  dsimp only
  split_ifs
  · exact s.unreachable_lanePower _
  · exact s.portSend_lanePower ..
  · exact s.portSend_lanePower ..
  · exact s.unreachable_lanePower _

@[simp] theorem State.flood_lanePower (q : Packet) (came : Option Nat) : (s.flood q came).lanePower = s.lanePower :=
  State.each_keeps _ State.lanePower _ _ (fun s k => s.portSend_lanePower k q came)

@[simp] theorem State.newSeq_lanePower (q : Packet) : ((s.newSeq q).getD s).lanePower = s.lanePower := by
  unfold State.newSeq
  dsimp only
  split_ifs <;> rfl

@[simp] theorem State.imageTake_lanePower (q : Packet) : (s.imageTake q).lanePower = s.lanePower := by
  unfold State.imageTake
  dsimp only
  split <;> rfl

@[simp] theorem State.sendPacket_lanePower (tc dest typ : Nat) (data : List DWord) : (s.sendPacket tc dest typ data).lanePower = s.lanePower := by
  unfold State.sendPacket
  dsimp only
  split_ifs
  · rfl
  · rw [State.flood_lanePower, State.newSeq_lanePower]; rfl
  · rw [State.imageTake_lanePower, State.newSeq_lanePower]; rfl
  · rw [State.newSeq_lanePower]; rfl
  · rw [State.route_lanePower, State.newSeq_lanePower]; rfl

/-! Images and map switches (R210, R236, R292). -/

@[simp] theorem State.imageOut_lanePower (ch : Nat) (i : HlImage) : (s.imageOut ch i).lanePower = s.lanePower := by
  unfold State.imageOut
  dsimp only
  split
  · exact s.sendPacket_lanePower ..
  · rfl

@[simp] theorem State.buildImage_lanePower (ch : Nat) (f : Word) (bad : List Nat) : (s.buildImage ch f bad).1.lanePower = s.lanePower := rfl

@[simp] theorem State.showActive_lanePower (ch : Nat) (t : NozTabs) : (s.showActive ch t).lanePower = s.lanePower := rfl

@[simp] theorem State.doSwitch_lanePower (ch : Nat) (line : Word) : (s.doSwitch ch line).lanePower = s.lanePower := by
  unfold State.doSwitch
  dsimp only
  split
  · rfl
  · split
    · rfl
    · split_ifs <;> simp only [State.raise_lanePower, State.setF_lanePower, State.showActive_lanePower, State.wr_lanePower, State.setNoz_lanePower]

theorem State.laneOf_bufWrite (a : Nat) (b : List Byte) (k : Nat) : (s.bufWrite a b).laneOf k = s.laneOf k := rfl

theorem State.laneOf_bufClear (lo hi k : Nat) : (s.bufClear lo hi).laneOf k = s.laneOf k := rfl

/-- A line that a channel stores moves that channel's lane alone. -/
theorem State.rowWrite_laneOf_ne {ch k : Nat} (line : Word) (codes : List Nat) (hk : k ≠ ch) :
    (s.rowWrite ch line codes).laneOf k = s.laneOf k := by
  unfold State.rowWrite
  dsimp only
  split
  · rfl
  · rw [State.laneOf_bufWrite, State.laneOf_bufClear]
    split_ifs
    · exact s.laneOf_setLane_ne _ hk
    · rfl

theorem State.rowWrite_power (ch : Nat) (line : Word) (codes : List Nat) : (s.rowWrite ch line codes).power = s.power := by
  unfold State.rowWrite
  dsimp only
  split_ifs <;> rfl

end

/-! Reading the buffer (R146, R148) and decoding a line (R161): the head links stay as well. -/

/-- The lanes, the power domains and the head links. -/
def State.lanePowerHl (s : State) : SMap Lane × Power × SMap Hl := (s.lane, s.power, s.hl)

theorem State.lanePower_of_lanePowerHl {s t : State} (h : t.lanePowerHl = s.lanePowerHl) : t.lanePower = s.lanePower :=
  congrArg (fun v => (v.1, v.2.1)) h

theorem State.power_of_lanePowerHl {s t : State} (h : t.lanePowerHl = s.lanePowerHl) : t.power = s.power :=
  congrArg (fun v => v.2.1) h

theorem State.hl_of_lanePowerHl {s t : State} (h : t.lanePowerHl = s.lanePowerHl) : t.hl = s.hl :=
  congrArg (fun v => v.2.2) h

section
variable (s : State)

@[simp] theorem State.bump_lanePowerHl (a : Nat) : (s.bump a).lanePowerHl = s.lanePowerHl := rfl

@[simp] theorem State.wr_lanePowerHl (a : Nat) (v : Word) : (s.wr a v).lanePowerHl = s.lanePowerHl := rfl

@[simp] theorem State.raise_lanePowerHl (code n : Nat) (args : List Word) : (s.raise code n args).lanePowerHl = s.lanePowerHl := by
  simp only [State.lanePowerHl, State.raise_lane, State.raise_power, State.raise_hl]

@[simp] theorem State.bumpBy_lanePowerHl (a k : Nat) : (s.bumpBy a k).lanePowerHl = s.lanePowerHl := rfl

@[simp] theorem State.bumpWrap_lanePowerHl (a : Nat) : (s.bumpWrap a).lanePowerHl = s.lanePowerHl := rfl

@[simp] theorem State.orW_lanePowerHl (a : Nat) (v : Word) : (s.orW a v).lanePowerHl = s.lanePowerHl := rfl

@[simp] theorem State.modCtx_lanePowerHl (n : Nat) (f : Ctx → Ctx) : (s.modCtx n f).lanePowerHl = s.lanePowerHl := rfl

@[simp] theorem State.wordRead_lanePowerHl (w : Nat) (flip : Code304) : (s.wordRead w flip).2.lanePowerHl = s.lanePowerHl := by
  unfold State.wordRead
  dsimp only
  split <;> rfl

@[simp] theorem State.eccUncorr_lanePowerHl (word use n : Nat) : (s.eccUncorr word use n).lanePowerHl = s.lanePowerHl := by
  rw [State.eccUncorr, State.raise_lanePowerHl, State.bump_lanePowerHl, State.wr_lanePowerHl]

@[simp] theorem State.eccBlank_lanePowerHl (n : Nat) (item : Option Nat) : (s.eccBlank n item).lanePowerHl = s.lanePowerHl := by
  rw [State.eccBlank, State.modCtx_lanePowerHl, State.bump_lanePowerHl]

@[simp] theorem State.haltReq_lanePowerHl (n cause : Nat) (pageEnd : Option Nat) : (s.haltReq n cause pageEnd).lanePowerHl = s.lanePowerHl := by
  rw [State.haltReq_frame]
  rfl

@[simp] theorem State.eccHit_lanePowerHl (item : Option Nat) (h : EccHit) : (s.eccHit item h).lanePowerHl = s.lanePowerHl := by
  have hread := s.wordRead_lanePowerHl h.word h.flip
  unfold State.eccHit
  dsimp only
  split
  · exact hread
  · split_ifs <;> simp only [State.modCtx_lanePowerHl, State.bump_lanePowerHl, hread]
  · split_ifs
    · rw [State.haltReq_lanePowerHl, State.orW_lanePowerHl, State.eccUncorr_lanePowerHl, hread]
    · rw [State.eccBlank_lanePowerHl, State.eccUncorr_lanePowerHl, hread]
    · rw [State.eccUncorr_lanePowerHl, hread]

@[simp] theorem State.eccHits_lanePowerHl (hits : List EccHit) (item : Option Nat) : (s.eccHits hits item).lanePowerHl = s.lanePowerHl := by
  unfold State.eccHits
  induction hits generalizing s with
  | nil => rfl
  | cons h hits ih => exact (ih _).trans (s.eccHit_lanePowerHl item h)

@[simp] theorem State.decodeLine_lanePowerHl (n : Nat) (lw : LineWork) (item plane y : Nat) :
    (s.decodeLine n lw item plane y).lanePowerHl = s.lanePowerHl := by
  unfold State.decodeLine
  generalize (s.ctxOf n).tilesOn item plane y = tiles
  induction tiles generalizing s with
  | nil => rfl
  | cons t tiles ih =>
    refine (ih _).trans ?_
    dsimp only
    split <;> rfl

@[simp] theorem State.writeErr_lanePowerHl (ch : Nat) (qs : List Int) : (s.writeErr ch qs).lanePowerHl = s.lanePowerHl := by
  unfold State.writeErr
  dsimp only
  split <;> rfl

end

/-! LINE_SCREEN (R177, R180, R190, R195). -/

/-- What a lane stores of a line that it has screened lies in the buffer, in its counters and in its context: its lane entry stays. -/
theorem State.codesStored_lanePowerHl (u : State) (ch n : Nat) (qs : List Int) (clamped : Nat) (empty : Prop) [Decidable empty] (f : Ctx → Ctx) :
    (State.modCtx (if empty then (u.writeErr ch qs).bumpBy (Reg.MASH_CH_CLAMP ch) clamped
      else ((u.writeErr ch qs).bumpBy (Reg.MASH_CH_CLAMP ch) clamped).bumpWrap (Reg.MASH_CH_LINES ch)) n f).lanePowerHl = u.lanePowerHl := by
  rw [State.modCtx_lanePowerHl]
  split
  · rw [State.bumpBy_lanePowerHl, State.writeErr_lanePowerHl]
  · rw [State.bumpWrap_lanePowerHl, State.bumpBy_lanePowerHl, State.writeErr_lanePowerHl]

section
variable {s : State} {ch : Fin 64} {n : Nat} {lw : LineWork} (ecc : List EccHit) (hown : s.ownerOf ch.val = some n)
  (hfind : (s.ctxOf n).lines.find? (fun l => !l.late && !l.codes.any (fun e => e.1 == ch.val)) = some lw) (hruns : s.laneRuns ch.val = true)
  (hready : s.seamReady n ch.val lw.line = true)
include hown hfind hruns hready

/-- A channel whose lane may begin a line screens it: beyond its own lane, which holds the line from then on, no lane moves. -/
theorem exec_lineScreen_runs :
    ∃ (t u : State) (l : Lane), exec (.lineScreen ch ecc) s = .next t ∧ u.lanePowerHl = s.lanePowerHl ∧ l.last = some lw.line ∧
      t.lanePowerHl = (u.setLane ch.val l).lanePowerHl := by
  simp only [exec, execLineScreen, hown, hfind, hruns, hready, Bool.not_true, Bool.or_self, Bool.false_eq_true, if_false]
  split
  · exact ⟨_, s.eccHits ecc lw.item, _, rfl, s.eccHits_lanePowerHl _ _, rfl, State.codesStored_lanePowerHl ..⟩
  · refine ⟨_, _, _, rfl, ?_, rfl, State.codesStored_lanePowerHl ..⟩
    rw [State.decodeLine_lanePowerHl, State.each_keeps _ State.lanePowerHl _ _ (fun u _ => u.eccBlank_lanePowerHl n lw.item)]
    exact s.eccHits_lanePowerHl ecc lw.item

theorem lineScreen_screens :
    ∃ t, exec (.lineScreen ch ecc) s = .next t ∧ (t.laneOf ch.val).last = some lw.line ∧ (∀ k, k ≠ ch.val → t.laneOf k = s.laneOf k) ∧
      t.safe = s.safe ∧ t.power = s.power ∧ t.hl = s.hl := by
  obtain ⟨t, u, l, hexec, hu, hlast, ht⟩ := exec_lineScreen_runs ecc hown hfind hruns hready
  have hstill := execLineScreen_still ch.val ecc s
  rw [show execLineScreen ch.val ecc s = .next t from hexec] at hstill
  have hlane := State.laneOf_of_lanePower (State.lanePower_of_lanePowerHl ht)
  refine ⟨t, hexec, ?_, fun k hk => ?_, safe_of_still hstill, ?_, ?_⟩
  · rw [hlane, State.laneOf_setLane_self, hlast]
  · rw [hlane, u.laneOf_setLane_ne l hk]
    exact State.laneOf_of_lanePower (State.lanePower_of_lanePowerHl hu) k
  · rw [State.power_of_lanePowerHl ht, State.setLane_power, State.power_of_lanePowerHl hu]
  · rw [State.hl_of_lanePowerHl ht, State.setLane_hl, State.hl_of_lanePowerHl hu]

end

/-! LINE_COMPENSATE (R210, R221, R236). -/

/-- With no late line in work there are no images of late lines to form. -/
theorem State.lateImages_of_none_late {s : State} {n : Nat} (ch : Nat) (bad : List Nat) (k : Nat) (h : ∀ l ∈ (s.ctxOf n).lines, l.late = false) :
    s.lateImages n ch bad k = s := by
  cases k with
  | zero => rfl
  | succ k =>
    unfold State.lateImages
    split
    · rfl
    · next w hw => rw [h w (List.mem_of_find?_eq_some hw)]; rfl

/-- A context in which a channel has compensated a line. -/
def Ctx.compensated (c : Ctx) (ch : Nat) (line : Word) : Ctx :=
  { c with lines := c.lines.map (fun w => if w.line == line then { w with comp := w.comp ++ [ch] } else w) }

theorem Ctx.contains_comp_compensated {c : Ctx} {ch : Nat} {line : Word} {w : LineWork} (hw : w ∈ (c.compensated ch line).lines) (hline : w.line = line) :
    w.comp.contains ch = true := by
  obtain ⟨v, -, rfl⟩ := List.mem_map.mp hw
  split at hline
  · next hv => simp [hv]
  · next hv => exact absurd (beq_iff_eq.mpr hline) hv

/-- The image of a slot is read from the buffer, built and passed on with the lanes as they stand. -/
theorem State.imagePassed_lanePower (v : State) (ecc : List EccHit) (item : Option Nat) (ch : Nat) (line : Word) (bad : List Nat) (i : HlImage) :
    (((v.eccHits ecc item).buildImage ch line bad).1.imageOut ch i).lanePower = v.lanePower := by
  rw [State.imageOut_lanePower, State.buildImage_lanePower]
  exact State.lanePower_of_lanePowerHl (v.eccHits_lanePowerHl ecc item)

section
variable {s : State} {ch : Fin 64} {n : Nat} {lw : LineWork} (ecc : List EccHit) (hown : s.ownerOf ch.val = some n)
  (hlate : ∀ l ∈ (s.ctxOf n).lines, l.late = false) (hfind : (s.ctxOf n).lines.find? (fun l => !l.late && !l.comp.contains ch.val) = some lw)
  (hruns : s.laneRuns ch.val = true) (hdone : s.codesDone n ch.val lw = true)
include hown hlate hfind hruns hdone

/-- A channel whose line's codes are complete stores its codes, then builds and passes on the image of its slot. -/
theorem exec_lineCompensate_runs :
    ∃ (u v : State) (codes : List Nat), u.lanePower = s.lanePower ∧ v.lanePower = (u.rowWrite ch.val lw.line codes).lanePower ∧
      exec (.lineCompensate ch ecc) s = .next (v.modCtx n (fun c => c.compensated ch.val lw.line)) := by
  simp only [exec, execLineCompensate, hown, s.lateImages_of_none_late ch.val _ _ hlate, hfind, hruns, hdone, Bool.not_true, Bool.or_self,
    Bool.false_eq_true, if_false]
  split
  · refine ⟨_, _, _, ?_, State.imagePassed_lanePower .., rfl⟩
    rw [State.modCtx_lanePower, State.bumpBy_lanePower, State.bumpBy_lanePower, State.doSwitch_lanePower]
  · exact ⟨_, _, _, s.doSwitch_lanePower ch.val lw.line, State.imagePassed_lanePower .., rfl⟩

theorem lineCompensate_compensates :
    ∃ t, exec (.lineCompensate ch ecc) s = .next t ∧ (∀ w ∈ (t.ctxOf n).lines, w.line = lw.line → w.comp.contains ch.val = true) ∧
      (∀ k, k ≠ ch.val → t.laneOf k = s.laneOf k) ∧ t.safe = s.safe ∧ t.power = s.power := by
  obtain ⟨u, v, codes, hu, hv, hexec⟩ := exec_lineCompensate_runs ecc hown hlate hfind hruns hdone
  have hstill := execLineCompensate_still ch.val ecc s
  rw [show execLineCompensate ch.val ecc s = _ from hexec] at hstill
  refine ⟨_, hexec, fun w hw hline => ?_, fun k hk => ?_, safe_of_still hstill, ?_⟩
  · rw [State.ctxOf_modCtx_self] at hw
    exact Ctx.contains_comp_compensated hw hline
  · calc v.laneOf k
      _ = (u.rowWrite ch.val lw.line codes).laneOf k := State.laneOf_of_lanePower hv k
      _ = u.laneOf k := u.rowWrite_laneOf_ne lw.line codes hk
      _ = s.laneOf k := State.laneOf_of_lanePower hu k
  · calc v.power
      _ = (u.rowWrite ch.val lw.line codes).power := State.power_of_lanePower hv
      _ = u.power := u.rowWrite_power ch.val lw.line codes
      _ = s.power := State.power_of_lanePower hu

end

/-! FRAME_BOUNDARY (R31, R53). -/

theorem exec_frameBoundary_due {s : State} (ecc : List EccHit) (h : s.pos.frame.next.toNat ≤ s.count.toNat) :
    exec (.frameBoundary ecc) s = .next (s.frameOn.boundaryWork ecc).swapStart := by
  simp only [exec, execFrameBoundary, State.boundary, Nat.not_lt.mpr h, if_false]

theorem exec_frameBoundary_early {s : State} (ecc : List EccHit) (h : s.count.toNat < s.pos.frame.next.toNat) :
    exec (.frameBoundary ecc) s = .next s := by
  simp only [exec, execFrameBoundary, h, if_true]

theorem count_of_still {s t : State} (h : t.still = s.still) : t.count = s.count := congrArg (fun v => v.2.1) h

/-- Settles O22: what screening and compensation do to the lanes, and the step of the frame grid with the work of a boundary. -/
theorem linesAreScreenedAndFramesFollow : Obligations.LinesAreScreenedAndFramesFollow := by
  unfold Obligations.LinesAreScreenedAndFramesFollow
  refine ⟨fun s ch ecc n lw => lineScreen_screens ecc, fun s ch ecc n lw => lineCompensate_compensates ecc, fun s ecc hdue => ?_,
    fun s ecc => exec_frameBoundary_early ecc⟩
  have hstill : (s.frameOn.boundaryWork ecc).swapStart.still = s.still := by
    rw [State.swapStart_still, State.boundaryWork_still]
    rfl
  exact ⟨s.frameOn, _, exec_frameBoundary_due ecc hdue, rfl, rfl, count_of_still hstill, safe_of_still hstill⟩

end Sys2Proof.Machine
end

section
/-!
PROOFS. Head links in training (O24): what the shared operations of a link change, the rows that write its registers, and the steps of training.
-/
open Sys2Proof
namespace Sys2Proof.Machine

/-! Registers of a link. -/

theorem hlCtrl_ne_hlTrain (ch : Nat) : Reg.HL_CTRL ch ≠ Reg.HL_TRAIN ch := by unfold Reg.HL_CTRL Reg.HL_TRAIN; omega

theorem hlCtrl_ne_hlErr (ch : Nat) : Reg.HL_CTRL ch ≠ Reg.HL_ERR ch := by unfold Reg.HL_CTRL Reg.HL_ERR; omega

theorem hlCtrl_ne_hlRetrains (ch : Nat) : Reg.HL_CTRL ch ≠ Reg.HL_RETRAINS ch := by unfold Reg.HL_CTRL Reg.HL_RETRAINS; omega

theorem hlRetrains_ne_hlErr (ch : Nat) : Reg.HL_RETRAINS ch ≠ Reg.HL_ERR ch := by unfold Reg.HL_RETRAINS Reg.HL_ERR; omega

/-- A field from bit 0 of a number as a word. -/
theorem bits_wd_zero (n : Nat) {hi : Nat} (h : hi < 32) : bits (wd n) hi 0 = n % 2 ^ (hi + 1) := by
  rw [bits, wd, BitVec.toNat_ofNat, Nat.shiftRight_zero]
  exact Nat.mod_mod_of_dvd n (Nat.pow_dvd_pow 2 h)

theorem bit_and (v w : Word) (i : Nat) : bit (v &&& w) i = (bit v i && bit w i) := BitVec.getLsbD_and ..

/-! A link as the operations on registers and events leave it. -/

section
variable (s : State) (k : Nat)

theorem State.hlOf_congr {s t : State} (h : t.hl = s.hl) (k : Nat) : t.hlOf k = s.hlOf k := congrArg (fun m : SMap Hl => m.get ({} : Hl) k) h

@[simp] theorem State.hlOf_wr (a : Nat) (v : Word) : (s.wr a v).hlOf k = s.hlOf k := State.hlOf_congr (s.wr_hl a v) k

@[simp] theorem State.hlOf_setF (a hi lo v : Nat) : (s.setF a hi lo v).hlOf k = s.hlOf k := State.hlOf_congr (s.setF_hl a hi lo v) k

@[simp] theorem State.hlOf_orW (a : Nat) (m : Word) : (s.orW a m).hlOf k = s.hlOf k := State.hlOf_congr (s.orW_hl a m) k

@[simp] theorem State.hlOf_bump (a : Nat) : (s.bump a).hlOf k = s.hlOf k := State.hlOf_congr (s.bump_hl a) k

@[simp] theorem State.hlOf_raise (code n : Nat) (args : List Word) : (s.raise code n args).hlOf k = s.hlOf k :=
  State.hlOf_congr (s.raise_hl code n args) k

@[simp] theorem State.hlOf_raiseE (code n : Nat) (args : List Word) : (s.raiseE code n args).hlOf k = s.hlOf k :=
  State.hlOf_congr (s.raiseE_hl code n args) k

theorem State.wr_frame (a : Nat) (v : Word) : s.wr a v = { s with regs := (s.wr a v).regs, hl := (s.wr a v).hl } := rfl

theorem State.wr64_frame (a : Nat) (v : DWord) : s.wr64 a v = { s with regs := (s.wr64 a v).regs, hl := (s.wr64 a v).hl } := rfl

theorem State.setHl_frame (h : Hl) : s.setHl k h = { s with regs := (s.setHl k h).regs, hl := (s.setHl k h).hl } := rfl

/-- Two steps that each change registers and links alone change no more together. -/
theorem State.regsHl_trans {s t u : State} (ht : t = { s with regs := t.regs, hl := t.hl }) (hu : u = { t with regs := u.regs, hl := u.hl }) :
    u = { s with regs := u.regs, hl := u.hl } :=
  hu.trans (by rw [ht])

theorem State.modHl_congr {f g : Hl → Hl} (h : f (s.hlOf k) = g (s.hlOf k)) : s.modHl k f = s.modHl k g := congrArg (s.setHl k) h

end

/-! What the shared operations of a link do: start and end of training (R252), entering FAULT (R265) and entering UP (R255). -/

section
variable (s : State) (ch : Nat)

theorem State.hlTrain_frame : s.hlTrain ch = { s with regs := (s.hlTrain ch).regs, hl := (s.hlTrain ch).hl } := rfl

theorem State.hlOf_hlTrain_state : ((s.hlTrain ch).hlOf ch).state = .train := by
  rw [State.hlTrain, State.hlOf_setF, State.hlOf_modHl_self]

theorem State.hlOf_hlTrain_since : ((s.hlTrain ch).hlOf ch).since = s.count := by
  rw [State.hlTrain, State.hlOf_setF, State.hlOf_modHl_self]

theorem State.hlOf_hlTrain_ne {k : Nat} (hk : k ≠ ch) : (s.hlTrain ch).hlOf k = s.hlOf k := by
  rw [State.hlTrain, State.hlOf_setF, State.hlOf_modHl_ne _ _ hk]

theorem State.fld_hlTrain_result : (s.hlTrain ch).fld (Reg.HL_TRAIN ch) 11 8 = 0 := by
  rw [State.fld, State.hlTrain, State.rd_setF_self, bits_setBits_self _ (by decide) (by decide)]

theorem State.rd_hlTrain_ne {a : Nat} (ha : a ≠ Reg.HL_TRAIN ch) : (s.hlTrain ch).rd a = s.rd a :=
  (State.rd_setF_ne _ _ _ _ ha).trans rfl

/-- Training that is cancelled ends without an event. -/
theorem State.hlTrainFail_cancelled : s.hlTrainFail ch 6 =
    (s.modHl ch (fun h => { h with state := .off, lock := false, upPend := false, hstate := 0, loaded := false })).setF (Reg.HL_TRAIN ch) 11 8 6 := by
  simp only [State.hlTrainFail, if_true]

/-- A link in FAULT, before the event that says so. -/
def State.hlFaulted (s : State) (ch cause : Nat) : State :=
  ((s.setHl ch { s.hlOf ch with state := .fault, since := s.count, reload := none, badRun := 0 }).bump (Reg.HL_RETRAINS ch)).orW
    (Reg.HL_ERR ch) (if cause = 1 then 1 else 0)

theorem State.hlFaulted_frame (cause : Nat) :
    s.hlFaulted ch cause = { s with regs := (s.hlFaulted ch cause).regs, hl := (s.hlFaulted ch cause).hl } := by
  unfold State.hlFaulted
  exact State.regsHl_trans (State.regsHl_trans (State.setHl_frame ..) (State.wr_frame ..)) (State.wr_frame ..)

theorem State.hlFault_of_up {s : State} {ch : Nat} (cause : Nat) (hup : (s.hlOf ch).state = .up) :
    s.hlFault ch cause = (s.hlFaulted ch cause).raise 0x0802 0 [wd ch, wd cause] :=
  if_neg (by simp [hup])

theorem State.hlOf_hlFaulted_self (cause : Nat) :
    (s.hlFaulted ch cause).hlOf ch = { s.hlOf ch with state := .fault, since := s.count, reload := none, badRun := 0 } := by
  rw [State.hlFaulted, State.hlOf_orW, State.hlOf_bump, State.hlOf_setHl_self]

theorem State.hlOf_hlFaulted_ne (cause : Nat) {k : Nat} (hk : k ≠ ch) : (s.hlFaulted ch cause).hlOf k = s.hlOf k := by
  rw [State.hlFaulted, State.hlOf_orW, State.hlOf_bump, State.hlOf_setHl_ne _ _ hk]

theorem State.rd_hlFaulted_retrains (cause : Nat) :
    (s.hlFaulted ch cause).rd (Reg.HL_RETRAINS ch) = satInc (s.rd (Reg.HL_RETRAINS ch)) := by
  rw [State.hlFaulted, State.rd_orW_ne _ _ (hlRetrains_ne_hlErr ch), State.rd_bump_self]
  rfl

theorem State.rd_hlFaulted_ctrl (cause : Nat) : (s.hlFaulted ch cause).rd (Reg.HL_CTRL ch) = s.rd (Reg.HL_CTRL ch) := by
  rw [State.hlFaulted, State.rd_orW_ne _ _ (hlCtrl_ne_hlErr ch), State.rd_bump_ne _ (hlCtrl_ne_hlRetrains ch)]
  rfl

theorem State.hlOf_hlUp_state : ((s.hlUp ch).hlOf ch).state = .up := by
  simp only [State.hlUp, State.hlOf_raise, State.hlOf_setF, State.hlOf_wr, State.hlOf_setHl_self]

end

/-! Writes of HL_CTRL (R252, R265, R271). -/

/-- HL_CTRL is stored: a link in FAULT that was not to retrain by itself counts its 10 µs from here on. -/
def State.hlCtrlStored (s : State) (ch : Nat) (v : Word) : State :=
  if (s.hlOf ch).state == .fault && !(s.fld (Reg.HL_CTRL ch) 1 0 == 3) then
    (s.wr (Reg.HL_CTRL ch) (v &&& 0x1FF)).modHl ch (fun h => { h with since := s.count })
  else s.wr (Reg.HL_CTRL ch) (v &&& 0x1FF)

section
variable (s : State) (ch : Nat) (v : Word)

theorem State.hlCtrlStored_frame :
    s.hlCtrlStored ch v = { s with regs := (s.hlCtrlStored ch v).regs, hl := (s.hlCtrlStored ch v).hl } := by
  unfold State.hlCtrlStored
  split <;> rfl

theorem State.rd_hlCtrlStored : (s.hlCtrlStored ch v).rd (Reg.HL_CTRL ch) = v &&& 0x1FF := by
  unfold State.hlCtrlStored
  split <;> exact State.rd_wr_self ..

theorem State.hlOf_hlCtrlStored_state : ((s.hlCtrlStored ch v).hlOf ch).state = (s.hlOf ch).state := by
  unfold State.hlCtrlStored
  split
  · rw [State.hlOf_modHl_self, State.hlOf_wr]
  · rw [State.hlOf_wr]

theorem State.hlOf_hlCtrlStored_ne {k : Nat} (hk : k ≠ ch) : (s.hlCtrlStored ch v).hlOf k = s.hlOf k := by
  unfold State.hlCtrlStored
  split
  · rw [State.hlOf_modHl_ne _ _ hk, State.hlOf_wr]
  · rw [State.hlOf_wr]

end

section
variable {s : State} {ch : Nat} {v : Word} (hfree : s.chLocked ch = false)
include hfree

/-- A write that sets EN of a link in OFF or FAULT starts training. -/
theorem State.hlCtrlWrite_enables (hoff : s.flag (Reg.HL_CTRL ch) 0 = false) (hen : bit v 0 = true)
    (hstate : (s.hlOf ch).state = .off ∨ (s.hlOf ch).state = .fault) : s.hlCtrlWrite ch v = (s.hlCtrlStored ch v).hlTrain ch := by
  have hbit : bit (v &&& 0x1FF) 0 = true := by rw [bit_and, hen]; rfl
  have hstarts : (((s.hlCtrlStored ch v).hlOf ch).state == .off || ((s.hlCtrlStored ch v).hlOf ch).state == .fault) = true := by
    simpa [State.hlOf_hlCtrlStored_state] using hstate
  simp only [State.hlCtrlWrite, hfree, Bool.false_eq_true, if_false, hbit, hoff, Bool.not_false, Bool.and_self, if_true, State.hlOf_wr]
  exact if_pos hstarts

/-- A write that clears EN of a link in UP enters FAULT with cause 4, and the link leaves at the next boundary. -/
theorem State.hlCtrlWrite_disables (hon : s.flag (Reg.HL_CTRL ch) 0 = true) (hdis : bit v 0 = false) (hup : (s.hlOf ch).state = .up) :
    s.hlCtrlWrite ch v = (((s.wr (Reg.HL_CTRL ch) (v &&& 0x1FF)).hlFaulted ch 4).raise 0x0802 0 [wd ch, 4]).modHl ch
      (fun h => { h with leaving := true }) := by
  have hbit : bit (v &&& 0x1FF) 0 = false := by rw [bit_and, hdis]; rfl
  have hup' : ((s.wr (Reg.HL_CTRL ch) (v &&& 0x1FF)).hlOf ch).state = .up := hup
  have hstays : ((s.hlOf ch).state == .fault) = false := by rw [hup]; rfl
  simp only [State.hlCtrlWrite, hfree, Bool.false_eq_true, if_false, hbit, hon, Bool.not_false, Bool.false_and, Bool.and_self, if_true,
    State.hlOf_wr, hstays, State.hlFault_of_up 4 hup']
  refine State.modHl_congr _ _ ?_
  simp only [State.hlOf_raise, State.hlOf_hlFaulted_self]
  rfl

end

theorem exec_hlTrainCancel_training {s : State} {ch : Fin 64} (hreach : s.dropped (Reg.HL_TRAIN ch.val) = none)
    (hstate : (s.hlOf ch.val).state = .train ∨ (s.hlOf ch.val).state = .cal ∨ (s.hlOf ch.val).state = .load) :
    exec (.hlTrainCancel ch) s = .next (s.hlTrainFail ch.val 6) :=
  congrArg _ ((State.gated_of_reaches _ hreach).trans (if_pos (by simpa [or_assoc] using hstate)))

/-! HL_CAP_RX (R253). -/

/-- Field [hi:lo] of the payload of a CAP block. -/
def capField (d : DWord) (hi lo : Nat) : Nat := (d.toNat >>> lo) % 2 ^ (hi + 1 - lo)

/-- The head's capabilities in their registers. -/
def State.capStored (s : State) (ch : Nat) (c0 c1 c2 c3 : DWord) : State :=
  ((s.wr (Reg.HL_CAP0 ch) (wd (capField c0 23 10 + capField c0 28 24 * 2 ^ 16 + capField c0 32 29 * 2 ^ 24 + capField c0 43 43 * 2 ^ 28))).wr
    (Reg.HL_CAP1 ch) (wd (capField c0 42 33 + capField c3 25 10 * 2 ^ 16))).wr64
    (Reg.HL_HEAD_SN ch) (dw (wd (capField c1 41 10)) (wd (capField c2 41 10)))

theorem capField_hfix (c0 : DWord) : capField c0 42 33 = c0.toNat / 2 ^ 33 % 1024 := by
  norm_num [capField, Nat.shiftRight_eq_div_pow]

section
variable {s : State} {ch : Fin 64} {c0 c1 c2 c3 : DWord} (htrain : (s.hlOf ch.val).state = .train) (hlock : (s.hlOf ch.val).lock = true)
include htrain hlock

theorem exec_hlCapRx_passes (hok : ((s.capStored ch.val c0 c1 c2 c3).capRecheck ch.val).capCheck ch.val = true) :
    exec (.hlCapRx ch c0 c1 c2 c3) s = .next (((s.capStored ch.val c0 c1 c2 c3).capRecheck ch.val).modHl ch.val (fun h =>
      { h with state := .cal, badRun := 0, hfix := c0.toNat / 2 ^ 33 % 1024, cal := [], calSeq := h.calSeq + 1 })) := by
  rw [← capField_hfix]
  exact (if_neg (by simp [htrain, hlock])).trans (if_pos hok)

theorem exec_hlCapRx_fails (hbad : ((s.capStored ch.val c0 c1 c2 c3).capRecheck ch.val).capCheck ch.val = false) :
    exec (.hlCapRx ch c0 c1 c2 c3) s = .next (((s.capStored ch.val c0 c1 c2 c3).capRecheck ch.val).hlTrainFail ch.val 4) :=
  (if_neg (by simp [htrain, hlock])).trans (if_neg fun hok => Bool.false_ne_true (hbad.symm.trans hok))

end

section
variable (s : State) (ch : Nat)

theorem State.capRecheck_frame : s.capRecheck ch = { s with regs := (s.capRecheck ch).regs, hl := (s.capRecheck ch).hl } := by
  unfold State.capRecheck
  dsimp only
  split <;> rfl

theorem State.rd_capRecheck_ne {a : Nat} (ha : a ≠ Reg.HL_ERR ch) : (s.capRecheck ch).rd a = s.rd a := by
  unfold State.capRecheck
  dsimp only
  split
  · rfl
  · exact State.rd_orW_ne _ _ ha

variable (c0 c1 c2 c3 : DWord)

theorem State.capStored_frame : s.capStored ch c0 c1 c2 c3 =
    { s with regs := (s.capStored ch c0 c1 c2 c3).regs, hl := (s.capStored ch c0 c1 c2 c3).hl } := by
  unfold State.capStored
  exact State.regsHl_trans (State.regsHl_trans (State.wr_frame ..) (State.wr_frame ..)) (State.wr64_frame ..)

theorem State.rd_capStored_cap1 :
    (s.capStored ch c0 c1 c2 c3).rd (Reg.HL_CAP1 ch) = wd (capField c0 42 33 + capField c3 25 10 * 2 ^ 16) := by
  rw [State.capStored, State.wr64, State.rd_wr_ne _ _ (by unfold Reg.HL_CAP1 Reg.HL_HEAD_SN; omega),
    State.rd_wr_ne _ _ (by unfold Reg.HL_CAP1 Reg.HL_HEAD_SN; omega), State.rd_wr_self]

theorem State.rd_capStored_cap0 : (s.capStored ch c0 c1 c2 c3).rd (Reg.HL_CAP0 ch) =
    wd (capField c0 23 10 + capField c0 28 24 * 2 ^ 16 + capField c0 32 29 * 2 ^ 24 + capField c0 43 43 * 2 ^ 28) := by
  rw [State.capStored, State.wr64, State.rd_wr_ne _ _ (by unfold Reg.HL_CAP0 Reg.HL_HEAD_SN; omega),
    State.rd_wr_ne _ _ (by unfold Reg.HL_CAP0 Reg.HL_HEAD_SN; omega), State.rd_wr_ne _ _ (by unfold Reg.HL_CAP0 Reg.HL_CAP1; omega),
    State.rd_wr_self]

/-- HFIX as the registers give it. -/
theorem State.fld_capStored_hfix :
    ((s.capStored ch c0 c1 c2 c3).capRecheck ch).fld (Reg.HL_CAP1 ch) 9 0 = c0.toNat / 2 ^ 33 % 1024 := by
  rw [State.fld, State.rd_capRecheck_ne _ _ (by unfold Reg.HL_CAP1 Reg.HL_ERR; omega), State.rd_capStored_cap1, bits_wd_zero _ (by decide),
    capField, Nat.shiftRight_eq_div_pow]
  omega

/-- The columns of the head as the registers give them. -/
theorem State.fld_capStored_cols :
    ((s.capStored ch c0 c1 c2 c3).capRecheck ch).fld (Reg.HL_CAP0 ch) 13 0 = c0.toNat / 2 ^ 10 % 2 ^ 14 := by
  rw [State.fld, State.rd_capRecheck_ne _ _ (by unfold Reg.HL_CAP0 Reg.HL_ERR; omega), State.rd_capStored_cap0, bits_wd_zero _ (by decide),
    capField, Nat.shiftRight_eq_div_pow]
  omega

end

/-! The other steps of training (R252, R254, R255). -/

section
variable {s : State} {ch : Fin 64}

theorem exec_hlBlockLock_on (hon : (s.hlOf ch.val).state ≠ .off) :
    exec (.hlBlockLock ch) s = .next (s.modHl ch.val (fun h => { h with lock := true })) :=
  congrArg _ (if_neg (by simpa using hon))

/-- The answer to the exchange that is open, before the 256th. -/
theorem exec_hlCalRx_counts {q : Byte} {r ht : Word} (hcal : (s.hlOf ch.val).state = .cal) (hwait : (s.hlOf ch.val).upPend = false)
    (hseq : q.toNat = (s.hlOf ch.val).calSeq % 256) (hmore : (s.hlOf ch.val).cal.length + 1 < 256) :
    exec (.hlCalRx ch q r ht) s = .next (s.setHl ch.val { s.hlOf ch.val with
      cal := (r.toNat - ht.toNat : Int) :: (s.hlOf ch.val).cal, calSeq := (s.hlOf ch.val).calSeq + 1 }) :=
  (if_neg (by simp [hcal, hwait, hseq])).trans (if_pos hmore)

theorem exec_hlLoadDone_up (hload : (s.hlOf ch.val).state = .load) (hreload : (s.hlOf ch.val).reload = none)
    (hsent : (s.hlOf ch.val).uploads.any (fun u => !u.forSwitch) = false) (hloaded : (s.hlOf ch.val).loaded = true)
    (hfree : s.chLocked ch.val = false) : exec (.hlLoadDone ch) s = .next (s.hlUp ch.val) :=
  (if_neg (by simp only [hload, hreload, hsent, hloaded]; decide)).trans (if_neg (by simp [hfree]))

/-- Training has 200 µs for the lock. -/
theorem exec_hlTrainTimeout_noLock (htrain : (s.hlOf ch.val).state = .train) (hlock : (s.hlOf ch.val).lock = false)
    (hdue : 200000 ≤ (s.count - (s.hlOf ch.val).since).toNat) : exec (.hlTrainTimeout ch) s = .next (s.hlTrainFail ch.val 2) :=
  (if_neg (by simp [htrain])).trans ((if_neg (by simp [htrain])).trans (if_pos (by simp only [hlock, hdue]; rfl)))

/-- With lock training has 300 µs for the capabilities. -/
theorem exec_hlTrainTimeout_noCap (htrain : (s.hlOf ch.val).state = .train) (hlock : (s.hlOf ch.val).lock = true)
    (hdue : 300000 ≤ (s.count - (s.hlOf ch.val).since).toNat) : exec (.hlTrainTimeout ch) s = .next (s.hlTrainFail ch.val 3) :=
  (if_neg (by simp [htrain])).trans ((if_neg (by simp [htrain])).trans
    ((if_neg (by simp [hlock])).trans (if_pos (by simp only [hlock, hdue]; rfl))))

theorem exec_hlRetrainTimer_due (hfault : (s.hlOf ch.val).state = .fault) (hctrl : s.fld (Reg.HL_CTRL ch.val) 1 0 = 3)
    (hdue : 10000 ≤ (s.count - (s.hlOf ch.val).since).toNat) : exec (.hlRetrainTimer ch) s = .next (s.hlTrain ch.val) :=
  if_pos (by simp only [hfault, hctrl, hdue]; rfl)

end

/-- Settles O24, clause by clause: the rows that write HL_CTRL and HL_TRAIN, then the steps of training. -/
theorem headLinksTrain : Obligations.HeadLinksTrain := by
  unfold Obligations.HeadLinksTrain
  refine ⟨?enable, ?disable, ?go, ?cancel, fun s ch hon => exec_hlBlockLock_on hon, ?cap,
    fun s ch q r ht hcal hwait hseq hmore => exec_hlCalRx_counts hcal hwait hseq hmore,
    fun s ch hload hreload hsent hloaded hfree => ⟨exec_hlLoadDone_up hload hreload hsent hloaded hfree, s.hlOf_hlUp_state ch.val⟩,
    fun s ch htrain => ⟨exec_hlTrainTimeout_noLock htrain, exec_hlTrainTimeout_noCap htrain⟩,
    fun s ch hfault hctrl hdue => exec_hlRetrainTimer_due hfault hctrl hdue⟩
  case enable =>
    intro s ch v hreach hfree hoff hen hstate
    have hframe := s.hlCtrlStored_frame ch.val v
    refine ⟨(s.hlCtrlStored ch.val v).hlTrain ch.val,
      congrArg _ ((State.gated_of_reaches _ hreach).trans (State.hlCtrlWrite_enables hfree hoff hen hstate)),
      State.regsHl_trans hframe (State.hlTrain_frame ..), State.hlOf_hlTrain_state .., ?_,
      (State.rd_hlTrain_ne _ _ (hlCtrl_ne_hlTrain ch.val)).trans (State.rd_hlCtrlStored ..), State.fld_hlTrain_result ..,
      fun k hk => (State.hlOf_hlTrain_ne _ _ hk).trans (State.hlOf_hlCtrlStored_ne _ _ _ hk)⟩
    rw [State.hlOf_hlTrain_since, hframe]
    rfl
  case disable =>
    intro s ch v hreach hfree hon hdis hup
    refine ⟨(s.wr (Reg.HL_CTRL ch.val) (v &&& 0x1FF)).hlFaulted ch.val 4,
      congrArg _ ((State.gated_of_reaches _ hreach).trans (State.hlCtrlWrite_disables hfree hon hdis hup)), State.hlFaulted_frame .., ?_, ?_, ?_⟩
    · rw [State.hlOf_hlFaulted_self]
    · rw [State.rd_hlFaulted_ctrl, State.rd_wr_self]
    · rw [State.rd_hlFaulted_retrains, State.rd_wr_ne _ _ (hlCtrl_ne_hlRetrains ch.val).symm]
  case go =>
    intro s ch hreach
    exact ⟨s.hlTrain ch.val, congrArg _ (State.gated_of_reaches _ hreach), s.hlTrain_frame ch.val, s.hlOf_hlTrain_state ch.val,
      s.hlOf_hlTrain_since ch.val, s.fld_hlTrain_result ch.val, fun k hk => s.hlOf_hlTrain_ne ch.val hk,
      fun a ha => s.rd_hlTrain_ne ch.val ha⟩
  case cancel =>
    intro s ch hreach hstate
    refine ⟨s.hlTrainFail ch.val 6, exec_hlTrainCancel_training hreach hstate, ?_⟩
    rw [State.hlTrainFail_cancelled]
    refine ⟨rfl, ?_, ?_, fun k hk => ?_⟩
    · rw [State.hlOf_setF, State.hlOf_modHl_self]
    · rw [State.fld, State.rd_setF_self, bits_setBits_self _ (by decide) (by decide)]
    · rw [State.hlOf_setF, State.hlOf_modHl_ne _ _ hk]
  case cap =>
    intro s ch c0 c1 c2 c3 htrain hlock
    exact ⟨(s.capStored ch.val c0 c1 c2 c3).capRecheck ch.val,
      State.regsHl_trans (State.capStored_frame ..) (State.capRecheck_frame ..), fun hok => exec_hlCapRx_passes htrain hlock hok,
      fun hbad => exec_hlCapRx_fails htrain hlock hbad, s.fld_capStored_hfix ch.val c0 c1 c2 c3, s.fld_capStored_cols ch.val c0 c1 c2 c3⟩

end Sys2Proof.Machine
end

section
/-!
PROOFS. Faults and return frames of head links, and their waveform sets (O25).
-/
open Sys2Proof
namespace Sys2Proof.Machine

/-! Faults of a link in UP (R256, R265). -/

section
variable {s : State} {ch : Fin 64}

theorem exec_hlLockLost_up (hlock : (s.hlOf ch.val).lock = true) (hup : (s.hlOf ch.val).state = .up) :
    exec (.hlLockLost ch) s = .next ((s.setHl ch.val { s.hlOf ch.val with lock := false }).hlFault ch.val 1) :=
  (if_neg (by simp [hlock])).trans (if_neg (by simp [hup]))

theorem exec_hlNoReturn_up (hup : (s.hlOf ch.val).state = .up) : exec (.hlNoReturn ch) s = .next (s.hlFault ch.val 3) :=
  congrArg _ (if_neg (by simp [hup]))

/-- The first background exchange whose flight time has drifted from D by more than 0.5 ns. -/
theorem exec_hlLatCheck_drifted {r ht : Word} (hup : (s.hlOf ch.val).state = .up) (hopen : (s.hlOf ch.val).latOut = true)
    (hfirst : (s.hlOf ch.val).lat = []) (hdrift : 16 < (r.toNat - ht.toNat : Int) - 2 * (s.hlOf ch.val).d) :
    exec (.hlLatCheck ch r ht) s = .next (((s.setHl ch.val { s.hlOf ch.val with lat := [(r.toNat - ht.toNat : Int)], latOut := false }).orW
      (Reg.HL_ERR ch.val) 0x200).raise 0x080C 0 [wd ch.val, wi (divHalfUp (r.toNat - ht.toNat : Int) 2)]) := by
  have hruns : ((s.hlOf ch.val).state != .up || !(s.hlOf ch.val).latOut) = false := by rw [hup, hopen]; rfl
  simp only [exec, execHlLatCheck, hruns, hfirst, Bool.false_eq_true, if_false, List.take_succ_cons, List.take_nil, List.length_singleton,
    List.sum_singleton, Nat.cast_one, mul_one, decide_eq_true hdrift, Bool.true_or, if_true]

end

/-! Return frames (R229, R251, R262 to R265). -/

section
variable {s : State} {ch : Fin 64} {bs : List Block} (hon : (s.hlOf ch.val).state ≠ .off)
include hon

/-- A frame that fails its check, and is not the fourth in a row, is counted, raises HL_RX_CRC and is discarded. -/
theorem exec_hlReturnFrame_bad (hbad : returnGood bs = false) (hrun : (s.hlOf ch.val).badRun < 3) : exec (.hlReturnFrame ch bs) s =
    .next ((((s.bump (Reg.HL_RX_BAD ch.val)).orW (Reg.HL_ERR ch.val) 2).raiseE 0x080E 0 [wd ch.val]).setHl ch.val
      { s.hlOf ch.val with badRun := (s.hlOf ch.val).badRun + 1 }) :=
  (if_neg (by simpa using hon)).trans ((if_pos (by simp [hbad])).trans (congrArg _ (if_neg (by omega))))

theorem exec_hlReturnFrame_unlaid (hgood : returnGood bs = true) (hlaid : returnLaid bs = false) :
    exec (.hlReturnFrame ch bs) s = .next (s.setHl ch.val { s.hlOf ch.val with badRun := 0 }) :=
  (if_neg (by simpa using hon)).trans ((if_neg (by simp [hgood])).trans (if_pos (by simp [hlaid])))

theorem exec_hlReturnFrame_laid (hgood : returnGood bs = true) (hlaid : returnLaid bs = true) (hquiet : (returnFrame bs).reports = []) :
    exec (.hlReturnFrame ch bs) s = .next ((((s.headStatus ch.val (returnFrame bs)).headKey ch.val (returnFrame bs).keyEpoch
      (returnFrame bs).keyActive).headMismatch ch.val (returnFrame bs)).headErrors ch.val (returnFrame bs)) :=
  (if_neg (by simpa using hon)).trans ((if_neg (by simp [hgood])).trans ((if_neg (by simp [hlaid])).trans (by rw [hquiet]; rfl)))

end

/-- The status words of a return frame in their registers. -/
def State.headWords (s : State) (ch : Nat) (f : ReturnFrame) : State :=
  ((((s.wr (Reg.HL_TEMP01 ch) (wd (f.temp0.toNat + f.temp1.toNat * 2 ^ 16))).wr (Reg.HL_TEMP23 ch)
    (wd (f.temp2.toNat + f.temp3.toNat * 2 ^ 16))).wr (Reg.HL_SUPPLY ch) (wd (f.supply.toNat + f.hfault.toNat * 2 ^ 16))).wr (Reg.HL_PORT ch)
    (wd (f.used.toNat + f.p0Valid.toNat * 2 + f.p1Valid.toNat * 4 + f.keyActive.toNat * 8 + f.wiring.toNat * 16))).wr (Reg.HL_KEY ch) f.keyEpoch

/-- The head's state as a return frame gives it. -/
def Hl.reported (h : Hl) (f : ReturnFrame) : Hl := { h with used := f.used, hstate := f.hstate.toNat, loaded := f.loaded, badRun := 0 }

/-- A frame of a head without reports, errors, change of port or higher key: its words are stored and the link's runs of errors end. -/
def State.headQuiet (s : State) (ch : Nat) (f : ReturnFrame) : State :=
  ((((s.headWords ch f).modHl ch (fun h => h.reported f)).seeEpoch f.keyEpoch).modHl ch (fun h => { h with mmRun := false })).modHl ch
    (fun h => { h with dmissRun := false })

section
variable (s : State) (ch : Nat) (f : ReturnFrame)

theorem State.hlOf_headWords (k : Nat) : (s.headWords ch f).hlOf k = s.hlOf k := by
  rw [State.headWords, State.hlOf_wr, State.hlOf_wr, State.hlOf_wr, State.hlOf_wr, State.hlOf_wr]

theorem State.headWords_twin : (s.headWords ch f).twin = s.twin := by
  rw [State.headWords, State.wr_twin, State.wr_twin, State.wr_twin, State.wr_twin, State.wr_twin]

theorem State.rd_headWords_key : (s.headWords ch f).rd (Reg.HL_KEY ch) = f.keyEpoch := State.rd_wr_self ..

theorem State.rd_headWords_temp01 : (s.headWords ch f).rd (Reg.HL_TEMP01 ch) = wd (f.temp0.toNat + f.temp1.toNat * 2 ^ 16) := by
  rw [State.headWords, State.rd_wr_ne _ _ (by unfold Reg.HL_TEMP01 Reg.HL_KEY; omega),
    State.rd_wr_ne _ _ (by unfold Reg.HL_TEMP01 Reg.HL_PORT; omega), State.rd_wr_ne _ _ (by unfold Reg.HL_TEMP01 Reg.HL_SUPPLY; omega),
    State.rd_wr_ne _ _ (by unfold Reg.HL_TEMP01 Reg.HL_TEMP23; omega), State.rd_wr_self]

theorem State.rd_seeEpoch (e : Word) (a : Nat) : (s.seeEpoch e).rd a = s.rd a := by
  unfold State.seeEpoch
  split <;> rfl

theorem State.hlOf_seeEpoch (e : Word) (k : Nat) : (s.seeEpoch e).hlOf k = s.hlOf k := by
  unfold State.seeEpoch
  split <;> rfl

theorem State.rd_headQuiet (a : Nat) : (s.headQuiet ch f).rd a = (s.headWords ch f).rd a := by
  rw [State.headQuiet, State.rd_modHl, State.rd_modHl, State.rd_seeEpoch, State.rd_modHl]

theorem State.hlOf_headQuiet : (s.headQuiet ch f).hlOf ch = { (s.hlOf ch).reported f with mmRun := false, dmissRun := false } := by
  rw [State.headQuiet, State.hlOf_modHl_self, State.hlOf_modHl_self, State.hlOf_seeEpoch, State.hlOf_modHl_self, State.hlOf_headWords]

end

section
variable {s : State} {ch : Nat} {f : ReturnFrame}

/-- With the port that the head uses as it was, its status words raise no event. -/
theorem State.headStatus_samePort (hused : f.used = (s.hlOf ch).used) :
    s.headStatus ch f = (s.headWords ch f).modHl ch (fun h => h.reported f) :=
  if_pos ((congrArg Hl.used (s.hlOf_headWords ch f ch)).trans hused.symm)

/-- A key that is neither above the unit's own nor ACTIVE is noted, and nothing else. -/
theorem State.headKey_notHigher {e : Word} (habove : epochAbove e s.twin.epoch = false) : s.headKey ch e false = s.seeEpoch e :=
  if_pos (by simp [habove])

theorem State.headMismatch_none (h : f.mismatch = false) : s.headMismatch ch f = s.modHl ch (fun h => { h with mmRun := false }) := by
  simp only [State.headMismatch, h, Bool.not_false, if_true]

theorem State.headErrors_none (hdmiss : f.dmiss = false) (hwiring : f.wiring = false) :
    s.headErrors ch f = s.modHl ch (fun h => { h with dmissRun := false }) := by
  simp only [State.headErrors, hdmiss, hwiring, Bool.not_false, if_true, Bool.or_false, State.modHl]

end

theorem exec_hlReturnFrame_quiet {s : State} {ch : Fin 64} {bs : List Block} {f : ReturnFrame} (hon : (s.hlOf ch.val).state ≠ .off)
    (hgood : returnGood bs = true) (hlaid : returnLaid bs = true) (hf : f = returnFrame bs) (hreports : f.reports = [])
    (hmismatch : f.mismatch = false) (hdmiss : f.dmiss = false) (hwiring : f.wiring = false) (hused : f.used = (s.hlOf ch.val).used)
    (habove : epochAbove f.keyEpoch s.twin.epoch = false) (hactive : f.keyActive = false) :
    exec (.hlReturnFrame ch bs) s = .next (s.headQuiet ch.val f) := by
  subst hf
  have hown : epochAbove (returnFrame bs).keyEpoch
      ((s.headWords ch.val (returnFrame bs)).modHl ch.val (fun h => h.reported (returnFrame bs))).twin.epoch = false := by
    rw [State.modHl_twin, State.headWords_twin, habove]
  rw [exec_hlReturnFrame_laid hon hgood hlaid hreports, State.headStatus_samePort hused, hactive, State.headKey_notHigher hown,
    State.headMismatch_none hmismatch, State.headErrors_none hdmiss hwiring, State.headQuiet]

/-! Waveform sets (R241, R242, R244, R273). -/

section
variable {s : State} {ch : Fin 64} (hreach : s.dropped (Reg.HL_WCTL ch.val) = none)
include hreach

theorem exec_hlWaveArm_arms (hidle : s.flag (Reg.HL_WCTL ch.val) 0 = false) :
    exec (.hlWaveArm ch 1) s = .next ((s.modHl ch.val (fun h => { h with wlate := false })).setF (Reg.HL_WCTL ch.val) 0 0 1) := by
  refine congrArg _ ((State.gated_of_reaches _ hreach).trans ?_)
  simp only [State.wctlWrite, hidle, show bit 1 1 = false by decide, show bit 1 0 = true by decide, show bit 1 16 = false by decide,
    Bool.not_false, Bool.and_true, Bool.false_eq_true, if_false, if_true]

theorem exec_hlWaveArm_again (harmed : s.flag (Reg.HL_WCTL ch.val) 0 = true) :
    exec (.hlWaveArm ch 1) s = .next (s.setF (Reg.HL_WCTL ch.val) 0 0 1) := by
  refine congrArg _ ((State.gated_of_reaches _ hreach).trans ?_)
  simp only [State.wctlWrite, harmed, show bit 1 0 = true by decide, show bit 1 16 = false by decide,
    Bool.not_true, Bool.and_false, Bool.false_eq_true, if_false, if_true]

theorem exec_hlWaveCancel_drops (harmed : s.flag (Reg.HL_WCTL ch.val) 0 = true) :
    exec (.hlWaveCancel ch 0) s = .next ((s.setF (Reg.HL_WCTL ch.val) 0 0 0).modHl ch.val (fun h => { h with wstage := [], wnext := 0 })) := by
  refine congrArg _ ((State.gated_of_reaches _ hreach).trans ?_)
  simp only [State.wctlWrite, harmed, show bit 0 0 = false by decide, show bit 0 16 = false by decide,
    Bool.not_true, Bool.and_false, Bool.false_eq_true, if_false, if_true]

theorem exec_hlWaveClear_empties (hidle : s.flag (Reg.HL_WCTL ch.val) 0 = false) :
    exec (.hlWaveClear ch 2) s = .next (s.modHl ch.val (fun h => { h with wstage := [], wnext := 0 })) := by
  refine congrArg _ ((State.gated_of_reaches _ hreach).trans ?_)
  simp only [State.wctlWrite, hidle, show bit 2 1 = true by decide, show bit 2 0 = false by decide, show bit 2 16 = false by decide,
    Bool.not_false, Bool.and_true, Bool.false_eq_true, if_false, if_true]

end

/-- Settles O25, clause by clause: faults, return frames, and waveform sets. -/
theorem headLinkFaultsAndWaveforms : Obligations.HeadLinkFaultsAndWaveforms := by
  unfold Obligations.HeadLinkFaultsAndWaveforms
  refine ⟨fun s ch hlock hup => exec_hlLockLost_up hlock hup, fun s ch hup => exec_hlNoReturn_up hup, ?fault,
    fun s ch r ht hup hopen hfirst hdrift => exec_hlLatCheck_drifted hup hopen hfirst hdrift, ?bad,
    fun s ch bs hon hgood hlaid => exec_hlReturnFrame_unlaid hon hgood hlaid, ?good,
    fun s ch v hreach => congrArg _ (State.gated_of_reaches _ hreach),
    fun s ch hreach => ⟨exec_hlWaveArm_arms hreach, exec_hlWaveArm_again hreach⟩,
    fun s ch hreach harmed => exec_hlWaveCancel_drops hreach harmed, fun s ch hreach hidle => exec_hlWaveClear_empties hreach hidle⟩
  case fault =>
    intro s ch cause hup
    refine ⟨s.hlFaulted ch.val cause, State.hlFault_of_up cause hup, s.hlFaulted_frame ch.val cause, ?_, ?_,
      fun k hk => s.hlOf_hlFaulted_ne ch.val cause hk⟩
    · rw [State.hlOf_hlFaulted_self]
    · rw [State.hlOf_hlFaulted_self]
  case bad =>
    intro s ch bs hon hbad hrun
    refine ⟨_, exec_hlReturnFrame_bad hon hbad hrun, State.hlOf_setHl_self .., fun k hk => ?_, ?_, ?_⟩
    · rw [State.hlOf_setHl_ne _ _ hk, State.hlOf_raiseE, State.hlOf_orW, State.hlOf_bump]
    · rw [State.setHl_ctx, State.raiseE_ctx, State.orW_ctx, State.bump_ctx]
    · rw [State.setHl_twin, State.raiseE_twin, State.orW_twin, State.bump_twin]
  case good =>
    intro s ch bs f hon hgood hlaid hf hreports hmismatch hdmiss hwiring hused habove hactive _
    refine ⟨s.headQuiet ch.val f,
      exec_hlReturnFrame_quiet hon hgood hlaid hf hreports hmismatch hdmiss hwiring hused habove hactive, ?_, ?_, ?_, ?_, ?_⟩
    · rw [State.rd_headQuiet, State.rd_headWords_key]
    · exact (State.rd_headQuiet ..).trans (State.rd_headWords_temp01 ..)
    all_goals
      rw [State.hlOf_headQuiet]
      rfl

end Sys2Proof.Machine
end

section
/-!
PROOFS. The twin path: how its messages are judged, and the heartbeat that keeps the pair (O32).
-/
open Sys2Proof
namespace Sys2Proof.Machine

/-! What a message to the partner leaves unchanged. -/

section
variable (s : State)

/-- A packet of the device's own, an IMAGE apart, moves the ports alone. -/
theorem State.sendPacket_portless (tc dest : Nat) {typ : Nat} (data : List DWord) (h : typ ≠ 0x30) :
    (s.sendPacket tc dest typ data).portless = s.portless := by
  unfold State.sendPacket
  dsimp only
  rw [if_neg h]
  split_ifs
  · rfl
  · rw [State.flood_portless, State.newSeq_portless]; rfl
  · rw [State.newSeq_portless]; rfl
  · rw [State.route_portless, State.newSeq_portless]; rfl

@[simp] theorem State.twinMsg_portless (kind : Nat) (data : List DWord) : (s.twinMsg kind data).portless = s.portless := by
  unfold State.twinMsg
  split
  · rfl
  · exact s.sendPacket_portless _ _ _ (by decide)

@[simp] theorem State.twinMsg_twin (kind : Nat) (data : List DWord) : (s.twinMsg kind data).twin = s.twin :=
  State.twin_of_portless (s.twinMsg_portless kind data)

@[simp] theorem State.twinMsg_pos (kind : Nat) (data : List DWord) : (s.twinMsg kind data).pos = s.pos :=
  State.pos_of_portless (s.twinMsg_portless kind data)

end

/-! Messages judged by their epoch (R304). -/

/-- An epoch below another, as serial numbers, is not above it. -/
theorem epochAbove_eq_false {a b : Word} (h : (a - b).toInt < 0) : epochAbove a b = false := decide_eq_false (not_lt.mpr h.le)

section
variable {s : State} {q : Packet} (kind : Nat) (f : State → State)

/-- A message with an epoch below the own is counted and answered. -/
theorem State.twinJudge_stale (h : epochAbove s.twin.epoch (hi32 (pktBlock q 0)) = true) :
    s.twinJudge kind q f = (s.bump Reg.TWIN_STALE).twinMsg 7 [dw s.twin.epoch (wd ((s.twin.role == .active).toNat + kind * 16))] := if_pos h

theorem State.demote_of_notActive (trigger : Nat) (h : s.twin.role ≠ .active) : s.demote trigger = s := if_neg (by simpa using h)

/-- Seeing an epoch moves the greatest epoch seen alone. -/
theorem State.seeEpoch_frame (s : State) (e : Word) : s.seeEpoch e = { s with twin := { s.twin with seen := (s.seeEpoch e).twin.seen } } := by
  unfold State.seeEpoch
  split <;> rfl

/-- A unit that is not active adopts a higher epoch, on which the message has its effect. -/
theorem State.twinJudge_higher (hstale : epochAbove s.twin.epoch (hi32 (pktBlock q 0)) = false)
    (hhigher : epochAbove (hi32 (pktBlock q 0)) s.twin.epoch = true) (hrole : s.twin.role ≠ .active) :
    ∃ seen, s.twinJudge kind q f = f { s with twin := { s.twin with seen := seen, epoch := hi32 (pktBlock q 0) } } := by
  refine ⟨(s.seeEpoch (hi32 (pktBlock q 0))).twin.seen, ?_⟩
  have hsees := s.seeEpoch_frame (hi32 (pktBlock q 0))
  have hkept : (s.seeEpoch (hi32 (pktBlock q 0))).twin.role ≠ .active := by rwa [hsees]
  unfold State.twinJudge
  dsimp only
  rw [hstale, hhigher, if_neg Bool.false_ne_true, if_pos rfl, State.demote_of_notActive 2 hkept]
  exact congrArg (fun u : State => f (u.modTwin (fun t => { t with epoch := hi32 (pktBlock q 0) }))) hsees

end

/-! Messages that are discarded, and those of others than the partner (R301, R306). -/

/-- A packet of TC1 to TC3 that a row is about, and whose LEN does not match, is discarded and counted once its credits are returned. -/
theorem State.fabRecv_lenMismatch {s : State} {k : Nat} {bs : List Block} {q : Packet} {mine ok : Packet → Bool} (deliver : Packet → State → State)
    (hup : s.portUp k = true) (hpkt : packetOf bs = some q) (htc : q.tc ≠ 0) (hlisted : typeOk q.typ.toNat q.tc.toNat = true)
    (hmine : mine q = true) (hok : ok q = false) : s.fabRecv k bs mine ok deliver = (s.giveCredit k q).bump Reg.FAB_DROP := by
  unfold State.fabRecv
  rw [if_pos hup, hpkt]
  simp only [hlisted, hmine, hok, htc, if_false, Bool.not_true, Bool.and_false, Bool.false_eq_true, Bool.not_false, Bool.or_true, if_true]

section
variable {s : State} {k : Nat} {bs : List Block} {q : Packet} {kind : Nat} (len : Packet → Bool) (f : Packet → State → State)

/-- A message that is handed over has no more effect when it is not the partner's, or while the twin path is off. -/
theorem State.twinRecv_stranger (h : s.handsOver k bs q 0x20 = true) (hkind : twinKind q = kind) (hlen : len q = true)
    (hsrc : q.src.toNat ≠ (s.arrives k q).twin.partnerAddr ∨ (s.arrives k q).flag Reg.TWIN_CFG 0 = false) :
    s.twinRecv k bs kind len f = s.arrives k q := by
  have htyp : q.typ.toNat = 0x20 := by
    simp only [State.handsOver, Bool.and_eq_true, decide_eq_true_eq] at h
    tauto
  refine (State.fabRecv_of_handsOver _ h (by simp [htyp, hkind]) (by simp [hkind, hlen])).trans (if_pos ?_)
  rcases hsrc with hsrc | hoff
  · simp [hsrc]
  · simp [hoff]

/-- A message of an unlisted KIND, or of another length, is discarded and counted. -/
theorem State.twinRecv_discards (hlo : 1 ≤ kind) (hhi : kind ≤ 8) (hup : s.portUp k = true) (hpkt : packetOf bs = some q) (htc : q.tc = 1)
    (htyp : q.typ = 0x20) (hbad : twinKind q = 0 ∨ 8 < twinKind q ∨ (twinKind q = kind ∧ len q = false)) :
    s.twinRecv k bs kind len f = (s.giveCredit k q).bump Reg.FAB_DROP := by
  refine State.fabRecv_lenMismatch _ hup hpkt (by rw [htc]; decide) (by rw [htc, htyp]; decide) ?mine ?length
  case mine =>
    rw [htyp]
    rcases hbad with h | h | ⟨h, -⟩ <;> simp [h]
  case length =>
    rw [Bool.and_eq_false_imp, beq_iff_eq]
    intro hkind
    rcases hbad with h | h | ⟨-, h⟩
    · omega
    · omega
    · exact h

end

/-! The heartbeat (R307, R319). -/

theorem State.since_of_elapsed {s : State} {t : DWord} {ns : Nat} (h : t.toNat + ns ≤ s.count.toNat) : s.since t ns = true := decide_eq_true h

theorem exec_twinHbSend_due {s : State} (hen : s.flag Reg.TWIN_CFG 0 = true) (hdue : s.since s.twin.hbTx 50000 = true) :
    exec .twinHbSend s = .next ((s.twinMsg 1 s.hbData).modTwin (fun t => { t with hbTx := s.count })) :=
  if_neg (by simp [hen, hdue])

/-- The partner has been heard (R319, R327): what every heartbeat notes, before its records are taken. -/
def State.heard (s : State) (q : Packet) : State := s.modTwin (fun t => { t with
  hbRx := s.count, partner := true, hbLost := false, lostAt := none, linkLost := false,
  taking := if t.taking == some 1 || t.taking == some 2 then none else t.taking,
  partnerReady := (pktBlock q 2).getLsbD 16,
  join := if !t.partner && t.role == .active then ctxSet (fun n => decide (1 ≤ n) && (s.ctxOf n).state != .idle) else t.join })

/-- A heartbeat of an active that an active hears, with none lost before, is noted and changes nothing else. -/
theorem State.heartbeat_bothActive {s : State} {q : Packet} (hrole : s.twin.role = .active) (hact : (pktBlock q 0).getLsbD 5 = true)
    (hlost : s.twin.hbLost = false) : s.heartbeat q = s.heard q := by
  unfold State.heartbeat
  dsimp only
  rw [hlost, if_neg Bool.false_ne_true]
  simp only [State.modTwin, hrole, hact, if_true]
  simp only [State.heard, State.modTwin, hrole]

theorem exec_twinHeartbeatRx {s : State} {k : Fin 8} {bs : List Block} {q : Packet} (h : s.twinHands k.val bs q 1 = true)
    (hlen : q.data.length = 24) : exec (.twinHeartbeatRx k bs) s = .next ((s.arrives k.val q).heartbeat q) :=
  congrArg _ (State.twinRecv_of_twinHands _ _ h (by simp [hlen]))

/-! Loss of the heartbeat (R319, R320, R326). -/

theorem hlCap0_notMem_evtRegs {ch : Nat} (h : ch < 64) : Reg.HL_CAP0 ch ∉ evtRegs := by
  simp only [evtRegs, List.mem_cons, List.not_mem_nil, or_false, Reg.HL_CAP0, Reg.HOST_EVT_LOST, Reg.CASK_OVERFLOW, Reg.CASK_MISSED, Reg.CASK_SUPPR]
  omega

section
variable {s t : State} (hcap : ∀ ch < 64, t.rd (Reg.HL_CAP0 ch) = s.rd (Reg.HL_CAP0 ch)) (hhl : t.hl = s.hl) (htb : t.tb = s.tb)
include hcap hhl htb

theorem State.headsServed_congr : t.headsServed = s.headsServed := by
  refine List.filter_congr fun ch hch => ?_
  simp only [State.flag, State.since, State.count, hcap ch (List.mem_range.mp hch), State.hlOf_congr hhl ch, htb]
  rfl

theorem State.headsHeld_congr (hpower : t.power = s.power) : t.headsHeld = s.headsHeld := by
  simp only [State.headsHeld, State.headsServed_congr hcap hhl htb, State.hlOf_congr hhl, hpower]

theorem State.majority_congr (hpower : t.power = s.power) : t.majority = s.majority := by
  rw [State.majority, State.headsServed_congr hcap hhl htb, State.headsHeld_congr hcap hhl htb hpower, State.majority]

end

/-- The partner's heartbeat is lost at T_L, counted and reported. -/
def State.hbGone (s : State) : State :=
  ((s.modTwin (fun t => { t with partner := false, hbLost := true, lostAt := some s.count })).bump Reg.TWIN_HB_LOST).raise 0x0A03 0
    [wd s.headsServed.length, wd s.headsHeld.length]

theorem State.hbGone_role (s : State) : s.hbGone.twin.role = s.twin.role := by
  rw [State.hbGone, State.raise_twin, State.bump_twin]
  rfl

theorem State.hbGone_majority (s : State) : s.hbGone.majority = s.majority := by
  refine State.majority_congr (fun ch hch => ?_) (State.raise_hl ..) (State.raise_tb ..) (State.raise_power ..)
  rw [State.hbGone, State.rd_raise _ _ _ _ (hlCap0_notMem_evtRegs hch),
    State.rd_bump_ne _ (by simp only [Reg.HL_CAP0, Reg.TWIN_HB_LOST]; omega)]
  rfl

section
variable {s : State} (hpartner : s.twin.partner = true) (hdue : s.since s.twin.hbRx (s.fld Reg.TWIN_CFG 5 2 * 50000) = true)
include hpartner hdue

/-- An active without its partner settles what waited for it, or demotes without a majority of the heads. -/
theorem exec_twinHbLost_active (hrole : s.twin.role = .active) :
    exec .twinHbLost s = .next (if s.majority then s.hbGone.each s.hbGone.ctxNums State.settleAll else s.hbGone.demote 1) := by
  have hgone := s.hbGone_role
  rw [← s.hbGone_majority]
  refine (if_neg (by simp [hrole, hpartner, hdue])).trans ?_
  change (match s.hbGone.twin.role with | .active => _ | _ => _) = _
  rw [hgone, hrole]
  rfl

/-- A standby with a majority of the heads is to take the role. -/
theorem exec_twinHbLost_standby (hrole : s.twin.role = .standby) (hmajority : s.majority = true) :
    exec .twinHbLost s = .next (s.hbGone.decideTake 1) := by
  have hgone := s.hbGone_role
  rw [← s.hbGone_majority] at hmajority
  refine (if_neg (by simp [hrole, hpartner, hdue])).trans ?_
  change (match s.hbGone.twin.role with | .active => _ | _ => _) = _
  rw [hgone, hrole]
  exact if_pos hmajority

end

section
variable {s : State} {t : DWord} (hlost : s.twin.lostAt = some t) (hdue : s.since t 100000 = true)
include hlost hdue

/-- Unit A takes the role when no head that is served reports a higher KEY_ACTIVE. -/
theorem exec_twinHbDecide2_takes (hrole : s.twin.role = .standby) (htaking : s.twin.taking = none) (hunit : s.power.unitB = false)
    (hheads : s.headsServed.any (fun ch => s.flag (Reg.HL_PORT ch) 3 && epochAbove (s.rd (Reg.HL_KEY ch)) s.twin.epoch) = false) :
    exec .twinHbDecide2 s = .next { s with twin := { s.twin with lostAt := none, taking := some 2, tookAt := s.now } } := by
  change execTwinHbDecide2 s = _
  unfold execTwinHbDecide2
  rw [hlost]
  dsimp only
  rw [if_neg (by simp [hdue]), if_neg (by simp [State.modTwin, hrole, htaking])]
  refine if_pos ?_
  change (!s.power.unitB && !s.headsServed.any _) = true
  rw [hunit]
  exact congrArg Bool.not hheads

/-- An active has nothing more to decide. -/
theorem exec_twinHbDecide2_active (hrole : s.twin.role = .active) :
    exec .twinHbDecide2 s = .next { s with twin := { s.twin with lostAt := none } } := by
  change execTwinHbDecide2 s = _
  unfold execTwinHbDecide2
  rw [hlost]
  dsimp only
  rw [if_neg (by simp [hdue])]
  exact if_pos (by simp [State.modTwin, hrole])

end

/-- A unit that has heard no partner within START_WAIT takes the role (R327). -/
theorem exec_twinStartWaitExpire_due {s : State} {t : DWord} (hwait : s.twin.startWait = some t)
    (hdue : s.since t (s.fld Reg.TWIN_CFG 15 8 * 1000000) = true) :
    exec .twinStartWaitExpire s = .next ((s.orW Reg.TWIN_FAULTS 0x10).takeRole 4) := by
  change execTwinStartWaitExpire s = _
  unfold execTwinStartWaitExpire
  rw [hwait]
  exact if_neg (by simp [hdue])

/-- Settles O32, clause by clause: the judgement of messages, the heartbeat, and its loss. -/
theorem twinMessagesAndHeartbeats : Obligations.TwinMessagesAndHeartbeats := by
  unfold Obligations.TwinMessagesAndHeartbeats
  refine ⟨fun s kind q f => ⟨State.twinJudge_inForce s kind f, fun hstale => State.twinJudge_stale kind f (decide_eq_true hstale), ?higher⟩,
    fun s k bs q kind len f h hkind hlen hsrc => State.twinRecv_stranger len f h hkind hlen hsrc,
    fun s k bs q kind len f hlo hhi hup hpkt htc htyp hbad => State.twinRecv_discards len f hlo hhi hup hpkt htc htyp hbad,
    fun s k bs q h hlen => congrArg _ (State.twinRecv_of_twinHands _ _ h (by simp [hlen])), ?send, ?heard, ?lost,
    fun s t hlost hdue hrole htaking hunit hheads => exec_twinHbDecide2_takes hlost (State.since_of_elapsed hdue) hrole htaking hunit hheads,
    fun s t hlost hdue hrole => exec_twinHbDecide2_active hlost (State.since_of_elapsed hdue) hrole,
    fun s t hwait hdue => exec_twinStartWaitExpire_due hwait (State.since_of_elapsed hdue)⟩
  case higher =>
    intro hhigher hstale hrole
    obtain ⟨seen, hjudge⟩ := State.twinJudge_higher kind f (epochAbove_eq_false hstale) (decide_eq_true hhigher) hrole
    exact ⟨_, hjudge, rfl, rfl, rfl⟩
  case send =>
    intro s hen hdue
    refine ⟨_, exec_twinHbSend_due hen (State.since_of_elapsed hdue), ?_, s.twinMsg_ctx .., s.twinMsg_pos ..⟩
    exact congrArg (fun t : Twin => { t with hbTx := s.count }) (s.twinMsg_twin ..)
  case heard =>
    intro s k bs q h hlen hrole hact hlost
    have htwin := s.arrives_twin k.val q
    refine ⟨_, (exec_twinHeartbeatRx h hlen).trans (congrArg _ (State.heartbeat_bothActive (htwin ▸ hrole) hact (htwin ▸ hlost))),
      rfl, rfl, rfl, rfl, rfl, rfl, (congrArg Twin.role htwin).trans hrole⟩
  case lost =>
    intro s _ hpartner hdue
    have hdue := State.since_of_elapsed hdue
    exact ⟨s.hbGone, rfl, fun hrole hmajority => (exec_twinHbLost_active hpartner hdue hrole).trans (congrArg _ (if_pos hmajority)),
      fun hrole hmajority => (exec_twinHbLost_active hpartner hdue hrole).trans (congrArg _ (if_neg (by simp [hmajority]))),
      fun hrole hmajority => exec_twinHbLost_standby hpartner hdue hrole hmajority⟩

end Sys2Proof.Machine
end

section
/-!
PROOFS. Takeover and planned swaps (O33).
-/
open Sys2Proof
namespace Sys2Proof.Machine

/-! Epochs (R303). -/

theorem bit_succ_zero (w : Word) : bit (w + 1) 0 = !bit w 0 := by
  simp only [bit, BitVec.getLsbD, Nat.testBit_zero, BitVec.toNat_add, show (1 : Word).toNat = 1 from rfl, ← decide_not, decide_eq_decide]
  omega

/-- The smallest epoch above `m` whose bit 0 is `b` is the next one, or the one after it. -/
theorem epochFor_cases (m : Word) (b : Bool) {e : Word} (h : e = if bit (m + 1) 0 == b then m + 1 else m + 2) :
    bit e 0 = b ∧ (e = m + 1 ∨ (e = m + 2 ∧ bit (m + 1) 0 ≠ b)) := by
  by_cases hbit : bit (m + 1) 0 = b
  · rw [if_pos (by simpa using hbit)] at h
    exact ⟨h ▸ hbit, .inl h⟩
  · rw [if_neg (by simpa using hbit)] at h
    refine ⟨?_, .inr ⟨h, hbit⟩⟩
    rw [h, show m + 2 = m + 1 + 1 by rw [BitVec.add_assoc]; rfl, bit_succ_zero]
    exact Bool.not_eq.mpr hbit

/-! The twin path stays when completions are posted, and when the outputs of the control side start or stop. -/

section
variable (s : State)

@[simp] theorem State.cqModerate_twin (n : Nat) (force : Bool) : (s.cqModerate n force).twin = s.twin := by
  unfold State.cqModerate
  dsimp only
  split
  · rw [State.irq_twin, State.setRing_twin]
  · rfl

@[simp] theorem State.complPost_twin (n : Nat) (e : Compl) (lost : Nat) : (s.complPost n e lost).twin = s.twin := by
  rw [State.complPost, State.cqModerate_twin, State.setRing_twin, State.hostWrite_twin]

@[simp] theorem State.cqDrain_twin (n k : Nat) : (s.cqDrain n k).twin = s.twin := by
  induction k generalizing s with
  | zero => rfl
  | succ k ih =>
    unfold State.cqDrain
    dsimp only
    split
    · rfl
    · split
      · rw [ih, State.complPost_twin, State.setRing_twin]
      · split
        · rfl
        · rw [State.complPost_twin, State.setRing_twin]

@[simp] theorem State.complDue_twin (n : Nat) (e : Compl) : (s.complDue n e).twin = s.twin := by
  unfold State.complDue
  dsimp only
  split_ifs <;> simp

@[simp] theorem State.tuneAbort_twin (reason : Nat) : (s.tuneAbort reason).twin = s.twin := by
  unfold State.tuneAbort
  split
  · rfl
  · exact State.raise_twin ..

@[simp] theorem State.kilnGroups_twin : s.kilnGroups.twin = s.twin := State.each_keeps _ State.twin _ _ (fun _ _ => rfl)

@[simp] theorem State.kilnResume_twin : s.kilnResume.twin = s.twin := by
  rw [State.kilnResume, State.kilnGroups_twin, State.tuneAbort_twin]
  exact State.each_keeps _ State.twin _ _ (fun _ _ => rfl)

@[simp] theorem State.loopTracked_twin (n : Nat) : (s.loopTracked n).2.twin = s.twin := by
  unfold State.loopTracked
  split <;> rfl

@[simp] theorem State.loopHold_twin (n : Nat) : (s.loopHold n).twin = s.twin := by
  unfold State.loopHold
  dsimp only
  split
  · rfl
  · rw [State.raise_twin]
    exact s.loopTracked_twin n

@[simp] theorem State.loopUpdate_twin (n : Nat) : (s.loopUpdate n).twin = s.twin := by
  have hrow (u : State) (d : Option Nat) :
      (if (u.loopOf n).drive = d then u else (u.modLoop n (fun l => { l with drive := d })).emit (.loopDrive n d)).twin = u.twin := by
    split <;> rfl
  refine (hrow _ _).trans ?_
  split_ifs
  · exact s.loopHold_twin n
  · rfl
  · rfl

@[simp] theorem State.loopsUpdate_twin : s.loopsUpdate.twin = s.twin := State.each_keeps _ State.twin _ _ State.loopUpdate_twin

@[simp] theorem State.canStart_twin (n : Nat) : (s.canStart n).twin = s.twin := by
  unfold State.canStart
  dsimp only
  (repeat' split) <;> rfl

end

/-! The role and its epoch stay while contexts halt and the control side is taken over. -/

/-- The role, its epoch, and whether completions wait for the end of a takeover. -/
def State.stance (s : State) : Role × Word × Bool := (s.twin.role, s.twin.epoch, s.twin.postHold)

theorem State.stance_of_twin {s t : State} (h : t.twin = s.twin) : t.stance = s.stance := by rw [State.stance, h, State.stance]

section
variable (s : State)

@[simp] theorem State.raise_stance (code n : Nat) (args : List Word) : (s.raise code n args).stance = s.stance :=
  State.stance_of_twin (s.raise_twin code n args)

@[simp] theorem State.twinMsg_stance (kind : Nat) (data : List DWord) : (s.twinMsg kind data).stance = s.stance :=
  State.stance_of_twin (s.twinMsg_twin kind data)

@[simp] theorem State.complDue_stance (n : Nat) (e : Compl) : (s.complDue n e).stance = s.stance := State.stance_of_twin (s.complDue_twin n e)

@[simp] theorem State.tableEffect_stance (n id : Nat) : (s.tableEffect n id).stance = s.stance := by
  unfold State.tableEffect
  split
  · rfl
  · split
    · rfl
    · exact State.twinMsg_stance ..

@[simp] theorem State.settle_stance (n k : Nat) : (s.settle n k).stance = s.stance := by
  induction k generalizing s with
  | zero => rfl
  | succ k ih =>
    unfold State.settle
    dsimp only
    split
    · rfl
    · split
      · rfl
      · split
        · rfl
        · rw [ih]
          split_ifs
          · rw [State.complDue_stance, State.tableEffect_stance]; rfl
          · rw [State.complDue_stance]; rfl
          · rw [State.tableEffect_stance]; rfl
          · rfl

@[simp] theorem State.haltNote_stance (n cause : Nat) : (s.haltNote n cause).stance = s.stance := by
  unfold State.haltNote State.diverge
  split
  · rfl
  · split
    · rfl
    · exact State.twinMsg_stance ..
    · split_ifs
      · rfl
      · rfl
      · exact State.raise_stance ..

@[simp] theorem State.enterHalted_stance (n cause : Nat) : (s.enterHalted n cause).stance = s.stance := by
  unfold State.enterHalted
  dsimp only
  rw [State.haltNote_stance, State.raise_stance, State.settleAll, State.settle_stance,
    State.each_keeps _ State.stance _ (fun s ch => (s.cancelSwitch ch).dropSlots ch) (fun _ _ => rfl)]
  split
  · rfl
  · exact State.stance_of_twin (by rw [State.dropReads_frame]; rfl)

@[simp] theorem State.haltNow_stance (ns : List Nat) (cause : Nat) : (s.haltNow ns cause).stance = s.stance := by
  refine State.each_keeps _ State.stance _ _ fun u n => ?_
  split
  · exact u.enterHalted_stance n cause
  · rfl

@[simp] theorem State.prefToOwn_stance (n : Nat) (old : PState) : (s.prefToOwn n old).stance = s.stance := by
  unfold State.prefToOwn
  dsimp only
  split
  · rw [State.haltNow_stance, State.raise_stance, State.raise_stance]
    rfl
  · rw [State.raise_stance]
    rfl

theorem State.prefsToOwn_stance (l : List (Nat × PState)) : (l.foldl (fun s x => s.prefToOwn x.1 x.2) s).stance = s.stance := by
  induction l generalizing s with
  | nil => rfl
  | cons x l ih => rw [List.foldl_cons, ih, State.prefToOwn_stance]

@[simp] theorem State.ctrlArm_stance : s.ctrlArm.stance = s.stance := by
  unfold State.ctrlArm
  split <;> rfl

@[simp] theorem State.ctrlTake_stance (ready : Bool) : (s.ctrlTake ready).stance = s.stance := by
  unfold State.ctrlTake
  dsimp only
  rw [State.each_keeps _ State.stance _ State.canStart (fun u n => State.stance_of_twin (u.canStart_twin n)),
    State.stance_of_twin (State.loopsUpdate_twin _), State.stance_of_twin (State.kilnResume_twin _)]
  split_ifs
  · rfl
  · exact s.ctrlArm_stance
  · exact State.raise_stance ..

/-- A unit that takes the role is active, with the next epoch of its own; the completions of one that was standby wait (R303, R321). -/
theorem State.takeRole_stance (cause : Nat) : (s.takeRole cause).stance = (.active, s.epochFor s.power.unitB, s.twin.role == .standby) := by
  have hlast (u : State) (e : Word) :
      (match s.twin.swapIn with | some k => if cause = 3 then u.raise 0x0A0A 0 [k, e] else u | none => u).stance = u.stance := by
    split
    · split
      · exact u.raise_stance ..
      · rfl
    · rfl
  refine (hlast _ _).trans ?_
  rw [apply_ite State.stance, State.each_keeps _ State.stance _ (fun s n => s.modCtx n Ctx.tabFlush) (fun _ _ => rfl), State.ctrlTake_stance, ite_self,
    State.prefsToOwn_stance, State.raise_stance]
  rfl

end

/-! Taking the role at a frame boundary (R321), and posting again (R323). -/

section
variable {s : State} {c : Nat} (htaking : s.twin.taking = some c)
include htaking

theorem exec_twinTakeover_boundary (hrole : s.twin.role = .standby) (hframe : s.count + 640 = s.pos.frame.next) :
    exec .twinTakeover s = .next (s.takeRole c) := by
  change execTwinTakeover s = _
  rw [execTwinTakeover, htaking]
  exact congrArg _ (if_pos (by simp only [hrole, hframe, beq_self_eq_true, Bool.and_self]))

theorem exec_twinTakeover_between (hframe : s.count + 640 ≠ s.pos.frame.next) : exec .twinTakeover s = .next s := by
  change execTwinTakeover s = _
  rw [execTwinTakeover, htaking]
  exact congrArg _ (if_neg (by simp only [Bool.and_eq_true, beq_iff_eq, hframe, and_false, not_false_eq_true]))

end

/-- What neither the scan of a completion ring nor posting moves. -/
def State.beyondRings (s : State) := (s.beyondHost, s.twin)

theorem State.ringRead_beyondRings (s : State) (n a k : Nat) : (s.ringRead n a k).beyondRings = s.beyondRings := by
  unfold State.ringRead
  split <;> rfl

theorem State.setRing_beyondRings (s : State) (n : Nat) (r : CtxRing) : (s.setRing n r).beyondRings = s.beyondRings := rfl

theorem State.cqDrain_beyondRings (s : State) (n k : Nat) : (s.cqDrain n k).beyondRings = s.beyondRings :=
  Prod.ext (s.cqDrain_beyondHost n k) (s.cqDrain_twin n k)

theorem State.modTwin_beyondRings {s u : State} (f : Twin → Twin) (h : u.beyondRings = s.beyondRings) :
    (u.modTwin f).beyondRings = (s.modTwin f).beyondRings := congrArg (fun x => (x.1, f x.2)) h

/-- Posting resumes: the hold ends, and beyond the rings nothing else changes. -/
theorem exec_twinPostResume_due {s : State} (ph : List (Fin 64 × List Bool)) (hrole : s.twin.role = .active) (hhold : s.twin.postHold = true)
    (hdue : s.twin.tookAt.toNat + 300000 ≤ s.now.toNat) :
    ∃ t, exec (.twinPostResume ph) s = .next t ∧ t.beyondRings = (s.modTwin (fun t => { t with postHold := false })).beyondRings := by
  refine ⟨_, if_neg (by simp [hrole, hhold, hdue]), ?_⟩
  rw [State.each_keeps _ State.beyondRings _ (fun s n => s.cqDrain n 64) (fun u n => u.cqDrain_beyondRings n 64)]
  refine State.modTwin_beyondRings _ (State.each_keeps s State.beyondRings _ _ fun u n => ?_)
  split
  · rfl
  · rw [State.setRing_beyondRings, State.ringRead_beyondRings, State.ringRead_beyondRings]

/-! Planned swaps (R328, R329). -/

section
variable {s : State}

/-- A request for a swap is noted on the active, once. -/
theorem State.swapReq_active (hrole : s.twin.role = .active) (hswap : s.twin.swap = none) :
    s.swapReq = { s with twin := { s.twin with swap := some { since := s.count } } } := if_neg (by simp [hrole, hswap])

theorem State.swapReq_notActive (hrole : s.twin.role ≠ .active) : s.swapReq = s := if_pos (by simp [hrole])

theorem exec_twinSwapTimer_due (hmode : s.flag Reg.TWIN_CFG 1 = true)
    (hdue : s.since s.twin.chgAt (s.fld Reg.TWIN_CFG 26 16 * 60000000000) = true) : exec .twinSwapTimer s = .next s.swapReq :=
  if_pos (by simp [hmode, hdue])

theorem exec_twinSwapNow (hreach : s.dropped Reg.TWIN_SWAP_CMD = none) : exec .twinSwapNow s = .next s.swapReq :=
  congrArg _ (State.gated_of_reaches _ hreach)

theorem exec_twinSwapCancel (hreach : s.dropped Reg.TWIN_SWAP_CMD = none) : exec .twinSwapCancel s =
    .next (if s.twin.swap.any (fun w => w.sent.isNone) then { s with twin := { s.twin with swap := none } } else s) :=
  congrArg _ (State.gated_of_reaches _ hreach)

/-- A swap that has waited 60 s without REDUNDANT is reported with reason 2. -/
theorem exec_twinSwapDeferred_notRedundant {w : Swap} (hswap : s.twin.swap = some w) (hdeferred : w.deferred = false) (hsent : w.sent = none)
    (hdue : s.since w.since 60000000000 = true) (hredundant : s.redundant = false) : exec .twinSwapDeferred s =
    .next (({ s with twin := { s.twin with swap := some { w with deferred := true } } } : State).raiseE 0x0A0B 0 [2]) := by
  change execTwinSwapDeferred s = _
  rw [execTwinSwapDeferred, hswap]
  dsimp only
  rw [if_neg (by simp [hdeferred, hsent, hdue]), hredundant]
  rfl

end

/-- Settles O33, clause by clause: the takeover, the epochs, posting again, and swaps. -/
theorem takeoverAndSwap : Obligations.TakeoverAndSwap := by
  unfold Obligations.TakeoverAndSwap
  refine ⟨?takeover, fun s c htaking hframe => exec_twinTakeover_between htaking hframe, ?epoch, ?resume, ?timer, ?now, ?idle, ?cancel, ?deferred⟩
  case takeover =>
    intro s c htaking hrole hframe
    have hstance := s.takeRole_stance c
    simp only [State.stance, Prod.mk.injEq, hrole] at hstance
    exact ⟨_, exec_twinTakeover_boundary htaking hrole hframe, hstance⟩
  case epoch =>
    intro s b m hm
    refine epochFor_cases m b ?_
    rw [hm, State.epochFor]
    simp only [epochAbove, decide_eq_true_eq]
  case resume =>
    intro s ph hrole hhold hdue
    obtain ⟨t, ht, hkept⟩ := exec_twinPostResume_due ph hrole hhold hdue
    simp only [State.beyondRings, State.beyondHost, Prod.mk.injEq] at hkept
    obtain ⟨⟨hctx, -, hhl, hpos, -, -⟩, htwin⟩ := hkept
    exact ⟨t, ht, htwin, hctx, hpos, hhl⟩
  case timer =>
    intro s hmode hdue hrole hswap
    rw [exec_twinSwapTimer_due hmode (State.since_of_elapsed hdue), State.swapReq_active hrole hswap]
  case now =>
    intro s hreach hrole hswap
    rw [exec_twinSwapNow hreach, State.swapReq_active hrole hswap]
  case idle =>
    intro s hreach hrole
    rw [exec_twinSwapNow hreach, State.swapReq_notActive hrole]
  case cancel =>
    intro s w hreach hswap
    refine ⟨fun hsent => ?_, fun hsent => ?_⟩
    · exact (exec_twinSwapCancel hreach).trans (congrArg _ (if_pos (by simp [hswap, hsent])))
    · exact (exec_twinSwapCancel hreach).trans (congrArg _ (if_neg (by simp [hswap, Option.isSome_iff_ne_none.mp hsent])))
  case deferred =>
    intro s w hswap hdeferred hsent hdue hredundant
    exact exec_twinSwapDeferred_notRedundant hswap hdeferred hsent (State.since_of_elapsed hdue) hredundant

end Sys2Proof.Machine
end

section
/-!
PROOFS. The commands of Kiln and its tunes (O38): the window, mode commands (R367, R371, R382, R384), and the relay tune (R375, R378).
-/
open Sys2Proof
namespace Sys2Proof.Machine

/-! Loops and rate groups read back. -/

section
variable (s : State)

@[simp] theorem State.kloop_setKloop_self (n : Nat) (l : KLoop) : (s.setKloop n l).kloop n = l := SMap.get_set_self ..

theorem State.kloop_setKloop_ne {n k : Nat} (l : KLoop) (h : k ≠ n) : (s.setKloop n l).kloop k = s.kloop k := SMap.get_set_ne _ _ _ _ h

@[simp] theorem State.kloop_modKloop_self (n : Nat) (f : KLoop → KLoop) : (s.modKloop n f).kloop n = f (s.kloop n) := SMap.get_set_self ..

theorem State.kloop_modKloop_ne {n k : Nat} (f : KLoop → KLoop) (h : k ≠ n) : (s.modKloop n f).kloop k = s.kloop k :=
  SMap.get_set_ne _ _ _ _ h

@[simp] theorem State.kgrp_setKgrp_self (g : Nat) (x : KGroup) : (s.setKgrp g x).kgrp g = x := SMap.get_set_self ..

theorem State.kgrp_setKgrp_ne {g k : Nat} (x : KGroup) (h : k ≠ g) : (s.setKgrp g x).kgrp k = s.kgrp k := SMap.get_set_ne _ _ _ _ h

theorem State.kloop_congr {s t : State} (h : t.kiln.loop = s.kiln.loop) (n : Nat) : t.kloop n = s.kloop n := by
  rw [State.kloop, h, State.kloop]

theorem State.kgrp_congr {s t : State} (h : t.kiln.grp = s.kiln.grp) (g : Nat) : t.kgrp g = s.kgrp g := by
  rw [State.kgrp, h, State.kgrp]

end

/-! A write of KILN_CMD that reaches Kiln (R367, R371, R378, R382, R384). -/

theorem State.kilnCmd_of_reaches {s : State} (f : Nat → State → Out) (h : s.dropped Reg.KILN_CMD = none) :
    s.kilnCmd f = f (s.fld Reg.KILN_INDEX 8 0) s := by
  rw [State.kilnCmd, h]

/-- The entry that stands in the window. -/
def State.kilnWindow (s : State) : List Word := (List.range 13).map (fun k => s.rd (Reg.KILN_W k))

/-- The window shows an entry. -/
def State.showEntry (s : State) (e : List Word) : State := s.each (List.range 16) (fun s k => s.wr (Reg.KILN_W k) (nthW (padTo 16 0 e) k))

/-- The state registers show a loop, and the command is done. -/
def State.showLoop (s : State) (l : KLoop) : State :=
  let s := s.wr Reg.KILN_ST0 (wd (l.mode + l.forced.toNat * 4 + l.bad.toNat * 8 + (decide (l.u ≤ l.i32 8) || decide (l.i32 9 ≤ l.u)).toNat * 16))
  let s := ((s.wr Reg.KILN_ST1 (wi l.pv)).wr Reg.KILN_ST2 (wi l.sp)).wr Reg.KILN_ST3 (wi l.lastOut)
  let s := s.wr64 Reg.KILN_ST4 (BitVec.ofInt 64 l.i)
  ((s.wr Reg.KILN_ST6 (wd l.ts)).wr Reg.KILN_ST7 l.count).kilnResult 0

theorem nthW_padTo (e : List Word) {n k : Nat} (h : k < n) : nthW (padTo n 0 e) k = nthW e k := by
  simp only [nthW, padTo, List.getD_eq_getElem?_getD, List.getElem?_take_of_lt h, List.getElem?_append, List.getElem?_replicate]
  split
  · rfl
  · next hlen => rw [List.getElem?_eq_none (Nat.le_of_not_lt hlen)]; split <;> rfl

section
variable (s : State)

theorem State.rd_showEntry (e : List Word) {k : Nat} (h : k < 16) : (s.showEntry e).rd (Reg.KILN_W k) = nthW e k := by
  refine State.each_reaches (P := fun u => u.rd (Reg.KILN_W k) = nthW e k) (Q := fun _ => True) (fun _ _ _ _ => trivial) ?here ?stay
    (List.mem_range.mpr h) trivial
  case here =>
    intro u _
    rw [State.rd_wr_self, nthW_padTo e h]
  case stay =>
    intro u m hu
    by_cases hm : m = k
    · subst hm
      rw [State.rd_wr_self, nthW_padTo e h]
    · rwa [State.rd_wr_ne _ _ (by unfold Reg.KILN_W; omega)]

theorem State.rd_showLoop_window (l : KLoop) {k : Nat} (h : k < 16) : (s.showLoop l).rd (Reg.KILN_W k) = s.rd (Reg.KILN_W k) := by
  have hapart (a : Nat) (ha : a < Reg.KILN_W 0 ∨ Reg.KILN_W 15 < a) : Reg.KILN_W k ≠ a := by
    simp only [Reg.KILN_W] at *
    omega
  simp (disch := decide) only [State.showLoop, State.kilnResult, State.wr64, State.rd_wr, hapart, if_false]

theorem State.rd_showLoop (l : KLoop) : (s.showLoop l).rd Reg.KILN_ST1 = wi l.pv ∧ (s.showLoop l).rd Reg.KILN_ST2 = wi l.sp ∧
    (s.showLoop l).rd Reg.KILN_ST3 = wi l.lastOut ∧ (s.showLoop l).rd Reg.KILN_ST7 = l.count ∧ (s.showLoop l).rd Reg.KILN_RESULT = 0 := by
  simp (disch := decide) only [State.showLoop, State.kilnResult, State.wr64, State.rd_wr_ne, State.rd_wr_self, true_and]
  rfl

end

/-- What stands beside the registers. -/
def State.besideRegs (s : State) : State := { s with regs := [] }

theorem State.eq_of_besideRegs {s t : State} (h : t.besideRegs = s.besideRegs) : t = { s with regs := t.regs } :=
  congrArg (fun u : State => { u with regs := t.regs }) h

section
variable (s : State)

@[simp] theorem State.wr_besideRegs (a : Nat) (v : Word) : (s.wr a v).besideRegs = s.besideRegs := rfl

theorem State.showEntry_besideRegs (e : List Word) : (s.showEntry e).besideRegs = s.besideRegs :=
  State.each_keeps s State.besideRegs _ _ (fun u _ => u.wr_besideRegs _ _)

theorem State.showLoop_besideRegs (l : KLoop) : (s.showLoop l).besideRegs = s.besideRegs := by
  simp only [State.showLoop, State.kilnResult, State.wr64, State.wr_besideRegs]

end

section
variable {s : State} (hreach : s.dropped Reg.KILN_CMD = none)
include hreach

theorem exec_kilnCmdWrite : exec .kilnCmdWrite s =
    if s.kilnBad (s.fld Reg.KILN_INDEX 8 0) s.kilnWindow then .next (s.hostError 382) else
    .next (((if s.tuning (s.fld Reg.KILN_INDEX 8 0) then s.tuneAbort 3 else s).modKloop (s.fld Reg.KILN_INDEX 8 0)
      (fun l => { l with pend := some s.kilnWindow })).kilnResult 0) := by
  change execKilnCmdWrite s = _
  rw [execKilnCmdWrite, State.kilnCmd_of_reaches _ hreach, State.kilnWindow]

theorem exec_kilnCmdWrite_bad (hbad : s.kilnBad (s.fld Reg.KILN_INDEX 8 0) s.kilnWindow = true) :
    exec .kilnCmdWrite s = .next (s.hostError 382) :=
  (exec_kilnCmdWrite hreach).trans (if_pos hbad)

theorem exec_kilnCmdWrite_waits (hok : s.kilnBad (s.fld Reg.KILN_INDEX 8 0) s.kilnWindow = false)
    (hidle : s.tuning (s.fld Reg.KILN_INDEX 8 0) = false) : exec .kilnCmdWrite s =
    .next ((s.modKloop (s.fld Reg.KILN_INDEX 8 0) (fun l => { l with pend := some s.kilnWindow })).kilnResult 0) := by
  rw [exec_kilnCmdWrite hreach, if_neg (ne_true_of_eq_false hok), if_neg (ne_true_of_eq_false hidle)]

theorem exec_kilnCmdRead : exec .kilnCmdRead s =
    .next ((s.showEntry ((s.kloop (s.fld Reg.KILN_INDEX 8 0)).pend.getD (s.kloop (s.fld Reg.KILN_INDEX 8 0)).entry)).showLoop
      (s.kloop (s.fld Reg.KILN_INDEX 8 0))) := by
  change execKilnCmdRead s = _
  rw [execKilnCmdRead, State.kilnCmd_of_reaches _ hreach]
  simp only [State.showEntry, State.showLoop]

theorem State.kilnReq_idle (m : Nat) (hidle : s.tuning (s.fld Reg.KILN_INDEX 8 0) = false) :
    s.kilnReq m = .next ((s.modKloop (s.fld Reg.KILN_INDEX 8 0) (fun l => { l with req := some m })).kilnResult 0) := by
  rw [State.kilnReq, State.kilnCmd_of_reaches _ hreach, hidle]
  rfl

theorem State.kilnReq_tuning (m : Nat) (htuning : s.tuning (s.fld Reg.KILN_INDEX 8 0) = true) : s.kilnReq m =
    .next (((s.tuneAbort 3).modKloop (s.fld Reg.KILN_INDEX 8 0) (fun l => { l with req := some m })).kilnResult 0) := by
  rw [State.kilnReq, State.kilnCmd_of_reaches _ hreach, htuning]
  rfl

end

/-! Tunes (R375, R378). -/

/-- Replace the tune in progress. -/
def State.setTune (s : State) (t : Option Tune) : State := { s with kiln := { s.kiln with tune := t } }

theorem State.kloop_setTune (s : State) (t : Option Tune) (n : Nat) : (s.setTune t).kloop n = s.kloop n := rfl

theorem State.rd_setTune (s : State) (t : Option Tune) (a : Nat) : (s.setTune t).rd a = s.rd a := rfl

/-- A tune of the loop would take the output beyond a limit of its entry (R375). -/
def State.tuneBeyond (s : State) (n : Nat) : Bool :=
  (s.kloop n).i32 9 < (s.kloop n).u + (s.rd Reg.KILN_TUNE_D).toInt || (s.kloop n).u - (s.rd Reg.KILN_TUNE_D).toInt < (s.kloop n).i32 8

/-- The tune that starts at a loop, and the loop in it (R375). -/
def State.tuneBegin (s : State) (n : Nat) : State :=
  (((s.modKloop n (fun l => { l with mode := 3, req := none })).wr Reg.KILN_TUNE_STATUS 1).setTune
    (some { loop := n, u0 := (s.kloop n).u, prev := (s.kloop n).mode, start := s.now })).kilnResult 0

section
variable (s : State)

theorem State.tuneBegin_frame (n : Nat) : s.tuneBegin n = { s with regs := (s.tuneBegin n).regs, kiln := (s.tuneBegin n).kiln } := rfl

theorem State.kloop_tuneBegin (n k : Nat) : (s.tuneBegin n).kloop k = (s.modKloop n (fun l => { l with mode := 3, req := none })).kloop k := rfl

theorem State.kloop_tuneBegin_self (n : Nat) : (s.tuneBegin n).kloop n = { s.kloop n with mode := 3, req := none } := by
  rw [State.kloop_tuneBegin, State.kloop_modKloop_self]

theorem State.kloop_tuneBegin_ne {n k : Nat} (h : k ≠ n) : (s.tuneBegin n).kloop k = s.kloop k := by
  rw [State.kloop_tuneBegin, State.kloop_modKloop_ne _ _ h]

theorem State.rd_tuneBegin_status (n : Nat) : (s.tuneBegin n).rd Reg.KILN_TUNE_STATUS = 1 := by
  rw [State.tuneBegin, State.kilnResult, State.rd_wr_ne _ _ (by decide), State.rd_setTune, State.rd_wr_self]

end

section
variable {s : State} (hreach : s.dropped Reg.KILN_CMD = none)
include hreach

theorem exec_kilnTuneCancel : exec .kilnTuneCancel s = .next ((s.tuneAbort 3).kilnResult 0) := by
  change execKilnTuneCancel s = _
  rw [execKilnTuneCancel, State.kilnCmd_of_reaches _ hreach]

variable {n : Nat} (hn : n = s.fld Reg.KILN_TUNE_CFG 8 0)
include hn

theorem exec_kilnTuneStart : exec .kilnTuneStart s =
    if s.kiln.tune.isSome then .next (s.kilnResult 1)
    else if !entryEn (s.kloop n).entry || (s.kloop n).mode = 0 then .next (s.kilnResult 2)
    else if s.tuneBeyond n then .next (s.kilnResult 3) else .next (s.tuneBegin n) := by
  subst hn
  change execKilnTuneStart s = _
  rw [execKilnTuneStart, State.kilnCmd_of_reaches _ hreach]
  rfl

theorem exec_kilnTuneStart_off (hnone : s.kiln.tune = none) (hoff : (s.kloop n).mode = 0) : exec .kilnTuneStart s = .next (s.kilnResult 2) := by
  rw [exec_kilnTuneStart hreach hn, if_neg (by simp [hnone]), if_pos (by simp [hoff])]

theorem exec_kilnTuneStart_enabled (hnone : s.kiln.tune = none) (hen : entryEn (s.kloop n).entry = true) (hmode : (s.kloop n).mode ≠ 0) :
    exec .kilnTuneStart s = if s.tuneBeyond n then .next (s.kilnResult 3) else .next (s.tuneBegin n) := by
  rw [exec_kilnTuneStart hreach hn, if_neg (by simp [hnone]), if_neg (by simp [hen, hmode])]

end

/-- The loop as a tune without a result leaves it (R378): in its mode before, to go on from output u0. -/
def Tune.restore (t : Tune) (l : KLoop) : KLoop := { l with mode := t.prev, uInit := some t.u0 }

section
variable {s : State} {t : Tune} (htune : s.kiln.tune = some t)
include htune

theorem State.tuneAbort_of_tune (r : Nat) : s.tuneAbort r =
    ((((s.modKloop t.loop t.restore).setTune none).wr Reg.KILN_TUNE_STATUS (tuneStatus 4 t.n r)).orW Reg.KILN_FAULTS 8).raise 0x0C05 0
      [wd t.loop, wd r] := by
  rw [State.tuneAbort, htune]
  rfl

theorem State.kiln_tuneAbort (r : Nat) : (s.tuneAbort r).kiln = ((s.modKloop t.loop t.restore).setTune none).kiln := by
  rw [State.tuneAbort_of_tune htune, State.raise_kiln, State.orW_kiln, State.wr_kiln]

theorem State.kloop_tuneAbort (r k : Nat) : (s.tuneAbort r).kloop k = (s.modKloop t.loop t.restore).kloop k := by
  rw [State.kloop_congr (congrArg Kiln.loop (State.kiln_tuneAbort htune r)), State.kloop_setTune]

theorem State.rd_tuneAbort_status (r : Nat) : (s.tuneAbort r).rd Reg.KILN_TUNE_STATUS = tuneStatus 4 t.n r := by
  rw [State.tuneAbort_of_tune htune, State.rd_raise _ _ _ _ (by decide), State.rd_orW_ne _ _ (by decide), State.rd_wr_self]

/-- Kiln runs and its clock too: what the time limit of a tune does. -/
theorem exec_kilnTuneTimeout_running (hruns : s.kilnRuns = true) (hlock : s.pllLost .control = false) : exec .kilnTuneTimeout s =
    .next (if t.start.toNat + s.fld Reg.KILN_TUNE_LIMIT 15 0 * 1000000000 ≤ s.now.toNat then s.tuneAbort 2 else s) := by
  change execKilnTuneTimeout s = _
  simp only [execKilnTuneTimeout, htune, hruns, hlock, Bool.not_false, Bool.and_self, Bool.true_and, decide_eq_true_eq]

end

/-- Settles O38, clause by clause: the entry in the window, mode commands, then tunes that start and end. -/
theorem kilnCommandsAndTunes : Obligations.KilnCommandsAndTunes := by
  unfold Obligations.KilnCommandsAndTunes
  refine ⟨?write, ?read, ?modes, ?off, ?start, ?cancel, ?timeout, ?abort⟩
  case write =>
    rintro s n e hreach rfl rfl
    exact ⟨exec_kilnCmdWrite_bad hreach, exec_kilnCmdWrite_waits hreach⟩
  case read =>
    rintro s n hreach rfl
    refine ⟨_, exec_kilnCmdRead hreach, ?frame, fun k hk => ?window, State.rd_showLoop _ _⟩
    case frame => exact State.eq_of_besideRegs ((State.showLoop_besideRegs _ _).trans (State.showEntry_besideRegs _ _))
    case window => rw [State.rd_showLoop_window _ _ (by omega), State.rd_showEntry _ _ (by omega)]
  case modes =>
    rintro s n hreach rfl hidle
    exact ⟨State.kilnReq_idle hreach 1 hidle, State.kilnReq_idle hreach 2 hidle, State.kilnReq_idle hreach 0 hidle⟩
  case off =>
    rintro s n hreach rfl htuning
    exact State.kilnReq_tuning hreach 0 htuning
  case start =>
    intro s n hreach hn
    refine ⟨fun hbusy => (exec_kilnTuneStart hreach hn).trans (if_pos hbusy), exec_kilnTuneStart_off hreach hn, fun hnone hen hmode hhigh => ?beyond,
      fun hnone hen hmode hhigh hlow => ?starts⟩
    case beyond => rw [exec_kilnTuneStart_enabled hreach hn hnone hen hmode, if_pos (by simp [State.tuneBeyond, hhigh])]; rfl
    case starts =>
      have hexec := exec_kilnTuneStart_enabled hreach hn hnone hen hmode
      rw [if_neg (by simp [State.tuneBeyond, hhigh, hlow])] at hexec
      exact ⟨_, hexec, s.tuneBegin_frame n, by rw [s.kloop_tuneBegin_self n], ⟨_, rfl, rfl, rfl, rfl, rfl⟩, s.rd_tuneBegin_status n,
        State.rd_wr_self .., fun k hk => s.kloop_tuneBegin_ne hk⟩
  case cancel => exact fun s hreach => exec_kilnTuneCancel hreach
  case timeout =>
    intro s t htune hruns hlock
    have hexec := exec_kilnTuneTimeout_running htune hruns hlock
    exact ⟨fun hdue => by rw [hexec, if_pos hdue], fun hearly => by rw [hexec, if_neg (by omega)]⟩
  case abort =>
    intro s t r htune
    refine ⟨congrArg Kiln.tune (State.kiln_tuneAbort htune r), ?_, ?_, State.rd_tuneAbort_status htune r, fun k hk => ?_⟩
    · rw [State.kloop_tuneAbort htune, State.kloop_modKloop_self, Tune.restore]
    · rw [State.kloop_tuneAbort htune, State.kloop_modKloop_self, Tune.restore]
    · rw [State.kloop_tuneAbort htune, State.kloop_modKloop_ne _ _ hk]

end Sys2Proof.Machine
end

section
/-!
PROOFS. The rate groups of Kiln and its outputs (O39): EN (R368), the start of a group (R365, R366), its output write (R374), and the limits
of a computation (R372, R373).
-/
open Sys2Proof
namespace Sys2Proof.Machine

/-- A key that a map does not list reads as the default. -/
theorem SMap.get_of_notMem {α : Type} {m : SMap α} {i : Nat} (d : α) (h : i ∉ m.map Prod.fst) : m.get d i = d := by
  induction m with
  | nil => rfl
  | cons e r ih =>
    rw [List.map_cons, List.mem_cons, not_or] at h
    rw [SMap.get, SMap.find, if_neg h.1]
    exact ih h.2

/-! Kiln is enabled (R368). -/

/-- A loop as EN leaves it: initialised if it is enabled. -/
def KLoop.enable (l : KLoop) : KLoop := if entryEn l.entry then l.init else l

theorem KLoop.enable_enable (l : KLoop) : l.enable.enable = l.enable := by
  by_cases hen : entryEn l.entry
  · have hon : l.enable = l.init := if_pos hen
    rw [hon]
    exact if_pos hen
  · have hoff : l.enable = l := if_neg hen
    rw [hoff, hoff]

/-- An idempotent change made to each loop of a list changes the loops listed, and no other, once. -/
theorem State.kloop_each_modKloop {f : KLoop → KLoop} (hf : ∀ l, f (f l) = f l) (ns : List Nat) (s : State) (n : Nat) :
    (s.each ns (fun s n => s.modKloop n f)).kloop n = if n ∈ ns then f (s.kloop n) else s.kloop n := by
  induction ns generalizing s with
  | nil => rfl
  | cons m r ih =>
    refine (ih (s.modKloop m f)).trans ?_
    by_cases hm : n = m
    · subst hm
      simp [hf]
    · simp [State.kloop_modKloop_ne _ _ hm, hm]

/-- Every loop is initialised that is enabled. -/
def State.kilnInits (s : State) : State := s.each (s.kiln.loop.map Prod.fst) (fun s n => s.modKloop n KLoop.enable)

section
variable (s : State)

theorem State.kloop_kilnInits (n : Nat) : s.kilnInits.kloop n = (s.kloop n).enable := by
  rw [State.kilnInits, State.kloop_each_modKloop KLoop.enable_enable]
  split
  · rfl
  · next hn =>
    have hempty : s.kloop n = {} := SMap.get_of_notMem _ hn
    rw [hempty]
    rfl

theorem State.kilnInits_regs : s.kilnInits.regs = s.regs := State.each_keeps s State.regs _ _ (fun _ _ => rfl)

theorem State.kilnGroups_regs : s.kilnGroups.regs = s.regs := State.each_keeps s State.regs _ _ (fun _ _ => rfl)

theorem State.kloop_kilnGroups (n : Nat) : s.kilnGroups.kloop n = s.kloop n :=
  State.each_keeps s (fun u => u.kloop n) _ _ (fun _ _ => rfl)

/-- No output write is due of a group that has just begun. -/
theorem State.kilnGroups_outAt {g : Nat} (hg : g < 8) : (s.kilnGroups.kgrp g).outAt = none := by
  refine State.each_reaches (P := fun u => (u.kgrp g).outAt = none) (Q := fun _ => True) (fun _ _ _ _ => trivial) ?here ?stay
    (List.mem_range.mpr hg) trivial
  case here => exact fun u _ => by rw [State.kgrp_setKgrp_self]
  case stay =>
    intro u m hu
    by_cases hm : g = m
    · subst hm
      rw [State.kgrp_setKgrp_self]
    · rwa [State.kgrp_setKgrp_ne _ _ hm]

theorem State.flag_setF_one (off : Nat) : (s.setF off 0 0 1).flag off 0 = true := by
  rw [State.flag, State.rd_setF_self]
  exact bit_setBit_self _ true (by decide)

end

/-- What stands beside the registers and Kiln. -/
def State.besideKiln (s : State) : State := { s with regs := [], kiln := {} }

theorem State.eq_of_besideKiln {s t : State} (h : t.besideKiln = s.besideKiln) : t = { s with regs := t.regs, kiln := t.kiln } :=
  congrArg (fun u : State => { u with regs := t.regs, kiln := t.kiln }) h

theorem State.kilnInits_besideKiln (s : State) : s.kilnInits.besideKiln = s.besideKiln :=
  State.each_keeps s State.besideKiln _ _ (fun _ _ => rfl)

theorem State.kilnGroups_besideKiln (s : State) : s.kilnGroups.besideKiln = s.besideKiln :=
  State.each_keeps s State.besideKiln _ _ (fun _ _ => rfl)

theorem exec_kilnEnable_off {s : State} (hreach : s.dropped Reg.KILN_CTRL = none) (hoff : s.flag Reg.KILN_CTRL 0 = false) :
    exec .kilnEnable s = .next (s.setF Reg.KILN_CTRL 0 0 1).kilnInits.kilnGroups := by
  change execKilnEnable s = _
  rw [execKilnEnable, State.gated_of_reaches _ hreach, if_neg (ne_true_of_eq_false hoff)]
  rfl

/-! A sample of a loop changes neither the rate groups nor what follows. -/

/-- Time, the cycle engine, positions, and the starts counted of the rate groups. -/
def State.beyondGroups (s : State) := (s.tb, s.cyc, s.pos, fun g : Fin 8 => s.rd (Reg.KILN_GRP_COUNT g.val))

/-- The rate groups and what is beyond them. -/
def State.beyondLoops (s : State) := (s.kiln.grp, s.beyondGroups)

section
variable (s : State)

theorem State.wr_beyondGroups {a : Nat} (v : Word) (h : ∀ g : Fin 8, Reg.KILN_GRP_COUNT g.val ≠ a) : (s.wr a v).beyondGroups = s.beyondGroups := by
  simp only [State.beyondGroups, State.rd_wr_ne _ _ (h _), State.wr_tb, State.wr_cyc, State.wr_pos]

theorem State.raise_beyondGroups (code n : Nat) (args : List Word) : (s.raise code n args).beyondGroups = s.beyondGroups := by
  have hcount (g : Fin 8) : (s.raise code n args).rd (Reg.KILN_GRP_COUNT g.val) = s.rd (Reg.KILN_GRP_COUNT g.val) :=
    State.rd_raise _ _ _ _ (by revert g; decide)
  simp only [State.beyondGroups, hcount, State.raise_tb, State.raise_cyc, State.raise_pos]

theorem State.raiseE_beyondGroups (code n : Nat) (args : List Word) : (s.raiseE code n args).beyondGroups = s.beyondGroups := by
  have hcount (g : Fin 8) : (s.raiseE code n args).rd (Reg.KILN_GRP_COUNT g.val) = s.rd (Reg.KILN_GRP_COUNT g.val) :=
    State.rd_raiseE _ _ _ _ (by revert g; decide)
  simp only [State.beyondGroups, hcount, State.raiseE_tb, State.raiseE_cyc, State.raiseE_pos]

theorem State.wr_beyondLoops {a : Nat} (v : Word) (h : ∀ g : Fin 8, Reg.KILN_GRP_COUNT g.val ≠ a) : (s.wr a v).beyondLoops = s.beyondLoops :=
  Prod.ext rfl (s.wr_beyondGroups v h)

theorem State.orW_beyondLoops {a : Nat} (m : Word) (h : ∀ g : Fin 8, Reg.KILN_GRP_COUNT g.val ≠ a) : (s.orW a m).beyondLoops = s.beyondLoops :=
  s.wr_beyondLoops _ h

@[simp] theorem State.raise_beyondLoops (code n : Nat) (args : List Word) : (s.raise code n args).beyondLoops = s.beyondLoops :=
  Prod.ext (congrArg Kiln.grp (s.raise_kiln code n args)) (s.raise_beyondGroups code n args)

@[simp] theorem State.raiseE_beyondLoops (code n : Nat) (args : List Word) : (s.raiseE code n args).beyondLoops = s.beyondLoops :=
  Prod.ext (congrArg Kiln.grp (s.raiseE_kiln code n args)) (s.raiseE_beyondGroups code n args)

@[simp] theorem State.setKloop_beyondLoops (n : Nat) (l : KLoop) : (s.setKloop n l).beyondLoops = s.beyondLoops := rfl

@[simp] theorem State.modKloop_beyondLoops (n : Nat) (f : KLoop → KLoop) : (s.modKloop n f).beyondLoops = s.beyondLoops := rfl

@[simp] theorem State.setTune_beyondLoops (t : Option Tune) : (s.setTune t).beyondLoops = s.beyondLoops := rfl

@[simp] theorem State.tuneAbort_beyondLoops (r : Nat) : (s.tuneAbort r).beyondLoops = s.beyondLoops := by
  cases htune : s.kiln.tune with
  | none => rw [State.tuneAbort, htune]
  | some t =>
    rw [State.tuneAbort_of_tune htune, State.raise_beyondLoops, State.orW_beyondLoops _ _ (by decide), State.wr_beyondLoops _ _ (by decide),
      State.setTune_beyondLoops, State.modKloop_beyondLoops]

theorem State.putQuot_beyondLoops {a : Nat} (num den : Int) (h : ∀ g : Fin 8, Reg.KILN_GRP_COUNT g.val ≠ a) :
    (s.putQuot a num den).beyondLoops = s.beyondLoops := by
  unfold State.putQuot
  dsimp only
  split_ifs <;> exact State.wr_beyondLoops _ _ h

@[simp] theorem State.tuneDone_beyondLoops (t : Tune) : (s.tuneDone t).beyondLoops = s.beyondLoops := by
  unfold State.tuneDone
  dsimp only
  split
  · exact State.tuneAbort_beyondLoops _ 7
  · rw [State.raise_beyondLoops, State.wr_beyondLoops _ _ (by decide)]
    change (State.setTune (State.modKloop _ _ _) none).beyondLoops = _
    rw [State.setTune_beyondLoops, State.modKloop_beyondLoops]
    split
    · simp (disch := decide) only [State.wr_beyondLoops, State.putQuot_beyondLoops]
    · simp (disch := decide) only [State.wr_beyondLoops, State.putQuot_beyondLoops]

@[simp] theorem State.kilnInvalid_beyondLoops (n : Nat) : (s.kilnInvalid n).beyondLoops = s.beyondLoops := by
  unfold State.kilnInvalid
  dsimp only
  rw [apply_ite State.beyondLoops, State.raise_beyondLoops, State.orW_beyondLoops _ _ (by decide), ite_self, State.setKloop_beyondLoops,
    apply_ite State.beyondLoops, State.tuneAbort_beyondLoops, ite_self]

@[simp] theorem State.kilnMode_beyondLoops (n : Nat) : (s.kilnMode n).beyondLoops = s.beyondLoops := by
  unfold State.kilnMode
  dsimp only
  split
  · rfl
  · rw [State.raise_beyondLoops, State.setKloop_beyondLoops]

@[simp] theorem State.kilnValid_beyondLoops (n : Nat) (pv : Int) (first : Nat) : (s.kilnValid n pv first).beyondLoops = s.beyondLoops := by
  unfold State.kilnValid
  extract_lets s1 s2 s3 l tus l'
  have h1 : s1.beyondLoops = s.beyondLoops := by
    rw [apply_ite State.beyondLoops, State.raiseE_beyondLoops, State.modKloop_beyondLoops, ite_self]
  have h2 : s2.beyondLoops = s.beyondLoops := h1
  have h3 : s3.beyondLoops = s.beyondLoops := by
    simp only [s3, apply_ite State.beyondLoops, State.tuneAbort_beyondLoops, ite_self, h2]
  clear_value s3
  split
  · exact h3
  · split
    · rw [apply_ite State.beyondLoops, State.tuneDone_beyondLoops, ite_self, State.wr_beyondLoops _ _ (by decide)]
      exact h3
    · exact h3

@[simp] theorem State.kilnSample_beyondLoops (g n : Nat) : (s.kilnSample g n).beyondLoops = s.beyondLoops := by
  unfold State.kilnSample
  extract_lets l l' s1 s2
  have h2 : s2.beyondLoops = s.beyondLoops := s1.kilnMode_beyondLoops n
  clear_value s2
  split
  · rfl
  · split
    · rw [State.kilnInvalid_beyondLoops, h2]
    · rw [State.kilnValid_beyondLoops, h2]

end

/-! A rate group starts (R365, R366). -/

section
variable (s : State)

theorem State.kilnLost_beyondGroups (g k why : Nat) : (s.kilnLost g k why).beyondGroups = s.beyondGroups := by
  have hcount (m : Fin 8) : Reg.KILN_GRP_COUNT m.val ≠ Reg.KILN_GRP_LOST g := by
    unfold Reg.KILN_GRP_COUNT Reg.KILN_GRP_LOST
    omega
  have hstored : ((s.bumpBy (Reg.KILN_GRP_LOST g) k).orW Reg.KILN_FAULTS 2).beyondGroups = s.beyondGroups :=
    (State.wr_beyondGroups _ _ (by decide)).trans (s.wr_beyondGroups _ hcount)
  unfold State.kilnLost
  dsimp only
  split_ifs
  · rfl
  · exact hstored
  · exact (State.raise_beyondGroups ..).trans hstored

/-- Starts lost mark their group alone, and leave the number of its last start. -/
theorem State.kgrp_kilnLost_ne {g m : Nat} (k why : Nat) (h : m ≠ g) : (s.kilnLost g k why).kgrp m = s.kgrp m := by
  unfold State.kilnLost
  dsimp only
  split_ifs
  · rfl
  · rfl
  · exact (State.kgrp_congr (congrArg Kiln.grp (State.raise_kiln ..)) m).trans (State.kgrp_setKgrp_ne _ _ h)

theorem State.last_kilnLost (g k why : Nat) : ((s.kilnLost g k why).kgrp g).last = (s.kgrp g).last := by
  unfold State.kilnLost
  dsimp only
  split_ifs
  · rfl
  · rfl
  · rw [State.kgrp_congr (congrArg Kiln.grp (State.raise_kiln ..)), State.kgrp_setKgrp_self]
    rfl

end

/-- The group's last start is the one of now. -/
def State.kilnReached (s : State) (g : Nat) (lost : Bool) : State := s.setKgrp g { s.kgrp g with last := s.kilnIdx g s.now.toNat, lost := lost }

/-- A time group that is to start: it runs, waits for no output write, and a start has passed since its last one. -/
theorem exec_kilnGroupStart_starts {s : State} {g : Fin 8} (hruns : s.kilnRuns = true) (hlock : s.pllLost .control = false)
    (htime : s.flag (Reg.KILN_GRP_CFG g.val) 16 = false) (hen : s.flag (Reg.KILN_GRP_CFG g.val) 17 = true) (hout : (s.kgrp g.val).outAt = none)
    (hpast : (s.kgrp g.val).last < s.kilnIdx g.val s.now.toNat) :
    ∃ lost passed, exec (.kilnGroupStart g) s = .next (((s.kilnReached g.val lost).kilnLost g.val passed 1).kilnStart g.val) := by
  refine ⟨_, _, if_neg ?_⟩
  unfold State.flag at htime hen
  simp [hruns, hlock, htime, hen, hout, hpast]

theorem exec_kilnGroupStart_not {s : State} {g : Fin 8} (h : s.kilnIdx g.val s.now.toNat ≤ (s.kgrp g.val).last ∨ (s.kgrp g.val).outAt.isSome = true) :
    exec (.kilnGroupStart g) s = .next s :=
  if_pos (by rcases h with h | h <;> simp [h])

/-- What a start does: it is counted, and its output write follows 100 µs later. -/
theorem State.kilnStart_spec (s : State) (g : Fin 8) :
    (s.kilnStart g.val).rd (Reg.KILN_GRP_COUNT g.val) = s.rd (Reg.KILN_GRP_COUNT g.val) + 1 ∧
    (s.kilnStart g.val).kgrp g.val = { s.kgrp g.val with outAt := some (s.now + 100000) } ∧
    (∀ k, k ≠ g.val → (s.kilnStart g.val).kgrp k = s.kgrp k) ∧ (s.kilnStart g.val).cyc = s.cyc ∧ (s.kilnStart g.val).pos = s.pos := by
  unfold State.kilnStart
  extract_lets u0 u
  have hkept : u.beyondLoops = u0.beyondLoops := State.each_keeps _ State.beyondLoops _ _ (fun v n => v.kilnSample_beyondLoops g.val n)
  clear_value u
  simp only [State.beyondLoops, State.beyondGroups, Prod.mk.injEq] at hkept
  obtain ⟨hgrp, htb, hcyc, hpos, hcount⟩ := hkept
  refine ⟨(congrFun hcount g).trans (s.rd_bumpWrap_self _), ?here, fun k hk => ?others, hcyc, hpos⟩
  case here =>
    exact (u.kgrp_setKgrp_self _ _).trans (congrArg₂ (fun (x : KGroup) (t : TimeBase) => { x with outAt := some (t.now + 100000) })
      (State.kgrp_congr hgrp _) htb)
  case others => exact (State.kgrp_setKgrp_ne _ _ hk).trans (State.kgrp_congr hgrp k)

/-! Outputs are written (R374). -/

section
variable (s : State)

theorem State.kiln_gpioDrive (pin : Nat) (level : Bool) : (s.gpioDrive pin level).kiln = s.kiln := by rw [State.gpioDrive_frame]

theorem State.kiln_loopHold (n : Nat) : (s.loopHold n).kiln = s.kiln := by
  have htracked : (s.loopTracked n).2.kiln = s.kiln := by
    unfold State.loopTracked
    split <;> rfl
  unfold State.loopHold
  dsimp only
  split
  · rfl
  · exact (State.raise_kiln ..).trans htracked

theorem State.kiln_loopUpdate (n : Nat) : (s.loopUpdate n).kiln = s.kiln := by
  unfold State.loopUpdate
  extract_lets row u d
  have hu : u.kiln = s.kiln := by
    change State.kiln (ite _ _ (ite _ _ _)) = _
    split_ifs
    · exact s.kiln_loopHold n
    · rfl
    · rfl
  clear_value u
  split
  · exact hu
  · exact hu

theorem State.kiln_loopWrite (n : Nat) (fromKiln : Bool) : (s.loopWrite n fromKiln).kiln = s.kiln := by
  refine (State.kiln_loopUpdate _ n).trans ?_
  change State.kiln (ite _ _ _) = _
  split <;> rfl

theorem State.kiln_pflagRaise (n : Nat) (old new : BitVec 16) : (s.pflagRaise n old new).kiln = s.kiln := by
  refine State.each_keeps s State.kiln _ _ (fun u k => ?_)
  unfold State.seqInput State.seqInputAt
  dsimp only
  split_ifs
  · rfl
  · exact State.raise_kiln ..
  · rfl

theorem State.kiln_canProgram (n b : Nat) : (s.canProgram n b).kiln = s.kiln := by
  unfold State.canProgram
  dsimp only
  split
  · rfl
  · change State.kiln (ite _ _ _) = _
    split <;> rfl

theorem State.kiln_canStart (n : Nat) : (s.canStart n).kiln = s.kiln := by
  unfold State.canStart
  dsimp only
  split
  · rfl
  · split
    · rfl
    · split <;> rfl

/-- What an output write passes on leaves Kiln. -/
theorem State.kiln_deliver (w : SMap Byte) (fromKiln : Bool) : (s.deliver w fromKiln).kiln = s.kiln := by
  unfold State.deliver
  extract_lets ctxs old s1 cyc s2 s3 s4 s5
  have h1 : s1.kiln = s.kiln :=
    State.each_keeps s State.kiln _ _ (fun (u : State) c => List.foldlRecOn _ _ (motive := fun v : State => v.kiln = u.kiln) rfl (fun _ hv _ _ => hv))
  have h3 : s3.kiln = s.kiln :=
    (State.each_keeps s2 State.kiln _ _ (fun u p => u.kiln_gpioDrive p _)).trans h1
  have h4 : s4.kiln = s.kiln := (State.each_keeps s3 State.kiln _ _ (fun u n => u.kiln_loopWrite n fromKiln)).trans h3
  have h5 : s5.kiln = s.kiln :=
    List.foldlRecOn _ _ (motive := fun u : State => u.kiln = s.kiln) h4 (fun _ hu _ _ => (State.kiln_pflagRaise ..).trans hu)
  split
  · refine (State.each_keeps _ State.kiln _ _ State.kiln_canStart).trans ?_
    exact (State.each_keeps _ State.kiln _ _ (fun u k => u.kiln_canProgram _ _)).trans h5
  · refine (State.each_keeps _ State.kiln _ _ (fun u n => ?_)).trans h5
    exact (State.kiln_canStart _ n).trans (State.each_keeps _ State.kiln _ _ (fun v b => v.kiln_canProgram n b))

end

/-- What of a loop an output write changes that Kiln reads: the output that is due, and the last one written. -/
def KLoop.port (l : KLoop) : Option Int × Int := (l.out, l.lastOut)

section
variable (s : State)

theorem State.port_modKloop (f : KLoop → KLoop) (hf : ∀ l, (f l).port = l.port) (n k : Nat) :
    ((s.modKloop n f).kloop k).port = (s.kloop k).port := by
  by_cases hk : k = n
  · subst hk
    rw [State.kloop_modKloop_self, hf]
  · rw [State.kloop_modKloop_ne _ _ hk]

theorem State.kilnPut_of_none {n : Nat} (h : (s.kloop n).out = none) : s.kilnPut n = s := by
  rw [State.kilnPut, h]

/-- The loop's output is the last one written. -/
def State.kilnWritten (s : State) (n : Nat) (v : Int) : State := s.setKloop n { s.kloop n with out := none, wrote := true, lastOut := v }

/-- What a write does with the output of a loop: it is the last one written, it can be the next setpoint of a loop, and the bytes for a
checkpoint follow. -/
theorem State.kilnPut_of_some {n : Nat} {v : Int} (h : (s.kloop n).out = some v) :
    ∃ (u : State) (c : List Byte), s.kilnPut n = u.modKloop n (fun l => { l with ck := c }) ∧
      (u = s.kilnWritten n v ∨ ∃ m, u = (s.kilnWritten n v).modKloop m (fun l => { l with spNew := some v })) := by
  unfold State.kilnPut
  extract_lets l
  split
  · next hnone => exact absurd (h.symm.trans hnone) (Option.some_ne_none v)
  · next w hw =>
    obtain rfl : w = v := Option.some.inj (hw.symm.trans h)
    extract_lets s1 s2
    refine ⟨s2, _, rfl, ?_⟩
    by_cases hdst : bits (l.w 0) 13 12 = 2
    · exact .inr ⟨_, if_pos hdst⟩
    · exact .inl (if_neg hdst)

theorem State.port_kilnPut {n : Nat} {v : Int} (h : (s.kloop n).out = some v) (k : Nat) :
    ((s.kilnPut n).kloop k).port = ((s.kilnWritten n v).kloop k).port := by
  obtain ⟨u, c, hput, hu⟩ := s.kilnPut_of_some h
  rw [hput, u.port_modKloop (fun l => { l with ck := c }) (fun _ => rfl)]
  obtain rfl | ⟨m, rfl⟩ := hu
  · rfl
  · exact State.port_modKloop _ (fun l => { l with spNew := some v }) (fun _ => rfl) m k

theorem State.port_kilnPut_self {n : Nat} {v : Int} (h : (s.kloop n).out = some v) : ((s.kilnPut n).kloop n).port = (none, v) := by
  rw [State.port_kilnPut _ h, State.kilnWritten, State.kloop_setKloop_self, KLoop.port]

theorem State.port_kilnPut_ne {n k : Nat} (hk : k ≠ n) : ((s.kilnPut n).kloop k).port = (s.kloop k).port := by
  cases hout : (s.kloop n).out with
  | none => rw [State.kilnPut_of_none _ hout]
  | some v => rw [State.port_kilnPut _ hout, State.kilnWritten, State.kloop_setKloop_ne _ _ hk]

/-- A loop without an output that is due keeps its port. -/
theorem State.port_kilnPut_stays {k : Nat} {v : Int} (n : Nat) (h : (s.kloop k).port = (none, v)) : ((s.kilnPut n).kloop k).port = (none, v) := by
  by_cases hk : k = n
  · subst hk
    rwa [State.kilnPut_of_none _ (congrArg Prod.fst h)]
  · rwa [State.port_kilnPut_ne _ hk]

theorem State.grp_kilnPut (n : Nat) : (s.kilnPut n).kiln.grp = s.kiln.grp := by
  cases hout : (s.kloop n).out with
  | none => rw [State.kilnPut_of_none _ hout]
  | some v =>
    obtain ⟨u, c, hput, rfl | ⟨m, rfl⟩⟩ := s.kilnPut_of_some hout
    · rw [hput]
      rfl
    · rw [hput]
      rfl

/-- The loops of a group whose output is due. -/
def State.kilnDue (s : State) (g : Nat) : List Nat :=
  (s.kiln.loop.map Prod.fst).filter (fun n => entryGroup (s.kloop n).entry == g && (s.kloop n).out.isSome)

variable {s}

theorem State.mem_kilnDue {g n : Nat} {v : Int} (hgroup : entryGroup (s.kloop n).entry = g) (hout : (s.kloop n).out = some v) :
    n ∈ s.kilnDue g := by
  refine List.mem_filter.mpr ⟨?_, by simp [hgroup, hout]⟩
  by_contra hn
  have hempty : s.kloop n = {} := SMap.get_of_notMem _ hn
  rw [hempty] at hout
  cases hout

theorem exec_kilnOutputWrite_due {g : Fin 8} {due : DWord} (hruns : s.kilnRuns = true) (hlock : s.pllLost .control = false)
    (hout : (s.kgrp g.val).outAt = some due) (hdue : due.toNat ≤ s.now.toNat) :
    ∃ t, exec (.kilnOutputWrite g) s = .next t ∧
      t.kiln = ((s.each (s.kilnDue g.val) State.kilnPut).setKgrp g.val { s.kgrp g.val with outAt := none }).kiln := by
  change ∃ t, execKilnOutputWrite g.val s = _ ∧ _
  simp only [execKilnOutputWrite, hout]
  rw [if_neg (by simp [hruns, hlock, hdue])]
  refine ⟨_, rfl, ?_⟩
  split
  · rfl
  · exact State.kiln_deliver ..

end

/-! Outputs lie within their limits (R372, R373). -/

theorem clampI_bounds {lo hi : Int} (x : Int) (h : lo ≤ hi) : lo ≤ clampI x lo hi ∧ clampI x lo hi ≤ hi := by
  unfold clampI
  split_ifs <;> omega

theorem clampI_of_within {x lo hi : Int} (hlo : lo ≤ x) (hhi : x ≤ hi) : clampI x lo hi = x := by
  rw [clampI, if_neg (by omega), if_neg (by omega)]

section
variable (l : KLoop) (pv : Int) (tus : Nat) (r : Int)

/-- What is computed is an output clamped to the limits, and is due. -/
theorem KLoop.compute_u : ∃ v, (l.compute pv tus r).u = l.clamp v ∧ (l.compute pv tus r).out = some (l.compute pv tus r).u := by
  unfold KLoop.compute
  dsimp only
  split
  · exact ⟨_, rfl, rfl⟩
  · exact ⟨_, rfl, rfl⟩

theorem KLoop.compute_u_manual (h : l.mode = 1) : (l.compute pv tus r).u = l.clamp (l.i32 12) := by
  simp [KLoop.compute, h]

theorem KLoop.compute_i_notAuto (h : l.mode ≠ 2) : ∃ v, (l.compute pv tus r).i = sat62 v := by
  simp [KLoop.compute, h]

end

/-- Settles O39, clause by clause: EN, the start of a group, its output write, and what a computation can give. -/
theorem kilnGroupsRun : Obligations.KilnGroupsRun := by
  unfold Obligations.KilnGroupsRun
  refine ⟨?enable, ?start, fun s g _ hnot => exec_kilnGroupStart_not hnot, ?write, ?limits, ?manual, ?tracked⟩
  case enable =>
    intro s hreach hoff
    have hregs : (s.setF Reg.KILN_CTRL 0 0 1).kilnInits.kilnGroups.regs = (s.setF Reg.KILN_CTRL 0 0 1).regs :=
      (State.kilnGroups_regs _).trans (State.kilnInits_regs _)
    refine ⟨_, exec_kilnEnable_off hreach hoff, ?frame, ?on, fun n => ?loops, fun g hg => State.kilnGroups_outAt _ hg, fun a ha => ?others⟩
    case frame => exact State.eq_of_besideKiln ((State.kilnGroups_besideKiln _).trans (State.kilnInits_besideKiln _))
    case on => rw [State.flag, State.rd_congr hregs, ← State.flag, State.flag_setF_one]
    case loops =>
      rw [State.kloop_kilnGroups, State.kloop_kilnInits]
      rfl
    case others => rw [State.rd_congr hregs, State.rd_setF_ne _ _ _ _ ha]
  case start =>
    intro s g hruns hlock htime hen hout hpast
    obtain ⟨lost, passed, hexec⟩ := exec_kilnGroupStart_starts hruns hlock htime hen hout hpast
    obtain ⟨hcount, hgroup, hothers, hcyc, hpos⟩ :=
      State.kilnStart_spec ((s.kilnReached g.val lost).kilnLost g.val passed 1) g
    have hkept := State.kilnLost_beyondGroups (s.kilnReached g.val lost) g.val passed 1
    simp only [State.beyondGroups, Prod.mk.injEq] at hkept
    obtain ⟨htb, hcyc', hpos', hcount'⟩ := hkept
    refine ⟨_, hexec, ?counted, ?last, ?due, fun k hk => ?apart, hcyc.trans hcyc', hpos.trans hpos'⟩
    case counted => exact hcount.trans (congrArg (· + 1) (congrFun hcount' g))
    case last => rw [hgroup, State.last_kilnLost, State.kilnReached, State.kgrp_setKgrp_self]
    case due => exact (congrArg KGroup.outAt hgroup).trans (congrArg (fun t : TimeBase => some (t.now + 100000)) htb)
    case apart => rw [hothers k hk, State.kgrp_kilnLost_ne _ _ _ hk, State.kilnReached, State.kgrp_setKgrp_ne _ _ hk]
  case write =>
    intro s g due hruns hlock hout hdue
    obtain ⟨t, hexec, hkiln⟩ := exec_kilnOutputWrite_due hruns hlock hout hdue
    have hgrp : (s.each (s.kilnDue g.val) State.kilnPut).kiln.grp = s.kiln.grp := State.each_keeps s (fun u => u.kiln.grp) _ _ State.grp_kilnPut
    refine ⟨t, hexec, ?empty, fun k hk => ?apart, fun n v hgroup hv => ?written⟩
    case empty => rw [State.kgrp_congr (congrArg Kiln.grp hkiln), State.kgrp_setKgrp_self]
    case apart => rw [State.kgrp_congr (congrArg Kiln.grp hkiln), State.kgrp_setKgrp_ne _ _ hk, State.kgrp_congr hgrp]
    case written =>
      have hport : ((s.each (s.kilnDue g.val) State.kilnPut).kloop n).port = (none, v) :=
        State.each_reaches (P := fun u => (u.kloop n).port = (none, v)) (Q := fun u => (u.kloop n).out = some v)
          (fun u m hm hu => (congrArg Prod.fst (u.port_kilnPut_ne (Ne.symm hm))).trans hu) (fun u hu => u.port_kilnPut_self hu)
          (fun u m hu => u.port_kilnPut_stays m hu) (State.mem_kilnDue hgroup hv) hv
      rw [State.kloop_congr (congrArg Kiln.loop hkiln)]
      exact Prod.ext_iff.mp hport
  case limits =>
    intro l pv tus r hlimits
    obtain ⟨v, hu, hout⟩ := l.compute_u pv tus r
    obtain ⟨hlo, hhi⟩ := clampI_bounds v hlimits
    exact ⟨hu ▸ hlo, hu ▸ hhi, hout⟩
  case manual =>
    intro l pv tus r hmode hlo hhi
    rw [l.compute_u_manual pv tus r hmode, KLoop.clamp, clampI_of_within hlo hhi]
  case tracked =>
    intro l pv tus r _ hmode
    obtain ⟨v, hi⟩ := l.compute_i_notAuto pv tus r hmode
    rw [hi]
    exact clampI_bounds v (by norm_num)

end Sys2Proof.Machine
end
